-- ==== Sys2Proof/Word.lean ====
section
/-!
DEFINITION. Words, bytes and the sparse table: the plain data every part of the model is written in.
-/
namespace Sys2Proof

/-- One byte. -/
abbrev Byte := BitVec 8
/-- A 16-bit word (opcodes, tags, epochs). -/
abbrev W16 := BitVec 16
/-- A 32-bit word (registers, R7). -/
abbrev W32 := BitVec 32
/-- A 64-bit word (counters). -/
abbrev W64 := BitVec 64
/-- A string of bytes, byte 0 first. -/
abbrev Bytes := List Byte
/-- A sparse table: entries by rising key; a key not listed has the table's default. -/
abbrev Table (α : Type) := List (Nat × α)

/-- R514: one reading of each of the eight on-die sensors, 1/4 degree C. -/
abbrev DieSensors := Vector Int 8

end Sys2Proof
end

