-- ==== Sys2Proof/Machine/TypesFlow.lean ====
section
/-!
DEFINITION. State of the flow store, its life cycle, and of translation, balancing and subscribers (spec 06, 07, 08),
with the packet that travels through every stage.
-/
namespace Sys2Proof.Machine

/-- The merged rule result of one pass (R140), with the binding slot's fields. -/
structure RuleResult where
  verdict : Nat
  target  : Nat
  /-- Ring of the winning verdict (TO_HOST). -/
  ring    : Nat
  /-- COPY to a ring and MIRROR to a session, when enabled. -/
  copy    : Option Nat
  mirror  : Option Nat
  setClass : Option Nat
  setDscp : Option Nat
  /-- Binding slot: flow class, fall-back verdict, action entry and the slot's ring. -/
  binding : Option (Nat × Nat × Nat × Nat)
  deriving DecidableEq, Repr

/-- A rewrite the egress path applies (R251, Table 10.1). -/
inductive Rewrite where
  | source (addr : Bytes) (port : Bytes)
  | dest   (addr : Bytes) (port : Bytes)
  | ident  (dir : Bool) (addr : Bytes) (id : Bytes)
  deriving DecidableEq, Repr

/-- A provisional claim of a cut-through frame (R120): bound, claiming node, its LEN_OVERRUN disposition. -/
abbrev Claim := Nat × Nat × Nat

/-- A packet in the device. -/
structure Pkt where
  /-- Number the model gives the packet, to join a cut-through frame with its end. -/
  id : Nat
  /-- Frame bytes without FCS. -/
  bytes : Bytes
  /-- Frame length (R80) as the pass began; of a frame still arriving, a value the spec leaves open. -/
  len : Nat
  /-- First-pass ingress port; none for a packet of the device's own. -/
  inPort : Nat
  /-- Pipeline and pass number (R157). -/
  pipe : Bool
  pass : Nat
  /-- Epoch stamp (R31) and first-admission time (R35). -/
  stamp : W16
  admitted : Nat
  /-- Ingress time-stamp in 1/64 ns of the residence clock (R375). -/
  ingress : Nat
  /-- Residence clock in 1/64 ns as it crossed the reference plane, without the time-stamp's error (R379). -/
  arrived : Nat := ingress
  /-- Key vector, 128 bytes (Table 4.1). -/
  kv : Bytes
  /-- Offsets of the IP headers of the outer and the inner layer. -/
  l3 : Option Nat × Option Nat
  /-- Metadata (R140). -/
  metadata : W32
  /-- Merged rule result of the current pass. -/
  rule : RuleResult
  /-- Subscriber, and queue class. -/
  sub : Option Nat
  qclass : Nat
  /-- Subscriber class for shaping and counters. -/
  subClass : Nat
  upstream : Bool
  /-- The subscriber's policy class has COUNT set. -/
  counted : Bool
  /-- Next hop chosen (R253); none for bridged frames. -/
  nexthop : Option Nat
  /-- Offset of the routing layer's IP header, where a next hop rewrites the packet (R280). -/
  routeOff : Nat
  /-- Header rewrites the egress path applies. -/
  rewrites : List Rewrite
  /-- Mirror or host copy (Table 5.1, byte 141). -/
  copy : Bool
  /-- Mirror session a copy belongs to. -/
  session : Option Nat
  /-- Reason and flags carried in a copy-to-host record. -/
  reason : Nat
  /-- Cut-through: the end of the frame has not arrived; claims taken provisionally. -/
  arriving : Bool
  claims : List Claim
  /-- R107: the bytes that had arrived when the packet, admitted, came to wait for more in its walk. -/
  waited : Option Nat
  /-- Offset of the outermost IP header (Table 5.3), and whether its bytes carry a translation already applied (Table 5.1, byte 141). -/
  outer : Option Nat
  translated : Bool
  deriving DecidableEq, Repr

/-- A hot-tier way that holds a flow (Tables 6.7, 6.8). -/
structure HotEntry where
  key : Bytes
  action : Nat
  packets : Nat
  octets : Nat
  /-- Flow clock bits [41:10]. -/
  lastSeen : BitVec 32
  /-- Flow clock bits [47:24]. -/
  firstSeen : BitVec 24
  tcp : Byte
  member : Nat
  control : Byte
  sampling : Byte
  w : Nat
  dirty : Bool
  held : Bool
  wbPending : Bool
  home : Nat
  deriving DecidableEq, Repr

/-- What a DRAM request waits for (R191, R206, R210, R14): a bucket, its placement once the flow is known to be new, a flow-setup task, an
action entry, or a group's slot table. -/
inductive Stage where
  | b0 | b1 | place | setup | action (entry : Nat) | slot (group : Nat)
  deriving DecidableEq, Repr

/-- An outstanding DRAM request: one per key, or one entry read (R191, R14, R248). -/
structure Request where
  key : Bytes
  pipe : Bool
  stage : Stage
  /-- Slot claimed by the placement in progress (R206). -/
  claim : Option Nat
  /-- The tile whose read is outstanding, the first of a bucket; none while the request waits for no read. -/
  tile : Option Nat
  /-- The read has taken its slots at the channel and has only to return (R352). -/
  issued : Bool
  deriving DecidableEq, Repr

/-- A packet in the miss-hold buffer (R191, R192). -/
structure Parked where
  pkt : Pkt
  key : Bytes
  /-- Ready to resume: into its flow, a fresh lookup, or its fall-back (R13). -/
  ready : Bool
  /-- Resumes into the fall-back verdict (R211). -/
  fallback : Bool
  /-- Resumes statelessly (R212). -/
  stateless : Bool
  /-- What the reads it waited for delivered: true where the entry or slot table passed its assay (R14, R17). -/
  gave : List (Stage × Bool)
  deriving DecidableEq, Repr

/-- One port entry of the flow-stage settings (Table 6.3). -/
structure FlowPort where
  network : Bool
  ctxOffset : Nat
  ctxMask : W16
  ctxBase : W16
  deriving DecidableEq, Repr

/-- One flow class (Table 7.7). -/
structure FlowClass where
  random : Bool
  overflowDrop : Bool
  /-- FRAG, ICMP, SYN_SEEN, OPEN, FIN_SEEN, CLOSED, MIDSTREAM, OTHER timeouts in s. -/
  timeouts : List Nat
  deriving DecidableEq, Repr

/-- One class's new-flow limit (Table 7.8). -/
structure NewLimit where
  drop : Bool
  rate : Nat
  depth : Nat
  deriving DecidableEq, Repr

/-- The staged flow settings (R175, R230-R232). -/
structure FlowCfg where
  /-- 06 R175 HOT_IDLE, s. Reset 10 -/
  hotIdle : Nat
  /-- 06 R175: port entries 0-25. Reset SUBSCRIBER, 0xFF, 0, 0 -/
  ports : List FlowPort
  /-- 07 R230: classes 0-7. Reset the defaults of Table 7.2, OLDEST, STATELESS -/
  classes : List FlowClass
  /-- 07 R231: new-flow limits of the 4,096 policy classes; unlisted rate 0, depth 64, STATELESS. Reset none listed -/
  limits : Table NewLimit
  /-- 07 R217 SWEEP_PERIOD, s. Reset 10 -/
  sweepPeriod : Nat
  /-- 07 R223 SCRUB_PERIOD, h. Reset 24 -/
  scrubPeriod : Nat
  deriving DecidableEq, Repr

/-- A tailings record (Table 7.4): payloads of its two tiles. -/
structure Tailing where
  flow : Bytes
  info : Bytes
  deriving DecidableEq, Repr

/-- One entry of the fault history (R221). -/
structure Fault24 where
  space : Nat
  index : Nat
  newer : Nat
  older : Option Nat
  deriving DecidableEq, Repr

/-- States of FLOW_EXPORT (R200). -/
inductive ExportState where | none | running | done | aborted
  deriving DecidableEq, Repr

/-- The export engine (R200). -/
structure Export where
  state : ExportState
  sequence : Nat
  first : Nat
  count : Nat
  dest : Nat
  /-- Epoch a SNAPSHOT export holds (R37). -/
  holds : Option W16
  done : Nat
  flows : Nat
  merged : Nat
  faults : Nat
  start : Nat
  tookMs : Nat
  deriving DecidableEq, Repr

/-- Live state of the flow store (spec 06, 07). -/
structure FlowLive where
  /-- 06 R178: 131,072 sets of 8 ways, keyed set x 8 + way; an unlisted way is not VALID. Reset none VALID -/
  hot : Table HotEntry
  /-- 01 R14: action cache, 65,536 ways, keyed way; the entry index it holds. Reset empty (DESIGN CHOICE, log 6) -/
  cache : Table Nat
  /-- 07 R222: hot-tier ways and action-cache ways retired, by their keys. Reset none -/
  hotRetired : List Nat
  cacheRetired : List Nat
  /-- 06 R191: miss-hold buffers of pipelines 0 and 1, up to 8,192 each, oldest first. Reset empty -/
  held0 : List Parked
  held1 : List Parked
  /-- 06 R191: outstanding DRAM requests. Reset none -/
  requests : List Request
  /-- 06 R201: 5 device counters. Reset 0 -/
  device : List W64
  /-- 06 R201: 11 counters for each pipeline. Reset 0 -/
  pipes : List (List W64)
  /-- 06 Table 6.18: peak miss-hold occupancies. Reset 0 -/
  peak0 : Nat
  peak1 : Nat
  /-- 06 R200: the export. Reset NONE -/
  exporter : Export
  /-- 07 R204: hash seeds 0 and 1, 32 b. Reset: drawn at INIT (free values) -/
  seed0 : W32
  seed1 : W32
  /-- 07 R213: token buckets by subscriber: tokens x 10^9 and the instant counted; unlisted full. Reset full -/
  tokens : Table (Nat × Nat)
  /-- 07 R225: tailings queue, up to 32,768 records, oldest first. Reset empty -/
  tailings : List Tailing
  /-- 07 R225: place in the tailings queue, 0-32,767, of its oldest record. Reset 0 (DESIGN CHOICE, log 18) -/
  tailHead : Nat
  /-- 07 R221: fault history, up to 4,096 entries. Reset empty -/
  history : List Fault24
  /-- 07 R220, R355: quarantine writes waiting for the write queue. Reset none -/
  quarantine : List Nat
  /-- 07 R217: next bucket of the sweep; start of the pass; duration of the last pass in ms. Reset 0 -/
  sweepNext : Nat
  sweepStart : Nat
  sweepMs : Nat
  /-- 07 R217, R232: instant and bucket from which the SWEEP_PERIOD in force has paced the sweep. Reset 0 -/
  sweepFrom : Nat
  sweepFromPos : Nat
  /-- 07 R223: the same of the scrub and SCRUB_PERIOD. Reset 0 -/
  scrubFrom : Nat
  scrubFromPos : Nat
  /-- 07 R223, Table 7.9: last tile index scrubbed; the next of the things a scrub pass reads, and the instant the pass began. Reset 0 -/
  scrubPos : Nat
  scrubNext : Nat
  scrubStart : Nat
  /-- 07 R232: 17 lifecycle counters. Reset 0 -/
  life : List W64
  deriving DecidableEq, Repr

/-- One balancing group (R257). -/
structure Group where
  /-- Members by number: next hop, weight, DRAINING. -/
  members : Table (Nat × Nat × Bool)
  /-- 4,096 slots; 0xFF none. -/
  slots : List Nat
  /-- Descriptor of the slot seam. -/
  seam : Option Nat
  deriving DecidableEq, Repr

/-- The staged translation, subscriber and balancing tables (spec 08). -/
structure NatCfg where
  /-- 08 R243: POOL records of 32 B by pool number, 256 pools. Reset none -/
  pools : Table Bytes
  /-- 08 R243: ADDRESS records of 32 B keyed pool x 4,096 + ordinal, 4,096 in all. Reset none -/
  addrs : Table Bytes
  /-- 08 R242: policy class records of 16 B by class; an unlisted class has the defaults. Reset defaults -/
  policies : Table Bytes
  /-- 08 R239: tile 0 of each subscriber, 60 B. Reset none -/
  subs : Table Bytes
  /-- 08 R235: host-written action entries, 60 B. Reset none -/
  actions : Table Bytes
  /-- 08 R240 V6_PREFIX_LEN, 7 b. Reset 56 -/
  v6Len : Nat
  /-- 08 R260 BINDING_HOLD and BLOCK_HOLD, s. Reset 300, 120 -/
  bindingHold : Nat
  blockHold : Nat
  /-- 08 R257: 4,096 balancing groups. Reset none -/
  groups : Table Group
  deriving DecidableEq, Repr

/-- A block map entry that is ALLOCATED (Table 8.6). -/
structure Block where
  empty : Bool
  desc : Nat
  sub : Nat
  emptySince : BitVec 16
  base : Nat
  deriving DecidableEq, Repr

/-- Counters of one subscriber gathered on the die (R241): upstream and downstream, classes 0-3, and discards. -/
structure SubCount where
  /-- Packets and bytes: upstream classes 0-3, then downstream. -/
  counts : List (Nat × Nat)
  upDisc : Nat
  downDisc : Nat
  deriving DecidableEq, Repr

/-- Live state of translation and balancing. -/
structure NatLive where
  /-- 08 R244: block map, 1,048,576 entries; unlisted not ALLOCATED. Reset none -/
  blocks : Table Block
  /-- 08 R254: live bits of action entries (the indices whose bit is set). Reset none -/
  live : List Nat
  /-- 08 R241: on-die counter cache by subscriber. Reset none -/
  counts : Table SubCount
  /-- 08 R261: 19 counters. Reset 0 -/
  counters : List W64
  /-- 08 Table 8.9: BAL_RECHOSEN by group, 32 b; unlisted 0. Reset 0 -/
  rechosen : Table Nat
  /-- 08 R247: global slots whose release waits for its record. Reset none -/
  deferred : List Nat
  /-- 08 R256: binding repair tasks: entry index, flow key and the stamp of the packet that met the fault. Reset none -/
  repairs : List (Nat × Bytes × W16)
  /-- 08 R256: entries that a fault took, in the action cache or as a packet's read met them, until their repair is asked for. Reset none -/
  faulted : List Nat
  /-- 08 R256: tiles of staged entries lost through an assay fault until written again. Reset none -/
  lost : List Nat
  /-- 08 R256: tiles among them that the shadow has written again. Reset none -/
  mended : List Nat
  /-- 08 R254: the sweep has ended a pass and the binding visit is due. Reset 0 -/
  visitDue : Bool
  deriving DecidableEq, Repr

end Sys2Proof.Machine
end

