-- ==== Sys2Proof/Machine/TypesPath.lean ====
section
/-!
DEFINITION. State of the lanes and ports, the parse graph and the rule tables (spec 03, 04, 05).
-/
namespace Sys2Proof.Machine

/-- A front port's staged configuration (R84, Table 3.5). -/
structure PortCfg where
  /-- 03 R77 mode code, 0-5. Reset 0 (NONE) -/
  mode : Nat
  /-- 03 Table 3.5 FEC code, 0-2. Reset 0 -/
  fec : Nat
  /-- 03 R78 medium code, 0-2. Reset 0 -/
  medium : Nat
  /-- 03 R79 AN, 1 b. Reset 0 -/
  an : Bool
  /-- 03 R81 CUT_THROUGH, 1 b. Reset 0 -/
  cutThrough : Bool
  /-- 03 R80 MAX_FRAME, 16 b. Reset 0 (a port that holds no mode reads zero, R95) -/
  maxFrame : Nat
  /-- 03 R96 enable, 1 b. Reset 0 -/
  enable : Bool
  deriving DecidableEq, Repr

/-- A lane's taps (R98, Table 3.6), signed steps. -/
structure Taps where
  pre2 : Int
  pre1 : Int
  main : Int
  post : Int
  freeze : Bool
  deriving DecidableEq, Repr

/-- The staged port table (R84). -/
structure PortTable where
  /-- 03 R84: 24 front ports. Reset: NONE, disabled -/
  ports : List PortCfg
  /-- 03 R89: RING_EAST, RING_WEST. Reset: none -/
  east : Option Nat
  west : Option Nat
  /-- 03 R98: taps of lanes 0-25. Reset 0, 0, 63, 0, RX_FREEZE 0 -/
  taps : List Taps
  deriving DecidableEq, Repr

/-- Link states (Table 3.7) as the link itself stands. -/
inductive Link where
  | down | an | training | up | localFault | remoteFault | anNoCommon
  deriving DecidableEq, Repr

/-- The live state of one port 0-25. -/
structure Port where
  /-- 03 R99: the link. Reset DOWN -/
  link : Link
  /-- 03 Table 3.7: CDR lock, one bit per lane of the port. Reset 0 -/
  cdr : BitVec 4
  /-- 03 Table 3.7: signal detect, one bit per lane. Reset 0 -/
  sd : BitVec 4
  /-- 03 Table 3.7: link-up transitions since INIT, 16 b, saturating. Reset 0 -/
  ups : Nat
  /-- 03 Table 3.7: instant of the last link-state change. Reset 0 -/
  changed : Nat
  /-- 03 R101: loopback mode, 0-3. Reset 0 -/
  loopback : Nat
  /-- 03 R105: 14 counters of 64 b (Table 3.9). Reset 0 -/
  counters : List W64
  /-- 03 R79: instant negotiation was last tried. Reset 0 -/
  anTried : Nat
  deriving DecidableEq, Repr

/-- Level of a ball the device drives. -/
inductive Level where | low | high | hiZ
  deriving DecidableEq, Repr

/-- The canary (R90-R92, R102). -/
structure Canary where
  /-- 03 R103 ARMED, 1 b. Reset 0 -/
  armed : Bool
  /-- 03 R102 TOGGLING, 1 b. Reset 0 -/
  toggling : Bool
  /-- 03 R90, R92: level of CANARY. Reset high-impedance -/
  level : Level
  /-- 03 Table 3.8 last stop reason, 8 b. Reset 0 -/
  reason : Nat
  /-- 03 Table 3.8 time counter nanoseconds of the last stop, 32 b. Reset 0 -/
  stopNs : W32
  /-- 03 Table 3.8 arming count since INIT, 32 b, saturating. Reset 0 -/
  armings : Nat
  /-- 03 Table 3.8: instants pipelines 0 and 1 were last found alive. Reset 0 -/
  alive0 : Nat
  alive1 : Nat
  /-- 03 R90: the last heartbeat window of pipelines 0 and 1 found them alive, 1 b each. Reset 1 (no window has failed) -/
  live0 : Bool
  live1 : Bool
  /-- 03 R90: instant at which the present half-period began, and at which the present heartbeat window began. Reset 0 -/
  halfAt : Nat
  windowAt : Nat
  /-- 03 R90: verdicts that pipelines 0 and 1 had delivered when the window began, 64 b. Reset 0 -/
  verdicts0 : W64
  verdicts1 : W64
  deriving DecidableEq, Repr

/-- The staged parse graph (R124). -/
structure ParseGraph where
  /-- 04 R112: 256 node records of 224 B; a node not listed is not VALID. Reset: none VALID -/
  nodes : Table Bytes
  /-- 04 R118 NODE_LIMIT, 6 b. Reset 32 -/
  nodeLimit : Nat
  /-- 04 R118 BYTE_LIMIT, 10 b. Reset 512 -/
  byteLimit : Nat
  /-- 04 R111 DEPTH_CLASSIFY is CURRENT, 1 b. Reset 0 (OUTER) -/
  depthCurrent : Bool
  /-- 04 Table 4.9: start nodes of ports 0-25, 32, 33, 28 x 8 b. Reset 0 -/
  starts : List Nat
  deriving DecidableEq, Repr

/-- Live state of the parse graph. -/
structure ParseLive where
  /-- 04 R131: 14 counters of 64 b for each pipeline. Reset 0 -/
  counters0 : List W64
  counters1 : List W64
  /-- 04 R131: 5 counters of 64 b for each of 256 nodes; unlisted zero. Reset 0 -/
  nodes : Table (List W64)
  deriving DecidableEq, Repr

/-- One version of a rule table (R132-R147). -/
structure RuleTable where
  /-- 05 R132 lookup slot, 2 b -/
  slot : Nat
  /-- 05 R132 pass mask, 4 b -/
  passMask : Nat
  /-- 05 R135: up to 8 segments (start, length) -/
  segments : List (Nat × Nat)
  /-- 05 R145 MAX_RULES and MAX_MASKS -/
  maxRules : Nat
  maxMasks : Nat
  /-- 05 R136: the rule records of 120 B in the order of the source seam -/
  rules : List Bytes
  /-- 05 R142: miss action, 24 B -/
  miss : Bytes
  /-- 05 R152: descriptor of the source seam; none of an empty list -/
  source : Option Nat
  /-- 05 R145, R147: rule-store runs this version holds, the descriptor of their seam, and the build that reserved them -/
  store : List (Nat × Nat)
  root : Nat
  build : Nat
  deriving DecidableEq, Repr

/-- RECIRC_CONFIG as staged (R167). -/
structure Recirc where
  /-- 05 R157 MAX_PASSES, 3 b. Reset 4 -/
  maxPasses : Nat
  /-- 05 R157 exceeded action TO_HOST, 1 b. Reset 0 (DROP) -/
  toHost : Bool
  /-- 05 R167 ring, 3 b. Reset 0 -/
  ring : Nat
  /-- 05 R159 ceilings of ports 32 and 33, Gb/s, 9 b. Reset 400 -/
  ceil32 : Nat
  ceil33 : Nat
  deriving DecidableEq, Repr

/-- The staged rule tables (R132). -/
structure RuleTables where
  /-- 05 R132: tables 0-19 that are defined. Reset: none -/
  tables : Table RuleTable
  /-- 05 R167. Reset as R167 -/
  recirc : Recirc
  deriving DecidableEq, Repr

/-- Build states (Table 5.11). -/
inductive BuildState where | none | running | staged | failed | abandoned
  deriving DecidableEq, Repr

/-- A build of one rule table as RULE_BUILD_STATUS reports it, with what a running build works from (R149, R163). -/
structure Build where
  /-- 05 Table 5.11 build state. Reset NONE -/
  state : BuildState
  /-- 05 Table 5.10 failure reason. Reset 0 -/
  reason : Nat
  /-- 05 Table 5.11 rules processed. Reset 0 -/
  processed : Nat
  /-- 05 Table 5.11 first failing ordinal. Reset none -/
  ordinal : Option Nat
  /-- 05 Table 5.11: instant the build started, and its time taken in ms. Reset 0 -/
  start : Nat
  tookMs : Nat
  /-- 05 R162: profile the build will stage (rules and source seam still empty). Reset none -/
  profile : Option RuleTable
  /-- 05 R162: list seam descriptor and rule count. Reset none, 0 -/
  list : Option Nat
  count : Nat
  deriving DecidableEq, Repr

/-- Live state of the rule stage. -/
structure RuleLive where
  /-- 05 R163: builds of tables 0-19. Reset NONE -/
  builds : List Build
  /-- 05 R162: build sequence number, 32 b, counted since INIT. Reset 0 -/
  sequence : Nat
  /-- 05 R144: rule counters (packets, bytes) keyed by table x 2^32 + rule ID. Reset none -/
  counters : Table (W64 × W64)
  /-- 05 R166: 4 counters for each of 20 tables. Reset 0 -/
  tables : List (List W64)
  /-- 05 R166: 7 counters for each pipeline. Reset 0 -/
  pipes : List (List W64)
  /-- 05 R147: free rule-store runs. Reset one run of 196,608 (R25) -/
  storeFree : List (Nat × Nat)
  /-- 05 R155: retired rule-store tiles. Reset none -/
  storeRetired : List Nat
  /-- 05 R155: rule-store tiles whose structures await repair (the versions that hold one are repairing). Reset none -/
  storeBad : List Nat
  deriving DecidableEq, Repr

end Sys2Proof.Machine
end

