-- ==== Sys2Proof/Machine/TypesSeam.lean ====
section
/-!
DEFINITION. Byte memory, the seam directory, and rings of slots in host memory (spec 01, 10).
-/
namespace Sys2Proof.Machine

/-- Byte memory: (address, byte) pairs in rising address order, no entry equal to what its unlisted address reads as. -/
abbrev Memory := List Host.Cell

/-- What a seam descriptor names (R22, R23): a run of device tiles, the runs of a rule source seam (R152), the runs of a rule-store
seam, or members in order. -/
inductive SeamBody where
  | run   (first count : Nat)
  | pieces (runs : List (Nat × Nat))
  | store (runs : List (Nat × Nat))
  | group (members : List Nat)
  deriving DecidableEq, Repr

/-- One seam descriptor in use (R23, R366). -/
structure Seam where
  body : SeamBody
  /-- R366: created by SEAM_CREATE or SEAM_GROUP. -/
  host : Bool
  /-- Table 12.7: SEAM_CREATE RANGE owns no tiles. -/
  owns : Bool
  deriving DecidableEq, Repr

/-- The seam directory (R23, R26, R27). -/
structure Directory where
  /-- 01 R23: 65,536 seam descriptors, those in use. Reset: none (built at INIT) -/
  used : Table Seam
  /-- 01 R26: current generation of each descriptor, 16 b each; unlisted 0. Reset 0 -/
  gens : Table Nat
  /-- 01 R27: descriptors never yet issued start here, 17 b. Reset 0 -/
  fresh : Nat
  /-- 01 R27: freed descriptors, oldest first. Reset: none -/
  freed : List Nat
  /-- 12 R364: descriptors reserved by staged growth or builds, 17 b. Reset 0 -/
  reserved : Nat
  deriving DecidableEq, Repr

/-- A ring of slots in host memory that the device writes (R314, R406, R412): a copy-to-host ring, the telemetry ring, the dump ring. -/
structure HostRing where
  enabled : Bool
  halted : Bool
  channel : Nat
  irq : Bool
  j : Nat
  k : Nat
  holdoff : Nat
  base : Nat
  consumerAddr : Nat
  produced : W32
  consumed : W32
  /-- End of the holdoff that runs. -/
  holdUntil : Option Nat
  /-- Records were written during the holdoff. -/
  again : Bool
  /-- Instant at which a full ring last read its consumer address, and at which it last became full (R317). -/
  polled : Option Nat
  fullAt : Nat
  /-- The record in progress, PHASE aside, and the bursts of it already written (R316, R319, R436). -/
  slot : Option Bytes
  sent : Nat
  /-- Its channel was abandoned: halted until DISABLE (R319). -/
  abandoned : Bool
  deriving DecidableEq, Repr

/-- One staged growth of a region (R364): the runs reserved and the descriptors reserved with them. -/
structure Growth where
  region : Nat
  runs : List (Nat × Nat)
  descs : Nat
  deriving DecidableEq, Repr

end Sys2Proof.Machine
end

