-- ==== Sys2Proof/Machine/TypesFwd.lean ====
section
/-!
DEFINITION. State of forwarding and learning, of the packet buffer and its queues, and of the miners (spec 09, 10, 11).
-/
namespace Sys2Proof.Machine

/-- One bridge domain (R287, DOMAIN record). -/
structure Domain where
  mask : BitVec 26
  learn : Bool
  sync : Bool
  routing : Bool
  unknownDrop : Bool
  deriving DecidableEq, Repr

/-- A port's domain settings (R287, PORT record). -/
structure DomainPort where
  mode : Nat
  classifying : Bool
  base : Nat
  deriving DecidableEq, Repr

/-- A HOST bridge entry in one pipeline (R267): port or 0xFF, the way it claims, and its port time. -/
structure HostEntry where
  port : Nat
  way : Nat
  portTime : Nat
  deriving DecidableEq, Repr

/-- A port's learn limit (R288). -/
structure LearnLimit where
  flood : Bool
  limit : Nat
  deriving DecidableEq, Repr

/-- The staged forwarding tables (spec 09). Bridge keys are domain x 2^48 + MAC; route keys order by context, family,
prefix and length. -/
structure FwdCfg where
  /-- 09 R287: 4,096 domains. Reset none -/
  domains : Table Domain
  /-- 09 R287: domain settings of ports 0-25. Reset PORT, OUTER, 0 -/
  ports : List DomainPort
  /-- 09 R267: HOST entries of pipelines 0 and 1 by key. Reset none -/
  hosts0 : Table HostEntry
  hosts1 : Table HostEntry
  /-- 09 R278: routes by key; the next-hop index. Reset none -/
  routes : Table Nat
  /-- 09 R280: next-hop records of 32 B, 65,536. Reset none -/
  nexthops : Table Bytes
  /-- 09 R272: learn limits of ports 0-25. Reset 65,535, FLOOD -/
  limits : List LearnLimit
  /-- 09 R263 ROUTER_MAC, 48 b. Reset 0 -/
  routerMac : Bytes
  /-- 09 R270 MOVE_GUARD, us. Reset 100 -/
  moveGuard : Nat
  /-- 09 R275 BRIDGE_AGE, s. Reset 300 -/
  bridgeAge : Nat
  /-- 09 R289 learn-record ring, TTL_ACTION is TO_HOST, TTL ring. Reset 0, DROP, 0 -/
  learnRing : Nat
  ttlToHost : Bool
  ttlRing : Nat
  deriving DecidableEq, Repr

/-- A LEARNED entry (R267, R270). -/
structure Learned where
  domain : Nat
  mac : Nat
  port : Nat
  hit : Bool
  portTime : Nat
  refreshed : Nat
  deriving DecidableEq, Repr

/-- A learn event (R268). -/
structure LearnEvent where
  domain : Nat
  mac : Nat
  port : Nat
  deriving DecidableEq, Repr

/-- A bulk removal handed to the LEARN task (R285). -/
structure BulkRemoval where
  byPort : Bool
  pipeMask : Nat
  value : Nat
  deriving DecidableEq, Repr

/-- An entry of a forwarding table with its contents, as a version holds it: what has a copy in device memory, and what awaits repair from it
(R276, R282). -/
inductive FwdItem where
  | host (pipe key : Nat) (entry : HostEntry)
  | route (key hop : Nat)
  | nexthop (index : Nat) (record : Bytes)
  deriving DecidableEq, Repr

/-- Live state of forwarding. -/
structure FwdLive where
  /-- 09 R266: LEARNED entries of each pipeline, keyed way index (bucket x 8 + way). Reset none -/
  learned0 : Table Learned
  learned1 : Table Learned
  /-- 09 R275: hit bits of HOST entries of synchronised domains (keys whose bit is set), per pipeline. Reset none -/
  hostHit0 : List Nat
  hostHit1 : List Nat
  /-- 09 R269: learn queues, up to 4,096 each, oldest first. Reset empty -/
  queue0 : List LearnEvent
  queue1 : List LearnEvent
  /-- 09 R266 BRIDGE_SEED, 32 b. Reset: drawn at INIT (free value) -/
  seed : W32
  /-- 09 R275: next way the ageing visit takes in each pipeline, and the flow clock at the start of its round. Reset 0 -/
  age0 : Nat
  age1 : Nat
  ageStart0 : Nat
  ageStart1 : Nat
  /-- 09 R273: learn records raised within 10 ms: key, port, kind, instant. Reset none -/
  recent : List (Nat × Nat × Nat × Nat)
  /-- 09 R289: 24 counters for each pipeline. Reset 0 -/
  counters : List (List W64)
  /-- 09 R289: 2 device counters. Reset 0 -/
  device : List W64
  /-- 09 R291: the route build. Reset NONE -/
  build : Build
  /-- 09 R290: route build sequence, 32 b. Reset 0 -/
  sequence : Nat
  /-- 09 R285: bulk removals waiting for the LEARN task. Reset none -/
  bulk : List BulkRemoval
  /-- 09 R273, 11 R329: learn records raised while no LEARN task runs: pipeline, port and data, oldest first. Reset none -/
  records : List (Bool × Nat × Bytes)
  /-- 09 R282: entries waiting for repair. Reset none -/
  broken : List FwdItem
  /-- 09 R282: the copies of the live versions' entries, each with its tile of device memory. Reset none -/
  copies : List (FwdItem × Nat)
  deriving DecidableEq, Repr

/-- A class or ring queue's limits (R295, R322). -/
structure QueueCfg where
  alpha : Nat
  min : Nat
  max : Nat
  deriving DecidableEq, Repr

/-- A port's scheduler settings (R302, R303). -/
structure SchedCfg where
  spMask : Byte
  defaultClass : Nat
  quanta : List Nat
  ceiling : Nat
  deriving DecidableEq, Repr

/-- The staged buffer settings (spec 10). Queue keys: port x 8 + class; 512 + ring; 1,024 + node x 4 + class. -/
structure BufCfg where
  /-- 10 R321: queue settings; an unlisted class queue has ALPHA 4, MIN 0, MAX 65,535 and an unlisted ring queue ALPHA 4, MIN 64, MAX 4,096. Reset none listed -/
  queues : Table QueueCfg
  /-- 10 R322: subscriber ALPHA code, RES_0, RES_1. Reset 2, 8,192, 8,192 -/
  subAlpha : Nat
  res0 : Nat
  res1 : Nat
  /-- 10 R302: schedulers of ports 0-25. Reset SP 0xC0, class 0, quanta 4, ceiling 0 -/
  sched : List SchedCfg
  /-- 10 R305: shaping nodes, 20 B records by subscriber index. Reset none -/
  nodes : Table Bytes
  /-- 10 R313: 16 mirror sessions, 16 B records. Reset none -/
  mirrors : Table Bytes
  deriving DecidableEq, Repr

/-- One entry of a queue: a packet or copy with its descriptor (R294), or a learn record. -/
structure Queued where
  pkt : Pkt
  /-- Length as queued (R80) and cells charged. -/
  len : Nat
  cells : Nat
  /-- Time counter at enqueue (Table 10.2). -/
  sec : W32
  ns : W32
  /-- D of R383, should the entry be a PTP event message for a ring: from ingress to this enqueue, 1/64 ns, less the fraction. -/
  since : Nat
  /-- Data of a learn record; none for a packet. -/
  record : Option Bytes
  deriving DecidableEq, Repr

/-- Live figures of one queue. -/
structure QueueLive where
  items : List Queued
  peak : Nat
  enqueued : W64
  discarded : W64
  /-- Deficit of the queue as a member, in bytes (R302); below 0 after a cut-through frame's rest was charged. -/
  deficit : Int
  deriving DecidableEq, Repr

/-- Round state of one port's scheduler (R302, R303). -/
structure SchedLive where
  /-- Deficits of the 8 classes, in bytes. -/
  deficits : List Int
  /-- DRR class and, per class, queue key served last. -/
  lastClass : Nat
  lastMember : List Nat
  /-- instant x 10^6 (fs) before which the ceiling lets no frame start. -/
  nextStart : Nat
  deriving DecidableEq, Repr

/-- A cut-through frame being sent before its end has arrived (R81): the packet as its egress path found it. -/
structure Sending where
  pkt : Pkt
  /-- The port that its queue belongs to, and the lane it leaves by: another where a peer lane stands in for the other (R88). -/
  port : Nat
  lane : Nat
  /-- Residence clock in 1/64 ns as the frame crosses the plane of its port (R379), and flow-clock time at which the first byte left (R411). -/
  tx : Nat
  began : Nat
  /-- The queue that is charged for it, with the DRR class, and the bytes charged so far (R302). -/
  queue : Nat
  cls : Option Nat
  sent : Nat
  /-- What the rest of the frame takes from the tables of its stamp, fixed at the dequeue (R309): the next-hop record, and the PTP modes of
  the egress and ingress ports. -/
  hop : Option Bytes
  ptp : Nat × Bool
  /-- Rule counters of its lookups that take its bytes once its end is known (R144). -/
  counts : List Nat := []
  deriving DecidableEq, Repr

/-- A cut-through frame whose end has not arrived (R81): its number, port, the bytes that had arrived when it was passed on, whether it was
passed on, the MAX_FRAME in force at its first byte (R85), whether its port went down since (R80), the claims its walk took
provisionally (R120), and the rule counters that take its bytes at its end (R144). -/
structure Arriving where
  id : Nat
  port : Nat
  got : Nat
  passed : Bool
  maxFrame : Nat
  cut : Bool
  claims : List Claim
  counts : List Nat := []
  deriving DecidableEq, Repr

/-- Live state of the buffer (spec 10) and the admission queues (R11, R158, R341, R508). -/
structure BufLive where
  /-- 10 R300: queues that hold or have held something, by queue key. Reset empty -/
  queues : Table QueueLive
  /-- 10 R295 ING_0, ING_1: cells charged to the ingress accounts. Reset 0 -/
  ing0 : Nat
  ing1 : Nat
  /-- 10 R302: schedulers of ports 0-25, 32, 33. Reset zero deficits -/
  sched : List SchedLive
  /-- 10 R305: node buckets in units of 2^-16 B and the instant counted; unlisted full. Reset full -/
  buckets : Table (Int × Nat)
  /-- 10 R313: packets that requested each session. Reset 0 -/
  mirrorCount : List Nat
  /-- 10 R314: the 8 copy-to-host rings. Reset DISABLED -/
  rings : List HostRing
  /-- 10 R322: RECORDS_WRITTEN, RING_QUEUE_FULL, RING_DISABLED, TRUNCATED of each ring. Reset 0 -/
  ringCounters : List (List W64)
  /-- 10 R322: 13 counters (Table 10.7). Reset 0 -/
  counters : List W64
  /-- 10 Table 10.6: peak U. Reset 0 -/
  peakU : Nat
  /-- 18 R508: admission queues of the pipelines, 02 R11. Reset empty -/
  lane0 : List Pkt
  lane1 : List Pkt
  /-- 05 R158: recirculation queues, up to 2,048. Reset empty -/
  recirc0 : List Pkt
  recirc1 : List Pkt
  /-- 11 R341: reinjection queues, up to 256: a packet and the key of its flow. Reset empty -/
  reinject0 : List (Pkt × Bytes)
  reinject1 : List (Pkt × Bytes)
  /-- 03 R81: cut-through frames whose transmission has begun before their end arrived. Reset none -/
  sending : List Sending
  /-- 03 R81: cut-through frames whose end has not arrived. Reset none -/
  arriving : List Arriving
  /-- 03 R101: frames that ports in near loopback have sent and not yet received: port, bytes, and whether the FCS is inverted. Reset none -/
  looped : List (Nat × Bytes × Bool)
  /-- 14 Table 14.6, events 0x2000 + e: for each pipeline, lane admissions, resumptions, recirculations, reinjections, new flows,
  verdicts and stateless carriages, and the frames and bytes sent by its recirculation port, 64 b each. Reset 0 -/
  events : List (List W64)
  /-- 14 Table 14.6, event 0x2000 + 4: admission slots of pipelines 0 and 1 granted since the last TIME cycle. Reset 0 -/
  slots0 : Nat
  slots1 : Nat
  /-- Model's own: number of the next packet. Reset 0 (DESIGN CHOICE, log 7) -/
  nextId : Nat
  deriving DecidableEq, Repr

/-- Staged setting of a task type (R347). -/
structure TypeCfg where
  level : Nat
  maxMiners : Nat
  deriving DecidableEq, Repr

/-- The staged task plan (R338, R347). -/
structure TaskCfg where
  /-- 11 Table 11.2: level and MAX_MINERS of types 0x01-0x0B. Reset the defaults -/
  types : List TypeCfg
  /-- 11 R330 FLOW_SLOTS, 12 b. Reset 3,840 -/
  flowSlots : Nat
  deriving DecidableEq, Repr

/-- What a task works on. -/
inductive Work where
  | standing
  /-- R210: the first packet, its key and its claimed slot are in the outstanding request of that key. -/
  | setup (pkt : Pkt) (key : Bytes)
  /-- R256: the entry, the key of the flow whose packet met the fault, and that packet's stamp. -/
  | repair (entry : Nat) (key : Bytes) (stamp : W16)
  | ruleBuild (table : Nat)
  /-- R155: the rebuild of the table version whose structure has this root seam. -/
  | ruleRepair (root : Nat)
  | routeBuild
  /-- R282: HOST entries and next hops restored from their copies; R279, R282: route-store words. -/
  | fwdRepair
  | routeRepair
  /-- A class A descriptor (FILL, COMPARE) of a DMA channel. -/
  | dma (channel : Nat)
  /-- R130: the LOAD_SEAM of a channel's PARSE_GRAPH_LOAD. -/
  | loadSeam (ch : Nat)
  | seamJob (job : Nat)
  | clearTiles
  | exporter
  /-- R497 step 3: the live regions copied to the peer. -/
  | liveCopy
  /-- The work of the task is done; its miner has yet to complete it. -/
  | finished
  deriving DecidableEq, Repr

/-- The stamp of the packet that caused the work, which the task keeps (R31). -/
def Work.stamp : Work → Option W16
  | .setup p _ => some p.stamp
  | .repair _ _ x => some x
  | _ => none

/-- Where a task stands (R329-R335). -/
inductive TaskState where
  | ready | running (miner : Nat) | parked
  deriving DecidableEq, Repr

/-- One task in its slot (R330). -/
structure Task where
  /-- Type code of Table 11.2. -/
  type : Nat
  state : TaskState
  work : Work
  /-- Address at which it starts or resumes, the wait code there, and its return stack (R324). -/
  address : Nat
  wait : Nat
  stack : List Nat
  /-- Instant of its latest dispatch, and the instant from which its miner time is still to be accumulated (R346). -/
  since : Nat
  billed : Nat
  stamp : W16
  deriving DecidableEq, Repr

/-- One miner (Table 11.8). -/
structure Miner where
  /-- Slot of the task it runs. -/
  slot : Option Nat
  /-- Slot of the task for which it was asked to yield (R334), and whether that task has since been dispatched elsewhere or is gone (R336). -/
  yield : Option Nat
  answered : Bool
  withdrawn : Bool
  /-- 14 Table 14.6: dispatches and preemptions of the miner, 64 b. Reset 0 -/
  dispatches : W64
  preemptions : W64
  deriving DecidableEq, Repr

/-- Live figures of one task type (Table 11.9). -/
structure TypeLive where
  completed : W64
  preempted : W64
  /-- Miner time in ns. -/
  timeNs : Nat
  deriving DecidableEq, Repr

/-- Live state of the miners (spec 11). -/
structure MinerLive where
  /-- 11 R323: 16 miners. Reset IDLE -/
  miners : List Miner
  /-- 11 R330: tasks by slot, 0-4,095. Reset none (standing tasks are created at INIT) -/
  tasks : Table Task
  /-- 11 R332: ready lists of levels 0-7, head first. Reset empty -/
  ready : List (List Nat)
  /-- 11 Table 11.9: figures of types 0x01-0x0B. Reset 0 -/
  types : List TypeLive
  /-- 11 R346: TASK_NO_SLOT, ROM_CORRECTED, PROMOTIONS, PREEMPT_WITHDRAWN. Reset 0 -/
  counters : List W64
  /-- 11 R337: SWEEP and SCRUB promoted, 1 b each. Reset 0 -/
  sweepUp : Bool
  scrubUp : Bool
  /-- 11 R348: trace ENABLE, STOP, type mask, reason mask, miner mask. Reset enabled, WRAP, all ones in the bits that name something -/
  traceOn : Bool
  traceStop : Bool
  traceTypes : BitVec 16
  traceReasons : Byte
  traceMiners : BitVec 16
  /-- 11 R343: trace ring, up to 4,096 entries of 16 B, oldest first. Reset empty -/
  trace : List Bytes
  /-- 11 R343: next sequence number, 16 b; entries lost, 32 b saturating. Reset 0 -/
  traceSeq : W16
  traceLost : Nat
  deriving DecidableEq, Repr

end Sys2Proof.Machine
end

