-- ==== Sys2Proof/Machine/TypesStaged.lean ====
section
/-!
DEFINITION. One version of every staged table, and the configuration a pair member copies to another (spec 01, 13, 17).
-/
namespace Sys2Proof.Machine

/-- PTP settings of the device (R391, DEVICE record). -/
structure PtpDevice where
  domain : Nat
  clockId : Bytes
  mac : Bytes
  ip4 : Bytes
  ip6 : Bytes
  deriving DecidableEq, Repr

/-- PTP settings of a port (R391, PORT record). -/
structure PtpPort where
  mode : Nat
  rxTs : Bool
  transport : Nat
  logInt : Int
  deriving DecidableEq, Repr

/-- The staged PTP settings (R377, R390). -/
structure PtpCfg where
  /-- 13 R390: device identity. Reset zero -/
  device : PtpDevice
  /-- 13 R390: ports 0-25. Reset OFF, RX_TS clear, ETH, n = 0 -/
  ports : List PtpPort
  deriving DecidableEq, Repr

/-- One version of every staged table (R29). -/
structure Staged where
  port  : PortTable
  parse : ParseGraph
  rule  : RuleTables
  flow  : FlowCfg
  nat   : NatCfg
  fwd   : FwdCfg
  buf   : BufCfg
  task  : TaskCfg
  ptp   : PtpCfg
  deriving DecidableEq, Repr

/-- What a rejoin copies (R497 step 2): every staged table's current and shadow versions, the seams they rest on, the block map, the epoch number, the
commit sequence and the shadow change count. -/
structure PairCopy where
  cur : Staged
  shadow : Staged
  dir : Directory
  regions : List Nat
  free : List (Nat × Nat)
  growth : List Growth
  blocks : Table Block
  /-- 17 R497 step 3: the tiles of the live regions, merged, that hold something. -/
  live : List (Nat × Bytes)
  copies : List (FwdItem × Nat)
  epoch : W16
  sequence : W32
  changes : W32
  deriving DecidableEq, Repr

end Sys2Proof.Machine
end

