-- ==== Sys2Proof/Syntax.lean ====
section
/-!
DEFINITION. The commands and events of the block: the command packet of R44, the facts the outside supplies with an event, and one
constructor for each row of the opcode table.
-/
namespace Sys2Proof

/-- A command packet as the interpreter takes it (R44, Table 2.2), with the channel it came from (Table 2.1 code). -/
structure Msg where
  /-- Channel code: 0 HOST_NS, 1 HOST_S, 2 PEER, 3 BMC. -/
  ch     : Nat
  tag    : W16
  /-- Length field of the header. -/
  len    : W16
  flags  : Byte
  origin : Byte
  guard  : W16
  /-- Reserved header bytes 10-15. -/
  resv   : Bytes
  /-- Parameter bytes. -/
  params : Bytes
  deriving DecidableEq, Repr

/-- Faults of the device's own cells that strike before an event and that its reads meet (R18, R276, R293): tiles whose stored check
no longer matches, and uncorrectable words of on-die structures. -/
structure Upsets where
  /-- Device-memory tiles. -/
  tiles : List Nat := []
  /-- Hot-tier ways with an uncorrectable word in their 64 bytes, and in their home word. -/
  hot : List Nat := []
  home : List Nat := []
  /-- Action-cache ways. -/
  cache : List Nat := []
  /-- Rule-store tiles. -/
  store : List Nat := []
  /-- Block map entries, by global slot (R244). -/
  blocks : List Nat := []
  /-- Forwarding words: (table code of FWD_ECC, way, word or index) in the pipeline of the event. -/
  fwd : List (Nat × Nat) := []
  /-- Buffer cells and descriptors: (0x01 cell or 0x02 descriptor, its number). -/
  buffer : List (Nat × Nat) := []
  /-- Correctable errors met and corrected. -/
  corrected : Nat := 0
  deriving DecidableEq, Repr

/-- What the host writes in a function's configuration space (Table 15.1): Bus Master Enable of the command register, MSI-X Enable and
Function Mask of the MSI-X capability, the maximum payload size and maximum read request of the PCI Express capability as the codes of
Device Control (128 B shifted), and the bases of BAR0/1 and BAR2/3. -/
structure PciControl where
  busMaster : Bool
  msixEnable : Bool
  functionMask : Bool
  payload : Nat := 0
  readMax : Nat := 2
  bar0 : Nat := 0
  bar2 : Nat := 0
  deriving DecidableEq, Repr

/-- The write of a ring's next record: the ring, and the words of its entry found hurt. -/
structure RingRead where
  ring : Nat
  hurt : Upsets := { }
  deriving DecidableEq, Repr

/-- The branch micro-operation of one microword that a miner executed (R324): none, and then the next address, or one of the four. -/
inductive MicroOp where
  | next
  | jump (target : BitVec 15)
  | branchIf (taken : Bool) (target : BitVec 15)
  | call (target : BitVec 15)
  | ret
  deriving DecidableEq, Repr

/-- A RING or a RELEASE of a mailbox channel: the register write of Tables 2.6 and 15.2 on HOST_NS and HOST_S (`byte` is its low
byte), the peer lane's own on PEER, and the SMBus Write Byte to command code 0x21 on BMC with its byte and whether its PEC is right
(R54, R56, R63, R64). -/
structure ChannelAsk where
  ch : Nat
  byte : Byte
  pec : Bool
  deriving DecidableEq, Repr

/-- The Process Call of command code 0x23: the offset asked for and whether its PEC is right (R64, Table 2.9). -/
structure BufferAsk where
  off : Nat
  pec : Bool
  deriving DecidableEq, Repr

/-- What BOOT finds (R456, Table 16.2; R360). -/
structure BootFacts where
  pllOk : Bool
  romOk : Bool
  bistOk : Bool
  /-- SRAM rows repaired; hot-tier ways, action-cache ways and rule-store tiles retired by BIST (R222). -/
  sramRepaired : Nat
  hotRetired : List Nat
  cacheRetired : List Nat
  storeRetired : List Nat
  /-- The class of each stack as identified: true for HB. -/
  stack0HB : Bool
  stack1HB : Bool
  /-- Channels 0-31 (stack x 16 + channel) that fail training. -/
  untrained : List Nat
  /-- Rows repaired by channel (0-31), and the rows that could not be repaired as runs of tiles (first tile, count). -/
  repaired : List (Nat × Nat)
  badRows : List (Nat × Nat)
  /-- The PCI Express reference runs (R518). -/
  pcieRef : Bool := true
  deriving DecidableEq, Repr

/-- A frame as a MAC receives it, or the end of one (R80-R82). -/
structure FrameIn where
  /-- Frame bytes without the FCS. -/
  bytes : Bytes
  fcsOk : Bool
  /-- FEC codewords of the frame that were corrected, and that could not be. -/
  corrected : Nat
  uncorrected : Nat
  /-- The frame ended whole: false where an error symbol or the loss of the link cut it short. -/
  whole : Bool
  /-- False where only the first bytes have arrived and the frame goes on (R81). -/
  ended : Bool
  deriving DecidableEq, Repr

/-- What one device tells the other when a join or rejoin is asked for (R488, R497). -/
structure JoinFacts where
  devState : Nat
  committed : Bool
  changes : Nat
  stepping : Byte
  classHB : Bool
  digest : Bytes
  strapFault : Bool
  hostSeams : Bool
  cfg0 : Bool
  /-- The command names the issuing device as primary. -/
  thisPrimary : Bool
  inconsistent : Bool
  serial : W64
  /-- Memory plan: the tiles of the six regions in code order, and the seeds. -/
  plan : List (Nat × Nat)
  seed0 : W32
  seed1 : W32
  bridgeSeed : W32
  deriving DecidableEq, Repr

/-- A heartbeat (R487), received on one peer lane. -/
structure Heartbeat where
  west : Bool
  /-- Role code and pair state code of Table 17.9. -/
  role : Nat
  pairState : Nat
  devState : Nat
  epoch : W16
  commitSeq : W32
  journal : Nat
  alive0 : Bool
  alive1 : Bool
  relinquish : Bool
  /-- Cause of a divergence the peer has judged (Table 17.5), 0 for none. -/
  cause : Nat
  /-- The peer drains an epoch (EPOCH_STATUS PEER_DRAINING). -/
  draining : Bool
  /-- The peer has accepted PAIR_LEAVE, and tells so by the link control words that carry its heartbeat (R498; DESIGN CHOICE, log 164). -/
  leaving : Bool
  /-- Join data of the peer, carried by the same link control words. -/
  facts : JoinFacts
  deriving DecidableEq, Repr

/-- The commands and events of the block: one constructor per row of the opcode table, in the table's order. A command row
carries the packet the interpreter takes (R44); an event row carries what the outside supplies at it. -/
inductive Instr where
  /-- POWER_ON (R460). Rails are applied with RESET_N low and the device passes from OFF to RESET. -/
  | powerOn
  /-- RESET_N_FALL (R453). RESET_N falls: the device enters RESET, the balls take their reset levels, and every message, table and flow is lost. -/
  | resetNFall (low : Nat := 1000)
  /-- PWR_OK_FALL (R451). PWR_OK falls in any state and the device enters RESET within 1 us, as if RESET_N had fallen. -/
  | pwrOkFall (low : Nat := 1000)
  /-- RESET_N_RISE (R456). RESET_N rises with PWR_OK high: the straps are sampled, the TAP is reset and BOOT begins. -/
  | resetNRise (pwrOk : Bool) (cfg : Nat) (b : BootFacts) (highFor : Nat := 1000)
  /-- BOOT_COMPLETE (R458). BOOT ends: the default plan, region seams and seeds are set, and the device enters INIT, or RECOVER if no channel is trained. -/
  | bootComplete (ms : Nat)
  /-- ROOT_PLL_LOCK_LOST (R504). The root PLL loses lock and the device enters RESET within 1 us. -/
  | rootPllLockLost
  /-- PERST_N_RISE (R459). PERST_N rises with RESET_N high, the PCI Express link trains, and configuration space becomes ready. -/
  | perstNRise (pcieRef : Bool := true)
  /-- LINK_RESET (R425). A hot reset, a link down or the assertion of PERST_N resets both functions as a function level reset does, and leaves forwarding running. -/
  | linkReset (perst : Bool)
  /-- FUNCTION_LEVEL_RESET (R425). A function level reset resets that function's registers and mailbox channel and abandons its DMA channels. -/
  | functionLevelReset (pf1 : Bool)
  /-- TAP_INSTRUCTION (R533). A boundary-scan instruction is shifted and executed; instructions that drive the balls act only while RESET_N is low. -/
  | tapInstruction (code : Byte) (data : BitVec 294)
  /-- REGISTER_WRITE (R8). A host write to a register that has no row of its own takes effect according to its access code. -/
  | registerWrite (pf1 : Bool) (off : Nat) (v : W32) (size : Nat := 4)
  /-- MBX_INBOUND_WRITE (R54). A write to a channel's inbound buffer is stored, or is discarded with WRITE_LOST set while PENDING is 1. -/
  | mbxInboundWrite (ch : Nat) (off : Nat) (v : W32)
  /-- RING (R54). A doorbell RING submits the inbound message and starts its timeout, or sets DOORBELL_LOST while PENDING is 1. -/
  | ringDoorbell (ask : ChannelAsk)
  /-- RELEASE (R56). RELEASE frees the outbound buffer, and the oldest queued reply is placed within 1 us. -/
  | releaseReply (ask : ChannelAsk)
  /-- BMC_BUFFER_WRITE (R64). An SMBus Block Write with a correct PEC writes bytes into the BMC inbound buffer from the given offset. -/
  | bmcBufferWrite (off : Nat) (data : Bytes) (pec : Bool)
  /-- BMC_FLAGS_READ (R64). An SMBus Read Byte returns the BMC channel flags and clears WRITE_LOST. -/
  | bmcFlagsRead (pec : Bool := true)
  /-- BMC_REPLY_READ (R64). An SMBus Block Write-Block Read Process Call returns bytes of the BMC outbound buffer from the given offset. -/
  | bmcReplyRead (ask : BufferAsk)
  /-- SMBUS_ALERT_RESPONSE (R64). The device answers the SMBus Alert Response Address while SMB_ALERT_N is asserted. -/
  | smbusAlertResponse
  /-- MESSAGE_TAKE (R52). The interpreter takes the next pending message in channel order, sets TAKEN, checks it in order, and executes it or refuses it with one reply. -/
  | messageTake
  /-- MBX_TIMEOUT_EXPIRE (R57). A pending message that has not been taken within its channel's timeout in SERVICE or DEGRADED is withdrawn unexecuted and TIMEOUT is set. -/
  | mbxTimeoutExpire (ch : Nat)
  /-- PEER_REPLY_ARRIVAL (R489). The secondary's reply to a forwarded command arrives; the primary places its own reply, or treats a differing status as a divergence. -/
  | peerReplyArrival (ch : Nat) (status : W16) (detail : W16) (params : Bytes)
  /-- FLOW_COMMAND_RESUME (R199). A flow's outstanding DRAM request ends, and a waiting FLOW_WRITE, FLOW_PIN or FLOW_DELETE record is checked and applied. -/
  | flowCommandResume (ch : Nat)
  /-- DEVICE_NOP (R60). DEVICE_NOP replies with its own parameter bytes. -/
  | deviceNop (m : Msg)
  /-- DEVICE_MBX_TIMEOUT (R59). DEVICE_MBX_TIMEOUT reads or sets a channel's mailbox timeout. -/
  | deviceMbxTimeout (m : Msg)
  /-- DEVICE_IDENTIFY (R466). DEVICE_IDENTIFY replies with the part, stepping, stack class, straps, state, pair flags, serial number and epoch. -/
  | deviceIdentify (m : Msg)
  /-- DEVICE_STATUS (R467). DEVICE_STATUS replies with the state, standing faults, recover causes and start readiness, all sampled in one cycle. -/
  | deviceStatus (m : Msg)
  /-- DEVICE_START (R468). DEVICE_START enters SERVICE or DEGRADED when every readiness condition holds, and the lanes then train. -/
  | deviceStart (m : Msg)
  /-- DEVICE_TEST_ENTER (R469). DEVICE_TEST_ENTER moves the device from INIT to TEST. -/
  | deviceTestEnter (m : Msg)
  /-- DEVICE_TEST_EXIT (R469). DEVICE_TEST_EXIT ends every loopback and enters INIT, first clearing live state when CLEAR_LIVE is set. -/
  | deviceTestExit (m : Msg)
  /-- CLEARING_COMPLETE (R469). A clearing started by DEVICE_TEST_EXIT or SECURE_MEM_PLAN completes; CLEARING falls and, after a test exit, the device enters INIT. -/
  | clearingComplete
  /-- DEVICE_RESUME (R470). DEVICE_RESUME leaves RECOVER for SERVICE or DEGRADED once no recover cause remains. -/
  | deviceResume (m : Msg)
  /-- EPOCH_STAGE (R70). EPOCH_STAGE reports the shadow, or with DISCARD resets the shadow and abandons builds in progress. -/
  | epochStage (m : Msg)
  /-- EPOCH_COMMIT (R71). EPOCH_COMMIT seals the shadow and switches both pipelines to the new epoch at one boundary, or refuses while an epoch drains. -/
  | epochCommit (m : Msg)
  /-- EPOCH_DRAINED (R32). The last holder of the draining epoch leaves; its table versions are released and commits are accepted again. -/
  | epochDrained
  /-- EPOCH_STATUS (R74). EPOCH_STATUS replies with the current and draining epochs, the holders of the drain and the commit counts. -/
  | epochStatus (m : Msg)
  /-- PORT_CONFIG (R95). PORT_CONFIG stages or reads a front port's mode, FEC, medium, flags and MAX_FRAME. -/
  | portConfig (m : Msg)
  /-- PORT_ENABLE (R96). PORT_ENABLE stages or reads a port's enable. -/
  | portEnable (m : Msg)
  /-- PORT_STATUS (R99). PORT_STATUS replies with a port's mode, FEC, link state, lock and ring role. -/
  | portStatus (m : Msg)
  /-- PORT_COUNTERS (R100). PORT_COUNTERS latches a port's 14 counters in one cycle, and clears them when asked. -/
  | portCounters (m : Msg)
  /-- LANE_TUNE (R98). LANE_TUNE stages or reads a lane's transmit taps and its receive freeze. -/
  | laneTune (m : Msg)
  /-- PORT_LOOPBACK (R101). PORT_LOOPBACK sets or ends a port loopback mode at once in TEST. -/
  | portLoopback (m : Msg)
  /-- RING_CONFIG (R97). RING_CONFIG stages or reads the RING_EAST and RING_WEST ports. -/
  | ringConfig (m : Msg)
  /-- CANARY_STATUS (R102). CANARY_STATUS replies with the canary's arming, toggling, stop reason and pipeline heartbeat ages. -/
  | canaryStatus (m : Msg)
  /-- SECURE_CANARY_ARM (R103). SECURE_CANARY_ARM arms the canary for the confirmed ring ports, and toggling then begins. -/
  | secureCanaryArm (m : Msg)
  /-- SECURE_CANARY_DISARM (R104). SECURE_CANARY_DISARM disarms the canary and drives CANARY low. -/
  | secureCanaryDisarm (m : Msg)
  /-- CANARY_HALF_PERIOD (R90). A 50 us half-period ends and an armed canary toggles CANARY while every condition of R90 holds. -/
  | canaryHalfPeriod
  /-- CANARY_HEARTBEAT_WINDOW (R91). A 100 us pipeline heartbeat window closes; a stalled pipeline disarms the canary with reason HEARTBEAT. -/
  | canaryHeartbeatWindow (ran : Bool × Bool) (held : Bool × Bool)
  /-- LINK_STATE_CHANGE (R99). A port's link comes up, goes down or faults, and its link state, counters and dependent outputs change. -/
  | linkStateChange (port : Nat) (link : Nat) (cdr : BitVec 4) (sd : BitVec 4)
  /-- AN_RETRY (R79). A port in AN_NO_COMMON retries Clause 73 negotiation every 1 s. -/
  | anRetry (port : Nat) (common : Bool)
  /-- PORT_CALIBRATION_DONE (R376). The lane latency measurement of a port that came UP completes and the port becomes CALIBRATED. -/
  | portCalibrationDone (port : Nat) (rx : Nat) (tx : Nat)
  /-- PEER_LANE_FAIL (R88). A peer lane fails; its traffic moves to the other lane within 2 us and PEER_LANE_DOWN is logged and raised. -/
  | peerLaneFail (west : Bool)
  /-- PEER_LANE_RESTORE (R483). A peer lane that has been UP for 1 s clears PEER_LANE_DOWN and logs a CLEARED entry. -/
  | peerLaneRestore (west : Bool)
  /-- LANE_FRAME_RECEIVE (R80). A MAC receives a frame, discards and counts a runt, oversize, bad-FCS, FEC, partial or MAC control frame, and otherwise queues it for admission. -/
  | laneFrameReceive (port : Nat) (frame : FrameIn)
  /-- PDELAY_RECEIVE (R381). A peer-delay message received on a P2P port is consumed by the peer delay engine, which answers a request or takes a sample. -/
  | pdelayReceive (port : Nat) (frame : Bytes)
  /-- PDELAY_REQ_SEND (R381). A P2P port's interval expires and it sends a Pdelay_Req, counting an unfinished exchange as lost. -/
  | pdelayReqSend (port : Nat)
  /-- LANE_FRAME_ADMIT (R11). A lane frame is granted its pipeline's admission slot, stamped with the current epoch, parsed, looked up and given its verdict. -/
  | laneFrameAdmit (pipe : Bool) (hurt : Upsets)
  /-- MISS_RESUME (R12). A parked packet is admitted as a resumption and resumes at the flow stage, or is discarded if older than 50 ms. -/
  | missResume (pipe : Bool) (hurt : Upsets)
  /-- RECIRC_ADMIT (R156). A recirculated packet is admitted as its next pass and parsed again under its stamped epoch. -/
  | recircAdmit (pipe : Bool) (hurt : Upsets)
  /-- REINJECT_ADMIT (R341). A packet returned by a miner is admitted through the reinjection source and re-enters at the flow stage. -/
  | reinjectAdmit (pipe : Bool) (hurt : Upsets)
  /-- CUT_THROUGH_FRAME_END (R81). The end of a cut-through frame arrives; unused cells are returned, and a bad frame already in transmission is aborted. -/
  | cutThroughFrameEnd (id : Nat) (frame : FrameIn)
  /-- BUCKET_READ_RETURN (R191). A bucket read returns assayed; the flow found is installed HELD, B1 is read, or a new flow is admitted. -/
  | bucketReadReturn (key : Bytes) (hurt : Upsets)
  /-- ACTION_ENTRY_READ_RETURN (R14). An action-entry, slot-table or binding read from device memory returns and the parked packet's flow lookup proceeds. -/
  | actionEntryReadReturn (key : Bytes) (hurt : Upsets)
  /-- PENDING_WRITE_BACK (R186). Write-queue or tailings space comes for a WB_PENDING entry, which is written back or placed anew. -/
  | pendingWriteBack (way : Nat)
  /-- HOT_IDLE_DEMOTE (R185). The per-set visit demotes hot-tier entries whose last packet is older than HOT_IDLE. -/
  | hotIdleDemote (set : Nat)
  /-- PACKET_DEQUEUE (R302). A port that can accept its next frame has its scheduler choose a packet and pass it along the egress path. -/
  | packetDequeue (port : Nat) (hurt : Upsets)
  /-- RESIDENCE_EXPIRE (R308). The expiry wheel finds a queued packet 50 ms old and discards it. -/
  | residenceExpire (queue : Nat) (index : Nat)
  /-- RING_RECORD_WRITE (R316). A ring's DMA channel writes a queued record to its next slot in host memory, header last. -/
  | ringRecordWrite (ring : RingRead)
  /-- RING_CONSUMER_POLL (R317). A full ring reads its consumer address again, every 2 us, until a slot is free. -/
  | ringConsumerPoll (ring : Nat) (consumed : W32)
  /-- RING_HOLDOFF_EXPIRE (R318). A ring's interrupt holdoff ends and its vector is raised again if records were written during it. -/
  | ringHoldoffExpire (ring : Nat)
  /-- LEARN_EVENT_APPLY (R269). A pipeline's learn unit applies its next queued event: it creates, moves or refuses an entry. -/
  | learnEventApply (pipe : Bool)
  /-- BRIDGE_AGE_VISIT (R275). The learn unit's ageing visit clears hit bits, removes idle LEARNED entries and raises IDLE records. -/
  | bridgeAgeVisit (pipe : Bool)
  /-- FORWARDING_REPAIR (R282). A HOST entry, route word or next hop is restored from its copy in device memory. -/
  | forwardingRepair
  /-- PARSE_NODE_WRITE (R127). PARSE_NODE_WRITE stages parse node records into the shadow graph. -/
  | parseNodeWrite (m : Msg)
  /-- PARSE_NODE_READ (R128). PARSE_NODE_READ returns node records. -/
  | parseNodeRead (m : Msg)
  /-- PARSE_LIMITS (R129). PARSE_LIMITS reads or stages NODE_LIMIT, BYTE_LIMIT, DEPTH_CLASSIFY and the start nodes. -/
  | parseLimits (m : Msg)
  /-- PARSE_GRAPH_LOAD (R130). PARSE_GRAPH_LOAD clears the shadow graph, loads it from a seam, or verifies a graph. -/
  | parseGraphLoad (m : Msg)
  /-- PARSE_COUNTERS (R131). PARSE_COUNTERS latches and optionally clears the device or node parse counters. -/
  | parseCounters (m : Msg)
  /-- RULE_LOAD (R161). RULE_LOAD inserts or deletes rules in a table's shadow version. -/
  | ruleLoad (m : Msg)
  /-- RULE_BUILD (R162). RULE_BUILD stages a table profile and starts a build from a rule list, or removes the table. -/
  | ruleBuild (m : Msg)
  /-- RULE_BUILD_COMPLETE (R151). A rule build finishes and stages its swap root, or ends FAILED. -/
  | ruleBuildComplete (table : Nat) (hurt : Upsets)
  /-- RULE_STORE_REPAIR (R155). An uncorrectable rule-store tile is quarantined and every table version holding it is rebuilt from its source seam. -/
  | ruleStoreRepair (tile : Nat)
  /-- RULE_BUILD_STATUS (R163). RULE_BUILD_STATUS reports rule-store use and each table's build state. -/
  | ruleBuildStatus (m : Msg)
  /-- RULE_READ (R164). RULE_READ returns rule records by ordinal or rule ID. -/
  | ruleRead (m : Msg)
  /-- RULE_DEFAULT (R165). RULE_DEFAULT stages a table's miss action. -/
  | ruleDefault (m : Msg)
  /-- RULE_COUNTERS (R166). RULE_COUNTERS reads and optionally clears rule, table or pipeline counters. -/
  | ruleCounters (m : Msg)
  /-- RECIRC_CONFIG (R167). RECIRC_CONFIG reads or stages MAX_PASSES, the exceeded action and the recirculation ceilings. -/
  | recircConfig (m : Msg)
  /-- FLOW_READ (R197). FLOW_READ returns merged flow views by key or tile, or the flow-stage settings. -/
  | flowRead (m : Msg)
  /-- FLOW_WRITE (R198). FLOW_WRITE stores flows, sets bindings, or stages the flow-stage settings. -/
  | flowWrite (m : Msg)
  /-- FLOW_EXPORT (R200). FLOW_EXPORT starts, reports on or aborts a merged copy of the flow region into a seam. -/
  | flowExport (m : Msg)
  /-- FLOW_EXPORT_DONE (R200). A flow export finishes and, with SNAPSHOT, passes its epoch hold to its destination seam. -/
  | flowExportDone (hurt : Upsets)
  /-- FLOW_STATS (R201). FLOW_STATS returns hot-tier occupancy and flow counters. -/
  | flowStats (m : Msg)
  /-- FLOW_DELETE (R228). FLOW_DELETE ends flows with reason DELETED at their newest place. -/
  | flowDelete (m : Msg)
  /-- FLOW_PIN (R229). FLOW_PIN sets or clears a flow's PINNED bit. -/
  | flowPin (m : Msg)
  /-- FLOW_CLASS_SET (R230). FLOW_CLASS_SET reads or stages a flow class's timeouts, eviction policy and overflow disposition. -/
  | flowClassSet (m : Msg)
  /-- FLOW_AGE_CONFIG (R232). FLOW_AGE_CONFIG reads or stages the sweep and scrub periods, or reports lifecycle status. -/
  | flowAgeConfig (m : Msg)
  /-- FLOW_NEW_LIMIT (R231). FLOW_NEW_LIMIT reads or stages a policy class's new-flow token bucket. -/
  | flowNewLimit (m : Msg)
  /-- FLOW_HASH_SEED (R233). FLOW_HASH_SEED reads the placement seeds, or sets them in INIT while no flow exists. -/
  | flowHashSeed (m : Msg)
  /-- SWEEP_BUCKET_VISIT (R217). The ageing sweep visits its next bucket, assays its tiles and expires flows idle past their timeout. -/
  | sweepBucketVisit (hurt : Upsets)
  /-- BINDING_VISIT (R254). At the end of a sweep pass each binding is revived, held or freed by its live bit, and empty blocks are released after BLOCK_HOLD. -/
  | bindingVisit
  /-- DEFERRED_BLOCK_RELEASE (R247). A block release deferred for want of a log record is made once its template 258 record can be staged. -/
  | deferredBlockRelease
  /-- SCRUB_READ (R223). The scrub reads its next tile or word group, corrects correctable errors and handles uncorrectable ones. -/
  | scrubRead (hurt : Upsets)
  /-- FAULT_HISTORY_EXPIRE (R221). A fault-history entry whose newer fault is more than 24 h old is freed. -/
  | faultHistoryExpire
  /-- FLOW_SETUP (R245). A flow-setup task finds or allocates a translation binding, writes the flow tile and reinjects the first packet, or applies the fall-back. -/
  | flowSetup (slot : Nat) (hurt : Upsets)
  /-- BINDING_REPAIR (R256). A repair task rebuilds a faulted BINDING from its index, the flow key and its pool. -/
  | bindingRepair (hurt : Upsets)
  /-- NAT_POOL_SET (R243). NAT_POOL_SET stages pools and public addresses. -/
  | natPoolSet (m : Msg)
  /-- NAT_POOL_READ (R260). NAT_POOL_READ returns a pool record or its address records. -/
  | natPoolRead (m : Msg)
  /-- NAT_BLOCK_CONFIG (R261). NAT_BLOCK_CONFIG reads or stages BINDING_HOLD and BLOCK_HOLD, or returns the translation counters. -/
  | natBlockConfig (m : Msg)
  /-- NAT_BINDING_READ (R260). NAT_BINDING_READ returns bindings by entry or public endpoint, or a subscriber's blocks. -/
  | natBindingRead (m : Msg)
  /-- NAT_BINDING_RELEASE (R260). NAT_BINDING_RELEASE frees bindings and releases blocks at once, recording each release. -/
  | natBindingRelease (m : Msg)
  /-- BAL_GROUP_SET (R260). BAL_GROUP_SET stages or removes a balancing group and allocates its slot seam. -/
  | balGroupSet (m : Msg)
  /-- BAL_MEMBER_SET (R258). BAL_MEMBER_SET stages or removes a group member and recomputes the slot table. -/
  | balMemberSet (m : Msg)
  /-- BAL_MEMBER_DRAIN (R258). BAL_MEMBER_DRAIN stages a member as DRAINING and recomputes the slot table. -/
  | balMemberDrain (m : Msg)
  /-- BAL_GROUP_READ (R260). BAL_GROUP_READ returns a group's members or slots. -/
  | balGroupRead (m : Msg)
  /-- SUB_WRITE (R260). SUB_WRITE stages or deletes subscriber records, or sets V6_PREFIX_LEN. -/
  | subWrite (m : Msg)
  /-- SUB_READ (R260). SUB_READ returns a subscriber's configuration, blocks or merged counters. -/
  | subRead (m : Msg)
  /-- SUB_POLICY_SET (R242). SUB_POLICY_SET reads or stages policy class records. -/
  | subPolicySet (m : Msg)
  /-- ACTION_WRITE (R260). ACTION_WRITE stages or deletes host-written action entries. -/
  | actionWrite (m : Msg)
  /-- ACTION_READ (R260). ACTION_READ returns action entries. -/
  | actionRead (m : Msg)
  /-- SUB_COUNTER_FLUSH (R241). The on-die subscriber counter cache is added into the subscriber tiles, at least every 100 ms. -/
  | subCounterFlush (hurt : Upsets)
  /-- BRIDGE_ENTRY_SET (R284). BRIDGE_ENTRY_SET stages HOST bridge entries. -/
  | bridgeEntrySet (m : Msg)
  /-- BRIDGE_ENTRY_DELETE (R285). BRIDGE_ENTRY_DELETE stages the removal of a HOST entry, or removes LEARNED entries by key, port or domain. -/
  | bridgeEntryDelete (m : Msg)
  /-- BULK_LEARNED_REMOVAL (R285). The LEARN task removes the LEARNED entries of a port or domain handed to it. -/
  | bulkLearnedRemoval
  /-- BRIDGE_READ (R286). BRIDGE_READ returns bridging entries by key or by index. -/
  | bridgeRead (m : Msg)
  /-- BRIDGE_DOMAIN_SET (R287). BRIDGE_DOMAIN_SET reads or stages domains and port domain settings. -/
  | bridgeDomainSet (m : Msg)
  /-- LEARN_LIMIT_SET (R288). LEARN_LIMIT_SET reads or stages a port's learn limit and excess action. -/
  | learnLimitSet (m : Msg)
  /-- LEARN_CONFIG (R289). LEARN_CONFIG reads or stages ROUTER_MAC, MOVE_GUARD, BRIDGE_AGE and the rings, or returns forwarding counters. -/
  | learnConfig (m : Msg)
  /-- ROUTE_LOAD (R290). ROUTE_LOAD inserts or deletes routes in the shadow, or starts a route build. -/
  | routeLoad (m : Msg)
  /-- ROUTE_BUILD_COMPLETE (R279). A route build finishes and stages its swap root, or ends FAILED. -/
  | routeBuildComplete (hurt : Upsets)
  /-- ROUTE_READ (R291). ROUTE_READ looks up an address, lists routes, or reports route status. -/
  | routeRead (m : Msg)
  /-- NEXTHOP_SET (R292). NEXTHOP_SET stages or deletes next-hop records. -/
  | nexthopSet (m : Msg)
  /-- NEXTHOP_READ (R292). NEXTHOP_READ returns next-hop records. -/
  | nexthopRead (m : Msg)
  /-- QUEUE_CONFIG (R322). QUEUE_CONFIG reads or stages a queue's ALPHA, MIN and MAX. -/
  | queueConfig (m : Msg)
  /-- SHAPER_NODE_SET (R305). SHAPER_NODE_SET stages or removes a subscriber shaping node. -/
  | shaperNodeSet (m : Msg)
  /-- SHAPER_NODE_READ (R322). SHAPER_NODE_READ returns a node's configuration or its bucket and queue state. -/
  | shaperNodeRead (m : Msg)
  /-- SCHED_CONFIG (R322). SCHED_CONFIG reads or stages a port's SP mask, quanta, default class and ceiling. -/
  | schedConfig (m : Msg)
  /-- MIRROR_SET (R313). MIRROR_SET reads, stages or removes a mirror session. -/
  | mirrorSet (m : Msg)
  /-- HOSTRING_SET (R314). HOSTRING_SET configures, enables, disables, reads or reports a copy-to-host ring at once. -/
  | hostringSet (m : Msg)
  /-- BUFFER_STATUS (R322). BUFFER_STATUS returns device or port buffer occupancy and counters. -/
  | bufferStatus (m : Msg)
  /-- BUFFER_THRESHOLD (R322). BUFFER_THRESHOLD reads or stages the subscriber ALPHA and the ingress reserves. -/
  | bufferThreshold (m : Msg)
  /-- TASK_DISPATCH (R333). An idle miner receives the eligible task nearest the head of the most urgent level. -/
  | taskDispatch
  /-- TASK_PREEMPT (R335). A miner asked to yield reaches a preemption point, saves its task and takes the most urgent eligible task, or the request is withdrawn.
  `trail` is what its microwords since the dispatch branched to, `wait` the wait code of the microword reached, `rom` the words corrected. -/
  | taskPreempt (miner : Nat) (trail : List MicroOp) (wait : Nat) (rom : Nat)
  /-- TASK_COMPLETE (R329). An event task completes and releases its miner and slot. -/
  | taskComplete (miner : Nat) (trail : List MicroOp) (wait : Nat) (rom : Nat)
  /-- TASK_PARK (R329). A standing task with no work parks on wait code 0x09 and releases its miner. -/
  | taskPark (miner : Nat) (trail : List MicroOp) (rom : Nat)
  /-- TASK_PROMOTE (R337). A lagging sweep or scrub is promoted to level 0 until its lag is cleared. -/
  | taskPromote
  /-- MINER_FAULT (R327). A miner fault withdraws the miner for good and restarts its task on another miner: the word that `trail` leads to
  is uncorrectable, or the trail breaks the return stack on the way. -/
  | minerFault (miner : Nat) (rom : Nat) (trail : List MicroOp) (wait : Nat)
  /-- MINER_STATUS (R346). MINER_STATUS returns ready lists, miner and type entries and scheduler counters. -/
  | minerStatus (m : Msg)
  /-- MINER_TASK_LEVEL (R347). MINER_TASK_LEVEL reads or stages a task type's level, MAX_MINERS and FLOW_SLOTS. -/
  | minerTaskLevel (m : Msg)
  /-- MINER_TRACE_READ (R349). MINER_TRACE_READ peeks at or takes scheduling trace entries. -/
  | minerTraceRead (m : Msg)
  /-- MINER_TRACE_CONFIG (R348). MINER_TRACE_CONFIG reads or sets the trace mode and filters, emptying the ring on SET. -/
  | minerTraceConfig (m : Msg)
  /-- WRITE_BATCH_ISSUE (R354). A channel issues a batch of queued writes, as idle writes or as drain. -/
  | writeBatchIssue (channel : Nat)
  /-- REFRESH (R357). A refresh instant stalls all device memory traffic for 350 ns while all banks are refreshed. -/
  | refreshBanks
  /-- STACK_TEMP_READ (R358). The controller reads each stack's temperature and switches refresh mode from the next instant. -/
  | stackTempRead (t0 : Int) (t1 : Int)
  /-- CHANNEL_LOST (R462). A stack channel fails in service; its tiles are retired and the standing fault is raised. -/
  | channelLost (channel : Nat)
  /-- FREE_TILE_CLEAR (R365). Tiles returning to free space are written with the invalid pattern and count as free once acknowledged. -/
  | freeTileClear
  /-- MEM_PLAN_READ (R369). MEM_PLAN_READ returns the regions and free space. -/
  | memPlanRead (m : Msg)
  /-- MEM_REGION_GROW (R364). MEM_REGION_GROW reserves free runs and stages the growth of a region. -/
  | memRegionGrow (m : Msg)
  /-- MEM_STATUS (R369). MEM_STATUS reads or sets the write-queue watermarks, or returns memory status. -/
  | memStatus (m : Msg)
  /-- MEM_RETIRED_READ (R369). MEM_RETIRED_READ lists retired tiles, rows and channels. -/
  | memRetiredRead (m : Msg)
  /-- SEAM_CREATE (R369). SEAM_CREATE allocates a host seam from free space or over a range of DMA scratch. -/
  | seamCreate (m : Msg)
  /-- SEAM_GROUP (R369). SEAM_GROUP makes a group seam of host seams. -/
  | seamGroup (m : Msg)
  /-- SEAM_READ (R369). SEAM_READ returns tiles of a seam after assay. -/
  | seamRead (m : Msg)
  /-- SEAM_FILL (R367). SEAM_FILL starts a job that fills a host seam with a pattern. -/
  | seamFill (m : Msg)
  /-- SEAM_COMPARE (R367). SEAM_COMPARE starts a job that compares a seam with another or with a pattern. -/
  | seamCompare (m : Msg)
  /-- SEAM_CHECK (R367). SEAM_CHECK starts a job that assays every tile of a seam. -/
  | seamCheck (m : Msg)
  /-- SEAM_JOB_COMPLETE (R367). A seam fill, compare or check job finishes and its result becomes readable. -/
  | seamJobComplete (job : Nat) (hurt : Upsets)
  /-- SEAM_RETIRE (R369). SEAM_RETIRE releases a host seam, its descriptors and its tiles. -/
  | seamRetire (m : Msg)
  /-- SEAM_SWAP_ROOT (R369). SEAM_SWAP_ROOT exchanges the tiles or members of two host seams. -/
  | seamSwapRoot (m : Msg)
  /-- SEAM_INFO (R369). SEAM_INFO describes a seam or a job. -/
  | seamInfo (m : Msg)
  /-- SECURE_MEM_PLAN (R363). SECURE_MEM_PLAN replaces the memory plan in INIT, rebuilds the region seams and starts clearing device memory. -/
  | secureMemPlan (m : Msg)
  /-- TIME_READ (R391). TIME_READ returns the time counter, flow clock, residence clock and INC sampled in one cycle. -/
  | timeRead (m : Msg)
  /-- TIME_STEP (R373). TIME_STEP applies an offset or set step to the time counter, or refuses it against the jump limit. -/
  | timeStep (m : Msg)
  /-- TIME_INC_SET (R391). TIME_INC_SET reads or sets the increment. -/
  | timeIncSet (m : Msg)
  /-- TIME_JUMP_LIMIT (R391). TIME_JUMP_LIMIT reads or sets the jump limit. -/
  | timeJumpLimit (m : Msg)
  /-- TIME_PPS_CONFIG (R391). TIME_PPS_CONFIG reads or sets PPS input and output. -/
  | timePpsConfig (m : Msg)
  /-- TIME_PTP_CONFIG (R391). TIME_PTP_CONFIG reads, stages or reports the device and port PTP settings. -/
  | timePtpConfig (m : Msg)
  /-- TIME_CAL (R391). TIME_CAL reads or sets a port's board delays. -/
  | timeCal (m : Msg)
  /-- TIME_RCLK_CONFIG (R391). TIME_RCLK_CONFIG reads or sets the recovered-clock lane, divider and enable. -/
  | timeRclkConfig (m : Msg)
  /-- TIME_SNAP (R388). A write of SNAP latches the time counter and flow clock into the function's snapshot registers. -/
  | timeSnap (pf1 : Bool)
  /-- TIME_INC_LO_WRITE (R389). A write of TIME_INC_LO forms INC from both halves and submits it, or sets INC_REFUSED. -/
  | timeIncLoWrite (v : W32)
  /-- PPS_IN_CAPTURE (R384). A filtered PPS_IN edge captures the time counter, counts the capture, and may set PPS_OVERRUN. -/
  | ppsInCapture (rising : Bool)
  /-- PPS_OUT_EDGE (R385). The time counter crosses the output offset and PPS_OUT rises, then falls after the width. -/
  | ppsOutEdge
  /-- RCLK_RESUME (R386). After 10 ms of continuous lock a squelched RCLK_OUT resumes. -/
  | rclkResume
  /-- TELEMETRY_ASSEMBLE (R397). A TELEMETRY task assembles a record of template 256, 257 or 259 into staging. -/
  | telemetryAssemble
  /-- TAILINGS_DRAIN (R397). The TAILINGS task takes a tailings record and assembles its template 256 record. -/
  | tailingsDrain
  /-- SUB_INTERVAL_RECORD (R402). A paced subscriber interval record of template 259 is emitted for the next defined subscriber. -/
  | subIntervalRecord
  /-- TELEM_FLUSH_EXPIRE (R403). A message's oldest record has waited FLUSH and the message is sent. -/
  | telemFlushExpire (ringPath : Bool)
  /-- TEMPLATE_INTERVAL_EXPIRE (R404). TEMPLATE_INTERVAL passes and template sets are sent again on the collector path. -/
  | templateIntervalExpire
  /-- COLLECTOR_RETRY (R405). A held collector path retries, every 1 us, to build and admit its message. -/
  | collectorRetry
  /-- COUNTER_DUMP (R412). The dump period ends and all counters, and optionally the windows, are latched and written to the dump ring. -/
  | counterDump
  /-- BWWIN_END (R411). A port's bandwidth window ends and its last and peak values are updated. -/
  | bwwinEnd (port : Nat)
  /-- TELEM_COLLECTOR_SET (R414). TELEM_COLLECTOR_SET reads or sets the collector path. -/
  | telemCollectorSet (m : Msg)
  /-- TELEM_ENABLE (R414). TELEM_ENABLE reads or sets template destinations, sampling, the interval and the telemetry ring. -/
  | telemEnable (m : Msg)
  /-- TELEM_STATUS (R414). TELEM_STATUS returns staging occupancy, path state and telemetry counters. -/
  | telemStatus (m : Msg)
  /-- COUNTER_PROGRAM (R410). COUNTER_PROGRAM programs or resets performance counters in one cycle. -/
  | counterProgram (m : Msg)
  /-- COUNTER_READ (R409). COUNTER_READ latches counters and clears their flags when asked. -/
  | counterRead (m : Msg)
  /-- COUNTER_DUMP_CONFIG (R414). COUNTER_DUMP_CONFIG configures, enables, disables, reads or reports the dump ring. -/
  | counterDumpConfig (m : Msg)
  /-- BWWIN_CONFIG (R414). BWWIN_CONFIG reads or sets a port's window size and restarts its windows. -/
  | bwwinConfig (m : Msg)
  /-- BWWIN_READ (R414). BWWIN_READ returns ports' last and peak window values. -/
  | bwwinRead (m : Msg)
  /-- DMA_CH_TAIL_WRITE (R428). A write of DMA_CH_TAIL by the owner makes new descriptors available to a DESCRIPTOR channel. -/
  | dmaChTailWrite (pf1 : Bool) (channel : Nat) (v : W32)
  /-- DMA_CH_ENABLE (R428). A write of ENABLE lets a channel run, or makes it IDLE after its work in progress. -/
  | dmaChEnable (pf1 : Bool) (channel : Nat) (v : W32)
  /-- DMA_CH_RESTART (R434). RESTART makes a STOPPED channel RUNNING from HEAD. -/
  | dmaChRestart (pf1 : Bool) (channel : Nat)
  /-- SEC_DMA_OWNER_WRITE (R427). A write of SEC_DMA_OWNER changes a channel's owner only while it is IDLE, disabled and unattached. -/
  | secDmaOwnerWrite (pf1 : Bool) (v : W32)
  /-- ERRLOG_SELECT_WRITE (R423). A write of ERRLOG_SELECT latches one entry into ERRLOG_ENTRY0-7. -/
  | errlogSelectWrite (pf1 : Bool) (v : W32)
  /-- DMA_DESCRIPTOR_START (R430). A fetched descriptor is checked and starts moving data, or ends with a refusal status. -/
  | dmaDescriptorStart (channel : Nat) (desc : Bytes)
  /-- DMA_UNIT_CONFIRM (R433). A tile write acknowledgement or a flush read return confirms units of a transfer. -/
  | dmaUnitConfirm (channel : Nat) (units : Nat)
  /-- DMA_DESCRIPTOR_END (R434). A descriptor ends; its completion record is written, HEAD advances and the IRQ bits are set. -/
  | dmaDescriptorEnd (channel : Nat)
  /-- DMA_BUS_ERROR (R440). A UR, CA, poisoned completion or completion timeout halts the whole DMA engine. -/
  | dmaBusError (cause : Nat) (channel : Nat) (address : W64)
  /-- SNAPSHOT_HOLD_EXPIRE (R438). A seam's snapshot hold ends after 100 ms with no SNAP descriptor started. -/
  | snapshotHoldExpire (desc : Nat)
  /-- DMA_RESUME (R447). DMA_RESUME returns halted channels to RUNNING, or ends a fully issued descriptor ERROR. -/
  | dmaResume (m : Msg)
  /-- DMA_ABANDON (R448). DMA_ABANDON ends the current descriptors of the named channels as ABANDONED. -/
  | dmaAbandon (m : Msg)
  /-- DMA_STATUS (R446). DMA_STATUS returns the engine block and every channel entry. -/
  | dmaStatus (m : Msg)
  /-- HEARTBEAT_SEND (R487). A pair member sends a heartbeat on each peer lane every 100 us. -/
  | heartbeatSend
  /-- HEARTBEAT_RECEIVE (R494). A received heartbeat is judged for divergence, a split or RELINQUISH. -/
  | heartbeatReceive (h : Heartbeat)
  /-- PEER_LOST (R487). 300 us without a heartbeat declares the peer failed; the member becomes SOLO and a secondary takes over. -/
  | peerLost
  /-- JOIN_REQUEST (R488). A peer receives a join request, and on success adopts the primary's plan and seeds and enters JOINED. -/
  | joinRequest (j : JoinFacts)
  /-- PAIR_PREPARE (R491). The secondary receives PREPARE, seals its shadow and answers ready. -/
  | pairPrepare (epoch : W16)
  /-- PAIR_COMMIT (R491). The secondary receives COMMIT and applies the new epoch at its own boundary. -/
  | pairCommit (epoch : W16)
  /-- JOURNAL_APPLY (R492). A JOURNAL_APPLY task applies a journal record on the secondary in journal order. -/
  | journalApply (kind : Nat) (tile : Nat) (payload : Bytes)
  /-- REJOIN_COMPLETE (R497). The rejoin lag falls to 10 us; both members become JOINED and the primary starts or resumes the peer. -/
  | rejoinComplete (copy : Option Machine.PairCopy)
  /-- PAIR_JOIN (R488). PAIR_JOIN forms a pair with the peer in INIT. -/
  | pairJoin (m : Msg)
  /-- PAIR_LEAVE (R498). PAIR_LEAVE ends the pair on this device and on its peer. -/
  | pairLeave (m : Msg)
  /-- PAIR_STATUS (R501). PAIR_STATUS returns pair state, peer data, journal state and pair counts. -/
  | pairStatus (m : Msg)
  /-- PAIR_REJOIN (R497). PAIR_REJOIN starts bringing a peer back into the pair by journal and copy. -/
  | pairRejoin (m : Msg)
  /-- PAIR_CONFIG (R501). PAIR_CONFIG reads or sets AUTO_TAKEOVER, AUTO_RESYNC and LAG_ALARM. -/
  | pairConfig (m : Msg)
  /-- ERRLOG_READ (R501). ERRLOG_READ returns error-log entries, oldest first. -/
  | errlogRead (m : Msg)
  /-- ERRLOG_CLEAR (R481). ERRLOG_CLEAR removes the oldest entries or clears class counts and records. -/
  | errlogClear (m : Msg)
  /-- ERRLOG_CLASS_READ (R501). ERRLOG_CLASS_READ returns each class's counts and first and last records. -/
  | errlogClassRead (m : Msg)
  /-- ERRLOG_STATUS (R501). ERRLOG_STATUS returns the log's occupancy and counts. -/
  | errlogStatus (m : Msg)
  /-- DROOP_N_FALL (R505). DROOP_N falls and droop stage 1 is entered within 2 ns. -/
  | droopNFall
  /-- DROOP_N_RISE (R506). DROOP_N is released and the hysteresis before the stage falls starts. -/
  | droopNRise
  /-- DROOPN_DELAY_EXPIRE (R505). DROOP_N has been low for DROOPN_DELAY and stage 2 is entered. -/
  | droopnDelayExpire
  /-- MONITOR_UNDERVOLTAGE (R505). An on-die monitor reads below a margin and stage 1 or 2 is entered within 2 ns. -/
  | monitorUndervoltage (monitor : Nat) (mv : Nat)
  /-- DROOP_STAGE_FALL (R506). The causes of a stage have been absent for 10 us and the stage falls by one. -/
  | droopStageFall
  /-- DIE_SENSOR_READ (R515). The on-die sensors are read every 10 us and thermal limits are raised or cleared. -/
  | dieSensorRead (readings : DieSensors)
  /-- SECURE_POWER_PROFILE (R512). SECURE_POWER_PROFILE reads or sets the power-cap profile at once, holding lanes down or releasing them. -/
  | securePowerProfile (m : Msg)
  /-- POWER_STATUS (R518). POWER_STATUS returns profile, droop stage, ceiling, voltages, power and droop counters. -/
  | powerStatus (m : Msg)
  /-- CLOCK_STATUS (R518). CLOCK_STATUS returns reference and PLL lock and cycle counts. -/
  | clockStatus (m : Msg)
  /-- THERMAL_READ (R518). THERMAL_READ returns temperatures, raised limits and THERM_N. -/
  | thermalRead (m : Msg)
  /-- DROOP_CONFIG (R518). DROOP_CONFIG reads or sets the droop sources, margins, delay and WARN. -/
  | droopConfig (m : Msg)
  /-- SECURE_CONFIG_LOCK (R471). SECURE_CONFIG_LOCK reads, sets, sets sticky or releases the configuration lock. -/
  | secureConfigLock (m : Msg)
  /-- SECURE_IDENTITY (R472). SECURE_IDENTITY returns the identity, ROM digest and attestation key, or sets the node label. -/
  | secureIdentity (m : Msg)
  /-- SECURE_ATTEST (R473). SECURE_ATTEST signs a statement of the device's state with the host's nonce. -/
  | secureAttest (m : Msg)
  /-- GPIO3_TOGGLE (R528). GPIO3 toggles every 500 ms of flow clock from INIT onward. -/
  | gpio3Toggle
  /-- REGISTER_READ (R7). A read of a _LO register latches its _HI partner, and reads such as TIME_PPS_NS mark a capture as read. -/
  | registerRead (pf1 : Bool) (off : Nat) (size : Nat := 4)
  /-- CONFIG_SPACE_WRITE (R426). A host write to a function's configuration space changes its Bus Master Enable, power state or completion timeout, stopping or resuming its DMA channels and vectors. -/
  | configSpaceWrite (pf1 : Bool) (control : PciControl) (d3hot : Bool) (timeout : Nat)
  /-- DMA_BURST (R444). The DMA engine serves its next channel with work, issuing one burst of a running descriptor and the periodic flush read. -/
  | dmaBurst (hurt : Upsets)
  /-- DMA_READ_COMPLETION (R429). A good completion of a DMA data or pattern read arrives from the host and its units are written as tiles. -/
  | dmaReadCompletion (channel : Nat) (pattern : Bool) (data : Bytes)
  /-- PPS_OUT_FALL (R385). The PPS_OUT output width expires and the ball falls. -/
  | ppsOutFall
  /-- PEER_MAILBOX_FLAGS (R63). A link control word brings the peer's TAKEN, TIMEOUT or OUT_STATUS flag for the PEER channel, and a withdrawn forwarded command is judged a divergence. -/
  | peerMailboxFlags (taken : Bool) (timeout : Bool) (outStatus : Bool)
  /-- PAIR_READY (R491). The primary receives the secondary's ready answer to PREPARE and sends COMMIT naming the new epoch. -/
  | pairReady
  /-- PAIR_APPLY_CONFIRM (R491). The primary receives the secondary's confirmation that it applied the commit and places the EPOCH_COMMIT reply. -/
  | pairApplyConfirm
  /-- REJOIN_REQUEST (R497). A peer in INIT or RECOVER receives a rejoin from a SOLO primary, adopts its plan and seeds if in INIT, and starts holding journal records and copies. -/
  | rejoinRequest (j : JoinFacts)
  deriving DecidableEq, Repr

end Sys2Proof
end

