-- ==== Sys2Proof/Config.lean ====
section
/-!
DEFINITION. What is fixed in one device and what the spec leaves open: fused values, and free values with no body.
-/
namespace Sys2Proof

/-- R466, Table 15.3: the die serial number, fused. -/
opaque Config.serial : W64
/-- R456, R472: SHA-384 digest of the ROMs, fused; its n-th byte. -/
opaque Config.romDigestByte : Nat → Byte
/-- R472: the attestation public key; its n-th byte. -/
opaque Config.attestKeyByte : Nat → Byte
/-- R473: the signature over a statement; its n-th byte (0-95: r then s). -/
opaque Config.signatureByte : Bytes → Nat → Byte
/-- R404: the IPFIX enterprise number the templates carry. -/
opaque Config.enterprise : W32
/-- Values the spec leaves open, by the number of the draw (R204, R266, R215). -/
opaque Config.freeWord : Nat → W32
/-- R25: bytes of a rule-store tile, built by the miners and not documented: from the rules, the tile's ordinal and the byte. -/
opaque Config.storeByte : List Bytes → Nat → Nat → Byte
/-- R400: requests that the assembly queue holds; the spec gives no depth. -/
opaque Config.assemblyDepth : Nat
/-- R14: the way of its set in which an action entry is placed in the action cache, by the number of the draw. -/
opaque Config.cacheWay : Nat → Nat

/-- R534: what the boundary register captures of the balls whose level the spec leaves to the board, by the number of the draw. -/
opaque Config.ballBits : Nat → BitVec 294

/-- R513: the fused VCORE set-point, as its number of 5 mV steps above 0.70 V (0-20). -/
opaque Config.vcoreStep : Nat
/-- R513: the VCORE set-point in mV. -/
def Config.vcoreSetPoint : Nat := 700 + 5 * (Config.vcoreStep % 21)

end Sys2Proof
end

