-- ==== Sys2Proof/Machine/TypesLife.lean ====
section
/-!
DEFINITION. State of the life cycle, the error log, the pair, power and clocks, and the balls and the TAP (spec 16-19).
-/
namespace Sys2Proof.Machine

/-- Device states (Table 2.6), codes 0-7 in this order. -/
inductive DevState where
  | off | reset | boot | init | service | degraded | recover | test
  deriving DecidableEq, Repr

/-- The straps as sampled (R456): CFG0-CFG3. -/
structure Straps where
  cfg0 : Bool
  cfg1 : Bool
  cfg2 : Bool
  cfg3 : Bool
  deriving DecidableEq, Repr

/-- A clearing in progress (R363, R469): none, after a test exit, or after SECURE_MEM_PLAN. -/
inductive Clearing where | none | testExit | plan
  deriving DecidableEq, Repr

/-- Device life cycle (spec 16). -/
structure Life where
  /-- 16 R453: device state, 8 codes. Reset RESET -/
  state : DevState
  /-- 16 R467 DEVICE_STATUS previous state. Reset RESET -/
  prev : DevState
  /-- 16 R467: instant at which the state was entered, ns. Reset 0 -/
  since : Nat
  /-- 16 R467: boot duration, ms, 32 b. Reset 0 -/
  bootMs : Nat
  /-- 16 R456: straps sampled, 4 b. Reset: as the balls (all low; DESIGN CHOICE, log 11) -/
  straps : Straps
  /-- 16 R456: stack class found fitted (HB = true); none before boot step 4. Reset none -/
  fitted : Option Bool
  /-- 16 R466: class mismatch, 1 b. Reset 0 -/
  mismatch : Bool
  /-- 16 R455: STRAP_FAULT, CFG2 disagrees or CFG3 is high, 1 b. Reset 0 -/
  strapFault : Bool
  /-- 16 R457: boot failure code 1-4. Reset none -/
  bootFail : Option Nat
  /-- 16 R462: standing faults, 5 b (CHANNEL_LOST, MINER_WITHDRAWN, PAIR_SOLO, PEER_LANE_DOWN, THERMAL). Reset 0 -/
  faults : BitVec 5
  /-- 16 R463: recover causes, 3 b (DMA_STACK, STACKS_LOST, PEER_INCONSISTENT). Reset 0 -/
  causes : BitVec 3
  /-- 16 R468: a commit has been accepted since INIT, 1 b. Reset 0 -/
  committed : Bool
  /-- 16 R469, 12 R363: CLEARING. Reset none -/
  clearing : Clearing
  /-- 16 R471: lock, 1 b; sticky, 1 b. Reset 0, 0 -/
  lock : Bool
  sticky : Bool
  /-- 16 R472: node label, 32 B. Reset 0 -/
  label : Bytes
  /-- 16 R456, 12 Table 12.8: tiles retired at boot (32 b); SRAM rows repaired (16 b). Reset 0 -/
  bootRetired : Nat
  sramRepaired : Nat
  /-- 12 R361: channel lost in service since boot, 1 b. Reset 0 -/
  lostInService : Bool
  deriving DecidableEq, Repr

/-- What is kept for one error class (R477). -/
structure ErrClass where
  /-- 17 R477: occurrences and unrecorded, 32 b, saturating. Reset 0 -/
  occ : Nat
  unrec : Nat
  /-- 17 R477: first and last records. Reset none -/
  first : Option Bytes
  last : Option Bytes
  /-- 17 R477: instant (ns) of the last entry written in the ring. Reset none -/
  wrote : Option Nat
  /-- 17 R477: repeats since the class's last entry in the ring. Reset 0 -/
  repeats : Nat
  deriving DecidableEq, Repr

/-- The error log (R475-R482). -/
structure ErrLog where
  /-- 17 R476, R479: up to 1,024 entries of 32 B, oldest first. Reset empty -/
  entries : List Bytes
  /-- 17 R481: ring index of the oldest entry, 10 b. Reset 0 -/
  oldest : Nat
  /-- 17 R501 ERRLOG_STATUS: entries written since RESET_N rose, 32 b. Reset 0 -/
  written : W32
  /-- 17 R475, R477: classes 0x01-0x14. Reset zero -/
  classes : List ErrClass
  deriving DecidableEq, Repr

/-- Pair states (R485). -/
inductive PairState where | none | joined | solo | syncing | diverged
  deriving DecidableEq, Repr
/-- Role of a pair member. -/
inductive Role where | none | primary | secondary
  deriving DecidableEq, Repr

/-- A journal record (R492): its sequence number, its kind (0 tile, 1 forwarded command, 2 commit, 3 block map entry), the tile or slot
it writes, its content and the time of the change. -/
structure JournalRec where
  seq : Nat
  kind : Nat
  tile : Nat
  payload : Bytes
  time : Nat
  deriving DecidableEq, Repr

/-- Sender side of the PEER channel (R63): what the far device's flags say. -/
structure PeerChannel where
  pending : Bool
  taken : Bool
  timeout : Bool
  outStatus : Bool
  deriving DecidableEq, Repr

/-- The pair (spec 17). -/
structure Pair where
  /-- 17 R485: pair state. Reset NONE -/
  state : PairState
  /-- 17 R485: role. Reset none -/
  role : Role
  /-- 17 R498: a former secondary holds its front ports DISABLED until its next EPOCH_COMMIT, 1 b. Reset 0 -/
  portsHeld : Bool
  /-- 17 R487, R501: peer device state, epoch, commit sequence, serial number as last heard. Reset 0 -/
  peerState : Nat
  peerEpoch : W16
  peerSeq : W32
  peerSerial : W64
  /-- 02 R74 PEER_DRAINING, and the pair state code last heard. Reset 0 -/
  peerDraining : Bool
  peerPair : Nat
  /-- 17 R488: what the peer last told for a join. Reset: nothing told (a peer in RESET) -/
  peerFacts : JoinFacts
  /-- 17 R483: peer lane PRI_EAST, PRI_WEST failed; instant a lane's link came up again. Reset 0 -/
  laneDown0 : Bool
  laneDown1 : Bool
  laneUp0 : Option Nat
  laneUp1 : Option Nat
  /-- 17 R487: instant of the last heartbeat received and of the last sent; heartbeats are present. Reset none -/
  heard : Option Nat
  beat : Nat
  /-- 03 R101: own heartbeats that PMA_NEAR or PCS_NEAR returns to the receiver of lane 24, of lane 25. Reset none -/
  own0 : Option Heartbeat
  own1 : Option Heartbeat
  /-- 17 R496 RELINQUISH, 1 b. Reset 0 -/
  relinquish : Bool
  /-- 17 R492: journal records held here (sent and not acknowledged, or received and not applied), oldest first. Reset empty -/
  journal : List JournalRec
  /-- 17 R492: journal sequence sent or received last; applied last, 32 b. Reset 0 -/
  jSeq : Nat
  jApplied : Nat
  /-- 17 R497, R501: rejoin sequence since INIT, 32 b. Reset 0 -/
  rejoinSeq : W32
  /-- 17 R493: the syncing in progress is a resync, 1 b. Reset 0 -/
  resync : Bool
  /-- 17 R497: the copy of the live regions has been sent (primary) or taken (peer), 1 b. Reset 0 -/
  copied : Bool
  /-- 17 R501: tiles copied by the rejoin or resync, 32 b. Reset 0 -/
  tilesCopied : Nat
  /-- 17 R497: a peer in a rejoin holds journal records without applying them, 1 b. Reset 0 -/
  holding : Bool
  /-- 17 R494: role at the last join or rejoin. Reset none -/
  joinedAs : Role
  /-- 17 R494, Table 17.5: cause of the divergence this member has judged, for its heartbeats. Reset 0 -/
  cause : Nat
  /-- 17 R501: failovers and rejoins completed since INIT, 32 b, saturating. Reset 0 -/
  failovers : Nat
  rejoins : Nat
  /-- 17 R501: AUTO_TAKEOVER, AUTO_RESYNC, LAG_ALARM (us). Reset 1, 1, 100 -/
  autoTakeover : Bool
  autoResync : Bool
  lagAlarm : Nat
  /-- 17 R499, R501: pair event count, 32 b, and the value last returned through each channel 0-3. Reset 0 -/
  events : W32
  seen : List W32
  /-- 17 R491: the secondary's sealed shadow waits for COMMIT with the epoch named. Reset none -/
  prepared : Option W16
  /-- 17 R491: the primary's EPOCH_COMMIT that waits for ready, then for the confirmation. Reset none -/
  commitMsg : Option Msg
  commitSent : Bool
  /-- 02 R63: the sender side of the PEER channel. Reset clear -/
  out : PeerChannel
  /-- 17 R497: live state is stale after a refused or abandoned rejoin (LIVE_STALE), 1 b. Reset 0 -/
  stale : Bool
  /-- 17 R493: live records discarded with the pair, 32 b. Reset 0 -/
  discarded : Nat
  deriving DecidableEq, Repr

/-- Power, clocks and thermal state (spec 18). -/
structure Power where
  /-- 18 R510: profile, 0-2. Reset 0 (FULL) -/
  profile : Nat
  /-- 18 R505: droop stage, 0-2. Reset 0 -/
  stage : Nat
  /-- 18 R505: instant DROOP_N fell; none while high. Reset none -/
  droopLow : Option Nat
  /-- 18 R506: instant since which the causes of the stage in force are absent; none while one holds. Reset none -/
  absent : Option Nat
  /-- 18 R513, R518: last readings of VCORE by the four monitors, mV, and the lowest since cleared. Reset: set point (log 12) -/
  monitors : List Nat
  lowest : List Nat
  /-- 18 R518 DROOP_CONFIG: MONITOR_EN, DROOPN_EN; margins 40, 70 mV; DROOPN_DELAY 2 us; WARN 105 C. Reset as given -/
  monitorEn : Bool
  droopEn : Bool
  margin1 : Nat
  margin2 : Nat
  delayUs : Nat
  warn : Nat
  /-- 18 R514: readings of the eight on-die sensors, 1/4 C, and the peak of the die temperature since INIT. Reset 0 (DESIGN CHOICE 0, log 4),
  none -/
  sensors : DieSensors
  diePeak : Option Int
  /-- 18 R515: thermal limits raised, 5 b. Reset 0 -/
  limits : BitVec 5
  /-- 18 R518: instant since which a limit is raised, and ns accumulated. Reset none, 0 -/
  limitSince : Option Nat
  limitNs : Nat
  /-- 18 R518: STAGE1_ENTRIES, STAGE2_ENTRIES (32 b), time in stages 1 and 2 (ns), instant the stage was entered. Reset 0 -/
  entries1 : Nat
  entries2 : Nat
  time1 : Nat
  time2 : Nat
  stageSince : Nat
  /-- 18 R508: ADMIT_OVERFLOW of pipelines 0 and 1, 64 b. Reset 0 -/
  overflow0 : W64
  overflow1 : W64
  /-- 18 R518: root PLL locked, reference clock and PCIe reference present, lane PLLs locked (26 b). Reset 0, 1, 1 (DESIGN CHOICE, log 4), 0 -/
  rootLock : Bool
  refOk : Bool
  pcieRef : Bool
  laneLock : BitVec 26
  /-- 18 R518: core cycles and time cycles counted, 64 b. Reset 0 -/
  coreCycles : W64
  timeCycles : W64
  deriving DecidableEq, Repr

/-- The balls the device reads or holds a level on, and the TAP (spec 19). -/
structure Pins where
  /-- 19 R525: RESET_N, PWR_OK, PERST_N levels, 1 b each. Reset low, low, low (DESIGN CHOICE low for the last two, log 11) -/
  resetN : Bool
  pwrOk : Bool
  perstN : Bool
  /-- 19 R525: CFG0-CFG3 levels. Reset low (DESIGN CHOICE, log 11) -/
  cfg : Straps
  /-- 19 R505: DROOP_N level, 1 b. Reset high -/
  droopN : Bool
  /-- 19 R528: GPIO3 level and the instant of its last toggle. Reset low, 0 -/
  gpio3 : Bool
  gpio3At : Nat
  /-- 19 R532: TAP instruction register, 8 b. Reset IDCODE 0x01 (PRESUMED, the value IEEE 1149.1 gives Test-Logic-Reset; log 13) -/
  tapInstr : Byte
  /-- 19 R534: boundary register, 294 b. Reset 0 (DESIGN CHOICE, log 13) -/
  boundary : BitVec 294
  deriving DecidableEq, Repr

end Sys2Proof.Machine
end

