-- ==== Sys2Proof/Machine/TypesCore.lean ====
section
/-!
DEFINITION. State of the command protocol, the epoch and device memory (spec 01, 02, 12).
-/
namespace Sys2Proof.Machine

/-- A reply before it is laid out (Table 2.4). -/
structure Reply where
  opcode : W16
  tag    : W16
  status : W16
  epoch  : W16
  detail : W16
  params : Bytes
  deriving DecidableEq, Repr

/-- Why a channel's command waits without holding the interpreter (R42, R61). -/
inductive Waiting where
  /-- Executed and forwarded by the primary; `reply` is this device's own reply (R489), after which the command's transition takes effect
  (R464). -/
  | peer (msg : Msg) (reply : Reply) (enters : Option DevState)
  /-- An EPOCH_COMMIT of a pair's primary (R491): the reply, once its own boundary has been set. -/
  | commit (msg : Msg) (reply : Option Reply)
  /-- A flow command stopped before record `rec` until the flow's DRAM request ends (R199, R228), or, with the interpreter held, until
  another placement's claim ends (R206); or a LOAD_SEAM, the interpreter held, until its task has loaded the nodes (R130, R328). -/
  | flow (op : Nat) (msg : Msg) (rec : Nat) (held : Bool)
  deriving DecidableEq, Repr

/-- One sender channel (R41, R53). -/
structure Channel where
  /-- 02 R41: inbound buffer, 4,096 x 8 b. Reset: every byte 0 (DESIGN CHOICE 0, log 1) -/
  inbound : Memory
  /-- 02 R56: outbound buffer, 4,096 x 8 b; bytes past the list read 0. Reset: zero -/
  outbound : Bytes
  /-- 02 R53 PENDING, 1 b. Reset 0 -/
  pending : Bool
  /-- 02 R53 TAKEN, 1 b. Reset 0 -/
  taken : Bool
  /-- 02 R53 TIMEOUT, 1 b. Reset 0 -/
  timeout : Bool
  /-- 02 R53 WRITE_LOST, 1 b. Reset 0 -/
  writeLost : Bool
  /-- 02 R53 DOORBELL_LOST, 1 b. Reset 0 -/
  doorbellLost : Bool
  /-- 02 R53, R57 TIMER_RUN, 1 b, with the instant the timer started and its length in ns. Reset 0 -/
  timer : Option (Nat × Nat)
  /-- 02 R61: reply queue, up to 16 replies of up to 4,096 B. Reset: empty (QUEUED 0) -/
  replies : List Bytes
  /-- 02 R53 OUT_STATUS, 1 b. Reset 0 -/
  outStatus : Bool
  /-- 02 R53 MBX_IRQ_CTL.TAKEN_IE, 1 b. Reset 0 -/
  takenIE : Bool
  /-- 02 R53 MBX_IRQ_CTL.REPLY_IE, 1 b. Reset 0 -/
  replyIE : Bool
  /-- 02 R53, R59 TIMEOUT_MS, 14 b. Reset 10 -/
  timeoutMs : Nat
  /-- 02 R59: timeout in force when the pending message was rung, in ms, 14 b. Reset 10 -/
  rungMs : Nat
  /-- 02 R42, R61: the command of the channel that waits, if any. Reset: none -/
  waiting : Option Waiting
  /-- 15 R425: the reply of the waiting command is discarded, 1 b. Reset 0 -/
  discard : Bool
  deriving DecidableEq, Repr

/-- The interpreter and the epoch (spec 02). -/
structure Epoch where
  /-- 01 R31: current epoch number, 16 b. Reset 0 (DESIGN CHOICE 0, log 2) -/
  current : W16
  /-- 02 R69: shadow change count, 32 b, wrapping. Reset 0 -/
  changes : W32
  /-- 02 R73: commit sequence, 32 b, commits since INIT. Reset 0 -/
  sequence : W32
  /-- 02 R74: commits refused with BUSY_EPOCH since INIT, 32 b, saturating. Reset 0 -/
  refused : Nat
  /-- 02 R74: time counter at the last boundary, seconds [31:0] and nanoseconds. Reset 0 -/
  lastSec : W32
  lastNs : W32
  /-- 02 R42: the channel code the interpreter took from last, for the round. Reset 3 (HOST_S is next; DESIGN CHOICE, log 3) -/
  lastTaken : Nat
  /-- 14 Table 14.6: commands executed, and messages withdrawn by timeout, 64 b. Reset 0 -/
  executed : W64
  withdrawn : W64
  deriving DecidableEq, Repr

/-- State of a seam job (Table 12.7). -/
inductive JobState where | none | running | done
  deriving DecidableEq, Repr
/-- Operation of a seam job (Table 12.7). -/
inductive JobOp where | fill | compare | check
  deriving DecidableEq, Repr

/-- One of the eight seam jobs (R367). -/
structure Job where
  state : JobState
  op : JobOp
  a : Nat
  /-- Second seam of a compare; none against the pattern. -/
  b : Option Nat
  pattern : Bytes
  done : Nat
  bad : Nat
  /-- First mismatching or faulting ordinal. -/
  first : Option Nat
  start : Nat
  elapsedMs : Nat
  deriving DecidableEq, Repr

/-- One entry of the retired list (MEM_RETIRED_READ). -/
structure Retired where
  kind : Nat
  source : Nat
  space : Nat
  stack : Nat
  index : Nat
  clock : W64
  deriving DecidableEq, Repr

/-- One stack channel (Table 12.8). -/
structure StackChannel where
  lost : Bool
  repaired : Nat
  deriving DecidableEq, Repr

/-- The memory controller and device memory (spec 01, 12). -/
structure Stacks where
  /-- 01 R16, Table 1.4: device memory, 2^34 or 2^33 x 8 b. Reset: nothing listed (every tile the invalid pattern; R360 step 4) -/
  mem : Memory
  /-- 12 R353: write queue, up to 1,024 entries of 60 B keyed by tile index. Reset: empty -/
  wq : Table Bytes
  /-- 06 R188: queued tiles whose stored check no longer matches their data. Reset none -/
  wqBad : List Nat
  /-- 12 Table 12.8: peak occupancy, 16 b. Reset 0 -/
  wqPeak : Nat
  /-- 12 R354: channels 0-31 that have issued a drain's batch and owe a waiting read the next turn, 1 b each. Reset 0 -/
  owes : List Bool
  /-- 12 R352: read slots of channels 0-31 that REAL_TIME reads took in a row, up to 127. Reset 0 -/
  realTime : List Nat
  /-- 12 R354 HIGH, 16 b. Reset 768 (value on entering INIT) -/
  high : Nat
  /-- 12 R354 LOW, 16 b. Reset 256 -/
  low : Nat
  /-- 12 R356 PANIC_LEVEL, 16 b. Reset 6,144 -/
  panicLevel : Nat
  /-- 12 R354 DRAINING, 1 b. Reset 0 -/
  draining : Bool
  /-- 12 R356 PANIC, with the instant it was raised. Reset: not raised -/
  panic : Option Nat
  /-- 12 R356: forced drain in panic, from the hard limit to 944, 1 b. Reset 0 -/
  forced : Bool
  /-- 12 R358: refresh mode in force HOT, with the instant HOT began. Reset NORMAL -/
  hot : Option Nat
  /-- 12 R358: mode that the last temperature readings ask for, HOT = true. Reset NORMAL -/
  hotNext : Bool
  /-- 12 R357: instant of the last refresh, 64 b. Reset 0 -/
  lastRefresh : Nat
  /-- 12 R358: temperature of stacks 0 and 1 in 1/4 degree C, signed. Reset 0 (DESIGN CHOICE, log 4) -/
  temp0 : Int
  temp1 : Int
  /-- 12 R361, Table 12.8: 32 channel states. Reset: TRAINED, 0 rows repaired -/
  channels : List StackChannel
  /-- 12 Table 12.8: 13 counters of 64 b. Reset 0 -/
  counters : List W64
  /-- 14 Table 14.6: REAL_TIME bucket reads, 64 b. Reset 0 -/
  bucketReads : W64
  /-- 12 Table 12.7: retired entries. Reset: none -/
  retired : List Retired
  /-- 01 R23-R27: the seam directory. Reset: empty -/
  dir : Directory
  /-- 12 R363: descriptors of the six region seams, in code order. Reset: none -/
  regions : List Nat
  /-- 12 R364: staged growth. Reset: none -/
  growth : List Growth
  /-- 01 Table 1.5, 12 R365: free runs (first tile, count), ascending. Reset: none -/
  free : List (Nat × Nat)
  /-- 12 R365: released runs not yet cleared. Reset: none -/
  clearing : List (Nat × Nat)
  /-- 12 R367: the eight jobs. Reset: NONE -/
  jobs : List Job
  /-- 12 R367: last job number issued, 3 b. Reset 7 (the first job takes 0; DESIGN CHOICE, log 5) -/
  lastJob : Nat
  deriving DecidableEq, Repr

end Sys2Proof.Machine
end

