-- ==== Sys2Proof/Machine/TypesHost.lean ====
section
/-!
DEFINITION. State of the time base, of telemetry and the performance counters, and of the host functions and the DMA engine
(spec 13, 14, 15).
-/
namespace Sys2Proof.Machine

/-- Link-delay state (R381). -/
inductive DelayState where | none | valid | invalid
  deriving DecidableEq, Repr

/-- The time state of one port: calibration and the peer delay engine (R376, R381). -/
structure PtpLive where
  /-- 13 R376: board delays, 1/64 ns, signed. Reset 0 -/
  rxBoard : Int
  txBoard : Int
  /-- 13 R376 CALIBRATED, and the measured receive and transmit latencies, 1/64 ns. Reset NOT_CALIBRATED, 0 (DESIGN CHOICE 0, log 8) -/
  calibrated : Bool
  rxLatency : Nat
  txLatency : Nat
  /-- 13 R375: the last receive and the last transmit time-stamp in 1/64 ns, each on the residence clock and on the time counter. Reset 0 -/
  rxAt : Nat
  rxTime : Nat
  txAt : Nat
  txTime : Nat
  /-- 13 R381: link delay state and value in 2^-16 ns, and whether a sample has been taken since it was NONE. Reset NONE, 0 -/
  delayState : DelayState
  delay : Int
  sampled : Bool
  /-- 13 R381: sequenceId of the last request, whether it waits for its answer, and its t1 in 2^-16 ns; consecutive losses. Reset 0 -/
  sequence : W16
  waiting : Bool
  t1 : Nat
  losses : Nat
  /-- 13 R381: instant from which the next request is due. Reset 0 -/
  nextReq : Nat
  /-- 13 R381: a two-step Pdelay_Resp awaiting its follow-up: its correctionField, requestReceiptTimestamp in ns, and t4. Reset none -/
  twoStep : Option (Int × Nat × Nat)
  /-- 13 R391: CORRECTED, RESPONSES_RECEIVED, RESPONSES_LOST, REQUESTS_ANSWERED. Reset 0 -/
  counters : List W64
  deriving DecidableEq, Repr

/-- The time base (spec 13). -/
structure Time where
  /-- 13 R370 SECONDS 64 b, NANOSECONDS 30 b, FRACTION 16 b with the 16 hidden bits (32 b together). Reset 0 -/
  sec : W64
  ns : Nat
  frac : Nat
  /-- 13 R371 INC, 40 b. Reset 2^32 -/
  inc : BitVec 40
  /-- 13 R389: TIME_INC_HI as it reads, and the last value written to it, 8 b. Reset 0x01 -/
  incHi : Byte
  incWritten : Byte
  /-- 13 R372: residence clock, 64 b of 2^-16 ns with 16 hidden bits (80 b together). Reset 0 -/
  residence : BitVec 80
  /-- 06 R183: flow clock, 64 b ns. Reset 0 -/
  flow : W64
  /-- 13 R374: jump limit, ns. Reset 1,000 -/
  jumpLimit : Nat
  /-- 13 R391: PPS OUT_EN, IN_FALLING, IN_EN; input delay, output offset (1/64 ns), width (us). Reset 0, 0, 0; 0; 0; 100,000 -/
  ppsOutEn : Bool
  ppsInFalling : Bool
  ppsInEn : Bool
  ppsDelay : Int
  ppsOffset : Int
  ppsWidth : Nat
  /-- 13 R385: level of PPS_OUT, 1 b, and the instant it rose. Reset low -/
  ppsOut : Bool
  ppsRose : Nat
  /-- 13 R373: instant of the last step applied. Reset none -/
  stepped : Option Nat
  /-- 13 Table 13.6: last capture, NS and SEC; TIME_PPS_COUNT. Reset 0 -/
  ppsNs : Nat
  ppsSec : W64
  ppsCount : W32
  /-- 13 R386: RCLK lane, D, ENABLE, RUNNING; for each of 26 lanes the instant from which it has been locked without a break. Reset lane 0, D 0
  (DESIGN CHOICE, log 9), disabled, squelched; none -/
  rclkLane : Nat
  rclkDiv : Nat
  rclkOn : Bool
  rclkRun : Bool
  locks : List (Option Nat)
  /-- 13 R376, R381: the ports 0-25. Reset NONE -/
  ports : List PtpLive
  /-- 13 R391: CORR_SATURATED, NO_LINK_DELAY, P2P_DELAY_REQ, RX_TS_WRITTEN, PDELAY_CONSUMED. Reset 0 -/
  counters : List W64
  deriving DecidableEq, Repr

/-- A staged record (R392): template, bytes, and the paths that have taken it. -/
structure Record where
  template : Nat
  bytes : Bytes
  onCollector : Bool
  onRing : Bool
  /-- Instant it was staged. -/
  staged : Nat
  /-- It came to wait with no destination enabled for its template (R394). -/
  held : Bool := false
  deriving DecidableEq, Repr

/-- A record asked for and not yet assembled (R397, R400, R402). -/
inductive Assembly where
  /-- A departure from the hot tier or a tile: flow in the form of template 256. -/
  | flowEnd (key : Bytes) (action : Nat) (packets octets : Nat) (last first : Nat) (tcp : Byte) (control : Byte)
      (w : Nat) (home : Nat) (reason flags : Nat) (epoch : W16)
  | sample (key : Bytes) (action : Nat) (packets octets : Nat) (first : Nat) (tcp : Byte) (control : Byte)
      (w : Nat) (home : Nat) (time : Nat)
  | interval (sub : Nat)
  deriving DecidableEq, Repr

/-- One performance counter (R408). -/
structure PerfCounter where
  event : Nat
  threshold : Bool
  n : Nat
  value : BitVec 48
  ovf : Bool
  lostOvf : Bool
  deriving DecidableEq, Repr

/-- The bandwidth window of one port (R411): k; receive and transmit: bytes so far, last window, peak; end of the last; and of an older window,
in which the first byte of the frame being sent left, its start and its transmit bytes: that frame's length is still to come. -/
structure BwWindow where
  k : Nat
  rxNow : Nat
  rxLast : Nat
  rxPeak : Nat
  txNow : Nat
  txLast : Nat
  txPeak : Nat
  endedAt : Nat
  openTx : Option (Nat × Nat) := none
  deriving DecidableEq, Repr

/-- One path's session (R403, R404). -/
structure Path where
  sequence : W32
  /-- Templates sent on the path since it last had to send them. -/
  sentTemplates : List Nat
  /-- 14 R404: templates that the path's reader holds: sent and not withdrawn. Reset none -/
  known : List Nat
  held : Bool
  /-- Templates to be withdrawn on the path. -/
  withdraw : List Nat
  /-- Instant of the last try, and of the last template sets. -/
  lastTry : Nat
  lastTemplates : Nat
  deriving DecidableEq, Repr

/-- Telemetry and the counters (spec 14). -/
structure Telemetry where
  /-- 14 R414: collector record, 64 B. Reset disabled, MAX_MSG 1,400, port 4739, 60 s, FLUSH 1,000 us, UTC_OFFSET 0 -/
  collector : Bytes
  /-- 14 R413: destinations of templates 256-259 (TO_RING, TO_COLLECTOR). Reset none -/
  dests : List (Bool × Bool)
  /-- 14 R413: SAMPLE_RATE and SAMPLE_PERIOD of 8 classes. Reset 0, 56 -/
  sampling : List (Nat × Nat)
  /-- 14 R402 SUB_INTERVAL, s. Reset 0 -/
  interval : Nat
  /-- 14 R402: next subscriber of the interval; start of the interval; start of each subscriber's record. Reset 0 -/
  nextSub : Nat
  intervalStart : Nat
  subStart : Table Nat
  /-- 14 R402: per-subscriber stateless and new-flow-limited packets of the interval, saturating 32 b. Reset 0 -/
  subInterval : Table (Nat × Nat)
  /-- 11 R329: stateless and new-flow-limited packets of subscribers that wait for the STATELESS_ACCOUNT task. Reset none -/
  stateless : List (Nat × Nat × Nat)
  /-- 14 R392: staging queue, oldest first. Reset empty -/
  staging : List Record
  /-- 14 R400: requests waiting for assembly, oldest first. Reset empty -/
  assembly : List Assembly
  /-- 14 Table 14.8: peak tiles held. Reset 0 -/
  peak : Nat
  /-- 14 R403: collector and ring sessions. Reset sequence 0 -/
  collectorPath : Path
  ringPath : Path
  /-- 14 R405: IPv4 identification of the next datagram, 16 b. Reset 0 (DESIGN CHOICE, log 10) -/
  ipId : W16
  /-- 14 R406: telemetry ring. Reset DISABLED -/
  ring : HostRing
  /-- 14 R412: dump ring, its BW flag, its period (ms), next dump instant, dump sequence, DUMPS_SKIPPED, dumps written. Reset DISABLED, 0 -/
  dumpRing : HostRing
  dumpBw : Bool
  dumpPeriod : Nat
  dumpNext : Nat
  dumpSeq : W32
  dumpSkipped : Nat
  dumpsWritten : W32
  /-- 14 Table 14.8: the counters but RECORDS_258_HELD, 13. Reset 0 -/
  counters : List W64
  /-- 14 R408: 256 counters of 48 b by number; an unlisted one holds event 0x0000, value and flags zero. Reset none listed -/
  perf : Table PerfCounter
  /-- 14 R411: windows of ports 0-25. Reset k = 10, 0 -/
  windows : List BwWindow
  deriving DecidableEq, Repr

/-- A DMA channel's states (Table 15.8). -/
inductive ChannelState where | idle | running | stopped | halted
  deriving DecidableEq, Repr

/-- A unit count up to which units were issued or written, with the CRC and the assay faults up to it (R432, R433). -/
structure Mark where
  units : Nat
  crc : W32
  faults : Nat
  deriving DecidableEq, Repr

/-- The descriptor a channel runs, with its progress (R429, R432, R433). -/
structure Transfer where
  desc : Bytes
  /-- 15 Table 15.8: units issued, written (of what was issued, those whose data has reached device memory), confirmed. -/
  issued : Nat
  arrived : Nat
  confirmed : Nat
  /-- CRC-32C register and assay faults of the confirmed units. -/
  crc : W32
  faults : Nat
  /-- The same up to the last unit issued or written, and the boundaries that wait to be confirmed, oldest first. -/
  last : Mark
  marks : List Mark
  /-- FILL or COMPARE PATTERN: the pattern unit as read, and whether its read was made. -/
  pattern : Option Bytes
  asked : Bool
  /-- COMPARE: mismatching tiles, and the first mismatching ordinal. -/
  mismatches : Nat
  firstBad : Option Nat
  deriving DecidableEq, Repr

/-- One DMA channel (Table 15.8). -/
structure DmaChannel where
  /-- 15 Table 15.8: ERR_IE, DONE_IE, MODE (REQUEST), ENABLE. Reset 0 -/
  errIE : Bool
  doneIE : Bool
  request : Bool
  enable : Bool
  /-- 15 Table 15.8: STATE 4 b, LAST_STATUS 8 b, DONE_COUNT 16 b. Reset IDLE, 0, 0 -/
  state : ChannelState
  lastStatus : Nat
  doneCount : W16
  /-- 15 Table 15.8: ring base [63:12], LOG2, TAIL, HEAD. Reset 0, 4, 0, 0 -/
  base : Nat
  log2 : Nat
  tail : Nat
  head : Nat
  /-- 15 R429: the descriptor in progress with UNITS issued and confirmed and CRC. Reset none, 0 -/
  transfer : Option Transfer
  /-- 15 Table 15.8: bytes confirmed since INIT, 64 b. Reset 0 -/
  bytes : W64
  /-- 15 R439: epoch the channel holds. Reset none -/
  holds : Option W16
  /-- A descriptor ended whose record is not yet written: status. Reset none -/
  ending : Option Nat
  /-- 15 R436: the requester a REQUEST channel served last. Reset 9 -/
  turn : Nat
  /-- 15 R415, R417: instants at which the outstanding reads of the descriptor were issued, oldest first; instant of the last descriptor
  fetch. Reset none, 0 -/
  reads : List Nat
  fetchAt : Nat
  deriving DecidableEq, Repr

/-- An entry of a function's MSI-X table that the host may write: vector control mask (R422). Address and data of the vectors
are the host's and pass through. -/
structure Vector where
  address : Nat
  data : W32
  masked : Bool
  pending : Bool
  deriving DecidableEq, Repr

/-- One PCI Express function (spec 15, 13). -/
structure PciFunction where
  /-- 15 R421 ALERT_STATUS, 9 b. Reset 0 -/
  alert : BitVec 9
  /-- 15 R421 ALERT_IE, 9 b. Reset 0 -/
  alertIE : BitVec 9
  /-- 15 R423 ERRLOG_SELECT, 10 b, and the latched entry, 8 x 32 b. Reset 0 -/
  select : BitVec 10
  latched : Bytes
  /-- 13 Table 13.6 TIME_CTL.PPS_IE. Reset 0 -/
  ppsIE : Bool
  /-- 13 Table 13.6 TIME_STATUS: PPS_OVERRUN, INC_REFUSED, JUMP_REFUSED, STEPPED, SNAP_DONE. Reset 0 -/
  ppsOverrun : Bool
  incRefused : Bool
  jumpRefused : Bool
  stepped : Bool
  snapDone : Bool
  /-- 13 R388: snapshot NS, FRAC, SEC, FLOW. Reset 0 -/
  snapNs : Nat
  snapFrac : Nat
  snapSec : W64
  snapFlow : W64
  /-- 00 R7: _HI values latched by reads of _LO, by register offset. Reset 0 -/
  latch : Table W32
  /-- 15 R422, Table 15.5: a PPS capture not read through this function; a pair event not read. Reset 0 -/
  ppsUnread : Bool
  pairUnread : Bool
  /-- 15 R415: MSI-X table of 32 vectors. Reset masked, not pending -/
  vectors : List Vector
  /-- 15 Table 15.1 MSI-X capability: MSI-X Enable, Function Mask. Reset 0 -/
  msixEnable : Bool
  functionMask : Bool
  /-- 15 R426 Bus Master Enable, D3hot. Reset 0 -/
  busMaster : Bool
  d3hot : Bool
  /-- 15 R417: completion timeout value written to Device Control 2, 4 b. Reset 0 -/
  cplTimeout : Nat
  /-- 15 Table 15.1: maximum payload size and maximum read request in force, bytes. Reset 128, 512 -/
  payload : Nat
  readMax : Nat
  /-- 15 Table 15.1: bases in BAR0/1 (64 KiB) and BAR2/3 (8 KiB). Reset 0 -/
  bar0 : Nat
  bar2 : Nat
  deriving DecidableEq, Repr

/-- A snapshot hold kept by a seam (R438): descriptor, epoch, instant it lapses. -/
structure SeamHold where
  desc : Nat
  epoch : W16
  until_ : Nat
  deriving DecidableEq, Repr

/-- The host interface and the DMA engine (spec 15). -/
structure HostIf where
  /-- 15 R415: functions PF0 and PF1. Reset as PciFunction -/
  pf0 : PciFunction
  pf1 : PciFunction
  /-- 15 R427: 16 channels. Reset IDLE -/
  channels : List DmaChannel
  /-- 15 Table 15.7 SEC_DMA_OWNER, 16 b. Reset 0 -/
  owner : BitVec 16
  /-- 15 Table 15.7 SEC_ALERT_PIN, 9 b. Reset 0x1FF -/
  alertPin : BitVec 9
  /-- 15 Table 15.9: HALTED, cause, request, address, DMA_IRQ_STATUS, halt count. Reset 0 -/
  halted : Bool
  cause : Nat
  haltReq : Nat
  haltAddr : W64
  irqDone : BitVec 16
  irqErr : BitVec 16
  haltCount : Nat
  /-- 15 R438: snapshot holds of seams. Reset none -/
  holds : List SeamHold
  /-- 15 R425: the link is up (PERST_N high). Reset 0 -/
  linkUp : Bool
  /-- 15 R444: channel served last, 4 b. Reset 15 (channel 0 is next; DESIGN CHOICE, log 17) -/
  served : Nat
  deriving DecidableEq, Repr

end Sys2Proof.Machine
end

