-- ==== Sys2Proof/Machine/State.lean ====
section
/-!
DEFINITION. The state of the block as plain data: everything the spec gives the device, what it has sent out, and the queue of
commands that wait; and the state right after reset.
-/
namespace Sys2Proof.Machine

/-- The ways a step could stop with a fault. The spec gives every command of the table an effect in every state, so no meaning
raises one. -/
inductive Fault where
  /-- Kept for an access outside the device's address space; raised by no meaning (safe). -/
  | noSuchAddress
  deriving DecidableEq, Repr

/-- The ways a step could be refused by the model. -/
inductive Refusal where
  /-- A row whose meaning has not been written; raised by no row of this model (safe). -/
  | notModelled (mnemonic : String)
  deriving DecidableEq, Repr

/-- What the device sends to its peer. -/
inductive PeerWord where
  /-- A command packet written into the peer's PEER inbound buffer (R489), and a reply placed in its outbound buffer. -/
  | peerMessage (op : Nat) (msg : Msg)
  | peerReply (reply : Bytes)
  /-- Link control words: the flags of the PEER channel, a heartbeat, a join or rejoin request, and the two-phase commit. -/
  | peerFlags (taken timeout outStatus : Bool)
  | heartbeat (h : Heartbeat)
  | joinRequest (facts : JoinFacts)
  | rejoinRequest (facts : JoinFacts)
  | prepare (epoch : W16)
  | ready
  | commit (epoch : W16)
  | applied
  | leave
  /-- The configuration that a rejoin copies (R497 step 2), and a record of the journal (R492). -/
  | pairCopy (copy : PairCopy)
  /-- R497 step 3: the live regions' tiles and the block map. -/
  | liveCopy (tiles : List (Nat × Bytes)) (blocks : Table Block)
  | journal (rec : JournalRec)
  deriving DecidableEq, Repr

/-- What the device puts on its balls and links, one entry each. -/
inductive Output where
  /-- A frame sent by a MAC, without FCS; `aborted` is a frame ended with a bad FCS. -/
  | frame (port : Nat) (bytes : Bytes) (aborted : Bool)
  /-- A memory write to the host under the requester of a function. -/
  | hostWrite (pf1 : Bool) (address : Nat) (data : Bytes)
  /-- A memory read to the host: kind as REQUEST of DMA_HALT_CAUSE, length in bytes. -/
  | hostRead (pf1 : Bool) (kind address length : Nat)
  /-- An MSI-X message: vector number. -/
  | vector (pf1 : Bool) (number : Nat)
  /-- The data a register read returns. -/
  | register (pf1 : Bool) (value : W32)
  /-- Bytes the SMBus target returns, or no acknowledgement. -/
  | smbus (data : Bytes)
  | smbusNack
  /-- A word, a message or a record sent to the peer on one peer lane, 24 or 25 (R88). -/
  | peer (lane : Nat) (sent : PeerWord)
  /-- Data shifted out of the TAP. -/
  | tdo (data : BitVec 294)
  deriving DecidableEq, Repr

/-- The draining epoch (R32): its number, the instant of its boundary, and its version of the staged tables. -/
structure Drain where
  epoch  : W16
  since  : Nat
  tables : Staged
  deriving DecidableEq, Repr

/-- The state of the block. -/
structure State where
  /-- Model's own: ns of the TIME clock since reset, by which instants are kept. Reset 0 (log 14) -/
  now : Nat
  /-- Model's own: number of free values drawn so far. Reset 0 (DESIGN CHOICE, log 15) -/
  free : Nat
  life : Life
  pins : Pins
  power : Power
  err : ErrLog
  pair : Pair
  /-- 02 R41: channels HOST_NS, HOST_S, PEER, BMC. -/
  ns : Channel
  sec : Channel
  peer : Channel
  bmc : Channel
  epoch : Epoch
  /-- 01 R29: the current version, the shadow, and the draining version with its epoch. -/
  cur : Staged
  shadow : Staged
  drain : Option Drain
  dram : Stacks
  /-- 03: live state of ports 0-25, and the canary. -/
  ports : List Port
  canary : Canary
  parse : ParseLive
  rule : RuleLive
  flow : FlowLive
  nat : NatLive
  fwd : FwdLive
  buf : BufLive
  miners : MinerLive
  time : Time
  telem : Telemetry
  host : HostIf
  /-- Model's own: what the device has sent, oldest first. Reset empty (log 16) -/
  out : List Output
  /-- The commands that wait, first in, first out. Reset empty -/
  pending : List Instr
  deriving DecidableEq, Repr

/-! Reset values. -/

def Channel.reset : Channel :=
  { inbound := [], outbound := [], pending := false, taken := false, timeout := false, writeLost := false, doorbellLost := false,
    timer := none, replies := [], outStatus := false, takenIE := false, replyIE := false, timeoutMs := 10, rungMs := 10,
    waiting := none, discard := false }

def Epoch.reset : Epoch :=
  { current := 0, changes := 0, sequence := 0, refused := 0, lastSec := 0, lastNs := 0, lastTaken := 3,
    executed := 0, withdrawn := 0 }

def PortCfg.reset : PortCfg :=
  { mode := 0, fec := 0, medium := 0, an := false, cutThrough := false, maxFrame := 0, enable := false }

def Taps.reset : Taps := { pre2 := 0, pre1 := 0, main := 63, post := 0, freeze := false }

def PortTable.reset : PortTable :=
  { ports := List.replicate 24 PortCfg.reset, east := none, west := none, taps := List.replicate 26 Taps.reset }

def Port.reset : Port :=
  { link := .down, cdr := 0, sd := 0, ups := 0, changed := 0, loopback := 0, counters := List.replicate 14 0,
    anTried := 0 }

def Canary.reset : Canary :=
  { armed := false, toggling := false, level := .hiZ, reason := 0, stopNs := 0, armings := 0, alive0 := 0, alive1 := 0,
    live0 := true, live1 := true, halfAt := 0, windowAt := 0, verdicts0 := 0, verdicts1 := 0 }

def ParseGraph.reset : ParseGraph :=
  { nodes := [], nodeLimit := 32, byteLimit := 512, depthCurrent := false, starts := List.replicate 28 0 }

def Recirc.reset : Recirc := { maxPasses := 4, toHost := false, ring := 0, ceil32 := 400, ceil33 := 400 }

def RuleTables.reset : RuleTables := { tables := [], recirc := Recirc.reset }

def Build.reset : Build :=
  { state := .none, reason := 0, processed := 0, ordinal := none, start := 0, tookMs := 0, profile := none, list := none, count := 0 }

def RuleLive.reset : RuleLive :=
  { builds := List.replicate 20 Build.reset, sequence := 0, counters := [], tables := List.replicate 20 (List.replicate 4 0),
    pipes := List.replicate 2 (List.replicate 7 0), storeFree := [(0, 196608)], storeRetired := [], storeBad := [] }

def FlowPort.reset : FlowPort := { network := false, ctxOffset := 255, ctxMask := 0, ctxBase := 0 }

/-- Class timeouts at INIT (Table 7.2). -/
def FlowClass.reset : FlowClass :=
  { random := false, overflowDrop := false, timeouts := [10, 60, 30, 7440, 240, 10, 300, 120] }

def FlowCfg.reset : FlowCfg :=
  { hotIdle := 10, ports := List.replicate 26 FlowPort.reset, classes := List.replicate 8 FlowClass.reset, limits := [],
    sweepPeriod := 10, scrubPeriod := 24 }

def Export.reset : Export :=
  { state := .none, sequence := 0, first := 0, count := 0, dest := 0, holds := none, done := 0, flows := 0, merged := 0,
    faults := 0, start := 0, tookMs := 0 }

def FlowLive.reset : FlowLive :=
  { hot := [], cache := [], hotRetired := [], cacheRetired := [], held0 := [], held1 := [], requests := [],
    device := List.replicate 5 0, pipes := List.replicate 2 (List.replicate 11 0), peak0 := 0, peak1 := 0,
    exporter := Export.reset, seed0 := 0, seed1 := 0, tokens := [], tailings := [], tailHead := 0, history := [], quarantine := [],
    sweepNext := 0, sweepStart := 0, sweepMs := 0, sweepFrom := 0, sweepFromPos := 0, scrubFrom := 0,
    scrubFromPos := 0, scrubPos := 0, scrubNext := 0, scrubStart := 0, life := List.replicate 17 0 }

def NatCfg.reset : NatCfg :=
  { pools := [], addrs := [], policies := [], subs := [], actions := [], v6Len := 56, bindingHold := 300, blockHold := 120,
    groups := [] }

def NatLive.reset : NatLive :=
  { blocks := [], live := [], counts := [], counters := List.replicate 19 0, rechosen := [], deferred := [], repairs := [], faulted := [],
    lost := [], mended := [], visitDue := false }

def DomainPort.reset : DomainPort := { mode := 0, classifying := false, base := 0 }
def LearnLimit.reset : LearnLimit := { flood := true, limit := 65535 }

def FwdCfg.reset : FwdCfg :=
  { domains := [], ports := List.replicate 26 DomainPort.reset, hosts0 := [], hosts1 := [], routes := [], nexthops := [],
    limits := List.replicate 26 LearnLimit.reset, routerMac := List.replicate 6 0, moveGuard := 100, bridgeAge := 300,
    learnRing := 0, ttlToHost := false, ttlRing := 0 }

def FwdLive.reset : FwdLive :=
  { learned0 := [], learned1 := [], hostHit0 := [], hostHit1 := [], queue0 := [], queue1 := [], seed := 0, age0 := 0, age1 := 0,
    ageStart0 := 0, ageStart1 := 0,
    recent := [], counters := List.replicate 2 (List.replicate 24 0), device := List.replicate 2 0, build := Build.reset,
    sequence := 0, bulk := [], records := [], broken := [], copies := [] }

def SchedCfg.reset : SchedCfg := { spMask := 0xC0, defaultClass := 0, quanta := List.replicate 8 4, ceiling := 0 }

def BufCfg.reset : BufCfg :=
  { queues := [], subAlpha := 2, res0 := 8192, res1 := 8192, sched := List.replicate 26 SchedCfg.reset, nodes := [], mirrors := [] }

def SchedLive.reset : SchedLive :=
  { deficits := List.replicate 8 0, lastClass := 0, lastMember := List.replicate 8 0, nextStart := 0 }

def HostRing.reset : HostRing :=
  { enabled := false, halted := false, channel := 0, irq := false, j := 0, k := 0, holdoff := 0, base := 0,
    consumerAddr := 0, produced := 0, consumed := 0, holdUntil := none, again := false, polled := none, fullAt := 0, slot := none,
    sent := 0, abandoned := false }

def BufLive.reset : BufLive :=
  { queues := [], ing0 := 0, ing1 := 0, sched := List.replicate 28 SchedLive.reset, buckets := [],
    mirrorCount := List.replicate 16 0, rings := List.replicate 8 HostRing.reset, ringCounters := List.replicate 8 (List.replicate 4 0), counters := List.replicate 13 0, peakU := 0,
    lane0 := [], lane1 := [], recirc0 := [], recirc1 := [], reinject0 := [], reinject1 := [], sending := [], arriving := [], looped := [],
    events := List.replicate 2 (List.replicate 9 0), slots0 := 0, slots1 := 0, nextId := 0 }

/-- Task types 0x01-0x0B with the levels and MAX_MINERS of Table 11.2. -/
def TaskCfg.reset : TaskCfg :=
  { types := [⟨0, 12⟩, ⟨3, 1⟩, ⟨7, 1⟩, ⟨7, 1⟩, ⟨5, 8⟩, ⟨2, 1⟩, ⟨2, 4⟩, ⟨2, 1⟩, ⟨6, 4⟩, ⟨1, 2⟩, ⟨4, 4⟩], flowSlots := 3840 }

def Miner.reset : Miner := { slot := none, yield := none, answered := false, withdrawn := false, dispatches := 0, preemptions := 0 }

def MinerLive.reset : MinerLive :=
  { miners := List.replicate 16 Miner.reset, tasks := [], ready := List.replicate 8 [],
    types := List.replicate 11 { completed := 0, preempted := 0, timeNs := 0 }, counters := List.replicate 4 0, sweepUp := false,
    scrubUp := false, traceOn := true, traceStop := false, traceTypes := 0x0FFE, traceReasons := 0xFE, traceMiners := 0xFFFF,
    trace := [], traceSeq := 0, traceLost := 0 }

def PtpCfg.reset : PtpCfg :=
  { device := { domain := 0, clockId := List.replicate 8 0, mac := List.replicate 6 0, ip4 := List.replicate 4 0,
                ip6 := List.replicate 16 0 },
    ports := List.replicate 26 { mode := 0, rxTs := false, transport := 0, logInt := 0 } }

def PtpLive.reset : PtpLive :=
  { rxBoard := 0, txBoard := 0, calibrated := false, rxLatency := 0, txLatency := 0, rxAt := 0, rxTime := 0, txAt := 0, txTime := 0,
    delayState := .none, delay := 0, sampled := false, sequence := 0,
    waiting := false, t1 := 0, losses := 0, nextReq := 0, twoStep := none, counters := List.replicate 4 0 }

def Time.reset : Time :=
  { sec := 0, ns := 0, frac := 0, inc := 0x100000000, incHi := 1, incWritten := 1, residence := 0, flow := 0, jumpLimit := 1000, ppsOutEn := false,
    ppsInFalling := false, ppsInEn := false, ppsDelay := 0, ppsOffset := 0, ppsWidth := 100000, ppsOut := false, ppsNs := 0,
    ppsSec := 0, ppsCount := 0, ppsRose := 0, stepped := none, rclkLane := 0, rclkDiv := 0, rclkOn := false, rclkRun := false, locks := List.replicate 26 none,
    ports := List.replicate 26 PtpLive.reset, counters := List.replicate 5 0 }

def PerfCounter.reset : PerfCounter := { event := 0, threshold := false, n := 0, value := 0, ovf := false, lostOvf := false }
def BwWindow.reset : BwWindow :=
  { k := 10, rxNow := 0, rxLast := 0, rxPeak := 0, txNow := 0, txLast := 0, txPeak := 0, endedAt := 0 }
def Path.reset : Path := { sequence := 0, sentTemplates := [], known := [], held := false, withdraw := [], lastTry := 0, lastTemplates := 0 }

/-- The collector record at INIT (R413): MAX_MSG 1,400, collector port 4739, TEMPLATE_INTERVAL 60 s, FLUSH 1,000 us. -/
def collectorReset : Bytes :=
  List.replicate 42 0 ++ [0x83, 0x12, 0, 0, 0x78, 0x05, 0, 0, 0, 0, 0x3C, 0, 0, 0, 0xE8, 0x03, 0, 0, 0, 0, 0, 0]

def Telemetry.reset : Telemetry :=
  { collector := collectorReset, dests := List.replicate 4 (false, false), sampling := List.replicate 8 (0, 56), interval := 0,
    nextSub := 0, intervalStart := 0, subStart := [], subInterval := [], stateless := [], staging := [], assembly := [], peak := 0,
    collectorPath := Path.reset, ringPath := Path.reset, ipId := 0, ring := HostRing.reset, dumpRing := HostRing.reset, dumpBw := false,
    dumpPeriod := 0, dumpNext := 0, dumpSeq := 0, dumpSkipped := 0, dumpsWritten := 0, counters := List.replicate 13 0,
    perf := [], windows := List.replicate 26 BwWindow.reset }

def DmaChannel.reset : DmaChannel :=
  { errIE := false, doneIE := false, request := false, enable := false, state := .idle, lastStatus := 0, doneCount := 0, base := 0,
    log2 := 4, tail := 0, head := 0, transfer := none, bytes := 0, holds := none, ending := none, turn := 9, reads := [], fetchAt := 0 }

def PciFunction.reset : PciFunction :=
  { alert := 0, alertIE := 0, select := 0, latched := List.replicate 32 0, ppsIE := false, ppsOverrun := false, incRefused := false,
    jumpRefused := false, stepped := false, snapDone := false, snapNs := 0, snapFrac := 0, snapSec := 0, snapFlow := 0, latch := [],
    ppsUnread := false, pairUnread := false,
    vectors := List.replicate 32 { address := 0, data := 0, masked := true, pending := false }, msixEnable := false, functionMask := false, busMaster := false, d3hot := false,
    cplTimeout := 0, payload := 128, readMax := 512, bar0 := 0, bar2 := 0 }

def HostIf.reset : HostIf :=
  { pf0 := PciFunction.reset, pf1 := PciFunction.reset, channels := List.replicate 16 DmaChannel.reset, owner := 0, alertPin := 0x1FF,
    halted := false, cause := 0, haltReq := 0, haltAddr := 0, irqDone := 0, irqErr := 0, haltCount := 0, holds := [],
    linkUp := false, served := 15 }

def Stacks.reset : Stacks :=
  { mem := [], wq := [], wqBad := [], wqPeak := 0, owes := List.replicate 32 false, realTime := List.replicate 32 0, high := 768, low := 256, panicLevel := 6144, draining := false, panic := none, forced := false,
    hot := none, hotNext := false, lastRefresh := 0, temp0 := 0, temp1 := 0,
    channels := List.replicate 32 { lost := false, repaired := 0 }, counters := List.replicate 13 0, bucketReads := 0, retired := [],
    dir := { used := [], gens := [], fresh := 0, freed := [], reserved := 0 }, regions := [], growth := [], free := [],
    clearing := [],
    jobs := List.replicate 8 { state := .none, op := .fill, a := 0, b := none, pattern := [], done := 0, bad := 0, first := none,
                               start := 0, elapsedMs := 0 },
    lastJob := 7 }

def Straps.low : Straps := { cfg0 := false, cfg1 := false, cfg2 := false, cfg3 := false }

def Life.reset : Life :=
  { state := .reset, prev := .reset, since := 0, bootMs := 0, straps := Straps.low, fitted := none, mismatch := false,
    strapFault := false, bootFail := none, faults := 0, causes := 0, committed := false, clearing := .none, lock := false,
    sticky := false, label := List.replicate 32 0, bootRetired := 0, sramRepaired := 0, lostInService := false }

def ErrClass.reset : ErrClass := { occ := 0, unrec := 0, first := none, last := none, wrote := none, repeats := 0 }
def ErrLog.reset : ErrLog := { entries := [], oldest := 0, written := 0, classes := List.replicate 20 ErrClass.reset }

/-- What stands for a peer that has told nothing. -/
def JoinFacts.reset : JoinFacts :=
  { devState := 1, committed := false, changes := 0, stepping := 0, classHB := false, digest := [], strapFault := false,
    hostSeams := false, cfg0 := false, thisPrimary := false, inconsistent := false, serial := 0, plan := [], seed0 := 0, seed1 := 0,
    bridgeSeed := 0 }

def Pair.reset : Pair :=
  { state := .none, role := .none, portsHeld := false, peerState := 0, peerEpoch := 0, peerSeq := 0, peerSerial := 0,
    peerFacts := JoinFacts.reset, laneDown0 := false, laneDown1 := false, laneUp0 := none, laneUp1 := none, heard := none, own0 := none, own1 := none, beat := 0,
    relinquish := false, journal := [], jSeq := 0, jApplied := 0, rejoinSeq := 0, resync := false, copied := false, tilesCopied := 0, holding := false, joinedAs := .none, cause := 0, peerDraining := false, peerPair := 0,
    failovers := 0, rejoins := 0, autoTakeover := true,
    autoResync := true, lagAlarm := 100, events := 0, seen := List.replicate 4 0, prepared := none, commitMsg := none,
    commitSent := false, out := { pending := false, taken := false, timeout := false, outStatus := false }, stale := false,
    discarded := 0 }

def Power.reset : Power :=
  { profile := 0, stage := 0, droopLow := none, absent := none,
    monitors := List.replicate 4 750, lowest := List.replicate 4 750, monitorEn := true,
    droopEn := true, margin1 := 40, margin2 := 70, delayUs := 2, warn := 105, sensors := Vector.replicate 8 0, diePeak := none, limits := 0,
    limitSince := none, limitNs := 0, entries1 := 0, entries2 := 0, time1 := 0, time2 := 0, stageSince := 0, overflow0 := 0,
    overflow1 := 0, rootLock := false, refOk := true, pcieRef := true, laneLock := 0, coreCycles := 0, timeCycles := 0 }

def Pins.reset : Pins :=
  { resetN := false, pwrOk := false, perstN := false, cfg := Straps.low, droopN := true, gpio3 := false,
    gpio3At := 0, tapInstr := 1, boundary := 0 }

def Staged.reset : Staged :=
  { port := PortTable.reset, parse := ParseGraph.reset, rule := RuleTables.reset, flow := FlowCfg.reset, nat := NatCfg.reset,
    fwd := FwdCfg.reset, buf := BufCfg.reset, task := TaskCfg.reset, ptp := PtpCfg.reset }

/-- The device in RESET, right after RESET_N fell (R453): every register at its reset value, every table empty. -/
def State.reset : State :=
  { now := 0, free := 0, life := Life.reset, pins := Pins.reset, power := Power.reset, err := ErrLog.reset, pair := Pair.reset,
    ns := Channel.reset, sec := Channel.reset, peer := Channel.reset, bmc := Channel.reset, epoch := Epoch.reset,
    cur := Staged.reset, shadow := Staged.reset, drain := none, dram := Stacks.reset, ports := List.replicate 26 Port.reset,
    canary := Canary.reset, parse := { counters0 := List.replicate 14 0, counters1 := List.replicate 14 0, nodes := [] },
    rule := RuleLive.reset, flow := FlowLive.reset, nat := NatLive.reset, fwd := FwdLive.reset, buf := BufLive.reset,
    miners := MinerLive.reset, time := Time.reset, telem := Telemetry.reset, host := HostIf.reset, out := [], pending := [] }

end Sys2Proof.Machine
end

