-- ==== Sys2Proof/Machine/Bytes.lean ====
section
/-!
DEFINITION. Byte order, bit fields, checks and sparse tables: the helpers every family reads and writes data with (R6, R16).
-/
namespace Sys2Proof.Machine

/-! Byte order (R6). -/

/-- The low `n` bytes of a number, least significant first. -/
def le : Nat → Nat → Bytes
  | 0, _ => []
  | n + 1, v => BitVec.ofNat 8 v :: le n (v / 256)

/-- The low `n` bytes of a number in wire order. -/
def be (n v : Nat) : Bytes := (le n v).reverse

/-- The number a string of bytes spells, least significant first. -/
def ofLe : Bytes → Nat
  | [] => 0
  | b :: bs => b.toNat + 256 * ofLe bs

/-- The number a string of bytes spells in wire order. -/
def ofBe (bs : Bytes) : Nat := ofLe bs.reverse

/-- Byte `i` of a structure; bytes past its end are zero. -/
def byteAt (bs : Bytes) (i : Nat) : Nat := (bs.getD i 0).toNat

/-- `n` bytes from offset `i`, zero past the end. -/
def slice (bs : Bytes) (i n : Nat) : Bytes := (List.range n).map fun k => bs.getD (i + k) 0

/-- Little-endian field of `n` bytes at offset `i`. -/
def fieldLe (bs : Bytes) (i n : Nat) : Nat := ofLe (slice bs i n)
/-- Wire-order field of `n` bytes at offset `i`. -/
def fieldBe (bs : Bytes) (i n : Nat) : Nat := ofBe (slice bs i n)

/-- Bit `k` of byte `i`. -/
def bitAt (bs : Bytes) (i k : Nat) : Bool := Nat.testBit (byteAt bs i) k

/-- A structure cut or padded with zeros to `n` bytes. -/
def fit (n : Nat) (bs : Bytes) : Bytes := slice bs 0 n

def zeros (n : Nat) : Bytes := List.replicate n 0

/-- A byte of flags, bit 0 first. -/
def flagByte (fs : List Bool) : Nat := fs.foldr (fun f acc => acc * 2 + f.toNat) 0

/-- The two's-complement value of an `n`-bit field. -/
def signed (n v : Nat) : Int := if v < 2 ^ (n - 1) then (v : Int) else (v : Int) - (2 ^ n : Nat)
/-- The `n`-bit field that holds a signed value. -/
def unsigned (n : Nat) (v : Int) : Nat := (v % (2 ^ n : Nat)).toNat

/-- `bs` with the bytes `new` written from offset `i`. -/
def splice (bs : Bytes) (i : Nat) (new : Bytes) : Bytes := bs.take i ++ new ++ bs.drop (i + new.length)

/-- A count that stops at the top of its width. -/
def satur (width v : Nat) : Nat := min v (2 ^ width - 1)

/-! CRC-32C (R16): reflected polynomial 0x82F6_3B78. -/

def crcBit (c : Nat) : Nat := if c % 2 = 1 then (c / 2) ^^^ 0x82F63B78 else c / 2
def crcByte (c : Nat) (b : Byte) : Nat :=
  crcBit (crcBit (crcBit (crcBit (crcBit (crcBit (crcBit (crcBit (c ^^^ b.toNat))))))))
/-- The CRC register after further bytes; it starts at 0xFFFF_FFFF and is stored inverted. -/
def crcFeed (c : Nat) (bs : Bytes) : Nat := bs.foldl crcByte c
def crc32c (bs : Bytes) : Nat := crcFeed 0xFFFFFFFF bs ^^^ 0xFFFFFFFF

/-- The check of a tile (R16): over its payload and its index. -/
def tileCheck (payload : Bytes) (index : Nat) : Bytes := le 4 (crc32c (fit 60 payload ++ le 4 (index % 2 ^ 28)))

/-- The payload that means "no entry" (R19). -/
def invalidPayload : Bytes := List.replicate 60 0xFF

/-- A whole tile: payload and its check. -/
def wholeTile (payload : Bytes) (index : Nat) : Bytes := fit 60 payload ++ tileCheck payload index

/-! Sparse tables: entries by rising key. -/

def tget? {α : Type} (t : Table α) (k : Nat) : Option α := t.lookup k

def tset {α : Type} (t : Table α) (k : Nat) (v : α) : Table α :=
  t.filter (fun e => e.1 < k) ++ (k, v) :: t.filter (fun e => k < e.1)

def tdel {α : Type} (t : Table α) (k : Nat) : Table α := t.filter fun e => e.1 != k

/-- Put or remove an entry. -/
def tput {α : Type} (t : Table α) (k : Nat) : Option α → Table α
  | some v => tset t k v
  | none => tdel t k

def tmap {α : Type} (t : Table α) (f : Nat → α → α) : Table α := t.map fun e => (e.1, f e.1 e.2)

/-- The keys of a table from `first` on, at most `n`. -/
def tkeysFrom {α : Type} (t : Table α) (first n : Nat) : List Nat := ((t.filter fun e => first ≤ e.1).take n).map (·.1)

/-! Counter banks. -/

/-- Add `n` to counter `i` of a bank of 64-bit wrapping counters. -/
def bump (bank : List W64) (i : Nat) (n : Nat := 1) : List W64 := bank.modify i (· + BitVec.ofNat 64 n)

/-- A bank laid out in a reply: 8 bytes each. -/
def bankBytes (bank : List W64) : Bytes := bank.flatMap fun w => le 8 w.toNat

def zeroBank (bank : List W64) : List W64 := bank.map fun _ => 0

/-- Replace element `i` of a list. -/
def alter {α : Type} (l : List α) (i : Nat) (f : α → α) : List α := l.modify i f

/-- Records of `k` bytes from a parameter string, `n` of them. -/
def recordsOf (k : Nat) : Nat → Bytes → List Bytes
  | 0, _ => []
  | n + 1, bs => fit k (bs.take k) :: recordsOf k n (bs.drop k)

/-- First index from `i` at which a byte of the list is not zero. -/
def firstNonZero : Bytes → Nat → Option Nat
  | [], _ => none
  | b :: bs, i => if b = 0 then firstNonZero bs (i + 1) else some i

/-- The first of the offsets of `bs` in `l` whose byte is not zero. -/
def firstNonZeroAt (bs : Bytes) (l : List Nat) : Option Nat := l.find? fun i => byteAt bs i != 0

end Sys2Proof.Machine
end

