-- ==== Sys2Proof/Machine/Perf.lean ====
section
/-!
DEFINITION. Performance counters: the events of Table 14.6, how often each has occurred, and the counting of a step (spec 14 R408-R410).
-/
namespace Sys2Proof.Machine

/-! Event numbers. -/

/-- Port of a port event, 0-25, 32, 33; its event. -/
def portEvent (e : Nat) : Nat × Nat := ((e - 0x1000) / 16, e % 16)

/-- A count event (Table 14.6). -/
def isCountEvent (e : Nat) : Bool :=
  let (p, k) := portEvent e
  (0x1000 ≤ e && e < 0x1220 && ((p < 26 && k < 8) || ((p = 32 || p = 33) && (k = 3 || k = 4)))) ||
  (0x2000 ≤ e && e < 0x2200 && e % 256 ≤ 0x0A && e % 256 != 4) ||
  (0x3000 ≤ e && e < 0x3800 && e % 1024 < 224) ||
  (0x4000 ≤ e && e ≤ 0x4006 && e != 0x4005) ||
  (0x5000 ≤ e && e < 0x5100 && (e % 16 = 2 || e % 16 = 3)) ||
  (0x5101 ≤ e && e ≤ 0x510B) ||
  (0x6000 ≤ e && e ≤ 0x6006 && e != 0x6002) ||
  (0x7000 ≤ e && e ≤ 0x7003) || (0x7010 ≤ e && e ≤ 0x7013) || e = 0x7020 || e = 0x7021

/-- An event that counts cycles. -/
def isCycleEvent (e : Nat) : Bool :=
  (1 ≤ e && e ≤ 4) || e = 0x10 || e = 0x11 || e = 0x2004 || e = 0x2104 || e = 0x4005 ||
  (0x5000 ≤ e && e < 0x5100 && e % 16 < 2) || e = 0x6002

/-- An occupancy event (O). -/
def isOccupancy (e : Nat) : Bool :=
  (0x2000 ≤ e && e < 0x2200 && 0x80 ≤ e % 256 && e % 256 ≤ 0x83) || (0x3800 ≤ e && e < 0x3C00 && e % 1024 < 224) ||
  (0x3C00 ≤ e && e < 0x3C08) || e = 0x3D00 || e = 0x3D01 || e = 0x4080 || (0x5181 ≤ e && e ≤ 0x518B) ||
  (0x5200 ≤ e && e < 0x5208) || e = 0x7080 || e = 0x7081

def isEvent (e : Nat) : Bool := e = 0 || isCountEvent e || isCycleEvent e || isOccupancy e

/-! What has occurred so far, by the counters that the state holds. -/

def bankAt (b : List W64) (i : Nat) : Nat := (b.getD i 0).toNat
def sumAt (b : List W64) (l : List Nat) : Nat := (l.map (bankAt b)).foldl (· + ·) 0

/-- Key of the class queue of an event of 0x3000-0x3BFF. -/
def eventQueue (e : Nat) : Nat := let i := e % 1024 / 8; (if i < 26 then i else i + 6) * 8 + e % 8

def State.portEvents (s : State) (p k : Nat) : Nat :=
  if p < 26 then
    let b := (s.ports.getD p Port.reset).counters
    match k with
    | 0 => bankAt b 0
    | 1 => bankAt b 1
    | 2 => sumAt b [2, 3, 4, 5, 6, 7]
    | 3 => bankAt b 10
    | 4 => bankAt b 11
    | 5 => bankAt b 12
    | 6 => bankAt b 8
    | _ => bankAt b 9
  else bankAt (s.buf.events.getD (p - 32) []) (if k = 3 then 7 else 8)

def State.pipeEvents (s : State) (p k : Nat) : Nat :=
  let b := s.buf.events.getD p []
  let f := s.flow.pipes.getD p []
  match k with
  | 5 => bankAt f 1
  | 6 => bankAt f 0 - bankAt f 1
  | 7 => bankAt b 4
  | 8 => sumAt (if p = 1 then s.parse.counters1 else s.parse.counters0) [1, 2, 5, 8]
  | 9 => bankAt b 5
  | 0x0A => bankAt b 6
  | _ => bankAt b k

def State.queueEvents (s : State) (e : Nat) : Nat :=
  match tget? s.buf.queues (eventQueue e) with
  | some q => (if e < 0x3400 then q.enqueued else q.discarded).toNat
  | none => 0

def State.memEvents (s : State) (k : Nat) : Nat :=
  let b := s.dram.counters
  match k with
  | 0 => bankAt b 0
  | 1 => bankAt b 1
  | 2 => s.dram.bucketReads.toNat
  | 3 => bankAt b 2
  | 4 => 525 * bankAt b 9
  | _ => bankAt b 12

def State.ctlEvents (s : State) (k : Nat) : Nat :=
  match k with
  | 0 => s.epoch.sequence.toNat
  | 1 => s.epoch.refused
  | 3 => s.epoch.executed.toNat
  | 4 => s.epoch.withdrawn.toNat
  | 5 => (s.host.channels.map fun c => c.bytes.toNat).foldl (· + ·) 0
  | _ => s.err.written.toNat

def State.telemEvents (s : State) (e : Nat) : Nat :=
  let b := s.telem.counters
  match e with
  | 0x7010 => bankAt b 6
  | 0x7011 => sumAt b [4, 7]
  | 0x7012 => 0
  | 0x7013 => sumAt b [5, 8]
  | 0x7020 => bankAt b 9
  | 0x7021 => bankAt b 10
  | _ => bankAt b (e - 0x7000)

/-- Occurrences of a count event up to a state; 0 for every other event. -/
def State.eventCount (s : State) (e : Nat) : Nat :=
  if !isCountEvent e then 0
  else if e < 0x2000 then s.portEvents (portEvent e).1 (portEvent e).2
  else if e < 0x3000 then s.pipeEvents (e / 256 % 2) (e % 256)
  else if e < 0x4000 then s.queueEvents e
  else if e < 0x5000 then s.memEvents (e % 16)
  else if e < 0x5100 then
    let m := s.miners.miners.getD (e / 16 % 16) Miner.reset
    (if e % 16 = 2 then m.dispatches else m.preemptions).toNat
  else if e < 0x6000 then (match s.miners.types[e - 0x5101]? with | some t => t.completed.toNat | none => 0)
  else if e < 0x7000 then s.ctlEvents (e % 16)
  else s.telemEvents e

/-! Counting (R408-R410). -/

/-- A counter after `n` more; OVF is set on a wrap. -/
def PerfCounter.add (c : PerfCounter) (n : Nat) : PerfCounter :=
  let v := c.value.toNat + n
  { c with value := BitVec.ofNat 48 v, ovf := c.ovf || decide (2 ^ 48 ≤ v) }

/-- The programmed counters after a step: each counts what occurred in it; one that the step programmed keeps its new programming, with
LOST_OVF where the old one wrapped (R410). -/
def countStep (old s : State) : State :=
  let count (k : Nat) (x : PerfCounter) : PerfCounter :=
    match tget? old.telem.perf k with
    | none => x
    | some c =>
      let n := s.eventCount c.event - old.eventCount c.event
      if c.event = x.event && c.value = x.value then x.add n
      else { x with lostOvf := x.lostOvf || decide (2 ^ 48 ≤ c.value.toNat + n) }
  if s.telem.perf.isEmpty then s else { s with telem := { s.telem with perf := tmap s.telem.perf count } }

end Sys2Proof.Machine
end

