-- ==== Sys2Proof/Machine/Ops.lean ====
section
/-!
DEFINITION. The named operations every family shares: the parts of State by number, alerts and vectors, the error log, links, the
canary, standing faults, recover causes and state transitions (spec 03, 15, 16, 17).
-/
namespace Sys2Proof.Machine

/-! Parts of State by number. -/

/-- A sender channel by its code (Table 2.1). -/
def State.chan (s : State) (c : Nat) : Channel :=
  match c with
  | 0 => s.ns
  | 1 => s.sec
  | 2 => s.peer
  | _ => s.bmc

def State.setChan (s : State) (c : Nat) (x : Channel) : State :=
  match c with
  | 0 => { s with ns := x }
  | 1 => { s with sec := x }
  | 2 => { s with peer := x }
  | _ => { s with bmc := x }

/-- A PCI Express function: PF1 or PF0. -/
def State.fn (s : State) (pf1 : Bool) : PciFunction := if pf1 then s.host.pf1 else s.host.pf0

def State.setFn (s : State) (pf1 : Bool) (f : PciFunction) : State :=
  if pf1 then { s with host := { s.host with pf1 := f } } else { s with host := { s.host with pf0 := f } }

/-- The channel code of a function's own mailbox. -/
def fnChan (pf1 : Bool) : Nat := if pf1 then 1 else 0

def State.port (s : State) (p : Nat) : Port := s.ports.getD p Port.reset
def State.setPort (s : State) (p : Nat) (x : Port) : State := { s with ports := s.ports.set p x }

def State.dma (s : State) (c : Nat) : DmaChannel := s.host.channels.getD c DmaChannel.reset
def State.setDma (s : State) (c : Nat) (x : DmaChannel) : State :=
  { s with host := { s.host with channels := s.host.channels.set c x } }

/-- The owner of a DMA channel (R427): true for PF1. -/
def State.ownedByPf1 (s : State) (c : Nat) : Bool := s.host.owner.getLsbD c

def State.send (s : State) (o : Output) : State := { s with out := s.out ++ [o] }

/-- A free value and the state in which the next draw is another (log 15). -/
def State.draw (s : State) : W32 × State := (Config.freeWord s.free, { s with free := s.free + 1 })

/-! State codes (Table 2.6). -/

def DevState.code : DevState → Nat
  | .off => 0 | .reset => 1 | .boot => 2 | .init => 3 | .service => 4 | .degraded => 5 | .recover => 6 | .test => 7

/-- In SERVICE or DEGRADED. -/
def State.inService (s : State) : Bool := s.life.state == .service || s.life.state == .degraded

/-- In INIT or a later state: the device has left BOOT. -/
def State.booted (s : State) : Bool :=
  match s.life.state with
  | .off | .reset | .boot => false
  | _ => true

/-- The controller refreshes from the end of stack training on. -/
def State.trained (s : State) : Bool := s.booted || (s.life.state == .boot && s.life.fitted.isSome)

/-- A refresh stalls all traffic of device memory: 525 MEM cycles from its instant (R357, Table 12.3). -/
def State.refreshing (s : State) : Bool := s.trained && s.now < s.dram.lastRefresh + 350

/-- The tables of the version a stamp names (R31): the draining version for the draining epoch, else the current one. -/
def State.version (s : State) (stamp : W16) : Staged :=
  match s.drain with
  | some d => if d.epoch == stamp then d.tables else s.cur
  | none => s.cur

/-- The versions that packets may use: the current one and the one draining. -/
def State.liveVersions (s : State) : List Staged := s.cur :: (match s.drain with | some d => [d.tables] | none => [])

/-! MSI-X (R422, R426). -/

/-- A function issues requests and raises vectors only with Bus Master Enable set and outside D3hot (R426). -/
def PciFunction.able (f : PciFunction) : Bool := f.busMaster && !f.d3hot

/-- Raise a vector in a function: not at all where it cannot master or has MSI-X disabled, pending where masked, else as a message. -/
def State.raiseVector (s : State) (pf1 : Bool) (v : Nat) : State :=
  let f := s.fn pf1
  if !(f.able && f.msixEnable) then s
  else match f.vectors[v]? with
    | none => s
    | some e =>
      if e.masked || f.functionMask then s.setFn pf1 { f with vectors := f.vectors.set v { e with pending := true } }
      else s.send (.vector pf1 v)

/-- Bits of DMA_IRQ_STATUS a function sees: those of the channels it owns (Table 15.9). -/
def State.ownMask (s : State) (pf1 : Bool) : BitVec 16 := if pf1 then s.host.owner else ~~~ s.host.owner

/-- The channels with the given enable bit, as a mask. -/
def maskOf (l : List Bool) : Nat := flagByte l

/-- Source condition of a vector in a function (Table 15.5), for the vectors whose condition the state holds directly. -/
def State.source (s : State) (pf1 : Bool) (v : Nat) : Bool :=
  let f := s.fn pf1
  let c := s.chan (fnChan pf1)
  match v with
  | 0 => c.outStatus
  | 1 => c.taken
  | 2 => f.alert &&& f.alertIE != 0
  | 3 => (s.host.irqDone ||| s.host.irqErr) &&& s.ownMask pf1 != 0
  | 14 => f.ppsUnread
  | 15 => f.pairUnread
  | _ => false

/-- The enable of a vector (Table 15.5). -/
def State.vectorEnable (s : State) (pf1 : Bool) (v : Nat) : Bool :=
  let c := s.chan (fnChan pf1)
  match v with
  | 0 => c.replyIE
  | 1 => c.takenIE
  | 3 =>
    let done := BitVec.ofNat 16 (maskOf (s.host.channels.map (·.doneIE)))
    let err := BitVec.ofNat 16 (maskOf (s.host.channels.map (·.errIE)))
    ((s.host.irqDone &&& done) ||| (s.host.irqErr &&& err)) &&& s.ownMask pf1 != 0
  | 14 => (s.fn pf1).ppsIE
  | _ => true

/-- Raise the vectors of one function whose source condition went from false to true between two states (R422). -/
def settleFn (pf1 : Bool) (old : State) : List Nat → State → State
  | [], s => s
  | v :: vs, s =>
    settleFn pf1 old vs
      (if s.source pf1 v && !old.source pf1 v && s.vectorEnable pf1 v then s.raiseVector pf1 v else s)

/-- Raise the vectors whose source conditions became true from `old` to `s` in both functions (R422). -/
def settle (old s : State) : State :=
  settleFn true old [1, 0, 2, 3, 14, 15] (settleFn false old [1, 0, 2, 3, 14, 15] s)

/-! Alerts (R421, Table 15.4). -/

/-- An alert event sets its bit in both functions. -/
def State.alert (s : State) (bit : Nat) : State :=
  let m : BitVec 9 := 1#9 <<< bit
  { s with host := { s.host with pf0 := { s.host.pf0 with alert := s.host.pf0.alert ||| m },
                                 pf1 := { s.host.pf1 with alert := s.host.pf1.alert ||| m } } }

namespace AlertBit
def dmaHalted := 0
def entry := 1
def overflow := 2
def stateChange := 3
def thermal := 4
def droop := 5
def canaryStop := 6
def pairEvent := 7
def timeJump := 8
end AlertBit

/-! The error log (R475-R481). -/

/-- An error-log entry (Table 17.2). -/
def errEntry (s : State) (cls inst : Nat) (cleared : Bool) (seq repeats : Nat) (detail : Bytes) : Bytes :=
  le 2 cls ++ le 1 inst ++ le 1 cleared.toNat ++ le 4 seq ++ le 8 (if s.booted then s.time.flow.toNat else 0) ++
    le 2 s.epoch.current.toNat ++ le 2 s.life.state.code ++ le 4 (satur 32 repeats) ++ fit 8 detail

/-- An occurrence of an error class (R477): counted, kept as first and last record, and written to the ring when the class's spacing
of 10 us and the room of the ring allow. -/
def State.logError (s : State) (cls inst : Nat) (detail : Bytes) (cleared : Bool := false) : State :=
  match s.err.classes[cls - 1]? with
  | none => s
  | some c =>
    let spaced := match c.wrote with | some t => decide (t + 10000 ≤ s.now) | none => true
    let room := decide (s.err.entries.length < 1024)
    let write := spaced && room
    let seq := if write then (s.err.written + 1).toNat else 0
    let e := errEntry s cls inst cleared seq (c.repeats + 1) detail
    let c' : ErrClass :=
      { occ := satur 32 (c.occ + 1), unrec := if spaced && !room then satur 32 (c.unrec + 1) else c.unrec,
        first := some (c.first.getD e), last := some e, wrote := if write then some s.now else c.wrote,
        repeats := if write then 0 else c.repeats + 1 }
    let err := { s.err with classes := s.err.classes.set (cls - 1) c' }
    if write then
      let s1 := State.alert { s with err := { err with entries := s.err.entries ++ [e], written := s.err.written + 1 } } AlertBit.entry
      if s1.err.entries.length = 1024 then s1.alert AlertBit.overflow else s1
    else { s with err := err }

namespace ErrCode
def bootFail := 0x01
def strapFault := 0x02
def channelLost := 0x03
def tileRetired := 0x04
def assayFault := 0x05
def minerFault := 0x06
def fwdEcc := 0x07
def bufferEcc := 0x08
def tailingsLost := 0x09
def dmaHalted := 0x0A
def timeJump := 0x0B
def canaryLost := 0x0C
def peerLaneDown := 0x0D
def peerLost := 0x0E
def peerInconsistent := 0x0F
def journalOverrun := 0x10
def pairChange := 0x11
def droop := 0x12
def thermal := 0x13
def recoverEntered := 0x14
end ErrCode

def Role.code : Role → Nat
  | .none => 0 | .primary => 1 | .secondary => 2
def PairState.code : PairState → Nat
  | .none => 0 | .joined => 1 | .solo => 2 | .syncing => 3 | .diverged => 4

/-- Each pair event entry adds 1 to the pair event count and sets PAIR_EVENT (R499). -/
def State.pairEvent (s : State) (cls inst : Nat) (detail : Bytes) (cleared : Bool := false) : State :=
  let s1 := s.logError cls inst detail cleared
  { s1 with
      pair := { s1.pair with events := s1.pair.events + 1 },
      host := { s1.host with pf0 := { s1.host.pf0 with pairUnread := s1.pair.events + 1 != s1.pair.seen.getD 0 0 },
                             pf1 := { s1.host.pf1 with pairUnread := s1.pair.events + 1 != s1.pair.seen.getD 1 0 } } }.alert
    AlertBit.pairEvent

/-- A PAIR_CHANGE entry (Table 17.6). -/
def State.pairChange (s : State) (code : Nat) : State :=
  s.pairEvent ErrCode.pairChange s.pair.role.code (le 1 code)

/-! The canary (R90-R92). -/

/-- Disarm with a stop reason: CANARY is driven low and toggling stops (R91). -/
def State.canaryStop (s : State) (reason : Nat) : State :=
  if s.canary.armed then
    { s with canary := { s.canary with armed := false, toggling := false, level := .low, reason := reason,
                                       stopNs := BitVec.ofNat 32 s.time.ns } }.alert AlertBit.canaryStop
  else s

/-! Ports and links (R86, R99). -/

/-- Lanes a port of a mode uses, from its lowest (Table 3.2). -/
def modeLanes : Nat → Nat
  | 0 => 0
  | 4 => 2
  | 5 => 4
  | _ => 1

/-- A front port's committed configuration. -/
def State.portCfg (s : State) (p : Nat) : PortCfg := s.cur.port.ports.getD p PortCfg.reset

/-- A secondary of a pair stands by while it has not become primary and has not diverged or left (R485, R486). -/
def State.standby (s : State) : Bool :=
  s.pair.role == .secondary && s.pair.state != .none && s.pair.state != .diverged

/-- Front ports are held by a standing-by secondary, and by a former secondary until its next commit (R498). -/
def State.portsHeld (s : State) : Bool := s.standby || s.pair.portsHeld

/-- Lanes held down by the power profile (Table 18.4). -/
def heldLane (profile lane : Nat) : Bool :=
  match profile with
  | 0 => false
  | 1 => (8 ≤ lane && lane ≤ 11) || (20 ≤ lane && lane ≤ 23)
  | _ => (4 ≤ lane && lane ≤ 11) || (16 ≤ lane && lane ≤ 23)

/-- A port of the committed table loses a lane to the power profile (R510). -/
def State.capHolds (s : State) (p : Nat) : Bool :=
  (List.range (modeLanes (s.portCfg p).mode)).any fun k => heldLane s.power.profile (p + k)

/-- The port holds a mode and its enable in force is on. -/
def State.portOn (s : State) (p : Nat) : Bool :=
  if p < 24 then (s.portCfg p).mode != 0 && (s.portCfg p).enable else decide (p < 26)

/-- The lanes of a port run: front ports in SERVICE and DEGRADED, and in TEST for PORT_LOOPBACK (R86); peer ports in every state from INIT
on (R87). -/
def State.lanesRun (s : State) (p : Nat) : Bool :=
  if p < 24 then
    ((s.inService && s.portOn p && !s.portsHeld) || (s.life.state == .test && (s.port p).loopback != 0)) && !s.capHolds p
  else decide (p < 26) && s.booted

def Link.code : Link → Nat
  | .down => 1 | .an => 2 | .training => 3 | .up => 4 | .localFault => 5 | .remoteFault => 6 | .anNoCommon => 7

/-- The link state PORT_STATUS reports (R99). -/
def State.linkCode (s : State) (p : Nat) : Nat :=
  if (s.port p).loopback != 0 then 8
  else if p < 24 && (!s.portOn p || s.portsHeld) then 0
  else if p < 24 && s.inService && s.capHolds p then 5
  else if !s.lanesRun p then 1
  else (s.port p).link.code

/-- The port sends and receives frames: UP, or in loopback (R80, R83). -/
def State.portUp (s : State) (p : Nat) : Bool := s.linkCode p == 4 || s.linkCode p == 8

/-- Frames that are still arriving on a port are cut off (R80, R85). -/
def State.cutFrames (s : State) (p : Nat) : State :=
  { s with buf := { s.buf with arriving := s.buf.arriving.map fun a => if a.port = p then { a with cut := true } else a } }

/-- The instant of a port's last link-state change follows the state PORT_STATUS reports (R99); frames arriving across it are cut off. -/
def State.noteLink (old s : State) (p : Nat) : State :=
  if old.linkCode p == s.linkCode p then s else (s.setPort p { s.port p with changed := s.now }).cutFrames p

def State.noteLinks (old s : State) : State := (List.range 26).foldl (State.noteLink old) s

/-- The port of a lane. -/
def State.lanePort (s : State) (lane : Nat) : Option Nat :=
  if 24 ≤ lane then some lane else (List.range 24).find? fun p => p ≤ lane && lane < p + modeLanes (s.portCfg p).mode

/-- A lane has CDR lock and signal detect on a port that is UP (R386). -/
def State.laneLocked (s : State) (lane : Nat) : Bool :=
  match s.lanePort lane with
  | some p => let x := s.port p; x.link == .up && x.cdr.getLsbD (lane - p) && x.sd.getLsbD (lane - p)
  | none => false

/-- Lanes whose lock may have begun or ended: its instant follows, and RCLK_OUT is squelched where its lane has none (R386). -/
def State.relock (lanes : List Nat) (s : State) : State :=
  let locks := lanes.foldl (fun (l : List (Option Nat)) k => l.set k (if s.laneLocked k then some ((l.getD k none).getD s.now) else none)) s.time.locks
  { s with time := { s.time with locks := locks, rclkRun := s.time.rclkRun && (locks.getD s.time.rclkLane none).isSome } }

/-- Set the link of a port with what follows from it: the link-up count, calibration, the peer delay state and RCLK_OUT
(R99, R376, R381, R386). -/
def State.setLink (s : State) (p : Nat) (l : Link) (cdr sd : BitVec 4) : State :=
  let old := s.port p
  let was := old.link == .up
  let up := l == .up
  let x : Port :=
    { old with link := l, cdr := cdr, sd := sd, ups := if up && !was then satur 16 (old.ups + 1) else old.ups }
  let s1 := State.noteLink s (s.setPort p x) p
  let tp := s.time.ports.getD p PtpLive.reset
  let tp' : PtpLive :=
    if up then (if was then tp else { tp with calibrated := false })
    else { tp with
      calibrated := false, delayState := .none, delay := 0, sampled := false, waiting := false, losses := 0, twoStep := none }
  State.relock [p, p + 1, p + 2, p + 3] { s1 with time := { s1.time with ports := s1.time.ports.set p tp' } }

/-- Start a port's lanes over: it goes down, and the link's own events bring it through negotiation and training (R79, R85). -/
def State.retrain (s : State) (p : Nat) : State := s.setLink p .down 0 0

/-- Start or stop every front port for a change of device state (R86). -/
def State.retrainFront (s : State) : State := (List.range 24).foldl State.retrain s

/-! Mailbox timers at a transition (R57, R58). -/

/-- A message pending when the device enters SERVICE or DEGRADED starts a full timeout, of the length in force when it was rung (R58, R59);
leaving them stops the timer. -/
def Channel.retime (c : Channel) (now : Nat) (run : Bool) : Channel :=
  { c with timer := if run && c.pending then some (now, c.rungMs * 1000000) else none }

def State.retime (s : State) (run : Bool) : State :=
  { s with ns := s.ns.retime s.now run, sec := s.sec.retime s.now run, peer := s.peer.retime s.now run,
           bmc := s.bmc.retime s.now run }

/-! Transitions (R460, Table 16.3). -/

/-- Enter a device state: STATE_CHANGE, timers, lanes and the canary follow from it; RECOVER is logged, and a primary that enters it
relinquishes (R460, R86, R91, R484, R496). A move between SERVICE and DEGRADED leaves a running mailbox timer as it is (R58; DESIGN CHOICE,
log 134). -/
def State.enter (s : State) (dest : DevState) : State :=
  let was := s.inService
  let s1 := { s with life := { s.life with state := dest, prev := s.life.state, since := s.now } }
  let s2 := if dest == .boot || dest == .reset || dest == .off then s1 else s1.alert AlertBit.stateChange
  let s3 := if s2.inService == was then s2 else s2.retime s2.inService
  let s4 := if s3.inService == was then s3 else s3.retrainFront
  let s5 := State.noteLinks s (if was && !s4.inService then s4.canaryStop 2 else s4)
  if dest == .recover then
    let s6 := s5.logError ErrCode.recoverEntered 0 (le 1 s5.life.causes.toNat)
    if s6.pair.role == .primary then { s6 with pair := { s6.pair with relinquish := true } } else s6
  else s5

/-- The state SERVICE or DEGRADED that the standing faults ask for. -/
def State.serviceState (s : State) : DevState := if s.life.faults == 0 then .service else .degraded

/-- Raise or clear a standing fault; SERVICE and DEGRADED follow (R483, Table 16.3). -/
def State.setFault (s : State) (bit : Nat) (on : Bool) : State :=
  let m : BitVec 5 := 1#5 <<< bit
  let f := if on then s.life.faults ||| m else s.life.faults &&& ~~~ m
  let s1 := { s with life := { s.life with faults := f } }
  if s1.inService && s1.serviceState != s1.life.state then s1.enter s1.serviceState else s1

/-- Raise a recover cause; from SERVICE or DEGRADED the device enters RECOVER (R463). -/
def State.raiseCause (s : State) (bit : Nat) : State :=
  let s1 := { s with life := { s.life with causes := s.life.causes ||| (1#3 <<< bit) } }
  if s1.inService then s1.enter .recover else s1

namespace FaultBit
def channelLost := 0
def minerWithdrawn := 1
def pairSolo := 2
def peerLaneDown := 3
def thermal := 4
end FaultBit

/-- The pair's state changes; PAIR_SOLO is raised by SOLO and SYNCING, and cleared by JOINED and by the pair's end (R483, Table 17.3). -/
def State.setPair (s : State) (st : PairState) (r : Role) : State :=
  let s1 := State.noteLinks s { s with pair := { s.pair with state := st, role := r } }
  s1.setFault FaultBit.pairSolo (st == .solo || st == .syncing || (st == .diverged && s.life.faults.getLsbD FaultBit.pairSolo))

/-! Derived levels of balls (R480, R516, R528). -/

/-- ALERT_N is asserted while PF1's ALERT_STATUS AND the mask is non-zero, or from a BOOT_FAIL. -/
def State.alertN (s : State) : Bool := s.life.bootFail.isSome || (s.host.pf1.alert &&& s.host.alertPin != 0 && s.booted)
/-- THERM_N is asserted while DIE_CRITICAL or STACK_CRITICAL is raised. -/
def State.thermN (s : State) : Bool := s.power.limits.getLsbD 2 || s.power.limits.getLsbD 4
def State.smbAlertN (s : State) : Bool := s.bmc.outStatus && s.booted
def State.gpio0 (s : State) : Bool := s.inService
def State.gpio1 (s : State) : Bool := s.life.state == .degraded || s.life.state == .recover || s.life.bootFail.isSome
def State.gpio2 (s : State) : Bool := s.pair.role == .primary && s.pair.state != .none && s.booted

/-- The effective CORE ceiling in MHz (R511): the lowest of the profile's, the droop stage's and the thermal ceiling. -/
def State.ceiling (s : State) : Nat :=
  let prof := match s.power.profile with | 0 => 3000 | 1 => 2250 | _ => 1500
  let droop := match s.power.stage with | 0 => 3000 | 1 => 2250 | _ => 1500
  let heat := if s.power.limits.getLsbD 2 then 1500 else if s.power.limits.getLsbD 1 then 2250 else 3000
  min prof (min droop heat)

/-- Which pipeline a port feeds (R10, Table 3.1). -/
def portPipe (p : Nat) : Bool := (12 ≤ p && p ≤ 23) || p == 25 || p == 33

end Sys2Proof.Machine
end

