-- ==== Sys2Proof/Machine/Operands.lean ====
section
/-!
DEFINITION. The operands of a command packet: header and parameter fields, records of a batch, status codes, and what a command's
execution answers (R44-R50).
-/
namespace Sys2Proof
open Machine

/-- Parameter byte `i` of a message; bytes not stated are zero. -/
def Msg.p (m : Msg) (i : Nat) : Nat := byteAt m.params i
/-- Little-endian parameter field. -/
def Msg.f (m : Msg) (i n : Nat) : Nat := fieldLe m.params i n
/-- The header flags (Table 2.3). -/
def Msg.stage (m : Msg) : Bool := m.flags.getLsbD 0
def Msg.snap (m : Msg) : Bool := m.flags.getLsbD 1
def Msg.batch (m : Msg) : Bool := m.flags.getLsbD 2

/-- The message as the interpreter copies it: exactly the stated number of parameter bytes (R55). -/
def Msg.norm (m : Msg) : Msg := { m with params := fit m.len.toNat m.params }

/-- The packet as it lies in a buffer (Table 2.2). -/
def Msg.bytes (m : Msg) (op : Nat) : Bytes :=
  le 2 op ++ le 2 m.tag.toNat ++ le 2 m.len.toNat ++ [m.flags, m.origin] ++ le 2 m.guard.toNat ++ fit 6 m.resv ++ m.params

/-- The packet a buffer holds, with its opcode: the header and the stated parameters (R44, R55). -/
def parsePacket (ch : Nat) (b : Bytes) : Nat × Msg :=
  let len := fieldLe b 4 2
  (fieldLe b 0 2,
   { ch := ch, tag := BitVec.ofNat 16 (fieldLe b 2 2), len := BitVec.ofNat 16 len, flags := b.getD 6 0, origin := b.getD 7 0,
     guard := BitVec.ofNat 16 (fieldLe b 8 2), resv := slice b 10 6, params := slice b 16 (min len 4080) })

/-- The records of a message. -/
def Msg.recs (m : Msg) (k : Nat) : List Bytes := recordsOf k (m.params.length / k) m.params

end Sys2Proof

namespace Sys2Proof.Machine

namespace Status
def ok := 0
def badOpcode := 1
def badLength := 2
def badParam := 3
def state := 4
def busyEpoch := 5
def noRoom := 6
def secureOnly := 7
def epochGuard := 8
def peerFail := 9
def timeout := 10
def range := 11
def locked := 12
end Status

/-- What the execution of a command answers: the next state, the status and detail, the reply parameters. -/
structure Done where
  state  : State
  status : Nat := 0
  detail : Nat := 0
  params : Bytes := []
  /-- Epoch field of the reply, where it is not the current epoch (R48). -/
  epoch  : Option W16 := none
  /-- Records executed, of a batch that ended early (R46). -/
  early  : Option Nat := none
  /-- Stopped before this record until a flow's DRAM request ends (R199, R228): no reply yet. True where the interpreter is held. -/
  waits  : Option (Nat × Bool) := none
  /-- Waits for the peer before the reply (R491). -/
  holds  : Bool := false
  /-- Transition that takes effect after the reply is queued (R464). -/
  enters : Option DevState := none

/-- Executed, with reply parameters. -/
def ok (s : State) (params : Bytes := []) (detail : Nat := 0) : Done := { state := s, params := params, detail := detail }
/-- Refused, with no effect (R49). -/
def refuse (s : State) (status detail : Nat) (params : Bytes := []) : Done :=
  { state := s, status := status, detail := detail, params := params }
def badParam (s : State) (i : Nat) : Done := refuse s Status.badParam (16 + i)
def outOfRange (s : State) (i : Nat) : Done := refuse s Status.range (16 + i)

/-- What one record of a batch answers. -/
inductive RecAns where
  /-- Executed; the bytes it adds to the reply. -/
  | ok (s : State) (out : Bytes)
  | refuse (status detail : Nat)
  /-- Refused, after its check met faults of the tiles it read, or counted what it found no room for. -/
  | refuseWith (s : State) (status detail : Nat)
  /-- Must wait until a DRAM request ends, the interpreter released (R42). -/
  | wait (s : State)
  /-- Must wait with the interpreter held: another placement's claim has to end first (R206). -/
  | hold (s : State)

/-- Execute records in order (R46). `k` is the record size, `r` the number of the first of `recs`. -/
def runRecords (batch : Bool) (k : Nat) (f : State → Bytes → Nat → RecAns) : List Bytes → Nat → State → Bytes → Done
  | [], _, s, out => ok s out
  | b :: bs, r, s, out =>
    match f s b (16 + r * k) with
    | .ok s' o => runRecords batch k f bs (r + 1) s' (out ++ o)
    | .refuse st d =>
      { state := s, status := st, detail := d, params := if batch then le 2 r ++ [0, 0] else [], early := some r }
    | .refuseWith s' st d =>
      { state := s', status := st, detail := d, params := if batch then le 2 r ++ [0, 0] else [], early := some r }
    | .wait s' => { state := s', waits := some (r, false), params := out }
    | .hold s' => { state := s', waits := some (r, true), params := out }

/-- A command that takes records of `k` bytes: the records of its message, executed in order from record `from_`. -/
def records (m : Msg) (k : Nat) (f : State → Bytes → Nat → RecAns) (s : State) (from_ : Nat := 0) : Done :=
  runRecords m.batch k f ((recordsOf k (m.params.length / k) m.params).drop from_) from_ s []

/-- The status of a command that names a port beyond 25 where it takes 0-25: no such port (R76), or one out of its range. -/
def portStatus (p : Nat) : Nat := if p = 32 || p = 33 then Status.range else Status.badParam

/-- A STAGE that a SET needs and lacks (R45): BAD_PARAM at the flags byte. -/
def noStage : RecAns := .refuse Status.badParam 6

/-- Any record of a message has a byte other than 0 at an offset: it holds a SET. -/
def anyRec (m : Msg) (k i : Nat) : Bool := (m.recs k).any fun b => byteAt b i != 0

/-- A staged change that changes the shadow adds 1 to the shadow change count (R69). -/
def State.stageWith (s : State) (f : Staged → Staged) : State :=
  { s with shadow := f s.shadow, epoch := { s.epoch with changes := s.epoch.changes + 1 } }

/-- The tables a read looks at: the shadow with STAGE, else the current version (R45). -/
def State.view (s : State) (m : Msg) : Staged := if m.stage then s.shadow else s.cur

/-- The first of the parameter bytes `l` that is not zero refuses the command with BAD_PARAM (R9, R50). -/
def needZero (s : State) (m : Msg) (l : List Nat) (go : Done) : Done :=
  match firstNonZeroAt m.params l with
  | some i => badParam s i
  | none => go

/-- The same for a record at message offset `base`. -/
def recZero (b : Bytes) (base : Nat) (l : List Nat) (go : RecAns) : RecAns :=
  match firstNonZeroAt b l with
  | some i => .refuse Status.badParam (base + i)
  | none => go

/-- Offsets from `a` to `b`, both included. -/
def span (a b : Nat) : List Nat := (List.range (b + 1 - a)).map (· + a)

end Sys2Proof.Machine
end

