-- ==== Sys2Proof/Machine/Flags.lean ====
section
/-!
DEFINITION. The checks a command packet passes before it executes (R52), and the reply it is given (R48, R56, R61).
-/
namespace Sys2Proof
open Machine

/-- Step 4: offset of the first reserved header byte or bit that is wrong. -/
def Msg.badHeader (m : Msg) : Option Nat :=
  if m.flags.toNat / 8 != 0 then some 6
  else if m.origin != 0 && m.ch != 2 then some 7
  else firstNonZero m.resv 10

end Sys2Proof

namespace Sys2Proof.Machine

/-- What the index and the chapters say of a command, by which R52 checks it. -/
structure Cmd where
  op : Nat
  /-- Step 5: the command accepts the flags that are set. -/
  flags : Msg → Bool := fun m => m.flags == 0
  /-- Step 6: legal in the state (Table 16.5). -/
  legal : Msg → State → Bool
  /-- Step 8: the length is as the command requires; the largest length it accepts with these flags. -/
  len : Msg → Bool × Nat
  /-- Step 1: the largest length any form of the command accepts with these flags; no parameter byte is read. -/
  most : Msg → Nat := fun m => (len { m with params := [] }).2
  /-- Step 9: the change is subject to the configuration lock. -/
  locks : Msg → Bool := fun _ => false
  /-- It changes staged or live state, or performs an action (R486, R489). -/
  changes : Msg → Bool
  /-- Kept per device: not forwarded (R445, R482, R486, R500), and accepted by a standing-by secondary where R486 lists it. -/
  perDevice : Bool := false
  /-- Records of its batch that are each member's own are not forwarded (R274). -/
  ownRecords : Bool := false
  own : Msg → State → Bytes → Bool := fun _ _ _ => false
  /-- It reads or writes device memory. -/
  memory : Bool := false
  /-- Step 3: accepted on BMC (R67) and on PEER. -/
  onBmc : Bool := false
  onPeer : Bool := true
  body : Msg → State → Done

/-! Flags (R45). -/

def flagsNone : Msg → Bool := fun m => m.flags == 0
/-- Only the flags of the mask. -/
def flagsIn (mask : Byte) : Msg → Bool := fun m => m.flags &&& ~~~ mask == 0

/-! Legality by state (Table 16.5). -/

def legalAll : Msg → State → Bool := fun _ s => s.booted
/-- Not in RECOVER. -/
def legalRun : Msg → State → Bool := fun _ s => s.booted && s.life.state != .recover
/-- In RECOVER only where the predicate says the message reads. -/
def legalRead (reads : Msg → Bool) : Msg → State → Bool := fun m s => s.booted && (s.life.state != .recover || reads m)
def legalIn (l : List DevState) : Msg → State → Bool := fun _ s => l.contains s.life.state

/-! Lengths (R46). -/

/-- No record format: exactly `n` bytes. -/
def lenIs (n : Nat) : Msg → Bool × Nat := fun m => (m.len.toNat == n, n)
/-- From `lo` to `hi` bytes. -/
def lenIn (lo hi : Nat) : Msg → Bool × Nat := fun m => (lo ≤ m.len.toNat && m.len.toNat ≤ hi, hi)
/-- One of several lengths. -/
def lenOneOf (l : List Nat) : Msg → Bool × Nat := fun m => (l.contains m.len.toNat, l.foldl max 0)
/-- A record format: one record, or with BATCH a whole number of records up to `max`. -/
def lenRec (k max : Nat) : Msg → Bool × Nat := fun m =>
  if m.batch then (m.len.toNat % k == 0 && m.len.toNat != 0 && m.len.toNat / k ≤ max, k * max) else (m.len.toNat == k, k)

/-! Step 3 of R52. -/

/-- A standing-by secondary accepts on its own channels only the commands of R67, groups 0x0E and 0x11, PAIR_STATUS and PAIR_LEAVE,
and reads that change nothing (R486). -/
def Cmd.standbyOk (c : Cmd) (m : Msg) : Bool :=
  c.onBmc || c.op / 256 == 0x0E || c.op / 256 == 0x11 || c.op == 0x0F02 || c.op == 0x0F03 || !c.changes m

/-- Whether the channel accepts the command: the refusal's status and detail if not (R65, R66, R67, R486). Two points are the model's
(DESIGN CHOICE, log 134): on PEER an origin byte of 2 or more is accepted for a command outside the 0x12xx group, and a command that is not
accepted on PEER is refused with SECURE_ONLY, detail 0x0001. -/
def Cmd.accept (c : Cmd) (m : Msg) (s : State) : Option (Nat × Nat) :=
  let secure := c.op / 256 == 0x12
  if m.ch = 2 then
    (if s.pair.state == .joined && (!secure || m.origin == 1) then (if c.onPeer then none else some (Status.secureOnly, 1))
     else some (Status.secureOnly, 3))
  else if m.ch = 3 then
    (if c.onBmc then none else some (Status.secureOnly, 2))
  else if secure && m.ch = 0 then some (Status.secureOnly, 1)
  else if s.standby && !c.standbyOk m then some (Status.peerFail, 2)
  else none

/-- The commands of R67, DEVICE_MBX_TIMEOUT as a read only: all that is accepted while CLEARING (R363, R469). -/
def Cmd.clearingOk (c : Cmd) (m : Msg) (s : State) : Bool :=
  s.life.clearing == .none || (c.onBmc && !(c.op == 0x0108 && c.changes m))

/-- Steps 1 to 9 of R52: the first refusal, as status and detail. -/
def Cmd.check (c : Cmd) (m : Msg) (s : State) : Option (Nat × Nat) :=
  if m.len.toNat > 4080 then some (Status.badLength, c.most m)
  else match c.accept m s with
  | some r => some r
  | none =>
    match m.badHeader with
    | some i => some (Status.badParam, i)
    | none =>
      if !c.flags m then some (Status.badParam, 6)
      else if !(c.legal m s && c.clearingOk m s) then some (Status.state, s.life.state.code)
      else if m.guard != 0xFFFF && m.guard != s.epoch.current then some (Status.epochGuard, s.epoch.current.toNat)
      else if !(c.len m).1 then some (Status.badLength, (c.len m).2)
      else if s.life.lock && c.locks m then some (Status.locked, 0)
      else none

/-! Replies (R48, R56, R61). -/

/-- A reply laid out (Table 2.4). -/
def Reply.bytes (r : Reply) : Bytes :=
  le 2 r.opcode.toNat ++ le 2 r.tag.toNat ++ le 2 r.params.length ++ le 2 r.status.toNat ++ le 2 r.epoch.toNat ++
    le 2 r.detail.toNat ++ zeros 4 ++ r.params

/-- Place a reply: in the outbound buffer while OUT_STATUS is 0, else behind it in the queue (R56, R61); after a reset of the function the
reply of the command that executed is discarded (R425). -/
def Channel.reply (c : Channel) (bytes : Bytes) : Channel :=
  if c.discard then { c with discard := false }
  else if c.outStatus then { c with replies := c.replies ++ [bytes] } else { c with outbound := bytes, outStatus := true }

/-- The peer lanes that are UP (R88). -/
def State.lanesUp (s : State) : List Nat := [24, 25].filter fun p => (s.port p).link == .up

/-- A word goes out on a peer lane to the partner; a looped lane reaches no partner (R101), and the lane's own receiver, which is given it in
PMA_NEAR and PCS_NEAR, finds no exchange that it answers (DESIGN CHOICE, log 168). -/
def State.sendLane (s : State) (p : Nat) (x : PeerWord) : State := if (s.port p).loopback = 0 then s.send (.peer p x) else s

/-- A heartbeat goes out on a peer lane: to the partner; in PMA_NEAR and PCS_NEAR back to the lane's own receiver; nowhere in PMA_FAR
(R101). -/
def State.sendBeat (s : State) (p : Nat) (h : Heartbeat) : State :=
  match (s.port p).loopback with
  | 0 => s.send (.peer p (.heartbeat h))
  | 3 => s
  | _ => { s with pair := if p = 24 then { s.pair with own0 := some h } else { s.pair with own1 := some h } }

/-- The peer lanes that are UP and reach the partner. -/
def State.lanesOut (s : State) : List Nat := s.lanesUp.filter fun p => (s.port p).loopback == 0

/-- A link control word goes out on each peer lane that is UP (R88). -/
def State.onEach (s : State) (x : PeerWord) : State := s.lanesUp.foldl (fun s p => s.sendLane p x) s

/-- A PEER channel message or a journal record goes out on one of the peer lanes that are UP; the spec does not say on which of two (R88). -/
def State.onPeer (s : State) (x : PeerWord) : State :=
  match s.lanesUp with
  | [] => s
  | [p] => s.sendLane p x
  | _ => let (w, s1) := s.draw; s1.sendLane (24 + w.toNat % 2) x

/-- The flags of the PEER channel travel by link control words (R63). -/
def State.peerWord (s : State) : State := s.onEach (.peerFlags s.peer.taken s.peer.timeout s.peer.outStatus)

/-- The PEER channel after its outbound buffer may have been filled: a reply placed in it crosses the link with OUT_STATUS (R56, R63). -/
def State.peerPlaced (s : State) (was : Bool) : State :=
  if !was && s.peer.outStatus then (s.onPeer (.peerReply s.peer.outbound)).peerWord else s

def State.reply (s : State) (ch : Nat) (r : Reply) : State :=
  let s1 := s.setChan ch ((s.chan ch).reply r.bytes)
  if ch = 2 then s1.peerPlaced s.peer.outStatus else s1

def replyOf (op : Nat) (m : Msg) (epoch : W16) (status detail : Nat) (params : Bytes) : Reply :=
  { opcode := BitVec.ofNat 16 op, tag := m.tag, status := BitVec.ofNat 16 status, epoch := epoch,
    detail := BitVec.ofNat 16 detail, params := params }

/-- A command that waits holds the interpreter (R42). -/
def Channel.holds (c : Channel) : Bool := match c.waiting with | some (.flow _ _ _ held) => held | _ => false
def State.interpreterHeld (s : State) : Bool := s.ns.holds || s.sec.holds || s.peer.holds || s.bmc.holds

/-- The channel can be taken from: the interpreter is free, no command of the channel waits, and its queue is not full (R42, R61). -/
def State.canTake (s : State) (ch : Nat) : Bool :=
  s.booted && !s.interpreterHeld && (s.chan ch).waiting.isNone && decide ((s.chan ch).replies.length < 16) && decide (ch < 4)

/-- A device that forwards what it executes: the primary of a JOINED pair (R489); while SYNCING or rejoining, commands enter the
journal instead (R497). -/
def State.forwards (s : State) : Bool := s.pair.role == .primary && s.pair.state == .joined
def State.journals (s : State) : Bool := s.pair.role == .primary && s.pair.state == .syncing

/-- A secondary counts the forwarded commands it executes with the records it applies (R492). -/
def State.countForwarded (s : State) (ch : Nat) : State :=
  if ch = 2 && s.pair.role == .secondary then { s with pair := { s.pair with jApplied := s.pair.jApplied + 1 } } else s

end Sys2Proof.Machine
end

