-- ==== Sys2Proof/Machine/Memory.lean ====
section
/-!
DEFINITION. Device memory: tiles and their checks, the write queue, assay, quarantine and retirement, and the seam directory with free
space (spec 01, 07, 12).
-/
namespace Sys2Proof.Machine

/-! Tiles in the stacks (R16, R19, R360). -/

/-- What an unlisted address reads as: the invalid pattern that BOOT and every clearing leave in each tile, with its check. -/
def memDefault (a : Nat) : Byte := (wholeTile invalidPayload (a / 64)).getD (a % 64) 0

def memRead (m : Memory) (a : Nat) : Byte := (m.lookup a).getD (memDefault a)

/-- The 64 bytes of a tile as stored. -/
def memTile (m : Memory) (i : Nat) : Bytes := (List.range 64).map fun k => memRead m (i * 64 + k)

/-- The listed cells of a tile that holds the given 64 bytes. -/
def tileCells (i : Nat) (bytes : Bytes) : Memory :=
  (List.range 64).filterMap fun k =>
    if bytes.getD k 0 = memDefault (i * 64 + k) then none else some (i * 64 + k, bytes.getD k 0)

/-- Write a whole tile, keeping the canonical form. -/
def memWrite (m : Memory) (i : Nat) (bytes : Bytes) : Memory :=
  m.filter (fun c => c.1 < i * 64) ++ (tileCells i bytes ++ m.filter (fun c => i * 64 + 64 ≤ c.1))

/-- Write the invalid pattern to a run of tiles. -/
def memClear (m : Memory) (first count : Nat) : Memory :=
  m.filter fun c => c.1 < first * 64 || (first + count) * 64 ≤ c.1

/-- The canonical form: addresses strictly rising, and no cell equal to what its unlisted address reads as. -/
def Memory.wf : Memory → Bool
  | [] => true
  | [c] => c.2 != memDefault c.1
  | c :: d :: rest => c.2 != memDefault c.1 && decide (c.1 < d.1) && Memory.wf (d :: rest)

/-- A tile passes assay when its stored check is the check of its payload at its index (R16, R17). -/
def tileOk (bytes : Bytes) (i : Nat) : Bool := bytes.drop 60 == tileCheck (bytes.take 60) i

/-- Cells upset in the stacks: the stored check of each tile no longer matches; a tile whose newest state is in the write queue is
struck there (R188). -/
def upsetTile (m : Memory) (i : Nat) : Memory :=
  let t := memTile m i
  memWrite m i (t.take 63 ++ [(t.getD 63 0) ^^^ 1#8])

def State.upset (s : State) (u : Upsets) : State :=
  { s with dram := { s.dram with
      mem := u.tiles.foldl (fun m i => if (tget? s.dram.wq i).isSome then m else upsetTile m i) s.dram.mem,
      wqBad := s.dram.wqBad ++ u.tiles.filter fun i => (tget? s.dram.wq i).isSome && !s.dram.wqBad.contains i } }

/-! Capacity and placement (R1, R351). -/

/-- Tiles of the fitted stack class (Table 0.1). -/
def tilesOf (hb : Bool) : Nat := if hb then 2 ^ 27 else 2 ^ 28
def State.hb (s : State) : Bool := s.life.fitted.getD false
def State.tiles (s : State) : Nat := tilesOf s.hb

/-- Where a tile lies in the stacks (R351, Table 12.2). -/
structure TilePlace where
  row : Nat
  bankGroup : Nat
  /-- Bank within its group. -/
  bank : Nat
  pseudo : Nat
  channel : Nat
  stack : Nat
  /-- Tile within the row, and the half of the row, which holds one bucket. -/
  column : Nat
  half : Nat
  deriving DecidableEq, Repr

/-- The decoding of a tile index (R351, Table 12.2). -/
def tilePlace (i : Nat) : TilePlace :=
  { row := i / 2 ^ 14, bankGroup := i / 2 ^ 12 % 4, bank := i / 2 ^ 10 % 4, pseudo := i / 2 ^ 9 % 2, channel := i / 2 ^ 5 % 16,
    stack := i / 2 ^ 4 % 2, column := i % 16, half := i / 8 % 2 }

/-- Stack and channel of a tile, as stack x 16 + channel. -/
def tileChannel (i : Nat) : Nat := (tilePlace i).stack * 16 + (tilePlace i).channel

/-- The first tile of the row that holds a tile: the row's 16 tiles are consecutive. -/
def rowFirst (i : Nat) : Nat := i - (tilePlace i).column

/-! Counters of MEM_STATUS (Table 12.8). -/
def State.memCount (s : State) (i : Nat) (n : Nat := 1) : State :=
  { s with dram := { s.dram with counters := bump s.dram.counters i n } }

def State.lifeCount (s : State) (i : Nat) (n : Nat := 1) : State :=
  { s with flow := { s.flow with life := bump s.flow.life i n } }

/-! The seam directory (R22-R27). -/

def Directory.gen (d : Directory) (i : Nat) : Nat := (tget? d.gens i).getD 0
/-- The handle of a descriptor (Table 1.6). -/
def Directory.handle (d : Directory) (i : Nat) : Nat := d.gen i * 65536 + i
/-- The descriptor a handle names, when its generation is current (R26). -/
def Directory.find (d : Directory) (h : Nat) : Option Nat :=
  if (tget? d.used (h % 65536)).isSome && d.gen (h % 65536) == h / 65536 then some (h % 65536) else none

/-- Free descriptors that no reservation holds (R364). -/
def Directory.freeCount (d : Directory) : Nat := 65536 - d.fresh + d.freed.length - d.reserved

/-- Take the next descriptor: those never issued in rising order, then the oldest freed (R27). -/
def Directory.take (d : Directory) (x : Seam) : Nat × Directory :=
  if d.fresh < 65536 then (d.fresh, { d with used := tset d.used d.fresh x, fresh := d.fresh + 1 })
  else match d.freed with
    | i :: rest => (i, { d with used := tset d.used i x, freed := rest })
    | [] => (0, d)

/-- Free a descriptor: its generation moves on, from 0xFFFE to 0 (R26). -/
def Directory.drop (d : Directory) (i : Nat) : Directory :=
  let g := d.gen i + 1
  { d with used := tdel d.used i, gens := tset d.gens i (if g > 0xFFFE then 0 else g), freed := d.freed ++ [i] }

/-- Runs of device tiles of a seam in ordinal order, to a depth of nesting (R22). -/
def Directory.runs (d : Directory) : Nat → Nat → List (Nat × Nat)
  | 0, _ => []
  | depth + 1, i =>
    match tget? d.used i with
    | some { body := .run f n, .. } => [(f, n)]
    | some { body := .group ms, .. } => ms.flatMap fun m => d.runs depth m
    | some { body := .pieces rs, .. } => rs
    | _ => []

/-- Deepest nesting the directory can hold: one descriptor a level. -/
def State.seamRuns (s : State) (i : Nat) : List (Nat × Nat) := s.dram.dir.runs s.dram.dir.used.length i

def runsLength (rs : List (Nat × Nat)) : Nat := (rs.map (·.2)).foldl (· + ·) 0

/-- Rule-store tiles of a rule-store seam. -/
def Directory.storeTiles (d : Directory) (i : Nat) : List Nat :=
  match tget? d.used i with
  | some { body := .store rs, .. } => rs.flatMap fun r => (List.range r.2).map (r.1 + ·)
  | _ => []

/-- Length of a seam in tiles. -/
def State.seamLength (s : State) (i : Nat) : Nat := runsLength (s.seamRuns i) + (s.dram.dir.storeTiles i).length

/-- The tile at an ordinal of a list of runs. -/
def tileAt : List (Nat × Nat) → Nat → Nat
  | [], _ => 0
  | (f, n) :: rs, k => if k < n then f + k else tileAt rs (k - n)

/-- The tile of a seam at an ordinal. -/
def State.seamTile (s : State) (i k : Nat) : Nat := tileAt (s.seamRuns i) k

/-- Descriptor of a region's seam (R363): codes 0-5. -/
def State.regionDesc (s : State) (code : Nat) : Nat := s.dram.regions.getD code 0
def State.regionRuns (s : State) (code : Nat) : List (Nat × Nat) := s.seamRuns (s.regionDesc code)
def State.regionSize (s : State) (code : Nat) : Nat := runsLength (s.regionRuns code)
/-- Base of the first run of a region. -/
def State.regionBase (s : State) (code : Nat) : Nat := ((s.regionRuns code).headD (0, 0)).1
/-- Tile of a region by its ordinal. -/
def State.regionTile (s : State) (code k : Nat) : Nat := tileAt (s.regionRuns code) k
def inRuns (rs : List (Nat × Nat)) (i : Nat) : Bool := rs.any fun r => r.1 ≤ i && i < r.1 + r.2
def State.inRegion (s : State) (code i : Nat) : Bool := inRuns (s.regionRuns code) i

/-- The ordinal of a tile in a list of runs. -/
def ordinalOf : List (Nat × Nat) → Nat → Nat → Option Nat
  | [], _, _ => none
  | (f, n) :: rs, i, k => if f ≤ i && i < f + n then some (k + (i - f)) else ordinalOf rs i (k + n)

/-- Tile `k` of a balancing group's slot table (R257). -/
def slotTile (slots : List Nat) (k : Nat) : Bytes := fit 60 (((slots.drop (60 * k)).take 60).map (BitVec.ofNat 8))

/-- What a version of the staged tables writes in a tile: a host-written action entry (R235), tile 0 of a subscriber (R239) or a
balancing group's slot table (R257), held in the
version and not among the tiles lost to a fault. -/
def State.stagedTile (s : State) (v : Staged) (i : Nat) : Option Bytes :=
  if s.nat.lost.contains i then none
  else match ordinalOf (s.regionRuns 1) i 0 with
    | some k => tget? v.nat.actions k
    | none =>
      match ordinalOf (s.regionRuns 2) i 0 with
      | some k => if k % 4 = 0 then tget? v.nat.subs (k / 4) else none
      | none =>
        v.nat.groups.findSome? fun e => e.2.seam.bind fun d => (ordinalOf (s.seamRuns d) i 0).map fun k => slotTile e.2.slots k

/-! The write queue (R353-R355). -/

/-- The newest payload of a tile as a version of the staged tables sees it, if the tile passes assay (R187, R188). -/
def State.newestIn (s : State) (v : Staged) (i : Nat) : Option Bytes :=
  if s.flow.quarantine.contains i then none
  else match tget? s.dram.wq i with
  | some p => if s.dram.wqBad.contains i then none else some ((s.stagedTile v i).getD p)
  | none =>
    let t := memTile s.dram.mem i
    if tileOk t i then some ((s.stagedTile v i).getD (t.take 60)) else none

/-- The newest payload of a tile in the current version. -/
def State.newest (s : State) (i : Nat) : Option Bytes := s.newestIn s.cur i

/-- Occupancy at and above which only reserve writes enter (R355). -/
def hardLimit : Nat := 1008

/-- Whether a write to a tile can enter the queue; `reserve` marks new-flow tiles and quarantine writes (R355). -/
def State.wqRoom (s : State) (i : Nat) (reserve : Bool) : Bool :=
  (tget? s.dram.wq i).isSome || s.dram.wq.length < (if reserve then 1024 else hardLimit)

/-- Fields of a pool record that place its binding area (R243). -/
def poolBlock (r : Bytes) : Nat := fieldLe r 6 2
def poolBindBase (r : Bytes) : Nat := fieldLe r 16 4
def poolRuns (r : Bytes) : Nat := fieldLe r 20 4

/-- An entry index lies in a binding area of a version. -/
def Staged.inBindingArea (v : Staged) (idx : Nat) : Bool :=
  v.nat.pools.any fun p => poolBindBase p.2 ≤ idx && idx < poolBindBase p.2 + poolRuns p.2 * poolBlock p.2

/-- Which live tiles a pair journals (R492): the flow region, the binding areas of the action region and the subscriber region's tiles 1-3. -/
def State.journalled (s : State) (i : Nat) : Bool :=
  s.inRegion 0 i || (match ordinalOf (s.regionRuns 1) i 0 with | some k => s.liveVersions.any (fun v => v.inBindingArea k) | none => false) || (match ordinalOf (s.regionRuns 2) i 0 with | some k => k % 4 != 0 | none => false)

/-- The next record of the journal, and the journal with it (R492). -/
def State.nextRecord (s : State) (kind tile : Nat) (payload : Bytes) : JournalRec :=
  { seq := s.pair.jSeq + 1, kind := kind, tile := tile, payload := payload, time := s.now }
def State.pushRecord (s : State) (kind tile : Nat) (payload : Bytes) : State :=
  { s with pair := { s.pair with journal := s.pair.journal ++ [s.nextRecord kind tile payload], jSeq := s.pair.jSeq + 1 } }

/-- Put a record in the journal, and send it (R88, R492). -/
def State.journalAdd (s : State) (kind tile : Nat) (payload : Bytes) : State :=
  (s.pushRecord kind tile payload).onPeer (.journal (s.nextRecord kind tile payload))

/-- A live record enters the journal; where the journal region has no room it is discarded and counted, JOURNAL_OVERRUN is logged, the
pair becomes SOLO, and with AUTO_RESYNC a resync starts anew (R492, R493). -/
def State.journalLive (s : State) (i : Nat) (payload : Bytes) (kind : Nat := 0) : State :=
  if s.pair.journal.length < s.regionSize 4 then s.journalAdd kind i payload
  else
    let s1 := { s with pair := { s.pair with discarded := s.pair.discarded + 1 } }
    let s2 := (s1.pairEvent ErrCode.journalOverrun 0 (zeros 4 ++ le 4 s1.pair.discarded)).setPair .solo s1.pair.role
    if s2.pair.autoResync then
      ({ s2 with pair := { s2.pair with resync := true, copied := false, tilesCopied := 0 } }.setPair .syncing s2.pair.role).pairChange 0x05
    else s2

/-- The drain follows the occupancy (R354, R356). Outside panic a drain begins at HIGH, which DRAINS counts, and ends at LOW. In panic the
drain is suspended, and the queue is drained from the hard limit to 944. -/
def State.judgeDrain (s : State) : State :=
  let d := s.dram
  let n := d.wq.length
  let go := d.panic.isNone && !d.draining && d.high ≤ n
  { s with dram := { d with draining := go || (d.draining && d.low < n),
                            forced := d.panic.isSome && (hardLimit ≤ n || (d.forced && 944 < n)),
                            counters := if go then bump d.counters 4 else d.counters } }

/-- The controller drains at present. -/
def State.drains (s : State) : Bool := if s.dram.panic.isSome then s.dram.forced else s.dram.draining

/-- A request whose read waits at a channel: it has not taken its slots there (R352). -/
def Request.waitsAt (r : Request) (channel : Nat) : Bool :=
  !r.issued && (match r.tile with | some t => tileChannel t == channel | none => false)

/-- Read slots of a request: one a tile, and a bucket is eight. -/
def Request.slots (r : Request) : Nat := match r.stage with | .action _ | .slot _ => 1 | _ => 8

/-- A pipeline's read waits at a channel (R352). -/
def State.readWaits (s : State) (channel : Nat) : Bool := s.flow.requests.any (·.waitsAt channel)

/-- REAL_TIME read slots that a channel has given in a row. -/
def State.realTimeRun (s : State) (channel : Nat) : Nat := s.dram.realTime.getD channel 0

/-- The oldest REAL_TIME read that waits at a channel takes its slots there; a drain's turn passes with it (R352, R354). -/
def State.issueRead (s : State) (channel : Nat) : State :=
  match s.flow.requests.find? (·.waitsAt channel) with
  | some r =>
    { s with
        flow := { s.flow with requests := s.flow.requests.map fun x => if x == r then { x with issued := true } else x },
        dram := { s.dram with owes := s.dram.owes.set channel false,
                              realTime := s.dram.realTime.set channel (min 127 (s.realTimeRun channel + r.slots)) } }
  | none => s

/-- The REAL_TIME reads that wait at a channel go before a read of another port, oldest first, until they have taken 127 slots in a row. -/
def State.realTimeFirst (channel : Nat) : Nat → State → State
  | 0, s => s
  | n + 1, s => if s.readWaits channel && s.realTimeRun channel < 127 then State.realTimeFirst channel n (s.issueRead channel) else s

/-- A read of another port than REAL_TIME takes a read slot of its channel: after the REAL_TIME reads that wait there, or, where they have
taken 127 slots in a row, before them, as a grant of the one-in-128 floor (R352; DESIGN CHOICE, log 136). -/
def State.readSlot (s : State) (i : Nat) : State :=
  let c := tileChannel i
  let s1 := State.realTimeFirst c 127 s
  { s1 with dram := { s1.dram with owes := s1.dram.owes.set c false, realTime := s1.dram.realTime.set c 0,
                                   counters := if s1.readWaits c then bump s1.dram.counters 12 else s1.dram.counters } }

/-- Panic follows the occupancies of the miss-hold buffers, and the drain follows panic (R356). -/
def State.panicLevel (s : State) : State :=
  let a := s.flow.held0.length
  let b := s.flow.held1.length
  match s.dram.panic with
  | none =>
    if s.dram.panicLevel < a || s.dram.panicLevel < b then
      State.judgeDrain { s.memCount 7 with dram := { (s.memCount 7).dram with panic := some s.now } } else s
  | some t =>
    if a + 512 ≤ s.dram.panicLevel && b + 512 ≤ s.dram.panicLevel then
      State.judgeDrain { s.memCount 8 (s.now - t) with dram := { (s.memCount 8 (s.now - t)).dram with panic := none } }
    else s

/-- Put a write in the queue: acknowledged, and the tile's newest state at once; the pair's primary journals it. The caller has seen
that there is room. -/
def State.queueWrite (s : State) (i : Nat) (payload : Bytes) : State :=
  let had := (tget? s.dram.wq i).isSome
  let wq := tset s.dram.wq i (fit 60 payload)
  let n := wq.length
  let c := if had then bump s.dram.counters 3 else s.dram.counters
  let c := if !had && n = hardLimit then bump c 5 else c
  let c := if !had && hardLimit < n then bump c 6 else c
  let s1 : State :=
    { s with
        dram := { s.dram with wq := wq, wqBad := s.dram.wqBad.filter (· != i), wqPeak := max s.dram.wqPeak n, counters := c },
        flow := { s.flow with quarantine := s.flow.quarantine.filter (· != i) } }
  let s2 := s1.judgeDrain
  if (s.forwards || s.journals) && s.journalled i then s2.journalLive i (fit 60 payload) else s2

/-- Write one queued entry to the stacks, with its check as the queue holds it (R188). -/
def State.issueWrite (s : State) (e : Nat × Bytes) : State :=
  let m := memWrite s.dram.mem e.1 (wholeTile e.2 e.1)
  { s with dram := { s.dram with mem := if s.dram.wqBad.contains e.1 then upsetTile m e.1 else m, wq := tdel s.dram.wq e.1,
                                 wqBad := s.dram.wqBad.filter (· != e.1), counters := bump s.dram.counters 1 } }

/-- A batch of up to eight queued writes of a channel is issued (R354). -/
def State.issueBatch (s : State) (channel : Nat) : State :=
  (((s.dram.wq.filter fun e => tileChannel e.1 == channel).take 8).foldl State.issueWrite s).judgeDrain

/-- A job that this event makes whole waits for the queue's room (R355): batches issue until a write of the tile can enter, each followed by
one read that waits at its channel (R354; DESIGN CHOICE, log 45). From 1,024 entries 17 batches of one entry each reach below the hard
limit. -/
def State.waitRoom (i : Nat) : Nat → State → State
  | 0, s => s
  | n + 1, s =>
    if s.wqRoom i false then s
    else match s.dram.wq with
      | e :: _ => State.waitRoom i n ((s.issueBatch (tileChannel e.1)).issueRead (tileChannel e.1))
      | [] => s

/-- The queue takes `n` more writes of a task or an agent, which otherwise waits (R355). -/
def State.writeRoom (s : State) (n : Nat) : Bool := decide (s.dram.wq.length + n ≤ hardLimit)

/-- A write that a task, a command or a DMA channel makes: every write enters the queue, once it has room (R353, R355). -/
def State.taskWrite (s : State) (i : Nat) (payload : Bytes) : State := (State.waitRoom i 17 s).queueWrite i payload

/-- A write of bulk data: a DMA channel's burst, a seam fill, an export (R353, R355). -/
def State.putTile (s : State) (i : Nat) (payload : Bytes) : State := s.taskWrite i payload

/-- The invalid pattern over a run of tiles (R19, R365): written whole, and coalesced with the writes that the queue holds of them (R353;
DESIGN CHOICE, log 118). -/
def State.clearRun (s : State) (first count : Nat) : State :=
  let kept := s.dram.wq.filter fun e => e.1 < first || first + count ≤ e.1
  { s with dram := { s.dram with mem := memClear s.dram.mem first count, wq := kept,
                                     wqBad := s.dram.wqBad.filter (fun i => i < first || first + count ≤ i),
                                     counters := bump (bump s.dram.counters 1 count) 3 (s.dram.wq.length - kept.length) } }

/-- The group a descriptor belongs to. -/
def State.parentOf (s : State) (i : Nat) : Option Nat :=
  (s.dram.dir.used.find? fun e => match e.2.body with | .group ms => ms.contains i | _ => false).map (·.1)

/-! Faults (R18, R220-R222). -/

/-- An index is withdrawn: retired by assay or at BOOT, or a tile of a lost channel (R222, R361). -/
def State.withdrawn (s : State) (space i : Nat) : Bool :=
  (space == 0 && (s.dram.channels.getD (tileChannel i) ⟨false, 0⟩).lost) ||
  s.dram.retired.any (fun r => r.space == space && ((r.kind == 1 && r.index == i) || (r.kind == 2 && r.index ≤ i && i < r.index + 16))) ||
  (space == 1 && s.rule.storeRetired.contains i) || (space == 2 && s.flow.hotRetired.contains i) ||
  (space == 3 && s.flow.cacheRetired.contains i)

/-- 24 h of flow clock in ns. -/
def dayNs : Nat := 86400 * 1000000000

/-- Runs without one index. -/
def dropIndex (rs : List (Nat × Nat)) (i : Nat) : List (Nat × Nat) :=
  rs.flatMap fun r =>
    if r.1 ≤ i && i < r.1 + r.2 then [(r.1, i - r.1), (i + 1, r.1 + r.2 - (i + 1))].filter fun x => x.2 != 0 else [r]

/-- A rule-store tile is withdrawn from the free store for good (R155, R222). -/
def RuleLive.retire (x : RuleLive) (i : Nat) : RuleLive :=
  { x with storeRetired := x.storeRetired ++ [i], storeFree := dropIndex x.storeFree i }

/-- Retire an index: withdrawn at once and for good, logged and counted (R222). -/
def State.retireIndex (s : State) (space i : Nat) : State :=
  let r : Retired := { kind := 1, source := 2, space := space, stack := if space = 0 then i / 16 % 2 else 0, index := i, clock := s.time.flow }
  let s1 : State :=
    { s with
        dram := { s.dram with retired := s.dram.retired ++ [r] },
        rule := if space = 1 then s.rule.retire i else s.rule,
        flow := if space = 2 then { s.flow with hotRetired := s.flow.hotRetired ++ [i] }
                else if space = 3 then { s.flow with cacheRetired := s.flow.cacheRetired ++ [i] } else s.flow }
  (s1.lifeCount 10).logError ErrCode.tileRetired space (le 4 i)

/-- A fault is counted against its index: recorded in the history, or the third within 24 h, which retires the index (R221). -/
def State.countFault (s : State) (space i : Nat) : State :=
  let now := s.time.flow.toNat
  let live := s.flow.history.filter fun e => now ≤ e.newer + dayNs
  match live.find? (fun e => e.space == space && e.index == i) with
  | some e =>
    let others := live.filter fun x => !(x.space == space && x.index == i)
    if (match e.older with | some o => decide (now ≤ o + dayNs) | none => false) then
      { s with flow := { s.flow with history := others } }.retireIndex space i
    else { s with flow := { s.flow with history := others ++ [{ space := space, index := i, newer := now, older := some e.newer }] } }
  | none =>
    let entry : Fault24 := { space := space, index := i, newer := now, older := none }
    if live.length < 4096 then { s with flow := { s.flow with history := live ++ [entry] } }
    else
      let oldest := live.foldl (fun m e => min m e.newer) now
      let kept := live.eraseP fun e => e.newer == oldest
      State.lifeCount { s with flow := { s.flow with history := kept ++ [entry] } } 16

/-- Consumers of ASSAY_FAULT (Table 17.1). -/
inductive Consumer where | pipeline | miner | dma | scrub | command
  deriving DecidableEq, Repr

def Consumer.code : Consumer → Nat
  | .pipeline => 1 | .miner => 2 | .dma => 3 | .scrub => 4 | .command => 5

/-- Log an ASSAY_FAULT (R18) and count it against its index; a retirement in the same CTL cycle has the lower class code and is logged
first (R478). -/
def State.logAssay (s : State) (space i : Nat) (who : Consumer) (kind : Nat := 0) : State :=
  (s.countFault space i).logError ErrCode.assayFault space (le 1 who.code ++ le 1 kind ++ zeros 2 ++ le 4 i)

/-- Quarantine a tile: the invalid pattern through the write queue, or waiting for its space (R220, R355). -/
def State.quarantineTile (s : State) (i : Nat) : State :=
  let s0 := s.lifeCount 9
  let s1 := if s0.liveVersions.any (fun v => (s0.stagedTile v i).isSome) then { s0 with nat := { s0.nat with lost := s0.nat.lost ++ [i] } } else s0
  if s1.wqRoom i true then s1.queueWrite i invalidPayload
  else { s1 with flow := { s1.flow with quarantine := s1.flow.quarantine ++ [i] } }

/-! The tailings queue (R225, R226). -/

/-- A tailings record (Table 7.4). -/
def tailing (s : State) (flow : Bytes) (reason flags home : Nat) (displaced : Bytes) : Tailing :=
  { flow := fit 60 flow,
    info := fit 60 (le 1 reason ++ le 1 flags ++ zeros 2 ++ le 4 home ++ le 8 s.time.flow.toNat ++ le 2 s.epoch.current.toNat ++ zeros 2 ++ displaced) }

def State.tailingsFull (s : State) : Bool := 32768 ≤ s.flow.tailings.length

/-- A tailings record put into the two tiles of its place in the queue, the first 65,536 tiles of the telemetry staging region (R225). -/
def State.putTailing (s : State) (x : Tailing) : State :=
  let k := (s.flow.tailHead + s.flow.tailings.length) % 32768
  ({ s with flow := { s.flow with tailings := s.flow.tailings ++ [x] } }.taskWrite (s.regionTile 3 (2 * k)) x.flow).taskWrite
    (s.regionTile 3 (2 * k + 1)) x.info

/-- Queue a tailings record; a quarantine that finds the queue full loses it, counted and logged (R226). -/
def State.emitTailing (s : State) (flow : Bytes) (reason flags home : Nat) (displaced : Bytes := []) : State :=
  if s.tailingsFull then (s.lifeCount 12).logError ErrCode.tailingsLost 0 (zeros 4 ++ le 4 home)
  else (s.putTailing (tailing s flow reason flags home displaced)).lifeCount 11

/-- The hot-tier way that holds the flow of a home tile. -/
def State.hotByHome (s : State) (home : Nat) : Option (Nat × HotEntry) := s.flow.hot.find? fun e => e.2.home == home

/-- A tile that failed assay (R18, R190, R220, R224): logged, counted against its index and quarantined. A flow tile's flow departs with
an ASSAY_TILE record, or, where its newest state is in the hot tier, its entry is marked DIRTY. A tile that reads as the invalid
pattern held no flow, and nothing departs (R19, R224; DEDUCED). -/
def State.faultTile (s : State) (i : Nat) (who : Consumer) : State :=
  let asRead := (tget? s.dram.wq i).getD ((memTile s.dram.mem i).take 60)
  let s1 := (s.logAssay 0 i who).quarantineTile i
  if s.inRegion 0 i then
    match s.hotByHome i with
    | some (w, e) => { s1 with flow := { s1.flow with hot := tset s1.flow.hot w { e with dirty := true } } }
    | none => if asRead == invalidPayload then s1 else s1.emitTailing asRead 0x11 1 i
  else s1

/-- Read a tile with assay (R17, R18), as a version of the staged tables sees it: its payload, or none where it is absent, and the state
after the read. A pipeline's read has taken its slot as it was issued. -/
def State.readTileIn (s : State) (v : Staged) (i : Nat) (who : Consumer) : Option Bytes × State :=
  if s.flow.quarantine.contains i then (none, s.memCount 0)
  else
    let s1 := s.memCount 0
    let s2 := if (tget? s.dram.wq i).isSome then s1.memCount 2 else if who == .pipeline then s1 else s1.readSlot i
    match s.newestIn v i with
    | some p => (some p, s2)
    | none => (none, s2.faultTile i who)

/-- The same in the current version. -/
def State.readTile (s : State) (i : Nat) (who : Consumer) : Option Bytes × State := s.readTileIn s.cur i who

/-! Rule-store tiles (R25, R155). -/

/-- The 64 bytes of a rule-store tile, built by the miners from the rules of the version that holds it. -/
def State.storeBytes (s : State) (t : Nat) : Bytes :=
  let vs := [s.cur, s.shadow] ++ (match s.drain with | some d => [d.tables] | none => [])
  let holds := vs.findSome? fun v => v.rule.tables.findSome? fun e => (ordinalOf e.2.store t 0).map fun k => (e.2.rules, k)
  match holds with
  | some (rules, k) => (List.range 64).map fun b => Config.storeByte rules k b
  | none => (List.range 64).map fun b => Config.storeByte [] t b

/-- An uncorrectable word of a rule-store tile (R155): logged, counted against its index, and its structures await repair. -/
def State.storeFault (s : State) (i : Nat) (who : Consumer) : State :=
  let s1 := (s.logAssay 1 i who 1).lifeCount 9
  { s1 with rule := { s1.rule with storeBad := if s1.rule.storeBad.contains i then s1.rule.storeBad else s1.rule.storeBad ++ [i] } }

/-- Read tiles in order, gathering payloads. -/
def readTiles (who : Consumer) : List Nat → State → List (Option Bytes) × State
  | [], s => ([], s)
  | i :: is, s =>
    let (p, s1) := s.readTile i who
    let (ps, s2) := readTiles who is s1
    (p :: ps, s2)

/-! Free space (R365, R369). -/

/-- Put a run into an ascending list of runs, joining neighbours. -/
def addRun : List (Nat × Nat) → Nat × Nat → List (Nat × Nat)
  | [], r => [r]
  | x :: xs, r =>
    if r.1 + r.2 < x.1 then r :: x :: xs
    else if r.1 + r.2 = x.1 then (r.1, r.2 + x.2) :: xs
    else if x.1 + x.2 = r.1 then addRun xs (x.1, x.2 + r.2)
    else x :: addRun xs r

/-- The parts of a run that hold no tile of the given runs. -/
def cutRun (r : Nat × Nat) : List (Nat × Nat) → List (Nat × Nat)
  | [] => if r.2 = 0 then [] else [r]
  | h :: hs =>
    if h.1 + h.2 ≤ r.1 || r.1 + r.2 ≤ h.1 then cutRun r hs
    else
      (if r.1 < h.1 then cutRun (r.1, h.1 - r.1) hs else []) ++
      (if h.1 + h.2 < r.1 + r.2 then cutRun (h.1 + h.2, r.1 + r.2 - (h.1 + h.2)) hs else [])

/-- The same for runs in ascending order that do not overlap. -/
def cutAscending (r : Nat × Nat) : List (Nat × Nat) → List (Nat × Nat)
  | [] => if r.2 = 0 then [] else [r]
  | h :: hs =>
    if h.1 + h.2 ≤ r.1 then cutAscending r hs
    else if r.1 + r.2 ≤ h.1 then (if r.2 = 0 then [] else [r])
    else
      (if r.1 < h.1 then [(r.1, h.1 - r.1)] else []) ++
      (if h.1 + h.2 < r.1 + r.2 then cutAscending (h.1 + h.2, r.1 + r.2 - (h.1 + h.2)) hs else [])

/-- Ascending runs without the tiles of other ascending runs. -/
def cutAll (runs holes : List (Nat × Nat)) : List (Nat × Nat) :=
  ((runs.foldl (fun (a : List (Nat × Nat) × List (List (Nat × Nat))) r =>
    let hs := a.1.dropWhile fun h => h.1 + h.2 ≤ r.1
    (hs, cutAscending r hs :: a.2)) (holes, [])).2.reverse).flatten

/-- Two ordered lists as one, taking at most `n` steps. -/
def mergeBy (le : Nat × Nat → Nat × Nat → Bool) : Nat → List (Nat × Nat) → List (Nat × Nat) → List (Nat × Nat)
  | 0, a, b => a ++ b
  | _, [], b => b
  | _, a, [] => a
  | n + 1, x :: xs, y :: ys => if le x y then x :: mergeBy le n xs (y :: ys) else y :: mergeBy le n (x :: xs) ys

def mergePairs (le : Nat × Nat → Nat × Nat → Bool) : List (List (Nat × Nat)) → List (List (Nat × Nat))
  | a :: b :: r => mergeBy le (a.length + b.length) a b :: mergePairs le r
  | l => l

/-- Runs in an order; 32 rounds of merging order any list of runs of the device's tiles. -/
def orderRuns (le : Nat × Nat → Nat × Nat → Bool) (l : List (Nat × Nat)) : List (Nat × Nat) :=
  ((List.range 32).foldl (fun x _ => mergePairs le x) (l.map fun r => [r])).flatten

def ascending (a b : Nat × Nat) : Bool := a.1 ≤ b.1
/-- The larger first, and the lower address first among equals. -/
def bySize (a b : Nat × Nat) : Bool := b.2 < a.2 || (a.2 == b.2 && a.1 ≤ b.1)

/-- Ascending runs with neighbours joined; `r` is the run before them. -/
def joinRuns (r : Nat × Nat) : List (Nat × Nat) → List (Nat × Nat)
  | [] => [r]
  | x :: xs => if r.1 + r.2 = x.1 then joinRuns (r.1, r.2 + x.2) xs else r :: joinRuns x xs

/-- Ascending runs put into an ascending list of runs. -/
def addRuns (l new : List (Nat × Nat)) : List (Nat × Nat) :=
  match mergeBy ascending (l.length + new.length) l new with
  | [] => []
  | r :: rs => joinRuns r rs

/-- The lowest-addressed free run that holds a count, from its low end. -/
def takeFirst (n : Nat) : List (Nat × Nat) → Option ((Nat × Nat) × List (Nat × Nat))
  | [] => none
  | (f, c) :: rs =>
    if n ≤ c then some ((f, n), if n = c then rs else (f + n, c - n) :: rs)
    else (takeFirst n rs).map fun p => (p.1, (f, c) :: p.2)

/-- Whole runs in the given order, the last supplying only what is still needed. -/
def takeRuns : Nat → List (Nat × Nat) → List (Nat × Nat)
  | _, [] => []
  | 0, _ => []
  | n + 1, (f, c) :: rs => if n + 1 ≤ c then [(f, n + 1)] else (f, c) :: takeRuns (n + 1 - c) rs

/-- Allocate tiles from free space (Table 12.7, SEAM_CREATE): the runs taken and the free space left; none where it does not suffice. -/
def allocRuns (free : List (Nat × Nat)) (n : Nat) : Option (List (Nat × Nat) × List (Nat × Nat)) :=
  match takeFirst n free with
  | some (r, rest) => some ([r], rest)
  | none =>
    if runsLength free < n then none
    else
      let taken := takeRuns n (orderRuns bySize free)
      some (taken, cutAll free (orderRuns ascending taken))

/-- Tiles of lost channels within a run, in ascending order: every 512 tiles hold 16 of each channel. -/
def State.lostRuns (s : State) (first count : Nat) : List (Nat × Nat) :=
  let rows := (List.range 32).filter fun k => (s.dram.channels.getD (k % 2 * 16 + k / 2) ⟨false, 0⟩).lost
  if rows.isEmpty then []
  else ((List.range (count / 512 + 2)).flatMap fun b => rows.map fun k => ((first / 512 + b) * 512 + k * 16, 16)).filter fun h =>
    h.1 < first + count && first < h.1 + h.2

/-- The parts of a run that are not withdrawn and may return to free space (R222, Note of Table 1.7). -/
def State.soundRuns (s : State) (r : Nat × Nat) : List (Nat × Nat) :=
  let rows := s.dram.retired.filterMap fun x =>
    if x.space != 0 then none else if x.kind = 1 then some (x.index, 1) else if x.kind = 2 then some (x.index, 16) else none
  (cutAscending r (s.lostRuns r.1 r.2)).flatMap fun x => cutRun x (rows.filter fun h => h.1 < x.1 + x.2 && x.1 < h.1 + h.2)

/-- Tiles released to free space: they wait for the invalid pattern to be written (R365). -/
def State.releaseRun (s : State) (r : Nat × Nat) : State :=
  { s with dram := { s.dram with clearing := s.dram.clearing ++ [r] } }

/-- Free a seam with its members and the tiles it owns (Table 1.7). -/
def State.dropSeam : Nat → Nat → State → State
  | 0, _, s => s
  | depth + 1, i, s =>
    match tget? s.dram.dir.used i with
    | none => s
    | some x =>
      let s1 := match x.body with
        | .run f n => if x.owns then s.releaseRun (f, n) else s
        | .group ms => ms.foldl (fun s m => State.dropSeam depth m s) s
        | .pieces _ => s
        | .store _ => s
      { s1 with dram := { s1.dram with dir := s1.dram.dir.drop i },
                host := { s1.host with holds := s1.host.holds.filter fun h => h.desc != i } }

def State.retireSeam (s : State) (i : Nat) : State := State.dropSeam s.dram.dir.used.length i s

/-- Make a seam; its handle is that of the descriptor taken. -/
def State.newSeam (s : State) (x : Seam) : Nat × State :=
  let (i, d) := s.dram.dir.take x
  (i, { s with dram := { s.dram with dir := d } })

/-- Make a seam over runs: one run descriptor, or a group of them (R22, Table 12.7). -/
def State.newRuns (s : State) (rs : List (Nat × Nat)) (host : Bool) : Nat × State :=
  match rs with
  | [(f, n)] => s.newSeam { body := .run f n, host := host, owns := true }
  | _ =>
    let (ms, s1) := rs.foldl (fun (acc : List Nat × State) r =>
      let (i, s') := acc.2.newSeam { body := .run r.1 r.2, host := host, owns := true }
      (acc.1 ++ [i], s')) ([], s)
    s1.newSeam { body := .group ms, host := host, owns := false }

/-- Descriptors a list of runs needs. -/
def descsFor (rs : List (Nat × Nat)) : Nat := if rs.length = 1 then 1 else rs.length + 1

/-- Tiles freed that were cleared become free (R365). -/
def State.addFree (s : State) (r : Nat × Nat) : State :=
  { s with dram := { s.dram with free := addRuns s.dram.free (s.soundRuns r) } }

/-! The schedules of the sweep and the scrub (R217, R223). -/

/-- Number of buckets of the flow region (R202). -/
def State.buckets (s : State) : Nat := s.regionSize 0 / 8

/-- Instant at which place `pos` of a pass over `total` places is due, each place taking its share of the period (R217, R223): the period in
force has paced the pass from the instant and the place given. -/
def placeDue (from_ first pos period total : Nat) : Nat := from_ + (pos - first) * period / total

/-- Instant at which the sweep's visit of a bucket is due. -/
def State.sweepDue (s : State) (bucket : Nat) : Nat :=
  placeDue s.flow.sweepFrom s.flow.sweepFromPos bucket (s.cur.flow.sweepPeriod * 1000000000) s.buckets

/-- Device-memory tiles outside the flow region, as runs. -/
def State.scrubRuns (s : State) : List (Nat × Nat) := cutRun (0, s.tiles) (s.regionRuns 0)

/-- Everything a scrub pass reads: tiles of device memory outside the flow region, rule-store tiles, hot-tier ways, action-cache ways, and
descriptors. -/
def State.scrubTotal (s : State) : Nat := runsLength s.scrubRuns + 196608 + 1048576 + 65536 + 262144

/-- Instant at which the scrub's place is due: a pass spreads over SCRUB_PERIOD (R223). -/
def State.scrubDue (s : State) (pos : Nat) : Nat :=
  placeDue s.flow.scrubFrom s.flow.scrubFromPos pos (s.cur.flow.scrubPeriod * 3600000000000) s.scrubTotal

end Sys2Proof.Machine
end

