-- ==== Sys2Proof/Machine/Tasks.lean ====
section
/-!
DEFINITION. The task scheduler: task slots, ready lists, requests to yield, dispatch, preemption, promotion and the trace (spec 11).
-/
namespace Sys2Proof.Machine

/-! Task types (R329, Table 11.2). -/

namespace TaskType
def flowSetup := 1
def stateless := 2
def sweep := 3
def scrub := 4
def seamBuild := 5
def learn := 6
def telemetry := 7
def tailings := 8
def seamAssist := 9
def journal := 10
def command := 11
end TaskType

/-- Entry address of a type. -/
def entryAddress : Nat → Nat
  | 1 => 0x0400 | 2 => 0x0C00 | 3 => 0x1000 | 4 => 0x1800 | 5 => 0x2000 | 6 => 0x3800 | 7 => 0x4000 | 8 => 0x4800 | 9 => 0x5000
  | 10 => 0x6000 | _ => 0x6800

/-- The committed setting of a type. -/
def State.typeCfg (s : State) (t : Nat) : TypeCfg := s.cur.task.types.getD (t - 1) ⟨0, 1⟩

/-- A promoted type (R337). -/
def State.promoted (s : State) (t : Nat) : Bool :=
  (t == TaskType.sweep && s.miners.sweepUp) || (t == TaskType.scrub && s.miners.scrubUp)

/-- Level in force. -/
def State.level (s : State) (t : Nat) : Nat := if s.promoted t then 0 else (s.typeCfg t).level

def State.minerCount (s : State) (i : Nat) (n : Nat := 1) : State :=
  { s with miners := { s.miners with counters := bump s.miners.counters i n } }

def State.task (s : State) (slot : Nat) : Option Task := tget? s.miners.tasks slot
def State.setTask (s : State) (slot : Nat) (t : Task) : State := { s with miners := { s.miners with tasks := tset s.miners.tasks slot t } }
def State.miner (s : State) (m : Nat) : Miner := s.miners.miners.getD m Miner.reset
def State.setMiner (s : State) (m : Nat) (x : Miner) : State := { s with miners := { s.miners with miners := s.miners.miners.set m x } }

/-- Slots of a type, and miners it holds. -/
def State.slotsOf (s : State) (t : Nat) : Nat := (s.miners.tasks.filter fun e => e.2.type == t).length
def State.minersOf (s : State) (t : Nat) : Nat :=
  (s.miners.tasks.filter fun e => e.2.type == t && (match e.2.state with | .running _ => true | _ => false)).length

/-! The scheduling trace (R343, R344). -/

/-- CTL cycles since INIT, by the flow clock. -/
def State.ctlCycles (s : State) : Nat := s.time.flow.toNat * 3 / 4

/-- A trace entry (Table 11.4), written where its filters pass; a full ring overwrites its oldest entry, or writes nothing in STOP mode,
and one is counted as lost. -/
def State.trace (s : State) (reason miner slot : Nat) (t : Task) (address wait : Nat) : State :=
  let x := s.miners
  if !(x.traceOn && x.traceTypes.getLsbD t.type && x.traceReasons.getLsbD reason && x.traceMiners.getLsbD miner) then s
  else if x.trace.length ≥ 4096 && x.traceStop then
    { s with miners := { x with traceLost := satur 32 (x.traceLost + 1) } }
  else
    let e := le 5 s.ctlCycles ++ le 1 (reason * 16 + miner) ++ le 1 t.type ++
      le 1 ((if s.promoted t.type then 8 else 0) + s.level t.type) ++ le 2 (address % 0x8000) ++ le 1 (wait % 64) ++ [0] ++
      le 2 slot ++ le 2 x.traceSeq.toNat
    if x.trace.length ≥ 4096 then
      { s with miners := { x with trace := x.trace.drop 1 ++ [e], traceSeq := x.traceSeq + 1, traceLost := satur 32 (x.traceLost + 1) } }
    else { s with miners := { x with trace := x.trace ++ [e], traceSeq := x.traceSeq + 1 } }

/-! Ready lists and requests to yield (R332-R334). -/

/-- Miners a type may hold: MAX_MINERS; for the length of a rejoin COMMAND_ASSIST may hold up to 8 whatever its MAX_MINERS (R497). -/
def State.minersFor (s : State) (type : Nat) : Nat :=
  if type = TaskType.command && s.journals then max 8 (s.typeCfg type).maxMiners else (s.typeCfg type).maxMiners

/-- A task is eligible unless its type holds all the miners it may (R333). -/
def State.eligible (s : State) (slot : Nat) : Bool :=
  match s.task slot with
  | some t => s.minersOf t.type < s.minersFor t.type
  | none => false

/-- The lowest-numbered idle miner. -/
def State.idleMiner (s : State) : Option Nat :=
  (List.range 16).find? fun m => (s.miner m).slot.isNone && !(s.miner m).withdrawn

/-- A running task: miner, slot and task. -/
def State.running (s : State) : List (Nat × Nat × Task) :=
  (List.range 16).filterMap fun m =>
    match (s.miner m).slot with
    | some k => (s.task k).map fun t => (m, k, t)
    | none => none

/-- The victim of a request (R334): of the greatest level number not yet asked, the latest dispatched, then the highest miner. -/
def State.victim (s : State) (lvl : Nat) : Option Nat :=
  let c := s.running.filter fun r => (s.miner r.1).yield.isNone && lvl < s.level r.2.2.type
  let top := c.foldl (fun m r => max m (s.level r.2.2.type)) 0
  let c := c.filter fun r => s.level r.2.2.type == top
  let late := c.foldl (fun m r => max m r.2.2.since) 0
  ((c.filter fun r => r.2.2.since == late).getLast?).map (·.1)

/-- A ready task has asked a running one to yield. -/
def State.hasAsked (s : State) (slot : Nat) : Bool := s.miners.miners.any fun m => m.yield == some slot && !m.answered

/-- The task of a slot is dispatched, or is gone: the request it made no longer waits for it (R336). -/
def State.answer (s : State) (slot : Nat) : State :=
  { s with miners := { s.miners with miners := s.miners.miners.map fun m => if m.yield == some slot then { m with answered := true } else m } }

/-- An eligible ready task asks one running task of a greater level number to yield (R334). -/
def State.request (s : State) (slot : Nat) : State :=
  match s.task slot with
  | none => s
  | some t =>
    if s.hasAsked slot || !s.eligible slot then s
    else match s.victim (s.level t.type) with
      | some m => s.setMiner m { s.miner m with yield := some slot, answered := false }
      | none => s

/-- While no miner is idle, each ready task that outranks a running one makes its request, the most urgent first (R334). -/
def State.requests (s : State) : State :=
  if s.idleMiner.isSome then s else s.miners.ready.flatten.foldl State.request s

/-- A task joins the tail, or a preempted one the head, of its level's list (R332, R335). -/
def State.enlist (s : State) (slot : Nat) (front : Bool := false) : State :=
  match s.task slot with
  | none => s
  | some t =>
    let s1 := s.setTask slot { t with state := .ready }
    { s1 with miners := { s1.miners with ready := alter s1.miners.ready (s1.level t.type) fun l => if front then slot :: l else l ++ [slot] } }

/-- A task becomes ready, and the requests to yield follow. -/
def State.makeReady (s : State) (slot : Nat) (front : Bool := false) : State := (s.enlist slot front).requests

def State.unready (s : State) (slot : Nat) : State :=
  { s with miners := { s.miners with ready := s.miners.ready.map fun l => l.filter (· != slot) } }

/-! Standing tasks (R329). -/

/-- A peer in a rejoin or a resync that is brought up to date and still without the copy (R497). -/
def State.awaitsCopy (s : State) : Bool := (s.pair.holding || s.pair.role == .secondary && s.pair.state == .syncing) && !s.pair.copied

/-- The device takes journal records: as the secondary of a pair, or as a peer in a rejoin (R492, R497). -/
def State.takesJournal (s : State) : Bool :=
  s.booted && (s.pair.holding || (s.pair.role == .secondary && (s.pair.state == .joined || s.pair.state == .syncing)))

/-- Pieces of work that wait for the standing tasks of a type (Table 11.2). -/
def State.workFor (s : State) (type : Nat) : Nat :=
  if type = TaskType.stateless then s.telem.stateless.length
  else if type = TaskType.sweep then
    (s.nat.visitDue || !s.nat.deferred.isEmpty ||
      (s.booted && s.buckets != 0 && s.life.clearing == .none && decide (s.sweepDue s.flow.sweepNext ≤ s.now))).toNat
  else if type = TaskType.scrub then (s.booted && s.life.clearing == .none && decide (s.scrubDue s.flow.scrubNext ≤ s.now)).toNat
  else if type = TaskType.learn then s.fwd.bulk.length + s.fwd.records.length
  else if type = TaskType.telemetry then s.telem.assembly.length
  else if type = TaskType.tailings then s.flow.tailings.length
  else if type = TaskType.journal then (if s.takesJournal && !s.awaitsCopy then s.pair.journal.length else 0)
  else 0

/-- Work has come for parked tasks of a type: as many become ready as there are pieces of work that no task of the type is at (R329). -/
def State.wake (s : State) (type : Nat) : State :=
  let awake := (s.miners.tasks.filter fun e => e.2.type == type && e.2.state != .parked).length
  ((s.miners.tasks.filter fun e => e.2.type == type && e.2.state == .parked).take (s.workFor type - awake)).foldl
    (fun s e => s.makeReady e.1) s

/-- A task of a type runs on a miner. -/
def State.serves (s : State) (type : Nat) : Bool := decide (0 < s.minersOf type)

/-- A task with this work runs on a miner. -/
def State.atWork (s : State) (w : Work) : Bool :=
  s.miners.tasks.any fun e => e.2.work == w && (match e.2.state with | .running _ => true | _ => false)

/-- A task has this work, in whatever state it is. -/
def State.tasked (s : State) (w : Work) : Bool := s.miners.tasks.any fun e => e.2.work == w


/-! Slots (R330, R331). -/

/-- The lowest free slot an event task may take: any from 32, FLOW_SETUP within FLOW_SLOTS. -/
def State.freeSlot (s : State) (type : Nat) : Option Nat :=
  if type = TaskType.flowSetup && s.cur.task.flowSlots ≤ s.slotsOf type then none
  else (List.range 4064).findSome? fun k => if (s.task (k + 32)).isNone then some (k + 32) else none

/-- A task at its entry address. -/
def State.taskOf (s : State) (type : Nat) (work : Work) : Task :=
  { type := type, state := .ready, work := work, address := entryAddress type, wait := 0, stack := [], since := 0, billed := 0,
    stamp := work.stamp.getD s.epoch.current }

/-- Put an event task in a free slot, ready at its entry address; none where no slot is free. -/
def State.addTask (s : State) (type : Nat) (work : Work) : Option (Nat × State) :=
  (s.freeSlot type).map fun k => (k, (s.setTask k (s.taskOf type work)).makeReady k)

/-- Every version that is live or shadow. -/
def State.versions (s : State) : List Staged := [s.cur, s.shadow] ++ (match s.drain with | some d => [d.tables] | none => [])

/-- Root seams of the table versions that hold a faulting rule-store tile (R155). -/
def State.rootsToRepair (s : State) : List Nat :=
  let tables := s.versions.flatMap fun v => v.rule.tables.map (·.2)
  ((tables.filter fun t => s.rule.storeBad.any fun b => inRuns t.store b).map (·.root)).eraseDups

/-- A route-store word. -/
def FwdItem.isRoute : FwdItem → Bool | .route .. => true | _ => false

/-- A DMA channel has tiles to fill or compare: class A, the work of a SEAM_ASSIST task (Table 11.2). -/
def State.assistDue (s : State) (c : Nat) : Bool :=
  match (s.dma c).transfer with
  | some t => (byteAt t.desc 19 == 1 || byteAt t.desc 19 == 2) && (s.dma c).ending.isNone && decide (t.issued < fieldLe t.desc 16 3)
  | none => false

/-- Tasks that the device itself asks for: a released run to clear (R365), a rule table version to rebuild (R155), a forwarding entry to
restore (R279, R282), a class A descriptor. One that finds no slot is asked for again. -/
def State.ownTasks (s : State) : List (Nat × Work) :=
  (if s.dram.clearing.isEmpty then [] else [(TaskType.seamAssist, .clearTiles)]) ++
    (s.rootsToRepair.map fun r => (TaskType.seamBuild, .ruleRepair r)) ++
    (if s.fwd.broken.all FwdItem.isRoute then [] else [(TaskType.seamAssist, .fwdRepair)]) ++
    (if s.fwd.broken.any FwdItem.isRoute then [(TaskType.seamBuild, .routeRepair)] else []) ++
    (((List.range 16).filter s.assistDue).map fun c => (TaskType.seamAssist, .dma c))

/-- The work of an event task is done: it was finished, or what the device asked for is no longer there. -/
def State.workOver (s : State) : Work → Bool
  | .finished => true
  | .clearTiles => s.dram.clearing.isEmpty
  | .ruleRepair r => !s.rootsToRepair.contains r
  | .fwdRepair => s.fwd.broken.all FwdItem.isRoute
  | .routeRepair => !s.fwd.broken.any FwdItem.isRoute
  | .dma c => !s.assistDue c
  | _ => false

/-- The work that an event brings is with the scheduler at its end: tasks become ready in the order of their sources (R329, R332), for the
work of the pipelines, the interpreter and the miners first, and for the device's timers (SWEEP and SCRUB) last. -/
def State.wakeAll (s : State) : State :=
  let s1 := [TaskType.stateless, TaskType.learn, TaskType.telemetry, TaskType.tailings, TaskType.journal].foldl State.wake s
  let s2 := (s1.ownTasks.filter fun x => !s1.tasked x.2).foldl (fun s x => match s.addTask x.1 x.2 with | some (_, s') => s' | none => s) s1
  [TaskType.sweep, TaskType.scrub].foldl State.wake s2

/-- Create an event task; none where no slot is free. -/
def State.newTask (s : State) (type : Nat) (work : Work) : Option (Nat × State) := s.addTask type work

/-- Create up to `n` tasks of one work; none where not even one slot is free. -/
def State.newTasks (type : Nat) (work : Work) : Nat → State → Option State
  | 0, s => some s
  | n + 1, s =>
    match s.newTask type work with
    | none => none
    | some (_, s1) => some ((State.newTasks type work n s1).getD s1)

/-- The work of tasks is done: each completes on the miner it runs on, or on the one it is next dispatched to (R342, R343). -/
def State.finishWork (s : State) (w : Work → Bool) : State :=
  { s with miners := { s.miners with tasks := s.miners.tasks.map fun e => if w e.2.work then (e.1, { e.2 with work := .finished }) else e } }

/-- Work is abandoned by DISCARD or an abort (R342): a task that runs completes on its miner; one that waits is gone, and counts as no
completion. -/
def State.dropWork (s : State) (w : Work → Bool) : State :=
  s.miners.tasks.foldl (fun s e =>
    if !w e.2.work then s
    else match e.2.state with
      | .running _ => s.setTask e.1 { e.2 with work := .finished }
      | _ => let s1 := (s.unready e.1).answer e.1; { s1 with miners := { s1.miners with tasks := tdel s1.miners.tasks e.1 } }) s

/-- A rejoin or resync ends with its copy not made: its tasks have nothing left to do, and each completes (R342, R497). -/
def State.dropCopy (s : State) : State := s.finishWork (· == .liveCopy)

/-- The standing tasks of INIT in slots 0-10, ready (R329, R330). -/
def State.standingTasks (s : State) : State :=
  ([2, 3, 4, 6, 7, 7, 7, 7, 8, 10, 10].zipIdx).foldl (fun s p => (s.setTask p.2 (s.taskOf p.1 .standing)).makeReady p.2) s

/-! Microwords (R324, R327). -/

/-- Where the microwords run since a dispatch lead: an address with its return stack, or a fault with its cause (Table 17.1) at an address. -/
inductive TrailEnd where
  | at (address : Nat) (stack : List Nat)
  | fault (cause address : Nat)

/-- Run branch micro-operations from an address (R324): CALL at depth 4 is cause 0x02 and RETURN on an empty stack cause 0x03 (R327). -/
def runTrail : List MicroOp → Nat → List Nat → TrailEnd
  | [], a, st => .at a st
  | .next :: ops, a, st => runTrail ops ((a + 1) % 0x8000) st
  | .jump d :: ops, _, st => runTrail ops d.toNat st
  | .branchIf taken d :: ops, a, st => runTrail ops (if taken then d.toNat else (a + 1) % 0x8000) st
  | .call d :: ops, a, st => if st.length < 4 then runTrail ops d.toNat ((a + 1) % 0x8000 :: st) else .fault 2 a
  | .ret :: ops, a, st =>
    match st with
    | r :: rest => runTrail ops r rest
    | [] => .fault 3 a

/-- A wait condition at which a miner may be preempted (Table 11.1); code 0x00 only where the ROM marks it, which the event's coming says. -/
def preemptionPoint (wait : Nat) : Bool := wait ≤ 0x0B || wait == 0x0E

/-! Dispatch and preemption (R333, R335, R336). -/

/-- The eligible task nearest the head of the most urgent level that has one. -/
def State.nextTask (s : State) : Option Nat := s.miners.ready.findSome? fun l => l.find? fun k => s.eligible k

/-- Dispatch a task to a miner; requests to yield follow where no miner is idle any longer. -/
def State.dispatchTo (s : State) (m slot : Nat) : State :=
  match s.task slot with
  | none => s
  | some t =>
    let s1 := ((s.unready slot).answer slot).setTask slot { t with state := .running m, since := s.now, billed := s.now }
    let s2 := s1.setMiner m { s1.miner m with slot := some slot, yield := none, answered := false, dispatches := (s1.miner m).dispatches + 1 }
    (s2.trace 1 m slot t t.address t.wait).requests

/-- Miner time of a task not yet accumulated. -/
def State.unbilled (s : State) (t : Task) : Nat := s.now - t.billed

/-- Miner time is accumulated when a task leaves its miner. -/
def State.release (s : State) (m : Nat) (t : Task) : State :=
  let s1 := s.setMiner m { s.miner m with slot := none, yield := none, answered := false }
  { s1 with miners := { s1.miners with types := alter s1.miners.types (t.type - 1) fun x => { x with timeNs := x.timeNs + s.unbilled t } } }

/-- A miner's running task. -/
def State.onMiner (s : State) (m : Nat) : Option (Nat × Task) :=
  match (s.miner m).slot with
  | some k => (s.task k).map fun t => (k, t)
  | none => none

/-- R327: a miner fault withdraws the miner for good; its task restarts from its entry at the head of its level's list. -/
def State.failMiner (s : State) (miner slot : Nat) (t : Task) (cause address wait : Nat) : State :=
  let s1 := (s.release miner t).setMiner miner { (s.release miner t).miner miner with withdrawn := true }
  let s2 := s1.trace 6 miner slot t address wait
  let s3 := (s2.setTask slot { t with address := entryAddress t.type, wait := 0, stack := [] }).makeReady slot true
  (s3.logError ErrCode.minerFault miner (le 1 cause ++ [0] ++ le 2 address)).setFault FaultBit.minerWithdrawn true

/-- The request to a miner is withdrawn when no eligible ready task outranks its task and the task that asked has been dispatched elsewhere
(R336). -/
def State.withdraws (s : State) (miner : Nat) (t : Task) : Bool :=
  !((s.miners.ready.take (s.level t.type)).any fun l => l.any fun k => s.eligible k) && (s.miner miner).answered

/-- A standing task with nothing to do parks on wait code 0x09 and releases its miner (R329, R331). -/
def State.parkTask (s : State) (miner slot : Nat) (t : Task) (address : Nat) (stack : List Nat) : State :=
  ((s.release miner t).setTask slot { t with state := .parked, address := address, wait := 9, stack := stack }).trace 4 miner slot t address 9

/-- A standing task has nothing to do. -/
def State.workless (s : State) (t : Task) : Bool := t.work == .standing && s.workFor t.type == 0

/-- An asked miner saves its task, which returns to the head of its level's list, and takes the next (R335). -/
def State.preempt (s : State) (miner slot : Nat) (t : Task) (address wait : Nat) (stack : List Nat) : State :=
  let s1 := (s.release miner t).setMiner miner { (s.release miner t).miner miner with preemptions := (s.miner miner).preemptions + 1 }
  let s2 := { s1 with miners := { s1.miners with types := alter s1.miners.types (t.type - 1) fun y => { y with preempted := y.preempted + 1 } } }
  let s3 := ((s2.setTask slot { t with address := address, wait := wait, stack := stack }).enlist slot true).trace 2 miner slot t address wait
  match s3.nextTask with
  | some n => s3.dispatchTo miner n
  | none => s3

/-- Tasks of a type whose level in force changed: those that wait move to the tail of its list, in their old order (R337, R338). -/
def State.relevel (s : State) (type : Nat) : State :=
  let moved := s.miners.ready.flatten.filter fun k => match s.task k with | some t => t.type == type | none => false
  (moved.foldl (fun s k => s.enlist k) (moved.foldl State.unready s)).requests

/-! Commit hook (R338). -/

/-- At a commit boundary, ready tasks of a type whose level changed move to the tail of their new level's list; running ones are judged at
the new level from then on. -/
def State.applyTaskPlan (old s : State) : State :=
  ((List.range 11).foldl (fun s i => if old.level (i + 1) == s.level (i + 1) then s else s.relevel (i + 1)) s).requests

end Sys2Proof.Machine
end

