-- ==== Sys2Proof/Machine/Runner.lean ====
section
/-!
DEFINITION. How a meaning ends, and the runner of every command packet: its body between the checks of R52 and its one reply, with the
pair's forwarding (R489).
-/
namespace Sys2Proof.Machine

/-! The error log of one cycle (R478). -/

/-- Put an entry in its place by class code, behind those of its own class. -/
def insertEntry (e : Bytes) : List Bytes → List Bytes
  | [] => [e]
  | x :: xs => if fieldLe e 0 2 < fieldLe x 0 2 then e :: x :: xs else x :: insertEntry e xs

/-- Give entries sequence numbers from `n` on. -/
def numberEntries (n : Nat) : List Bytes → List Bytes
  | [] => []
  | e :: es => splice e 4 (le 4 n) :: numberEntries (n + 1) es

/-- A class's kept records follow the number that its entry of this cycle was given; a class writes one entry in 10 us (R477). -/
def ErrClass.renumber (c : ErrClass) (code : Nat) (before after : List Bytes) : ErrClass :=
  match before.find? (fun e => fieldLe e 0 2 == code), after.find? (fun e => fieldLe e 0 2 == code) with
  | some b, some a =>
    { c with first := c.first.map fun x => if x == b then a else x, last := c.last.map fun x => if x == b then a else x }
  | _, _ => c

/-- Occurrences that reach the log in one cycle are taken in ascending order of class (R478): the ring's entries since `old` stand, and are
numbered, in that order. -/
def ErrLog.inOrder (old new : ErrLog) : ErrLog :=
  let n := (new.written - old.written).toNat
  if n ≤ 1 || new.entries.length < n then new
  else
    let k := new.entries.length - n
    let before := new.entries.drop k
    let after := numberEntries (old.written.toNat + 1) (before.foldl (fun l e => insertEntry e l) [])
    { new with entries := new.entries.take k ++ after,
               classes := new.classes.zipIdx.map fun c => c.1.renumber (c.2 + 1) before after }

/-- The answer of every meaning: the next state, in which the error log stands in its order, the work that has come is with the scheduler
(R329), the events are counted and the vectors raised on the way to it. -/
def done (old s : State) : Host.Outcome State Fault Refusal :=
  let s1 := s.wakeAll
  .next (settle old (countStep old { s1 with err := old.err.inOrder s1.err }))

/-! Forwarding (R489, R492). -/

/-- The packet as the primary forwards it: with the records that it executed (R46), less those that are each member's own (R274). -/
def forwardedMsg (c : Cmd) (m : Msg) (old : State) (early : Option Nat) (recSize : Nat) : Msg :=
  let ran := match early with | some n => m.params.take (n * recSize) | none => m.params
  let params := if c.ownRecords then (({ m with params := ran } : Msg).recs recSize).flatMap fun b => if c.own m old b then [] else b else ran
  { m with ch := 2, origin := BitVec.ofNat 8 m.ch, params := params, len := BitVec.ofNat 16 params.length }

/-- A forwarded command is the next record of the one ordered journal, and goes to the secondary's PEER channel (R489, R492). -/
def State.forwardCommand (s : State) (op : Nat) (fm : Msg) : State :=
  let s1 := (s.pushRecord 1 0 (fm.bytes op)).onPeer (.peerMessage op fm)
  { s1 with pair := { s1.pair with out := { s1.pair.out with pending := true, taken := false, timeout := false } } }

/-- The transition that a command causes takes effect. -/
def State.enters (s : State) (d : Option DevState) : State := match d with | some st => s.enter st | none => s

/-- End a command: its reply is placed, or it waits for the secondary; its transition takes effect once its reply has been queued (R464,
R489). -/
def finish (c : Cmd) (m : Msg) (old : State) (d : Done) (recSize : Nat) : State :=
  let r := replyOf c.op m (d.epoch.getD old.epoch.current) d.status d.detail d.params
  let ended := d.status == 0 || (match d.early with | some n => n != 0 | none => false)
  let fm := forwardedMsg c m old d.early recSize
  let fwd := c.changes m && !c.perDevice && ended && m.ch != 2 && !(c.ownRecords && fm.params.isEmpty)
  let s1 := d.state
  match d.waits with
  | some (n, held) => (s1.setChan m.ch { s1.chan m.ch with waiting := some (.flow c.op m n held) }).enters d.enters
  | none =>
    if d.holds then s1.enters d.enters
    else if fwd && s1.forwards then
      let s2 := s1.forwardCommand c.op fm
      s2.setChan m.ch { s2.chan m.ch with waiting := some (.peer m r d.enters) }
    else
      let s2 := if c.changes m then s1.countForwarded m.ch else s1
      let s2 := if fwd && s2.journals then s2.journalAdd 1 0 (fm.bytes c.op) else s2
      (s2.reply m.ch r).enters d.enters

/-- The record size a command's batch has, from its largest lengths with and without BATCH. -/
def Cmd.recSize (c : Cmd) (m : Msg) : Nat := (c.len { m with flags := m.flags &&& ~~~ 4#8 }).2

/-- The interpreter executes a message: checks 1 to 9 of R52, then the command itself, then its one reply. -/
def interpret (c : Cmd) (packet : Msg) (s : State) : State :=
  let m := packet.norm
  match c.check m s with
  | some (st, d) => s.reply m.ch (replyOf c.op m s.epoch.current st d [])
  | none =>
    let s1 := finish c m s (c.body m s) (c.recSize m)
    { s1 with epoch := { s1.epoch with executed := s1.epoch.executed + 1 } }

/-- The shadow is sealed between PREPARE and the boundary of a pair's commit (R72, Table 1.8). -/
def State.sealed (s : State) : Bool := (s.pair.commitMsg.isSome && !s.pair.commitSent) || s.pair.prepared.isSome

/-- A command of a pair's primary that the journal will take, while its region has no room (R493). -/
def Cmd.journalFull (c : Cmd) (m : Msg) (s : State) : Bool :=
  (s.forwards || s.journals) && c.changes m && !c.perDevice && m.ch != 2 && decide (s.regionSize 4 ≤ s.pair.journal.length)

/-- A forwarded command, on a secondary that has yet to apply journal records that came before it: the journal is one, in order (R492). -/
def Cmd.afterJournal (c : Cmd) (m : Msg) (s : State) : Bool :=
  m.ch == 2 && s.pair.role == .secondary && c.changes m && !s.pair.journal.isEmpty

/-- A command that stages, discards or commits is held while the shadow is sealed; one that reads or writes device memory waits while a
refresh stalls it (R357); one that would be forwarded waits for room in the journal (R493; DESIGN CHOICE, log 57: it waits before it
executes), and on the secondary for its turn. -/
def Cmd.held (c : Cmd) (m : Msg) (s : State) : Bool :=
  (s.sealed && (m.stage || c.op == 0x0201 || c.op == 0x0202)) || (c.memory && s.refreshing) || c.journalFull m s || c.afterJournal m s

/-- A command row: the interpreter executes the packet if its channel can be taken from; otherwise nothing happens. -/
def runCommand (c : Cmd) (m : Msg) (s : State) : Host.Outcome State Fault Refusal :=
  if s.canTake m.ch && !c.held m s then done s (interpret c m s) else .next s


end Sys2Proof.Machine
end

