-- ==== Sys2Proof/Machine/Staging.lean ====
section
/-!
DEFINITION. Telemetry staging as its producers meet it: room for lossless and lossy records, times in records, requests for assembly and
the port-block record (spec 14).
-/
namespace Sys2Proof.Machine

namespace TelemCount
def records := 0
def dropped257 := 4
def dropped259 := 5
def unexported256 := 6
def unexported257 := 7
def unexported259 := 8
def messagesCollector := 9
def messagesRing := 10
def templateSets := 11
def retries := 12
end TelemCount

def State.telemCount (s : State) (i : Nat) (n : Nat := 1) : State :=
  { s with telem := { s.telem with counters := bump s.telem.counters i n } }

/-- Tiles a record occupies (R392). -/
def recordTiles (bytes : Nat) : Nat := (bytes + 59) / 60

/-- Lengths of the records of templates 256-259 (Tables 14.2-14.5). -/
def templateBytes : Nat → Nat
  | 256 => 99
  | 257 => 90
  | 258 => 37
  | _ => 190

/-- Tiles of the staging queue: the region beyond the tailings queue (R392). -/
def State.stagingTiles (s : State) : Nat := s.regionSize 3 - 65536
/-- Tiles that staged records hold. -/
def State.stagedTiles (s : State) : Nat := (s.telem.staging.map fun r => recordTiles r.bytes.length).foldl (· + ·) 0
/-- Tiles promised to flow-end records that wait for assembly. -/
def State.promisedTiles (s : State) : Nat :=
  2 * (s.telem.assembly.filter fun a => match a with | .flowEnd .. => true | _ => false).length

/-- A lossless record of a template finds its tiles (R393). -/
def State.stagingRoom (s : State) (template : Nat) : Bool :=
  s.stagedTiles + s.promisedTiles + recordTiles (templateBytes template) ≤ s.stagingTiles
/-- Staging is at its lossy limit: 75% or more of its tiles are held (R393). -/
def State.lossyFull (s : State) : Bool := 3 * s.stagingTiles ≤ 4 * s.stagedTiles

/-- Destinations enabled for a template (TO_RING, TO_COLLECTOR). -/
def State.destOf (s : State) (template : Nat) : Bool × Bool := s.telem.dests.getD (template - 256) (false, false)
def State.hasDest (s : State) (template : Nat) : Bool := (s.destOf template).1 || (s.destOf template).2

/-- UTC_OFFSET of the collector record, signed seconds (Table 14.8). -/
def State.utcOffset (s : State) : Int := signed 16 (fieldLe s.telem.collector 54 2)

/-- The time counter in ns. -/
def Time.counterNs (t : Time) : Nat := t.sec.toNat * 1000000000 + t.ns

/-- A flow-clock time as a dateTimeMilliseconds (R396). -/
def State.timeMs (s : State) (flow : Nat) : Nat :=
  let v : Int := (s.time.counterNs : Int) - ((s.time.flow.toNat : Int) - flow) - s.utcOffset * 1000000000
  unsigned 64 (v / 1000000)

/-- Put a record in staging for the destinations of its template (R392); one of template 258 waits there for a destination (R394). -/
def State.stageRecord (s : State) (template : Nat) (bytes : Bytes) : State :=
  let x : Record := { template := template, bytes := bytes, onCollector := false, onRing := false, staged := s.now, held := !s.hasDest template }
  let s1 := { s with telem := { s.telem with staging := s.telem.staging ++ [x] } }
  let s2 := { s1 with telem := { s1.telem with peak := max s1.telem.peak s1.stagedTiles } }
  s2.telemCount (template - 256)

/-- Ask for a flow-end record (R224, R397): counted instead where template 256 has no destination (R394). -/
def State.askFlowEnd (s : State) (a : Assembly) : State :=
  if s.hasDest 256 then { s with telem := { s.telem with assembly := s.telem.assembly ++ [a] } }
  else s.telemCount TelemCount.unexported256

/-- Ask for a flow sample (R394): one that finds the assembly queue full, or staging at its lossy limit, is discarded (R400). -/
def State.askSample (s : State) (a : Assembly) : State :=
  if !s.hasDest 257 then s.telemCount TelemCount.unexported257
  else if s.lossyFull || decide (Config.assemblyDepth ≤ s.telem.assembly.length) then s.telemCount TelemCount.dropped257
  else { s with telem := { s.telem with assembly := s.telem.assembly ++ [a] } }

end Sys2Proof.Machine
end

