-- ==== Sys2Proof/Machine/FlowOps.lean ====
section
/-!
DEFINITION. Flow records: the key, the placement hashes, compressed counts and times, the two record forms, the hot tier, write-back,
placement, departures and the search for a flow (spec 06, 07).
-/
namespace Sys2Proof.Machine

/-! The flow key (R168-R174). -/

/-- Offset of the classifying layer's block in a key vector (R111). -/
def classBlock (kv : Bytes) : Nat := if byteAt kv 7 = 1 then 72 else 32

/-- The flow-stage settings of a first-pass port (R168). -/
def Staged.flowPort (v : Staged) (port : Nat) : FlowPort := v.flow.ports.getD port FlowPort.reset

/-- R173: the context number. -/
def contextOf (fp : FlowPort) (kv : Bytes) : Nat :=
  let f := if fp.ctxOffset = 0xFF then 0 else fieldBe kv fp.ctxOffset 2
  ((f &&& fp.ctxMask.toNat) + fp.ctxBase.toNat) % 65536

/-- The block is an ICMP layer, whose identifier stands for its subscriber port (R170). -/
def isIcmp (proto : Nat) : Bool := proto == 1 || proto == 58

/-- The flow key with DIR zero (R168-R174, Tables 6.1 and 6.2). A private endpoint given takes the place of the subscriber side (R171). -/
def flowKey (fp : FlowPort) (kv : Bytes) (private_ : Option (Bytes × Bytes) := none) : Bytes :=
  let o := classBlock kv
  let src := slice kv o 16
  let dst := slice kv (o + 16) 16
  let sp := slice kv (o + 32) 2
  let dp := slice kv (o + 34) 2
  let proto := byteAt kv (o + 36)
  let icmp := isIcmp proto
  let (sub, rem) := if fp.network then (dst, src) else (src, dst)
  let (subPort, remPort) := if icmp then (sp, zeros 2) else if fp.network then (dp, sp) else (sp, dp)
  let (sub, subPort) := private_.getD (sub, subPort)
  let flags := flagByte [byteAt kv (o + 37) == 6, Nat.testBit (fieldLe kv 0 2) 3, icmp]
  sub ++ rem ++ subPort ++ remPort ++ le 1 proto ++ le 1 flags ++ be 2 (contextOf fp kv)

/-- The identity of a key: DIR is not part of it (R174). -/
def keyId (key : Bytes) : Bytes := splice (fit 40 key) 37 (le 1 (byteAt key 37 &&& 0xF7))

/-- Two keys name one flow. -/
def sameKey (a b : Bytes) : Bool := keyId a == keyId b

/-- A key with DIR as given. -/
def withDir (key : Bytes) (dir : Bool) : Bytes := splice key 37 (le 1 ((byteAt key 37 &&& 0xF7) + (if dir then 8 else 0)))

/-! Placement hashes (R203). -/

def placeHash (key : Bytes) (seed : W32) : Nat := crc32c (keyId key ++ le 4 seed.toNat)

def State.hash0 (s : State) (key : Bytes) : Nat := placeHash key s.flow.seed0
def State.hash1 (s : State) (key : Bytes) : Nat := placeHash key s.flow.seed1

/-- Candidate buckets of a key (R203). -/
def State.bucketsOf (s : State) (key : Bytes) : Nat × Nat :=
  let n := s.buckets.log2
  let b0 := s.hash0 key / 2 ^ (32 - n)
  let b1 := s.hash1 key / 2 ^ (32 - n)
  (b0, if b1 = b0 then b0 ^^^ 1 else b1)

/-- The eight tiles of a bucket. -/
def State.bucketTiles (s : State) (b : Nat) : List Nat := (List.range 8).map fun k => s.regionTile 0 (8 * b + k)

/-- The 16 candidate slots of a key in candidate order (R205). -/
def State.candidates (s : State) (key : Bytes) : List Nat :=
  s.bucketTiles (s.bucketsOf key).1 ++ s.bucketTiles (s.bucketsOf key).2

/-- The hot-tier set of a key (R178). -/
def State.hotSet (s : State) (key : Bytes) : Nat := s.hash0 key % 131072

/-! Compressed counts (R181, R182). -/

/-- Round to nearest, ties to even. -/
def roundHalfEven (v k : Nat) : Nat :=
  let q := v / 2 ^ k
  let r := v % 2 ^ k
  let half := 2 ^ k / 2
  if k = 0 then v else if half < r || (r = half && q % 2 = 1) then q + 1 else q

/-- R182: an exact count to 24 bits. -/
def compress (v : Nat) : Nat :=
  if v < 2 ^ 20 then v
  else
    let e := v.log2 - 18
    let q := roundHalfEven v (e - 1)
    if q = 2 ^ 20 then (e + 1) * 2 ^ 19 else e * 2 ^ 19 + (q - 2 ^ 19)

/-- R181: the value of a compressed count. -/
def expand (c : Nat) : Nat :=
  let e := c / 2 ^ 19
  let m := c % 2 ^ 19
  if e = 0 then m else (2 ^ 19 + m) * 2 ^ (e - 1)

/-! Times (R183). -/

/-- The latest time not after `now` whose bits [p + w - 1 : p] are the field, the bits below taken as zero. -/
def resolveTime (now p w field : Nat) : Nat :=
  let base := field * 2 ^ p
  let period := 2 ^ (p + w)
  if now < base then base else base + (now - base) / period * period

def State.flowNow (s : State) : Nat := s.time.flow.toNat

def HotEntry.last (e : HotEntry) (now : Nat) : Nat := resolveTime now 10 32 e.lastSeen.toNat
def HotEntry.first (e : HotEntry) (now : Nat) : Nat := resolveTime (e.last now) 24 24 e.firstSeen.toNat

/-- Fields of a flow tile (Table 6.4). -/
def tileKey (p : Bytes) : Bytes := slice p 0 40
def tileAction (p : Bytes) : Nat := fieldLe p 40 3
def tilePackets (p : Bytes) : Nat := expand (fieldLe p 43 3)
def tileOctets (p : Bytes) : Nat := expand (fieldLe p 46 3)
def tileLast (p : Bytes) (now : Nat) : Nat := resolveTime now 20 24 (fieldLe p 49 3)
def tileFirst (p : Bytes) (now : Nat) : Nat := resolveTime (tileLast p now) 24 24 (fieldLe p 52 3)
def tileTcp (p : Bytes) : Byte := p.getD 55 0
def tileMember (p : Bytes) : Nat := byteAt p 56
def tileControl (p : Bytes) : Byte := p.getD 57 0
def tileW (p : Bytes) : Nat := byteAt p 58
def tileSampling (p : Bytes) : Byte := p.getD 59 0

/-- The tile a write-back forms from a hot-tier entry, with the W given (R184). -/
def HotEntry.tile (e : HotEntry) (now w : Nat) : Bytes :=
  fit 40 e.key ++ le 3 e.action ++ le 3 (compress e.packets) ++ le 3 (compress e.octets) ++ le 3 (e.last now / 2 ^ 20) ++
    le 3 e.firstSeen.toNat ++ [e.tcp] ++ le 1 e.member ++ [e.control] ++ le 1 w ++ [e.sampling]

/-- Limits of the hot tier's counts, at which they saturate (R180). -/
def packetLimit : Nat := 2 ^ 40 - 1
def octetLimit : Nat := 2 ^ 48 - 1

/-- A tile's counts stand at or beyond a limit of the hot tier's: a count that saturated compresses to the next power of two (R180, R182,
R398). -/
def tileSaturated (p : Bytes) : Bool := packetLimit ≤ tilePackets p || octetLimit ≤ tileOctets p

/-- The hot-tier entry loaded from a home tile: decoded counts, no loss elsewhere (R182). A count that its field cannot hold is loaded at the
field's limit (DESIGN CHOICE, log 163). -/
def hotOfTile (p : Bytes) (home now : Nat) : HotEntry :=
  { key := tileKey p, action := tileAction p, packets := min packetLimit (tilePackets p), octets := min octetLimit (tileOctets p),
    lastSeen := BitVec.ofNat 32 (tileLast p now / 2 ^ 10), firstSeen := BitVec.ofNat 24 (fieldLe p 52 3), tcp := tileTcp p,
    member := tileMember p, control := tileControl p, sampling := tileSampling p, w := tileW p, dirty := false, held := false,
    wbPending := false, home := home }

/-! Control byte (Table 6.5). -/

def controlByte (cls : Nat) (pinned parity sample : Bool) : Byte :=
  BitVec.ofNat 8 (cls * 32 + (if pinned then 16 else 0) + (if parity then 8 else 0) + (if sample then 4 else 0))
def ctlClass (c : Byte) : Nat := c.toNat / 32
def ctlPinned (c : Byte) : Bool := c.getLsbD 4
def ctlSample (c : Byte) : Bool := c.getLsbD 2

/-- The SAMPLE mark of a key (R399). -/
def State.sampleMark (s : State) (cls : Nat) (key : Bytes) : Bool := s.hash0 key / 65536 < (s.telem.sampling.getD cls (0, 56)).1

/-- The tile of a new flow (R209): counts, W and sampling zero, both times now. -/
def newFlowTile (key : Bytes) (action : Nat) (member : Nat) (control tcp : Byte) (now : Nat) : Bytes :=
  fit 40 key ++ le 3 action ++ zeros 6 ++ le 3 (now / 2 ^ 20) ++ le 3 (now / 2 ^ 24) ++ [tcp] ++ le 1 member ++ [control] ++ zeros 2

/-! TCP (R177, Table 6.6). -/

/-- The state that the flags seen give. -/
def tcpState (seen : Nat) : Nat :=
  let b := Nat.testBit seen
  if b 4 || (b 3 && b 2) then 4 else if b 3 || b 2 then 3 else if b 1 && b 0 then 2 else if b 1 || b 0 then 1 else 5

/-- The TCP byte of a flow of the given key with flags seen: zero unless a TCP flow that is no fragment. -/
def tcpByte (key : Bytes) (seen : Nat) : Byte :=
  if byteAt key 36 = 6 && !bitAt key 37 1 then BitVec.ofNat 8 (tcpState seen * 32 + seen % 32) else 0

/-- Flags a packet adds: SYN, FIN and RST of its TCP flags, for its direction. -/
def seenBits (flags : Nat) (fromSub : Bool) : Nat :=
  (if Nat.testBit flags 2 then 16 else 0) +
  (if Nat.testBit flags 0 then (if fromSub then 8 else 4) else 0) +
  (if Nat.testBit flags 1 then (if fromSub then 2 else 1) else 0)

/-! Counters of the flow stage (Tables 6.19, 6.20, 7.10). -/

def State.flowDev (s : State) (i : Nat) (n : Nat := 1) : State := { s with flow := { s.flow with device := bump s.flow.device i n } }
def State.flowPipe (s : State) (pipe : Bool) (i : Nat) : State :=
  { s with flow := { s.flow with pipes := alter s.flow.pipes pipe.toNat fun b => bump b i } }

namespace Life
def admittedFast := 0
def admittedMiner := 1
def noRoom := 2
def noRoomActive := 3
def newLimited := 4
def evictions := 5
def tailingsFull := 6
def aged := 7
def deleted := 8
def sweeps := 13
def scrubs := 14
def scrubCorrected := 15
end Life

/-! The hot tier (R178, R184-R187, R191). -/

/-- The VALID way that holds a key. -/
def State.hotFind (s : State) (key : Bytes) : Option (Nat × HotEntry) :=
  let set := s.hotSet key
  (List.range 8).findSome? fun k =>
    (tget? s.flow.hot (set * 8 + k)).bind fun e => if sameKey e.key key then some (set * 8 + k, e) else none

def State.setHot (s : State) (way : Nat) (e : HotEntry) : State := { s with flow := { s.flow with hot := tset s.flow.hot way e } }
def State.freeHot (s : State) (way : Nat) : State := { s with flow := { s.flow with hot := tdel s.flow.hot way } }

/-- A request for the key is outstanding (R191). -/
def State.requestOf (s : State) (key : Bytes) : Option Request := s.flow.requests.find? fun r => r.key.length == 40 && sameKey r.key key
def State.setRequest (s : State) (r : Request) : State :=
  { s with flow := { s.flow with requests := s.flow.requests.filter (fun x => x.key != r.key) ++ [r] } }
def State.endRequest (s : State) (key : Bytes) : State :=
  { s with flow := { s.flow with requests := s.flow.requests.filter fun x => x.key != key } }

/-- A slot that a placement in progress has claimed (R206). -/
def State.claimed (s : State) (t : Nat) : Bool := s.flow.requests.any fun r => r.claim == some t

/-! Placement (R205, R214, R215). -/

/-- Read the eight tiles of a bucket with assay; tiles served from the write queue are counted (R188). -/
def State.readBucket (s : State) (b : Nat) (who : Consumer) : List (Nat × Option Bytes) × State :=
  let ts := s.bucketTiles b
  let queued := (ts.filter fun t => (tget? s.dram.wq t).isSome).length
  let (ps, s1) := readTiles who ts s
  let s2 := if who == .pipeline then { s1 with dram := { s1.dram with bucketReads := s1.dram.bucketReads + 1 } } else s1
  (ts.zip ps, s2.flowDev 2 queued)

/-- A slot is free: it holds no flow, is not retired and not claimed (R205). A slot that is the home of a VALID way holds that flow. -/
def State.slotFree (s : State) (t : Nat) : Bool :=
  !s.flow.quarantine.contains t && s.newest t == some invalidPayload && !s.withdrawn 0 t && !s.claimed t && (s.hotByHome t).isNone

/-- The flow a slot holds, if it holds one that passes assay. -/
def State.slotFlow (s : State) (t : Nat) : Option Bytes :=
  match s.newest t with
  | some p => if p == invalidPayload then none else some p
  | none => none

/-- A candidate slot is an eligible victim (R214). -/
def State.victimOk (s : State) (t : Nat) : Bool :=
  match s.slotFlow t with
  | some p =>
    !ctlPinned (tileControl p) && !s.withdrawn 0 t && (s.hotByHome t).isNone && (tget? s.dram.wq t).isNone &&
      !s.flow.quarantine.contains t && (s.requestOf (tileKey p)).isNone && !s.claimed t
  | none => false

/-- The choice of a slot. -/
inductive Place where
  | free (tile : Nat)
  | victim (tile : Nat)
  /-- None eligible; some candidate was not pinned. -/
  | none (active : Bool)
  deriving DecidableEq, Repr

/-- The first of a list with the least value of `f`. -/
def leastBy {α : Type} (f : α → Nat) : List α → Option α
  | [] => none
  | x :: xs => match leastBy f xs with
    | some y => if f y < f x then some y else some x
    | none => some x

/-- Choose a slot for a key (R205, R214, R215), the policy being that of a class in a version. -/
def State.choosePlace (s : State) (v : Staged) (key : Bytes) (cls : Nat) : Place × State :=
  let (b0, b1) := s.bucketsOf key
  let f0 := (s.bucketTiles b0).filter s.slotFree
  let f1 := (s.bucketTiles b1).filter s.slotFree
  match (if f0.length < f1.length then f1 else f0) with
  | t :: _ => (.free t, s)
  | [] =>
    let all := s.candidates key
    let ok := all.filter s.victimOk
    if ok.isEmpty then
      (.none (all.any fun t => match s.hotByHome t, s.slotFlow t with
        | some (_, e), _ => !ctlPinned e.control
        | none, some p => !ctlPinned (tileControl p)
        | none, none => false), s)
    else if (v.flow.classes.getD cls FlowClass.reset).random then
      let (r, s1) := s.draw
      (.victim (ok.getD (r.toNat % ok.length) 0), s1)
    else
      (.victim ((leastBy (fun t => match s.slotFlow t with | some p => tileLast p s.flowNow | none => 0) ok).getD 0), s)

/-- Another placement holds a claim in a candidate bucket of the key (R206). -/
def State.placeBusy (s : State) (key : Bytes) : Bool := (s.candidates key).any s.claimed

/-- The slot that a placement claims can still be taken, but for its own claim: it is free, or an eligible victim (R206, R214). -/
def State.claimHolds (s : State) (r : Request) (t : Nat) : Bool :=
  let s1 := s.setRequest { r with claim := none }
  s1.slotFree t || s1.victimOk t

/-- Evict a tile's flow for a displacing key (R215): its tailings record is queued and it is counted. -/
def State.evict (s : State) (t : Nat) (displacing : Bytes) : State :=
  match s.slotFlow t with
  | some p => (s.emitTailing p 0x10 0 t (fit 40 displacing)).lifeCount Life.evictions
  | none => s

/-- Count an insertion that finds no place (R214). -/
def State.countNoRoom (s : State) (active : Bool) : State :=
  let s1 := s.lifeCount Life.noRoom
  if active then s1.lifeCount Life.noRoomActive else s1

/-! Write-back and leaving the hot tier (R184-R186, R190). -/

/-- W of the next write-back. -/
def HotEntry.nextW (e : HotEntry) : Nat := min 255 (e.w + 1)

/-- An entry whose home is retired is placed anew from the newest state of both its buckets, keeping its contents and W (R190, R206): true
when its way is freed. It waits, WB_PENDING, while another placement holds a claim in one of the buckets. -/
def State.placeAnew (s : State) (way : Nat) (e : HotEntry) : Bool × State :=
  if s.placeBusy e.key then (false, s.setHot way { e with wbPending := true })
  else
    let s0 := ((s.readBucket (s.bucketsOf e.key).1 .pipeline).2.readBucket (s.bucketsOf e.key).2 .pipeline).2
    let pending := s0.setHot way { e with wbPending := true }
    let tile := e.tile s0.flowNow e.nextW
    match s0.choosePlace s0.cur e.key (ctlClass e.control) with
    | (.free t, s1) => if s1.wqRoom t false then (true, ((s1.queueWrite t tile).freeHot way).flowDev 0) else (false, pending)
    | (.victim t, s1) =>
      if s0.tailingsFull || !s1.wqRoom t false then (false, pending)
      else (true, (((s1.evict t e.key).queueWrite t tile).freeHot way).flowDev 0)
    | (.none active, s1) =>
      if s0.tailingsFull then (false, pending)
      else (true, ((s1.emitTailing tile 0x13 0 e.home).freeHot way).countNoRoom active)

/-- An entry leaves the hot tier (R184-R186): written back when DIRTY, else only freed; false where it stays, WB_PENDING. -/
def State.leaveHot (s : State) (way : Nat) (e : HotEntry) : Bool × State :=
  if !e.dirty then (true, s.freeHot way)
  else if s.withdrawn 0 e.home then s.placeAnew way e
  else if s.wqRoom e.home false then (true, ((s.queueWrite e.home (e.tile s.flowNow e.nextW)).freeHot way).flowDev 0)
  else (false, s.setHot way { e with wbPending := true })

/-- Make room in a key's set (R191 step 4, R186): the way to fill, once a victim has left it; none while no way can be had. -/
def State.makeWay (s : State) (key : Bytes) : Nat → Option Nat × State
  | 0 => (none, s)
  | fuel + 1 =>
    let ways := (List.range 8).map (s.hotSet key * 8 + ·)
    match ways.find? (fun w => (tget? s.flow.hot w).isNone && !s.withdrawn 2 w) with
    | some w => (some w, s)
    | none =>
      let can := ways.filterMap fun w => (tget? s.flow.hot w).bind fun e => if e.held || e.wbPending || s.withdrawn 2 w then none else some (w, e)
      match leastBy (fun x => x.2.last s.flowNow) can with
      | none => (none, s)
      | some (w, e) =>
        let (left, s1) := s.leaveHot w e
        if left then (some w, s1) else State.makeWay s1 key fuel

/-- A way for an install of the key. -/
def State.wayFor (s : State) (key : Bytes) : Option Nat × State := s.makeWay key 9

/-! The action cache (R14, log 6). -/

def State.cached (s : State) (entry : Nat) : Bool := s.flow.cache.any fun e => e.2 == entry

/-- Load an entry into the action cache: into the way drawn, or, where that way is retired, into the next way of its set that is not; a
retired way is never filled (R222). -/
def State.cacheLoad (s : State) (entry : Nat) : State :=
  if s.cached entry then s
  else
    let way := Config.cacheWay s.free % 65536
    let s1 := { s with free := s.free + 1 }
    match ((List.range 8).map fun k => way / 8 * 8 + (way + k) % 8).find? (fun w => !s.withdrawn 3 w) with
    | some w => { s1 with flow := { s1.flow with cache := tset s1.flow.cache w entry } }
    | none => s1

/-! Uncorrectable words of the die (R190, R18). -/

/-- The home tile of an entry is read and quarantined, and its flow departs with an ASSAY_HOT record: STALE, and UNTRUSTED where the tile
itself fails assay (R190, R225). -/
def State.hotFault (s : State) (who : Consumer) (way : Nat) : State :=
  match tget? s.flow.hot way with
  | none => s
  | some e =>
    let asRead := (tget? s.dram.wq e.home).getD ((memTile s.dram.mem e.home).take 60)
    let bad := (s.newest e.home).isNone
    let s1 := (s.logAssay 2 way who 1).freeHot way
    let s2 := if bad && !s.flow.quarantine.contains e.home then s1.logAssay 0 e.home who else s1
    (s2.quarantineTile e.home).emitTailing asRead 0x12 (2 + bad.toNat) e.home

/-- An uncorrectable home word: the way is invalidated and the older state stays in the home tile. -/
def State.homeFault (s : State) (who : Consumer) (way : Nat) : State :=
  match tget? s.flow.hot way with
  | none => s
  | some _ => ((s.logAssay 2 way who 2).freeHot way).flowDev 4

/-- An entry that a fault took waits for its repair to be asked for (R256). -/
def State.noteFaulted (s : State) (idx : Nat) : State :=
  if s.nat.faulted.contains idx then s else { s with nat := { s.nat with faulted := s.nat.faulted ++ [idx] } }

/-- An uncorrectable word of the action cache (R18): the entry is absent, its tile is quarantined, and its flows take their fall-back; a
retired way holds nothing any longer (R222). A BINDING so lost waits for a packet that meets it (R256). -/
def State.cacheFault (s : State) (who : Consumer) (way : Nat) : State :=
  match tget? s.flow.cache way with
  | none => s
  | some idx =>
    let s1 := (s.logAssay 3 way who 1).quarantineTile (s.regionTile 1 idx)
    let s2 := if s1.withdrawn 3 way then { s1 with flow := { s1.flow with cache := tdel s1.flow.cache way } } else s1
    s2.noteFaulted idx

/-- What strikes the hot tier and the action cache before an event's reads meet it. -/
def State.struck (s : State) (hurt : Upsets) (who : Consumer) : State :=
  let s1 := hurt.hot.foldl (fun s w => s.hotFault who w) (s.upset hurt)
  let s2 := hurt.home.foldl (fun s w => s.homeFault who w) s1
  hurt.cache.foldl (fun s w => s.cacheFault who w) s2

/-! Finding a flow (R187, R188, R197). -/

/-- Where a flow's newest state is. -/
inductive Newest where
  | hot (way : Nat) (e : HotEntry)
  | tile (home : Nat) (payload : Bytes) (queued : Bool)
  /-- Nowhere; a candidate tile faulted during the search. -/
  | absent (faulted : Bool)

/-- The tile among those read that holds the key. -/
def holding (key : Bytes) (ts : List (Nat × Option Bytes)) : Option (Nat × Bytes) :=
  ts.findSome? fun t => match t.2 with
    | some p => if p != invalidPayload && sameKey (tileKey p) key then some (t.1, p) else none
    | none => none

/-- Search the hot tier, then B0 and B1 (R197). -/
def State.findFlow (s : State) (key : Bytes) (who : Consumer) : Newest × State :=
  match s.hotFind key with
  | some (w, e) => (.hot w e, s)
  | none =>
    let (t0, s1) := s.readBucket (s.bucketsOf key).1 who
    match holding key t0 with
    | some (t, p) => (.tile t p (tget? s.dram.wq t).isSome, s1)
    | none =>
      let (t1, s2) := s1.readBucket (s.bucketsOf key).2 who
      match holding key t1 with
      | some (t, p) => (.tile t p (tget? s.dram.wq t).isSome, s2)
      | none => (.absent ((t0 ++ t1).any fun t => t.2.isNone), s2)

/-! Departures (R218, R224, R228). -/

/-- The flow-end request of a flow that ends in the hot tier or in a tile (R397). -/
def State.endOfHot (s : State) (e : HotEntry) (reason : Nat) : Assembly :=
  .flowEnd e.key e.action e.packets e.octets (e.last s.flowNow) (e.first s.flowNow) e.tcp e.control e.w e.home reason
    (if packetLimit ≤ e.packets || octetLimit ≤ e.octets then 4 else 0) s.epoch.current

def State.endOfTile (s : State) (home : Nat) (p : Bytes) (reason flags : Nat) (epoch : W16) : Assembly :=
  .flowEnd (tileKey p) (tileAction p) (tilePackets p) (tileOctets p) (tileLast p s.flowNow) (tileFirst p s.flowNow) (tileTcp p)
    (tileControl p) (tileW p) home reason (flags + if tileSaturated p then 4 else 0) epoch

/-- Flow-end records find room in staging, or none is assembled (R393, R394). -/
def State.endRoom (s : State) : Bool := !s.hasDest 256 || s.stagingRoom 256

/-- End a flow at its newest place with a voluntary reason: the way is freed without a write-back and the home holds the invalid
pattern (R218, R228). The caller has seen that the home can be written and that staging has room. -/
def State.endFlow (s : State) (w : Newest) (reason : Nat) : State :=
  let count := if reason = 1 then Life.aged else Life.deleted
  match w with
  | .hot way e => (((s.askFlowEnd (s.endOfHot e reason)).freeHot way).queueWrite e.home invalidPayload).lifeCount count
  | .tile t p _ => ((s.askFlowEnd (s.endOfTile t p reason 0 s.epoch.current)).queueWrite t invalidPayload).lifeCount count
  | .absent _ => s

/-- Home tile of a flow that is present. -/
def Newest.home : Newest → Option Nat
  | .hot _ e => some e.home
  | .tile t _ _ => some t
  | .absent _ => none

end Sys2Proof.Machine
end

