-- ==== Sys2Proof/Machine/Translate.lean ====
section
/-!
DEFINITION. Action entries, subscribers and policy classes, public pools and the block map, bindings and their allocation, and balancing
members (spec 08).
-/
namespace Sys2Proof.Machine

/-! Action entries (R234, Tables 8.1 and 8.2). -/

/-- The payload of a tile as a version sees it, its check aside: what the action cache holds of it. -/
def State.rawIn (s : State) (v : Staged) (i : Nat) : Bytes :=
  (s.stagedTile v i).getD ((tget? s.dram.wq i).getD ((memTile s.dram.mem i).take 60))

/-- Tile of an action entry, and of tile `k` of a subscriber (R239). -/
def State.entryTile (s : State) (idx : Nat) : Nat := s.regionTile 1 idx
def State.subTile (s : State) (sub k : Nat) : Nat := s.regionTile 2 (4 * sub + k)

/-- A payload that is an entry. -/
def asEntry (p : Bytes) : Option Bytes := if p == invalidPayload then none else some p

/-- An entry as the action cache, or a read that has been delivered, gives it in a version; a tile that awaits its quarantine is absent
(R220). -/
def State.entryCached (s : State) (v : Staged) (idx : Nat) : Option Bytes :=
  if s.flow.quarantine.contains (s.entryTile idx) then none else asEntry (s.rawIn v (s.entryTile idx))

/-- What a packet at the flow stage has of an entry (R14, R17): none where it must first be read; an entry, or its absence, where the action
cache holds it or a read of the packet's own delivered it. -/
def State.entryAt (s : State) (v : Staged) (got : List (Stage × Bool)) (idx : Nat) : Option (Option Bytes) :=
  if s.cached idx then some (s.entryCached v idx)
  else (got.find? fun g => g.1 == .action idx).map fun g => if g.2 then s.entryCached v idx else none

/-- An entry read with assay, in a version. -/
def State.entryRead (s : State) (v : Staged) (idx : Nat) (who : Consumer) : Option Bytes × State :=
  let (p, s1) := s.readTileIn v (s.entryTile idx) who
  (p.bind asEntry, s1)

def entryKind (e : Bytes) : Nat := byteAt e 0
def entrySub (e : Bytes) : Nat := fieldLe e 2 3
def entryPool (e : Bytes) : Nat := byteAt e 7
def entryGroup (e : Bytes) : Option Nat :=
  if entryKind e = 4 || fieldLe e 8 2 = 0xFFFF then none else some (fieldLe e 8 2)
def isBinding (e : Bytes) : Bool := entryKind e == 2
/-- A translation entry: TRANSLATE or BINDING. -/
def isTranslation (e : Bytes) : Bool := entryKind e == 1 || entryKind e == 2
def bindPrivate (e : Bytes) : Bytes × Bytes := (slice e 10 4, slice e 14 2)
def bindPublic (e : Bytes) : Bytes × Bytes := (slice e 16 4, slice e 20 2)
def bindProto (e : Bytes) : Nat := byteAt e 22

/-! Subscribers and policy (R237-R242). -/

/-- Tile 0 of a subscriber as a version defines it: a record with VALID set (R239). -/
def Staged.subDefined (v : Staged) (sub : Nat) : Option Bytes := (tget? v.nat.subs sub).filter fun t => bitAt t 0 7

/-- Tile 0 of a subscriber fails its assay, and the fault has not been met before (R17, R220). -/
def State.subFaulty (s : State) (v : Staged) (sub : Nat) : Bool :=
  (v.subDefined sub).isSome && !s.nat.lost.contains (s.subTile sub 0) && !s.flow.quarantine.contains (s.subTile sub 0) &&
    (s.newestIn v (s.subTile sub 0)).isNone

/-- Tile 0 of a defined subscriber as it is read, with assay; a faulty one is absent until the host writes it again (R17, R18, R256). -/
def State.subRecord (s : State) (v : Staged) (sub : Nat) : Option Bytes :=
  match v.subDefined sub with
  | some t => if s.nat.lost.contains (s.subTile sub 0) || (s.newestIn v (s.subTile sub 0)).isNone then none else some t
  | none => none

/-- What the read of tile 0 leaves: a fault it meets is handled under R18. -/
def State.meetSub (s : State) (v : Staged) (sub : Nat) (who : Consumer) : State :=
  if s.subFaulty v sub then s.faultTile (s.subTile sub 0) who else s

/-- The IPv4-mapped prefix. -/
def mappedPrefix : Bytes := zeros 10 ++ [0xFF, 0xFF]
def isMapped (a : Bytes) : Bool := a.take 12 == mappedPrefix
def v4Of (a : Bytes) : Bytes := slice a 12 4

/-- The first `n` bits of two byte strings agree. -/
def samePrefix (n : Nat) (a b : Bytes) : Bool := (List.range n).all fun i => bitAt a (i / 8) (7 - i % 8) == bitAt b (i / 8) (7 - i % 8)

/-- Subscriber of a private address in a context (R237). -/
def Staged.subByAddress (v : Staged) (v6 : Bool) (addr : Bytes) (ctx : Nat) : Option Nat :=
  (v.nat.subs.find? fun e => bitAt e.2 0 7 && fieldLe e.2 2 2 == ctx &&
    (if v6 then bitAt e.2 0 1 && samePrefix v.nat.v6Len (slice e.2 8 8) addr
     else bitAt e.2 0 0 && slice e.2 4 4 == v4Of addr)).map (·.1)

/-- The subscriber an entry names, for a flow key (R237). -/
def subscriberOf (v : Staged) (e key : Bytes) : Option Nat :=
  let n := entrySub e
  if n = 0xFFFFFF then none
  else if n = 0xFFFFFE then v.subByAddress (bitAt key 37 0) (slice key 0 16) (fieldBe key 38 2)
  else some n

/-- Policy class of a packet (R238). -/
def State.policyOf (s : State) (v : Staged) (e : Option Bytes) (sub : Option Nat) : Nat :=
  let own := match sub.bind (s.subRecord v) with | some t => fieldLe t 16 2 | none => 0
  match e with
  | some e => if fieldLe e 5 2 != 0xFFFF then fieldLe e 5 2 else own
  | none => own

/-- Default policy record of a class (Table 8.4). -/
def policyDefault (cls : Nat) : Bytes := le 2 cls ++ [0, 1, 1, 0] ++ le 2 0xFA50 ++ zeros 8
def Staged.policy (v : Staged) (cls : Nat) : Bytes := (tget? v.nat.policies cls).getD (policyDefault cls)
def policyCounts (p : Bytes) : Bool := bitAt p 3 0
def policyShapes (p : Bytes) : Bool := bitAt p 3 1
def policyBlocks (p : Bytes) : Nat := byteAt p 4
/-- Subscriber class of a queue class. -/
def policySubClass (p : Bytes) (q : Nat) : Nat := fieldLe p 6 2 / 4 ^ q % 4

/-! Subscriber counters (R241, R299). -/

def SubCount.zero : SubCount := { counts := List.replicate 8 (0, 0), upDisc := 0, downDisc := 0 }
def State.subCount (s : State) (sub : Nat) (f : SubCount → SubCount) : State :=
  { s with nat := { s.nat with counts := tset s.nat.counts sub (f ((tget? s.nat.counts sub).getD SubCount.zero)) } }

/-- Count a packet of a subscriber. -/
def State.subPacket (s : State) (sub cls : Nat) (upstream : Bool) (len : Nat) : State :=
  s.subCount sub fun c => { c with counts := alter c.counts ((if upstream then 0 else 4) + cls) fun x => (x.1 + 1, x.2 + len) }

/-- Count a buffer discard of a subscriber. -/
def State.subDiscard (s : State) (sub : Nat) (upstream : Bool) : State :=
  s.subCount sub fun c => if upstream then { c with upDisc := c.upDisc + 1 } else { c with downDisc := c.downDisc + 1 }

def State.natCount (s : State) (i : Nat) (n : Nat := 1) : State := { s with nat := { s.nat with counters := bump s.nat.counters i n } }

namespace NatCounter
def blocksAllocated := 0
def blocksReleased := 1
def created := 2
def freed := 3
def portsExhausted := 4
def poolExhausted := 5
def logFull := 6
def protocol := 7
def fragment := 8
def notIpv4 := 9
def noSubscriber := 10
def filtered := 11
def inboundNoBinding := 12
def hairpinned := 13
def repaired := 14
def rechosen := 15
def noMember := 16
def releaseDeferred := 17
/-- No counter: a setup whose entry is absent. -/
def count := 19
end NatCounter

/-! Pools (R243). -/

def Staged.pool (v : Staged) (p : Nat) : Option Bytes := tget? v.nat.pools p
def poolEim (r : Bytes) : Bool := byteAt r 3 == 0
def poolCtx (r : Bytes) : Nat := fieldLe r 4 2
def poolLo (r : Bytes) : Nat := fieldLe r 8 2
def poolHi (r : Bytes) : Nat := fieldLe r 10 2
def poolSlotBase (r : Bytes) : Nat := fieldLe r 12 4
def poolA (r : Bytes) : Nat := fieldLe r 24 2
/-- Blocks of each address. -/
def poolPer (r : Bytes) : Nat := (poolHi r + 1 - poolLo r) / poolBlock r
/-- Block slots of the pool. -/
def poolSlots (r : Bytes) : Nat := poolA r * poolPer r

def Staged.poolAddr (v : Staged) (p ordinal : Nat) : Option Bytes := tget? v.nat.addrs (p * 4096 + ordinal)

/-- The pool and ordinal of a public address in a context (R248). -/
def Staged.publicAddr (v : Staged) (ip : Bytes) (ctx : Nat) : Option (Nat × Nat) :=
  (v.nat.addrs.find? fun a => slice a.2 12 4 == ip &&
    (match v.pool (a.1 / 4096) with | some r => poolCtx r == ctx && decide (a.1 % 4096 < poolA r) | none => false)).map
    fun a => (a.1 / 4096, a.1 % 4096)

/-- The pool whose slots hold a global block slot, with the ordinal of the address and its first port (R243). -/
def Staged.slotPool (v : Staged) (slot : Nat) : Option (Nat × Bytes × Nat × Nat) :=
  (v.nat.pools.find? fun p => poolSlotBase p.2 ≤ slot && slot < poolSlotBase p.2 + poolSlots p.2).map fun p =>
    let k := slot - poolSlotBase p.2
    (p.1, p.2, k / poolPer p.2, poolLo p.2 + k % poolPer p.2 * poolBlock p.2)

def State.block (s : State) (slot : Nat) : Option Block := tget? s.nat.blocks slot

/-- A block map entry as its 64 bits (Table 8.6), and the entry that 64 bits hold. -/
def Block.word (b : Block) : Nat :=
  2 ^ 63 + b.empty.toNat * 2 ^ 62 + b.desc % 8 * 2 ^ 59 + b.sub % 2 ^ 17 * 2 ^ 42 + b.emptySince.toNat * 2 ^ 24 + b.base % 2 ^ 24

def blockOfWord (w : Nat) : Option Block :=
  if Nat.testBit w 63 then
    some { empty := Nat.testBit w 62, desc := w / 2 ^ 59 % 8, sub := w / 2 ^ 42 % 2 ^ 17, emptySince := BitVec.ofNat 16 (w / 2 ^ 24),
           base := w % 2 ^ 24 }
  else none

/-- Write a block map entry; the pair's primary journals a change (R492). -/
def State.setBlock (s : State) (slot : Nat) (b : Option Block) : State :=
  let s1 : State := { s with nat := { s.nat with blocks := match b with | some m => tset s.nat.blocks slot m | none => tdel s.nat.blocks slot } }
  if (s.forwards || s.journals) && s.block slot != b then
    s1.journalLive slot (le 8 (match b with | some m => m.word | none => 0)) 3
  else s1

/-- What an inbound packet's destination endpoint gives (R248). -/
inductive Inbound where
  | notPool
  /-- In a pool, without a binding. -/
  | none (pool : Bytes)
  | binding (idx : Nat) (payload : Bytes)
  /-- The entry must be read from device memory. -/
  | read (idx : Nat)

/-- Resolve a public endpoint (R248): its entry is the cached one, the one a read delivered, or must be read. -/
def State.inbound (s : State) (v : Staged) (ctx : Nat) (dst : Bytes) (port proto : Nat) (got : List (Stage × Bool)) : Inbound :=
  if !isMapped dst then .notPool
  else match v.publicAddr (v4Of dst) ctx with
    | none => .notPool
    | some (p, ord) =>
      match v.pool p with
      | none => .notPool
      | some r =>
        if port < poolLo r || poolHi r < port then .none r
        else
          let b := (port - poolLo r) / poolBlock r
          match s.block (poolSlotBase r + ord * poolPer r + b) with
          | none => .none r
          | some m =>
            let idx := m.base + (port - poolLo r) % poolBlock r
            match s.entryAt v got idx with
            | none => .read idx
            | some (some e) => if isBinding e && bindProto e == proto then .binding idx e else .none r
            | some none => .none r

/-! Port-block records (R247, R401, Table 14.4). -/

def State.blockRecord (s : State) (v : Staged) (slot : Nat) (m : Block) (alloc : Bool) (cause : Nat) : Bytes :=
  match v.slotPool slot with
  | none => zeros 37
  | some (p, r, ord, first) =>
    let priv := match s.subRecord v m.sub with | some t => slice t 4 4 | none => zeros 4
    let pub := match v.poolAddr p ord with | some a => slice a 12 4 | none => zeros 4
    be 8 (s.timeMs s.flowNow) ++ be 1 (if alloc then 13 else 14) ++ priv ++ pub ++ be 2 first ++ be 2 (first + poolBlock r - 1) ++ be 2 1 ++
      be 2 (poolBlock r) ++ be 2 (poolCtx r) ++ be 4 m.sub ++ be 1 p ++ be 4 slot ++ be 1 cause

/-! Descriptors of a subscriber (Table 8.3, tile 1). -/

/-- A VALID descriptor: its number, block slot, entry base and pool. -/
def descsOf (t : Bytes) : List (Nat × Nat × Nat × Nat) :=
  (List.range 8).filterMap fun k =>
    let d := fieldLe t (7 * k) 3
    if Nat.testBit d 23 then some (k, d % 2 ^ 20, fieldLe t (7 * k + 3) 3, byteAt t (7 * k + 6)) else none

def descBytes (slot base pool : Nat) : Bytes := le 3 (2 ^ 23 + slot) ++ le 3 base ++ le 1 pool

/-- Tile 1 as the block map gives it (R256). -/
def State.rebuiltTile1 (s : State) (v : Staged) (sub : Nat) : Bytes :=
  s.nat.blocks.foldl (fun t b =>
    if b.2.sub = sub then
      splice t (7 * b.2.desc) (descBytes b.1 b.2.base (match v.slotPool b.1 with | some (p, _) => p | none => 0))
    else t) (zeros 60)

/-- Tile 1 rebuilt: written where the block map names a block of the subscriber. -/
def State.rebuildTile1 (s : State) (v : Staged) (sub : Nat) : Bytes × State :=
  let t := s.rebuiltTile1 v sub
  (t, if t == zeros 60 then s else s.taskWrite (s.subTile sub 1) t)

/-- Read tile 1 of a subscriber; a faulty one, or one that a fault met before left with the invalid pattern, is rebuilt from the block map
(R256). -/
def State.readTile1 (s : State) (v : Staged) (sub : Nat) (who : Consumer) : Bytes × State :=
  match s.readTile (s.subTile sub 1) who with
  | (some p, s1) => if p == invalidPayload then s1.rebuildTile1 v sub else (p, s1)
  | (none, s1) => s1.rebuildTile1 v sub

/-! Bindings (R245, R246). -/

/-- Offsets of the search window of a private port. -/
def window (port bs : Nat) : List Nat := (List.range 16).map fun k => (port + k) % bs

/-- An uncorrectable word of the block map (R244, R256): the entry is rebuilt from the subscriber descriptor that names its slot. EMPTY reads
0 until the next visit sets it, and EMPTY_SINCE, which nothing names, is a free value (DEDUCED, log 137). -/
def State.blockFault (s : State) (slot : Nat) : State :=
  match s.block slot with
  | none => s
  | some m =>
    let s1 := s.setBlock slot none
    let (t, s2) := s1.readTile1 s1.cur m.sub .miner
    match (descsOf t).find? (fun d => d.2.1 == slot) with
    | some (k, _, base, _) =>
      let (r, s3) := s2.draw
      s3.setBlock slot (some { empty := false, desc := k, sub := m.sub, emptySince := BitVec.ofNat 16 r.toNat, base := base })
    | none => s2

/-- Read the windows of descriptors in order: the entries with their index, descriptor and offset. -/
def readWindow (v : Staged) : List (Nat × Nat × Nat) → State → List (Nat × Nat × Nat × Option Bytes) × State
  | [], s => ([], s)
  | (desc, idx, off) :: rest, s =>
    let (e, s1) := s.entryRead v idx .miner
    let (es, s2) := readWindow v rest s1
    ((desc, idx, off, e) :: es, s2)

/-- The payload of a new BINDING (Table 8.2). -/
def bindingPayload (s : State) (sub : Nat) (trans : Bytes) (key : Bytes) (pub : Bytes) (pubPort from_ desc slot : Nat) : Bytes :=
  [2, 1] ++ le 3 sub ++ slice trans 5 2 ++ le 1 (entryPool trans) ++ slice trans 8 2 ++ v4Of (slice key 0 16) ++ slice key 32 2 ++ pub ++
    be 2 pubPort ++ le 1 (byteAt key 36) ++ [0] ++ le 4 (s.flowNow / 2 ^ 20) ++ zeros 4 ++ le 3 from_ ++ le 1 desc ++ le 3 slot ++ zeros 21

def State.setLive (s : State) (idx : Nat) : State :=
  if s.nat.live.contains idx then s else { s with nat := { s.nat with live := s.nat.live ++ [idx] } }

/-- Write a binding and count it. -/
def State.putBinding (s : State) (idx : Nat) (p : Bytes) : State :=
  ((s.taskWrite (s.entryTile idx) p).setLive idx).natCount NatCounter.created

/-- A free block of an address ordinal: not DRAIN, the lowest-numbered. -/
def State.freeBlock (s : State) (v : Staged) (p : Nat) (r : Bytes) (ord : Nat) : Option Nat :=
  match v.poolAddr p ord with
  | none => none
  | some a =>
    if bitAt a 2 0 then none
    else (List.range (poolPer r)).findSome? fun b =>
      let slot := poolSlotBase r + ord * poolPer r + b
      if (s.block slot).isNone then some slot else none

/-- The block a subscriber takes next (R246). -/
def State.nextBlock (s : State) (v : Staged) (p : Nat) (r : Bytes) (sub : Nat) (held : List (Nat × Nat × Nat × Nat)) : Option Nat :=
  let first := (held.find? fun d => d.2.2.2 == p).map fun d => (d.2.1 - poolSlotBase r) / poolPer r
  let order := first.toList ++ (List.range (poolA r)).map fun k => (sub + k) % poolA r
  order.findSome? fun ord => s.freeBlock v p r ord

/-- The lowest free run of a pool. -/
def State.freeRun (s : State) (r : Bytes) : Option Nat :=
  (List.range (poolRuns r)).findSome? fun k =>
    let base := poolBindBase r + k * poolBlock r
    if s.nat.blocks.any fun b => b.2.base == base then none else some base

/-- Fields of a pool that cannot change while a block of it is allocated, by offset and width (R243). -/
def poolFixed : List (Nat × Nat) := [(4, 2), (6, 2), (8, 2), (10, 2), (12, 4), (16, 4), (20, 4), (24, 2)]

/-- The first of those fields in which two records differ. -/
def poolMoved (a b : Bytes) : Option (Nat × Nat) := poolFixed.find? fun f => fieldLe a f.1 f.2 != fieldLe b f.1 f.2

/-- No change of a pool's geometry waits for a commit or a drain: the current version and the shadow place it as `r` does. A block is
allocated only then, so that none is allocated when the change takes effect (R243; DESIGN CHOICE, log 161). -/
def State.poolSteady (s : State) (p : Nat) (r : Bytes) : Bool :=
  [s.cur, s.shadow].all fun v => match v.pool p with | some x => (poolMoved x r).isNone | none => false

/-- What a flow-setup task ends with: the action entry of the flow, or the counter of its failure. -/
abbrev Setup := Except Nat Nat

/-- Allocate a block and the binding at the private port's offset in it (R245 step 4, R246, R247). -/
def State.allocBlock (s0 : State) (v : Staged) (sub : Nat) (trans : Bytes) (from_ : Nat) (key : Bytes) (r tile1 : Bytes) : Setup × State :=
  let s := s0.meetSub v sub .miner
  let p := entryPool trans
  let held := descsOf tile1
  let most := policyBlocks (v.policy (s.policyOf v (some trans) (some sub)))
  let descs := (List.range 8).filter fun k => !held.any fun d => d.1 == k
  if most ≤ (held.filter fun d => d.2.2.2 == p).length then (.error NatCounter.portsExhausted, s)
  else match descs with
  | [] => (.error NatCounter.portsExhausted, s)
  | desc :: _ =>
    match s.nextBlock v p r sub held, s.freeRun r with
    | some slot, some base =>
      if !s.poolSteady p r then (.error NatCounter.poolExhausted, s)
      else if !s.stagingRoom 258 then (.error NatCounter.logFull, s)
      else
        let m : Block := { empty := false, desc := desc, sub := sub, emptySince := 0, base := base }
        let s1 := s.setBlock slot (some m)
        let s2 := s1.taskWrite (s1.subTile sub 1) (splice tile1 (7 * desc) (descBytes slot base p))
        let s3 := (s2.stageRecord 258 (s2.blockRecord v slot m true 0)).natCount NatCounter.blocksAllocated
        let off := ofBe (slice key 32 2) % poolBlock r
        let (pub, first) := match v.slotPool slot with
          | some (_, _, ord, first) => ((match v.poolAddr p ord with | some a => slice a 12 4 | none => zeros 4), first)
          | none => (zeros 4, 0)
        (.ok (base + off), s3.putBinding (base + off) (bindingPayload s3 sub trans key pub (first + off) from_ desc slot))
    | _, _ => (.error NatCounter.poolExhausted, s)

/-- Find or allocate the binding of a flow whose binding slot names a TRANSLATE entry (R245). -/
def State.setupBinding (s : State) (v : Staged) (trans : Bytes) (from_ : Nat) (key : Bytes) : Setup × State :=
  let proto := byteAt key 36
  if bitAt key 37 0 then (.error NatCounter.notIpv4, s)
  else if bitAt key 37 1 then (.error NatCounter.fragment, s)
  else if !(proto == 6 || proto == 17 || (proto == 1 && bitAt key 37 2)) then (.error NatCounter.protocol, s)
  else match subscriberOf v trans key, v.pool (entryPool trans) with
    | none, _ => (.error NatCounter.noSubscriber, s)
    | _, none => (.error NatCounter.poolExhausted, s)
    | some sub, some r =>
      let (t1, s1) := s.readTile1 v sub .miner
      let ds := (descsOf t1).filter fun d => d.2.2.2 == entryPool trans
      let port := ofBe (slice key 32 2)
      let wins := ds.flatMap fun d => (window port (poolBlock r)).map fun o => (d.1, d.2.2.1 + o, o)
      let (es, s2) := readWindow v wins s1
      match es.find? (fun e => match e.2.2.2 with
          | some b => isBinding b && bindProto b == proto && (bindPrivate b).2 == slice key 32 2 | none => false) with
      | some (_, idx, _, _) => (.ok idx, s2.setLive idx)
      | none =>
        match es.find? (fun e => e.2.2.2.isNone && !s2.withdrawn 0 (s2.entryTile e.2.1)) with
        | none => s2.allocBlock v sub trans from_ key r t1
        | some (desc, idx, off, _) =>
          match ds.find? (fun d => d.1 == desc) with
          | none => (.error NatCounter.poolExhausted, s2)
          | some d =>
            let (pub, first) := match v.slotPool d.2.1 with
              | some (p, _, ord, first) => ((match v.poolAddr p ord with | some a => slice a 12 4 | none => zeros 4), first)
              | none => (zeros 4, 0)
            (.ok idx, s2.putBinding idx (bindingPayload s2 sub trans key pub (first + off) from_ desc d.2.1))

/-! Balancing members (R258). -/

def Staged.group (v : Staged) (g : Nat) : Option Group := tget? v.nat.groups g

/-- The member of a key's slot (R258); none where the slot's tile was lost through a fault. -/
def State.slotMember (s : State) (v : Staged) (g : Nat) (key : Bytes) : Nat :=
  let slot := s.hash1 key % 4096
  match v.group g with
  | some x =>
    if (match x.seam with | some d => s.nat.lost.contains (s.seamTile d (slot / 60)) | none => false) then 0xFF else x.slots.getD slot 0xFF
  | none => 0xFF

/-- The next hop of a member that is present; 0xFF in a slot or a flow names no member (R258). -/
def Staged.memberHop (v : Staged) (g m : Nat) : Option Nat :=
  if m = 0xFF then none else ((v.group g).bind fun x => tget? x.members m).map (·.1)

/-- The slot tile of a key's group, read with assay (R258): at an admission, with its bucket reads. -/
def State.readSlotTile (s : State) (v : Staged) (g : Nat) (key : Bytes) (who : Consumer) : Bool × State :=
  match (v.group g).bind (·.seam) with
  | some d => let (p, s1) := s.readTileIn v (s.seamTile d (s.hash1 key % 4096 / 60)) who; (p.isSome, s1)
  | none => (true, s)

/-- The member that a new flow of an entry stores, its slot tile read (R258). -/
def State.newMember (s : State) (v : Staged) (e : Option Bytes) (key : Bytes) (who : Consumer) : Nat × State :=
  match e.bind entryGroup with
  | some g => let s1 := (s.readSlotTile v g key who).2; (s1.slotMember v g key, s1)
  | none => (0, s)

/-! Releasing bindings and blocks (R254, R255, R260). -/

/-- Free a binding: the invalid pattern in its entry. -/
def State.freeBinding (s : State) (idx : Nat) : State :=
  let s1 := (s.taskWrite (s.entryTile idx) invalidPayload).natCount NatCounter.freed
  { s1 with nat := { s1.nat with live := s1.nat.live.filter (· != idx) } }

/-- Release a block: its map entry, run and descriptor are freed and its record staged; deferred where the record finds no room (R247). -/
def State.releaseBlock (s : State) (slot cause : Nat) : State :=
  match s.block slot with
  | none => s
  | some m =>
    if !s.stagingRoom 258 then
      if s.nat.deferred.any (· % 2 ^ 20 == slot) then s
      else { s.natCount NatCounter.releaseDeferred with nat := { (s.natCount NatCounter.releaseDeferred).nat with
                                                                  deferred := s.nat.deferred ++ [cause * 2 ^ 20 + slot] } }
    else
      let s0 := s.meetSub s.cur m.sub .miner
      let rec_ := s0.blockRecord s0.cur slot m false cause
      let (t1, s1) := s0.readTile1 s0.cur m.sub .miner
      let s2 := s1.taskWrite (s1.subTile m.sub 1) (splice t1 (7 * m.desc) (zeros 7))
      let s3 := { s2 with nat := { s2.nat with deferred := s2.nat.deferred.filter (· % 2 ^ 20 != slot) } }.setBlock slot none
      (s3.stageRecord 258 rec_).natCount NatCounter.blocksReleased

/-- Entries of a block's run. -/
def State.blockRun (s : State) (slot : Nat) : List Nat :=
  match s.block slot, s.cur.slotPool slot with
  | some m, some (_, r, _, _) => (List.range (poolBlock r)).map (m.base + ·)
  | _, _ => []

/-- A payload that is a binding. -/
def asBinding (p : Bytes) : Option Bytes := if p != invalidPayload && isBinding p then some p else none

/-- The binding an entry holds, its check aside: present where the allocated bit that the die keeps for the entry is set (R254). -/
def State.bindingAt (s : State) (idx : Nat) : Option Bytes := (s.entryCached s.cur idx).bind asBinding

/-- An allocated binding read with assay; a faulty one is handled under R18 and is absent (R17, R254). -/
def State.readBinding (s : State) (idx : Nat) (who : Consumer) : Option Bytes × State :=
  if (s.bindingAt idx).isNone then (none, s)
  else let (p, s1) := s.readTile (s.entryTile idx) who; (p.bind asBinding, s1)

/-- The bindings that a list of entries holds, each read with assay. -/
def State.readBindings (who : Consumer) : List Nat → State → List Bytes × State
  | [], s => ([], s)
  | i :: is, s =>
    let (b, s1) := s.readBinding i who
    let (bs, s2) := State.readBindings who is s1
    (b.toList ++ bs, s2)

/-- What strikes the flow store and the block map before an event's reads meet it (R18, R190, R256). -/
def State.struckOn (s : State) (hurt : Upsets) (who : Consumer) : State := hurt.blocks.foldl State.blockFault (s.struck hurt who)

end Sys2Proof.Machine
end

