-- ==== Sys2Proof/Machine/Forward.lean ====
section
/-!
DEFINITION. The forwarding result: bridge domains and their lookups, routes, next hops, and learning with its ageing (spec 09).
-/
namespace Sys2Proof.Machine

def State.fwdCount (s : State) (pipe : Bool) (i : Nat) : State :=
  { s with fwd := { s.fwd with counters := alter s.fwd.counters pipe.toNat fun b => bump b i } }
def State.fwdDev (s : State) (i : Nat) (n : Nat := 1) : State := { s with fwd := { s.fwd with device := bump s.fwd.device i n } }

namespace FwdCounter
def lookups := 0
def hits := 1
def flooded := 2
def unknownDropped := 3
def samePort := 4
def discard := 5
def noDomain := 6
def learned := 7
def macMove := 8
def conflict := 9
def onStatic := 10
def queueFull := 11
def noRoom := 12
def displaced := 13
def limitedFlood := 14
def limitedDrop := 15
def syncLost := 16
def aged := 17
def routeLookups := 18
def routeMiss := 19
def ttlExpired := 20
def notIp := 21
def hopUndefined := 22
def coalesced := 23
end FwdCounter

/-! Domains (R262). -/

def bridgeKey (domain mac : Nat) : Nat := domain * 2 ^ 48 + mac

def Staged.domainPort (v : Staged) (port : Nat) : DomainPort := v.fwd.ports.getD port DomainPort.reset

/-- The bridge domain of a packet. -/
def Staged.domainOf (v : Staged) (port : Nat) (kv : Bytes) : Nat :=
  let d := v.domainPort port
  match d.mode with
  | 0 => d.base
  | 1 => (d.base + fieldBe kv 22 2 % 4096) % 4096
  | _ => (d.base + fieldBe kv 24 2 % 4096) % 4096

/-! Tables of a pipeline (R266, R267). -/

def FwdCfg.hosts (f : FwdCfg) (pipe : Bool) : Table HostEntry := if pipe then f.hosts1 else f.hosts0
def FwdCfg.setHosts (f : FwdCfg) (pipe : Bool) (t : Table HostEntry) : FwdCfg := if pipe then { f with hosts1 := t } else { f with hosts0 := t }
def FwdLive.learned (f : FwdLive) (pipe : Bool) : Table Learned := if pipe then f.learned1 else f.learned0
def FwdLive.setLearned (f : FwdLive) (pipe : Bool) (t : Table Learned) : FwdLive :=
  if pipe then { f with learned1 := t } else { f with learned0 := t }
def FwdLive.hits (f : FwdLive) (pipe : Bool) : List Nat := if pipe then f.hostHit1 else f.hostHit0
def FwdLive.setHits (f : FwdLive) (pipe : Bool) (l : List Nat) : FwdLive := if pipe then { f with hostHit1 := l } else { f with hostHit0 := l }
def FwdLive.queue (f : FwdLive) (pipe : Bool) : List LearnEvent := if pipe then f.queue1 else f.queue0
def FwdLive.setQueue (f : FwdLive) (pipe : Bool) (l : List LearnEvent) : FwdLive := if pipe then { f with queue1 := l } else { f with queue0 := l }

def State.setLearned (s : State) (pipe : Bool) (t : Table Learned) : State := { s with fwd := s.fwd.setLearned pipe t }

/-- R266: bucket of a key. -/
def State.bridgeBucket (s : State) (domain mac : Nat) : Nat := crc32c (le 2 domain ++ be 6 mac ++ le 4 s.fwd.seed.toNat) / 2 ^ 17

/-- A LEARNED entry of a key, with its way. -/
def State.findLearned (s : State) (pipe : Bool) (domain mac : Nat) : Option (Nat × Learned) :=
  (s.fwd.learned pipe).find? fun e => e.2.domain == domain && e.2.mac == mac

/-- A HOST entry of a key in a version that does not await repair (R276). -/
def State.findHost (s : State) (v : Staged) (pipe : Bool) (domain mac : Nat) : Option HostEntry :=
  let k := bridgeKey domain mac
  (tget? (v.fwd.hosts pipe) k).filter fun e => !s.fwd.broken.contains (.host pipe.toNat k e)

/-- What a bridging lookup hits. -/
inductive BridgeHit where
  | miss
  | learned (way : Nat) (e : Learned)
  | host (e : HostEntry)

def State.bridgeLookup (s : State) (v : Staged) (pipe : Bool) (domain mac : Nat) : BridgeHit :=
  match s.findHost v pipe domain mac with
  | some h => .host h
  | none => match s.findLearned pipe domain mac with
    | some (w, e) => .learned w e
    | none => .miss

/-! Routes (R277, R278). -/

/-- Key of a route: by context, family, prefix and length. Prefixes stand at the top of 128 bits. -/
def routeKey (ctx : Nat) (v6 : Bool) (prefix_ len : Nat) : Nat := ((ctx * 2 + v6.toNat) * 2 ^ 128 + prefix_) * 256 + len

/-- The first `len` of 128 bits. -/
def prefixBits (addr len : Nat) : Nat := addr / 2 ^ (128 - len) * 2 ^ (128 - len)

/-- The longest matching prefix of the lengths from `len` down (R277). -/
def longestRoute (t : Table Nat) (ctx : Nat) (v6 : Bool) (addr : Nat) : Nat → Option (Nat × Nat)
  | 0 => let k := routeKey ctx v6 0 0; (tget? t k).map fun n => (k, n)
  | len + 1 =>
    let k := routeKey ctx v6 (prefixBits addr (len + 1)) (len + 1)
    match tget? t k with
    | some n => some (k, n)
    | none => longestRoute t ctx v6 addr len

/-- A route lookup; one that needs a word under repair misses (R276). -/
def State.routeLookup (s : State) (v : Staged) (ctx : Nat) (v6 : Bool) (addr : Nat) : Option Nat :=
  match longestRoute v.fwd.routes ctx v6 addr (if v6 then 128 else 32) with
  | some (k, n) => if s.fwd.broken.contains (.route k n) then none else some n
  | none => none

/-- A destination address of a layer block as 128 bits from the top. -/
def routeAddr (block : Bytes) (v6 : Bool) : Nat := if v6 then ofBe (slice block 16 16) else ofBe (slice block 28 4) * 2 ^ 96

/-! Next hops (R280). -/

/-- A next hop of a version, where it is defined and not under repair. -/
def State.nexthop (s : State) (v : Staged) (n : Nat) : Option Bytes :=
  (tget? v.fwd.nexthops n).filter fun r => !s.fwd.broken.contains (.nexthop n r)

/-! The fields of a next-hop record (Table 9.4). The order of the bytes of a tag TCI and of the PPPoE session identifier is not stated there: the
model reads them little-endian, like every other 16-bit field of a record (DESIGN CHOICE, log 142). -/

def hopKind (r : Bytes) : Nat := byteAt r 5
def hopPort (r : Bytes) : Nat := byteAt r 6
def hopEncap (r : Bytes) : Nat := byteAt r 7
def hopDst (r : Bytes) : Bytes := slice r 8 6
def hopSrc (r : Bytes) : Bytes := slice r 14 6
def hopOuter (r : Bytes) : Nat := fieldLe r 20 2
def hopInner (r : Bytes) : Nat := fieldLe r 22 2
def hopSession (r : Bytes) : Nat := fieldLe r 24 2
def hopRing (r : Bytes) : Nat := byteAt r 26
def hopDecTtl (r : Bytes) : Bool := bitAt r 27 0
def hopTpid (r : Bytes) : Nat := if bitAt r 27 1 then 0x88A8 else 0x8100

/-! The forwarding result (R263-R265). -/

inductive Forwarding where
  | discard
  | port (p : Nat)
  | flood (mask : BitVec 26)
  | hop (n : Nat)
  deriving DecidableEq, Repr

/-- Offset of the routing layer's block, and the offset of its IP header (R277). -/
def routingLayer (v : Staged) (p : Pkt) : Nat × Option Nat :=
  if (v.domainPort p.inPort).classifying && byteAt p.kv 7 = 1 then (72, p.l3.2) else (32, p.l3.1)

/-- The bridged result (R264). -/
def State.bridge (s : State) (v : Staged) (p : Pkt) (domain : Nat) (d : Domain) : Forwarding × State :=
  let mac := ofBe (slice p.kv 8 6)
  let flood := (Forwarding.flood (d.mask &&& ~~~ (1#26 <<< p.inPort)), (s.fwdCount p.pipe FwdCounter.flooded))
  if bitAt p.kv 8 0 then flood
  else
    let s1 := s.fwdCount p.pipe FwdCounter.lookups
    let go (port : Nat) : Forwarding × State :=
      let s2 := s1.fwdCount p.pipe FwdCounter.hits
      if port = 0xFF then (.discard, s2.fwdCount p.pipe FwdCounter.discard)
      else if port = p.inPort then (.discard, s2.fwdCount p.pipe FwdCounter.samePort)
      else (.port port, s2)
    match s1.bridgeLookup v p.pipe domain mac with
    | .host h => go h.port
    | .learned _ e => go e.port
    | .miss =>
      if d.unknownDrop then (.discard, s1.fwdCount p.pipe FwdCounter.unknownDropped)
      else (.flood (d.mask &&& ~~~ (1#26 <<< p.inPort)), s1.fwdCount p.pipe FwdCounter.flooded)

/-- The routed result (R263, R277). -/
def State.route (s : State) (v : Staged) (p : Pkt) : Forwarding × State :=
  let block := slice p.kv (routingLayer v p).1 40
  let kind := byteAt block 37
  if kind = 0 then (.discard, s.fwdCount p.pipe FwdCounter.notIp)
  else
    let s1 := s.fwdCount p.pipe FwdCounter.routeLookups
    match s1.routeLookup v (contextOf (v.flowPort p.inPort) p.kv) (kind == 6) (routeAddr block (kind == 6)) with
    | some n => (.hop n, s1)
    | none => (.discard, s1.fwdCount p.pipe FwdCounter.routeMiss)

/-- The domain of a packet, if it is defined in the version of its stamp. -/
def Staged.domainRec (v : Staged) (p : Pkt) : Option (Nat × Domain) :=
  let d := v.domainOf p.inPort p.kv
  (tget? v.fwd.domains d).map fun x => (d, x)

/-- The forwarding result of a packet (R262-R265). -/
def State.forward (s : State) (v : Staged) (p : Pkt) : Forwarding × State :=
  match v.domainRec p with
  | none => (.discard, s.fwdCount p.pipe FwdCounter.noDomain)
  | some (k, d) =>
    if d.routing && ofBe v.fwd.routerMac != 0 && slice p.kv 8 6 == v.fwd.routerMac then s.route v p else s.bridge v p k d

/-! Learning (R268-R272). -/

/-- Learned count of a port: LEARNED entries of its own pipeline naming it, in unsynchronised domains (R272). -/
def State.learnedCount (s : State) (v : Staged) (port : Nat) : Nat :=
  ((s.fwd.learned (portPipe port)).filter fun e => e.2.port == port &&
    (match tget? v.fwd.domains e.2.domain with | some d => !d.sync | none => true)).length

def Staged.learnLimit (v : Staged) (port : Nat) : LearnLimit := v.fwd.limits.getD port LearnLimit.reset

/-- Put an event in a pipeline's learn queue (R269). -/
def State.queueLearn (s : State) (pipe : Bool) (e : LearnEvent) : State :=
  let q := s.fwd.queue pipe
  if q.contains e then s.fwdCount pipe FwdCounter.coalesced
  else if 4096 ≤ q.length then s.fwdCount pipe FwdCounter.queueFull
  else { s with fwd := s.fwd.setQueue pipe (q ++ [e]) }

/-- Ways of a bucket. -/
def bucketWays (b : Nat) : List Nat := (List.range 8).map (8 * b + ·)

/-- Ways of a pipeline's table that a HOST entry of any version or the shadow claims (R267). -/
def State.hostWays (s : State) (pipe : Bool) : List Nat :=
  (s.cur.fwd.hosts pipe ++ s.shadow.fwd.hosts pipe ++ (match s.drain with | some d => d.tables.fwd.hosts pipe | none => [])).map fun e => e.2.way

/-- Apply the event at the head of a learn queue (R270-R272). A HOST entry of the key refuses it, though it awaits repair: one key has at most one
entry (R267). -/
def State.applyLearn (s : State) (pipe : Bool) (e : LearnEvent) : State :=
  let now := s.flowNow
  let entry : Learned := { domain := e.domain, mac := e.mac, port := e.port, hit := true, portTime := now, refreshed := now }
  match tget? (s.cur.fwd.hosts pipe) (bridgeKey e.domain e.mac) with
  | some _ => s.fwdCount pipe FwdCounter.onStatic
  | none =>
    match s.findLearned pipe e.domain e.mac with
    | some (w, x) =>
      if x.port = e.port then s.setLearned pipe (tset (s.fwd.learned pipe) w { x with hit := true, refreshed := now })
      else if now - x.portTime < s.cur.fwd.moveGuard * 1000 then s.fwdCount pipe FwdCounter.conflict
      else (s.setLearned pipe (tset (s.fwd.learned pipe) w entry)).fwdCount pipe FwdCounter.macMove
    | none =>
      let lim := s.cur.learnLimit e.port
      if lim.limit ≤ s.learnedCount s.cur e.port then (if lim.flood then s.fwdCount pipe FwdCounter.limitedFlood else s)
      else
        let ways := (bucketWays (s.bridgeBucket e.domain e.mac)).filter fun w => !(s.hostWays pipe).contains w
        match ways.find? (fun w => (tget? (s.fwd.learned pipe) w).isNone) with
        | some w => (s.setLearned pipe (tset (s.fwd.learned pipe) w entry)).fwdCount pipe FwdCounter.learned
        | none =>
          match leastBy (fun w => match tget? (s.fwd.learned pipe) w with | some x => x.refreshed | none => 0) ways with
          | some w => ((s.setLearned pipe (tset (s.fwd.learned pipe) w entry)).fwdCount pipe FwdCounter.learned).fwdCount pipe FwdCounter.displaced
          | none => s.fwdCount pipe FwdCounter.noRoom

/-- R269: a pipeline's learn unit applies its next event. -/
def execLearnEventApply (pipe : Bool) (s : State) : Host.Outcome State Fault Refusal :=
  match s.fwd.queue pipe with
  | e :: q => done s (State.applyLearn { s with fwd := s.fwd.setQueue pipe q } pipe e)
  | [] => .next s

/-- Mark a source that was met again on its port (R268, R275). -/
def State.refreshSource (s : State) (pipe : Bool) (way : Nat) (e : Learned) : State :=
  s.setLearned pipe (tset (s.fwd.learned pipe) way { e with hit := true, refreshed := s.flowNow })

def State.hitHost (s : State) (pipe : Bool) (key : Nat) : State :=
  if (s.fwd.hits pipe).contains key then s else { s with fwd := s.fwd.setHits pipe (s.fwd.hits pipe ++ [key]) }

/-! Learn records of synchronised domains (R273). -/

def learnRecord (s : State) (domain mac port kind : Nat) (pipe : Bool) : Bytes :=
  le 2 domain ++ be 6 mac ++ le 1 port ++ le 1 kind ++ le 1 pipe.toNat ++ [0] ++ le 4 (s.flowNow / 2 ^ 10)

/-- An identical record was raised within 10 ms. -/
def State.raisedLately (s : State) (key port kind : Nat) : Bool :=
  s.fwd.recent.any fun r => r.1 == key && r.2.1 == port && r.2.2.1 == kind && decide (s.flowNow < r.2.2.2 + 10000000)

def State.noteRaised (s : State) (key port kind : Nat) : State :=
  { s with fwd := { s.fwd with recent := (s.fwd.recent.filter fun r => decide (s.flowNow < r.2.2.2 + 10000000)) ++ [(key, port, kind, s.flowNow)] } }

/-! Faults in the tables (R276). -/

/-- A version holds an entry, with these contents. -/
def FwdItem.heldBy (v : Staged) : FwdItem → Bool
  | .host p k e => tget? (v.fwd.hosts (p == 1)) k == some e
  | .route k n => tget? v.fwd.routes k == some n
  | .nexthop n r => tget? v.fwd.nexthops n == some r

/-- The routes of the live versions in their places: those of the current version, then those of a draining one that it does not share. -/
def State.routePlaces (s : State) : Table Nat :=
  s.cur.fwd.routes ++ (match s.drain with
    | some d => d.tables.fwd.routes.filter fun e => tget? s.cur.fwd.routes e.1 != some e.2
    | none => [])

/-- The entries of live versions that stand at a word: a bridging way (1), a place of the route store (2), a next hop (3). -/
def State.itemsAt (s : State) (pipe : Bool) (h : Nat × Nat) : List FwdItem :=
  match h.1 with
  | 1 => (s.liveVersions.flatMap fun v => ((v.fwd.hosts pipe).filter fun e => e.2.way == h.2).map fun e => FwdItem.host pipe.toNat e.1 e.2).eraseDups
  | 2 => match s.routePlaces[h.2]? with | some e => [.route e.1 e.2] | none => []
  | _ => (s.liveVersions.filterMap fun v => (tget? v.fwd.nexthops h.2).map fun r => FwdItem.nexthop h.2 r).eraseDups

/-- One uncorrectable word met by a pipeline: logged; a LEARNED entry goes, the others wait for repair, in whichever live version they stand. -/
def State.fwdFault (s : State) (pipe : Bool) (h : Nat × Nat) : State :=
  let items := s.itemsAt pipe h
  let learned := h.1 == 1 && (tget? (s.fwd.learned pipe) h.2).isSome
  if items.isEmpty && !learned then s
  else
    let s1 := (s.logError ErrCode.fwdEcc pipe.toNat (le 1 h.1 ++ zeros 3 ++ le 4 h.2)).fwdDev 1
    let s2 := if learned then s1.setLearned pipe (tdel (s1.fwd.learned pipe) h.2) else s1
    { s2 with fwd := { s2.fwd with broken := s2.fwd.broken ++ items.filter fun b => !s2.fwd.broken.contains b } }

def State.struckFwd (s : State) (pipe : Bool) (hurt : Upsets) : State :=
  hurt.fwd.foldl (fun s h => s.fwdFault pipe h) (if hurt.corrected = 0 then s else s.fwdDev 0 hurt.corrected)

/-- A domain is synchronised in a version (R273). -/
def FwdCfg.synced (f : FwdCfg) (d : Nat) : Bool := match tget? f.domains d with | some x => x.sync | none => false

/-! Copies in device memory (R282). -/

/-- The entries of a version. -/
def Staged.fwdItems (v : Staged) : List FwdItem :=
  (v.fwd.hosts0.map fun e => FwdItem.host 0 e.1 e.2) ++ (v.fwd.hosts1.map fun e => FwdItem.host 1 e.1 e.2) ++
    (v.fwd.routes.map fun e => FwdItem.route e.1 e.2) ++ v.fwd.nexthops.map fun e => FwdItem.nexthop e.1 e.2

/-- What the tile of a copy holds. -/
def FwdItem.payload : FwdItem → Bytes
  | .host p k e => fit 60 (le 1 p ++ be 8 k ++ le 1 e.port)
  | .route k n => fit 60 (be 20 k ++ le 4 n)
  | .nexthop _ r => fit 60 r

/-- Make a copy in a free tile. With no free tile the entry has none (log 143). -/
def State.makeCopy (s : State) (x : FwdItem) : State :=
  match allocRuns s.dram.free 1 with
  | some ((t, _) :: _, rest) =>
    let s1 := { s with dram := { s.dram with free := rest } }.putTile t x.payload
    { s1 with fwd := { s1.fwd with copies := s1.fwd.copies ++ [(x, t)] } }
  | _ => s

/-- The copies follow the live versions: a new entry is copied, the tile of one that no live version holds is released, and what no live version
holds awaits no repair. One tile holds one entry (DESIGN CHOICE, log 143). -/
def State.settleCopies (s : State) : State :=
  let vs := s.liveVersions
  let held (x : FwdItem) : Bool := vs.any fun v => x.heldBy v
  let gone := s.fwd.copies.filter fun c => !held c.1
  let s1 := gone.foldl (fun s c => s.releaseRun (c.2, 1)) s
  let s2 := { s1 with fwd := { s1.fwd with copies := s.fwd.copies.filter (fun c => held c.1), broken := s.fwd.broken.filter held } }
  ((vs.flatMap Staged.fwdItems).eraseDups.filter fun x => !s2.fwd.copies.any fun c => c.1 == x).foldl State.makeCopy s2

/-- Every copy is made anew, its tile having gone with the memory plan (R363). -/
def State.remakeCopies (s : State) : State := State.settleCopies { s with fwd := { s.fwd with copies := [] } }

/-- R282: the entry that has waited longest for a repair task now on a miner is restored from its copy. A copy that fails assay leaves the entry
awaiting repair, behind the others. -/
def execForwardingRepair (s : State) : Host.Outcome State Fault Refusal :=
  if s.refreshing then .next s
  else match s.fwd.broken.find? (fun b => s.atWork (if b.isRoute then .routeRepair else .fwdRepair) && s.fwd.copies.any (·.1 == b)) with
  | some b =>
    match s.fwd.copies.find? (fun c => c.1 == b) with
    | some (_, t) =>
      let (p, s1) := s.readTile t .miner
      let rest := s1.fwd.broken.filter (· != b)
      done s { s1 with fwd := { s1.fwd with broken := if p.isSome then rest else rest ++ [b] } }
    | none => .next s
  | none => .next s

end Sys2Proof.Machine
end

