-- ==== Sys2Proof/Machine/Buffer.lean ====
section
/-!
DEFINITION. The packet buffer: cells and accounts, the judgement of R297, class, node and ring queues, copies to rings and mirror
sessions (spec 10).
-/
namespace Sys2Proof.Machine

def State.bufCount (s : State) (i : Nat) (n : Nat := 1) : State := { s with buf := { s.buf with counters := bump s.buf.counters i n } }
def State.ringCount (s : State) (r i : Nat) : State :=
  { s with buf := { s.buf with ringCounters := alter s.buf.ringCounters r fun b => bump b i } }
/-- Count an event of a pipeline (Table 14.6): 0 lane admissions, 1 resumptions, 2 recirculations, 3 reinjections, 4 new flows,
5 verdicts, 6 stateless carriages, 7 and 8 frames and bytes of the recirculation port. -/
def State.pipeEvent (s : State) (pipe : Bool) (i : Nat) (n : Nat := 1) : State :=
  { s with buf := { s.buf with events := alter s.buf.events pipe.toNat fun b => bump b i n } }

/-- A pipeline grants its admission slot to a source (R11): 0 to 3 of the events. -/
def State.grant (s : State) (pipe : Bool) (i : Nat) : State :=
  let s1 := s.pipeEvent pipe i
  { s1 with buf := if pipe then { s1.buf with slots1 := s1.buf.slots1 + 1 } else { s1.buf with slots0 := s1.buf.slots0 + 1 } }

namespace BufCounter
def enqueued := 0
def ingressNoCell := 1
def noDescriptor := 2
def queueLimit := 3
def subQueueLimit := 4
def residence := 5
def egressDrop := 6
def mirrorDropped := 7
def floodCopies := 8
def shapeMismatch := 9
def ecc := 10
def ringFull := 11
def ringDisabled := 12
end BufCounter

/-! Queues by key (R300). -/

/-- Index of a port among the 28 that have class queues. -/
def portIndex (p : Nat) : Nat := if p < 26 then p else if p = 32 then 26 else 27
def classQueue (port cls : Nat) : Nat := port * 8 + cls
def ringQueue (r : Nat) : Nat := 512 + r
def nodeQueue (node c : Nat) : Nat := 1024 + node * 4 + c
def isNodeQueue (q : Nat) : Bool := 1024 ≤ q
def isRingQueue (q : Nat) : Bool := 512 ≤ q && q < 1024

def QueueLive.empty : QueueLive := { items := [], peak := 0, enqueued := 0, discarded := 0, deficit := 0 }
def State.queue (s : State) (q : Nat) : QueueLive := (tget? s.buf.queues q).getD QueueLive.empty
def State.setQueue (s : State) (q : Nat) (x : QueueLive) : State := { s with buf := { s.buf with queues := tset s.buf.queues q x } }
def QueueLive.held (x : QueueLive) : Nat := (x.items.map (·.cells)).foldl (· + ·) 0

/-- A shaping node of a version (R305). -/
def Staged.node (v : Staged) (n : Nat) : Option Bytes := tget? v.buf.nodes n
def nodePort (r : Bytes) : Nat := byteAt r 4
def nodeWeight (r : Bytes) : Nat := byteAt r 5
def nodeOverhead (r : Bytes) : Int := signed 8 (byteAt r 6)
def nodeRate (r : Bytes) : Nat := fieldLe r 8 4
def nodeDepth (r : Bytes) : Nat := fieldLe r 12 2 * 256
def nodeClass (r : Bytes) (c : Nat) : Nat := fieldLe r 14 2 / 8 ^ c % 8
def nodeCap (r : Bytes) : Nat := fieldLe r 16 2

/-- Limits of a queue (R295, R307, R321). -/
def Staged.queueCfg (v : Staged) (q : Nat) : QueueCfg :=
  if isNodeQueue q then
    { alpha := v.buf.subAlpha, min := 0, max := match v.node ((q - 1024) / 4) with | some r => nodeCap r | none => 0 }
  else (tget? v.buf.queues q).getD (if isRingQueue q then ⟨4, 64, 4096⟩ else ⟨4, 0, 65535⟩)

/-! Accounts (R293, R295, R296). -/

def totalCells : Nat := 196608
def cellsOf (len : Nat) : Nat := (len + 255) / 256

/-- Sum of the guaranteed minima of a version: class queues whose MIN is set, and the eight rings. -/
def Staged.minSum (v : Staged) : Nat :=
  ((v.buf.queues.filter fun e => !isRingQueue e.1).map (·.2.min)).foldl (· + ·) 0 +
  ((List.range 8).map fun r => (v.queueCfg (ringQueue r)).min).foldl (· + ·) 0

def State.sharedPool (s : State) : Nat := totalCells - s.cur.buf.res0 - s.cur.buf.res1 - s.cur.minSum
/-- U: shared cells in use. -/
def State.sharedUse (s : State) : Nat :=
  (s.buf.ing0 - s.cur.buf.res0) + (s.buf.ing1 - s.cur.buf.res1) +
  (s.buf.queues.map fun e => e.2.held - (s.cur.queueCfg e.1).min).foldl (· + ·) 0
/-- F: free shared count. -/
def State.freeShared (s : State) : Nat := s.sharedPool - s.sharedUse

def State.ing (s : State) (pipe : Bool) : Nat := if pipe then s.buf.ing1 else s.buf.ing0
def State.setIng (s : State) (pipe : Bool) (n : Nat) : State :=
  { s with buf := if pipe then { s.buf with ing1 := n } else { s.buf with ing0 := n } }

/-- Note a new peak of U. -/
def State.notePeak (s : State) : State := { s with buf := { s.buf with peakU := max s.buf.peakU s.sharedUse } }

/-- Charge arriving cells to an ingress account: within its reserve, then from the shared pool while it has any (R296). -/
def State.chargeIngress (s : State) (pipe : Bool) (c : Nat) : Option State :=
  let res := if pipe then s.cur.buf.res1 else s.cur.buf.res0
  let more := (s.ing pipe + c - res) - (s.ing pipe - res)
  if more ≤ s.freeShared then some (s.setIng pipe (s.ing pipe + c)).notePeak else none

/-- Cells leave an ingress account: moved to queues, or freed. What is in use after it is what a peak may be of. -/
def State.dropIngress (s : State) (pipe : Bool) (c : Nat) : State := (s.setIng pipe (s.ing pipe - c)).notePeak

/-- Descriptors in use (R294). -/
def State.descriptors (s : State) : Nat := (s.buf.queues.map fun e => e.2.items.length).foldl (· + ·) 0

/-- Frame length of a packet held (R80). -/
def Pkt.frameLen (p : Pkt) : Nat := p.bytes.length + 4
/-- Cells a packet's bytes occupy. -/
def Pkt.cells (p : Pkt) : Nat := cellsOf p.frameLen

/-- Cells by which a packet is judged: those of its length, or of its port's MAX_FRAME while it still arrives (R298). -/
def State.judgedCells (s : State) (p : Pkt) : Nat := if p.arriving then cellsOf (s.portCfg p.inPort).maxFrame else p.cells

/-! Admission to a queue (R297). -/

/-- The three conditions of R297 for `c` cells. -/
def State.admits (s : State) (q : Nat) (cfg : QueueCfg) (c : Nat) : Bool :=
  let held := (s.queue q).held
  let f := s.freeShared
  held + c ≤ cfg.max && (held + c ≤ cfg.min || 16 * (held - cfg.min + c) ≤ 2 ^ cfg.alpha * f) && (c ≤ f || held + c ≤ cfg.min)

/-- Count a packet discarded in the buffer in its subscriber's field (R299). -/
def State.countDiscard (s : State) (p : Pkt) : State :=
  match p.sub with
  | some n => if p.counted && !p.copy then s.subDiscard n p.upstream else s
  | none => s

/-- A queue's discard. -/
def State.queueDiscard (s : State) (q : Nat) : State := s.setQueue q { s.queue q with discarded := (s.queue q).discarded + 1 }

/-- The residence clock in 1/64 ns (R372, R375). -/
def Time.residence64 (t : Time) : Nat := t.residence.toNat / 2 ^ 26
/-- From one such time-stamp to another. -/
def elapsed64 (from_ till : Nat) : Nat := (till + 2 ^ 54 - from_) % 2 ^ 54

/-- The entry put in a queue. -/
def State.entryFor (s : State) (p : Pkt) (record : Option Bytes) (c : Nat) : Queued :=
  { pkt := p, len := p.frameLen, cells := c, sec := BitVec.ofNat 32 s.time.sec.toNat, ns := BitVec.ofNat 32 s.time.ns,
    since := elapsed64 p.ingress s.time.residence64 - s.time.frac / 2 ^ 26, record := record }

/-- Put an entry at the tail of a queue. -/
def State.enqueue (s : State) (q : Nat) (e : Queued) : State :=
  let x := s.queue q
  let x' := { x with items := x.items ++ [e], enqueued := x.enqueued + 1 }
  (s.setQueue q { x' with peak := max x.peak x'.held }).bufCount BufCounter.enqueued

/-- Offer a packet or copy to a port's queue: true when admitted; else discarded and counted (R297). -/
def State.offer (s : State) (v : Staged) (q : Nat) (p : Pkt) : Bool × State :=
  let c := s.judgedCells p
  if 262144 ≤ s.descriptors then (false, (((s.bufCount BufCounter.noDescriptor).queueDiscard q).countDiscard p))
  else if s.admits q (v.queueCfg q) c then (true, s.enqueue q (s.entryFor p none c))
  else (false, (((s.bufCount (if isNodeQueue q then BufCounter.subQueueLimit else BufCounter.queueLimit)).queueDiscard q).countDiscard p))

def State.ring (s : State) (r : Nat) : HostRing := s.buf.rings.getD r HostRing.reset
def State.setRing (s : State) (r : Nat) (x : HostRing) : State := { s with buf := { s.buf with rings := s.buf.rings.set r x } }

/-- Offer a packet, copy or learn record to a ring's queue (R317, R320). -/
def State.offerRing (s : State) (v : Staged) (r : Nat) (p : Pkt) (record : Option Bytes) : Bool × State :=
  let q := ringQueue r
  let c := if record.isSome then 1 else s.judgedCells p
  if !(s.ring r).enabled then (false, ((s.ringCount r 2).bufCount BufCounter.ringDisabled).countDiscard p)
  else if 262144 ≤ s.descriptors || !s.admits q (v.queueCfg q) c then
    (false, (((s.ringCount r 1).bufCount BufCounter.ringFull).queueDiscard q).countDiscard p)
  else (true, s.enqueue q (s.entryFor p record c))

/-! Copies (R312, R313). -/

/-- A mirror session of a version. -/
def Staged.session (v : Staged) (k : Nat) : Option Bytes := tget? v.buf.mirrors k

/-- A copy of a packet cut to a frame length; 0 keeps the whole frame. -/
def truncated (bytes : Bytes) (trunc : Nat) : Bytes := if trunc = 0 then bytes else bytes.take (trunc - 4)

/-- Copy a packet for a MIRROR modifier: every Nth packet that requests the session (R313). -/
def State.mirror (s : State) (v : Staged) (k : Nat) (p : Pkt) : State :=
  let n := s.buf.mirrorCount.getD k 0 + 1
  let s1 := { s with buf := { s.buf with mirrorCount := s.buf.mirrorCount.set k n } }
  match v.session k with
  | none => s1.bufCount BufCounter.mirrorDropped
  | some r =>
    if n % fieldLe r 8 2 != 0 then s1
    else
      let trunc := fieldLe r 6 2
      let c : Pkt := { p with copy := true, session := some k, reason := 3, rewrites := [], nexthop := none, rule := { p.rule with setDscp := none } }
      let (okay, s2) :=
        if byteAt r 2 = 0xFF then s1.offerRing v (byteAt r 3) c none
        else s1.offer v (classQueue (byteAt r 2) (byteAt r 4)) { c with bytes := truncated p.bytes trunc, qclass := byteAt r 4 }
      if okay then s2 else s2.bufCount BufCounter.mirrorDropped

/-- Copy a packet to a ring for a COPY modifier. -/
def State.copyTo (s : State) (v : Staged) (r reason : Nat) (p : Pkt) : State :=
  (s.offerRing v r { p with copy := true, reason := reason } none).2

/-- The ingress COPY and MIRROR of a pass, made even of a packet it drops (R140). -/
def State.passCopies (s : State) (v : Staged) (p : Pkt) : State :=
  let s1 := match p.rule.copy with | some r => s.copyTo v r 2 { p with rewrites := [], nexthop := none } | none => s
  match p.rule.mirror with | some k => s1.mirror v k p | none => s1

/-! Where a verdict sends a packet. -/

/-- The queue of an output port: the class queue, or the subscriber's node queue when the packet is shaped (R300, R304). -/
def State.queueFor (s : State) (v : Staged) (p : Pkt) (port : Nat) (shapes : Bool) : Nat × State :=
  let plain := classQueue port p.qclass
  match p.sub with
  | some n =>
    match v.node n with
    | some r =>
      if shapes && !p.upstream && port < 26 then
        (if nodePort r = port then (nodeQueue n p.subClass, s) else (plain, s.bufCount BufCounter.shapeMismatch))
      else (plain, s)
    | none => (plain, s)
  | none => (plain, s)

/-- Send a packet to a port. -/
def State.toPort (s : State) (v : Staged) (p : Pkt) (port : Nat) (shapes : Bool) : State :=
  let (q, s1) := s.queueFor v p port shapes
  (s1.offer v q p).2

/-- Deliver a packet to a ring only. -/
def State.toHost (s : State) (v : Staged) (p : Pkt) (r reason : Nat) : State := (s.offerRing v r { p with reason := reason } none).2

/-- Replicate a packet to the ports of a mask (R312). -/
def State.floodTo (s : State) (v : Staged) (p : Pkt) (mask : BitVec 26) : State :=
  (List.range 26).foldl (fun s port =>
    if mask.getLsbD port then (s.offer v (classQueue port p.qclass) p).2.bufCount BufCounter.floodCopies else s) s

end Sys2Proof.Machine
end

