-- ==== Sys2Proof/Machine/Stacks.lean ====
section
/-!
DEFINITION. The memory controller's own events, the memory plan, host seams and seam jobs (spec 12, 01).
-/
namespace Sys2Proof.Machine

/-! Writes, refresh and free tiles (R353-R358, R365). -/

/-- Quarantine writes that waited for the queue enter it as room appears (R355). -/
def State.retryQuarantine (s : State) : State :=
  s.flow.quarantine.foldl (fun s i =>
    if s.wqRoom i true then ({ s with flow := { s.flow with quarantine := s.flow.quarantine.filter (· != i) } }).queueWrite i invalidPayload
    else s) s

/-- The interval of refresh in ns (R357). -/
def State.refreshInterval (s : State) : Nat := if s.dram.hot.isSome then 1950 else 3900

/-- A channel may issue a batch: no read waits there, or the controller drains and the channel owes no read its turn (R354). -/
def State.mayIssue (s : State) (channel : Nat) : Bool :=
  !s.refreshing && (!s.readWaits channel || (s.drains && !s.dram.owes.getD channel false))

/-- R354: a channel issues a batch of up to eight of its queued writes. -/
def execWriteBatchIssue (channel : Nat) (s : State) : Host.Outcome State Fault Refusal :=
  if !((s.dram.wq.any fun e => tileChannel e.1 == channel) && s.mayIssue channel) then .next s
  else
    let s1 := s.issueBatch channel
    done s { s1 with dram := { s1.dram with owes := s1.dram.owes.set channel (s.readWaits channel) } }.retryQuarantine

/-- R357, R358: a refresh instant, each at the interval from the last; the mode of the last temperature readings applies from it. -/
def execRefreshBanks (s : State) : Host.Outcome State Fault Refusal :=
  if !(s.trained && decide (s.dram.lastRefresh + s.refreshInterval ≤ s.now)) then .next s
  else
    let s1 := { s.memCount 9 with dram := { (s.memCount 9).dram with lastRefresh := s.dram.lastRefresh + s.refreshInterval } }
    if s.dram.hot.isSome == s.dram.hotNext then done s s1
    else
      let spent := match s.dram.hot with | some t => s.now - t | none => 0
      let s2 := (s1.memCount 10).memCount 11 spent
      done s { s2 with dram := { s2.dram with hot := if s.dram.hotNext then some s.now else none } }

/-- R365: a SEAM_ASSIST task writes the oldest run released with the invalid pattern, and the run becomes free. -/
def execFreeTileClear (s : State) : Host.Outcome State Fault Refusal :=
  match s.dram.clearing with
  | [] => .next s
  | r :: rest =>
    if s.refreshing || !s.atWork .clearTiles then .next s
    else done s ((({ s with dram := { s.dram with clearing := rest } }).clearRun r.1 r.2).addFree r)

/-! A lost channel (R361, R462). -/

/-- Tiles of one channel (R361). -/
def State.channelTiles (s : State) : Nat := if s.hb then 2 ^ 22 else 2 ^ 23

/-- Tiles of device memory retired on their own or by rows, of those channels that satisfy `f`. -/
def State.retiredAlone (s : State) (f : Nat → Bool) : Nat :=
  (s.dram.retired.filter fun r => r.space == 0 && r.kind != 3 && f (tileChannel r.index)).foldl (fun n r => n + if r.kind = 2 then 16 else 1) 0

/-- Those of one channel, which its loss does not retire again (R222). -/
def State.retiredIn (s : State) (c : Nat) : Nat := s.retiredAlone (· == c)

/-- The rows of a channel within a run of tiles: every 512 tiles hold 16 of it. -/
def channelRuns (c first count : Nat) : List (Nat × Nat) :=
  ((List.range (count / 512 + 2)).map fun b => ((first / 512 + b) * 512 + (c % 16) * 32 + (c / 16) * 16, 16)).filter fun h =>
    h.1 < first + count && first < h.1 + h.2

/-- Withdraw a channel: its tiles leave free space, and it is listed among the retired. -/
def State.loseChannel (s : State) (c source cause : Nat) : State :=
  let r : Retired := { kind := 3, source := source, space := 0, stack := c / 16, index := c % 16, clock := if source = 1 then 0 else s.time.flow }
  let s1 := { s with dram := { s.dram with
      channels := alter s.dram.channels c fun x => { x with lost := true },
      retired := s.dram.retired ++ [r],
      free := s.dram.free.flatMap fun f => cutAscending f (channelRuns c f.1 f.2) } }
  s1.logError ErrCode.channelLost (c / 16) (le 1 (c % 16) ++ le 1 cause)

/-- R462: a channel fails in service; its tiles are retired and CHANNEL_LOST stands. With every channel lost, STACKS_LOST is raised
(R463). -/
def execChannelLost (channel : Nat) (s : State) : Host.Outcome State Fault Refusal :=
  match s.dram.channels[channel]? with
  | some x =>
    if x.lost || !s.booted then .next s
    else
      let s1 := s.loseChannel channel 2 3
      let s2 := { s1 with life := { s1.life with lostInService := true } }
      let s3 := (s2.lifeCount 10 (s.channelTiles - s.retiredIn channel)).setFault FaultBit.channelLost true
      done s (if s3.dram.channels.all (·.lost) then s3.raiseCause 1 else s3)
  | none => .next s

/-! The memory plan (R363, R364). -/

/-- Retired tiles of device memory: those of lost channels, and those retired on their own elsewhere. -/
def State.retiredTiles (s : State) : Nat :=
  (s.dram.channels.filter (·.lost)).length * s.channelTiles + s.retiredAlone fun c => !(s.dram.channels.getD c ⟨false, 0⟩).lost

/-- Tiles staged for a region's growth. -/
def State.stagedGrowth (s : State) (code : Nat) : Nat :=
  ((s.dram.growth.filter (·.region == code)).map fun g => runsLength g.runs).foldl (· + ·) 0

def State.handleOf (s : State) (i : Nat) : Nat := s.dram.dir.handle i

def bodyMemPlanRead (m : Msg) (s : State) : Done :=
  let region (c : Nat) : Bytes :=
    le 1 c ++ zeros 3 ++ le 4 (s.regionBase c) ++ le 4 (s.regionSize c + (if m.stage then s.stagedGrowth c else 0)) ++
      le 4 (s.handleOf (s.regionDesc c))
  ok s (((List.range 6).flatMap region) ++ le 4 (runsLength s.dram.free) ++ le 4 (s.dram.free.foldl (fun n r => max n r.2) 0) ++
    le 4 s.dram.dir.freeCount ++ le 4 s.retiredTiles)

/-- R369: MEM_PLAN_READ. -/
def cmdMemPlanRead : Cmd :=
  { op := 0x0B01, flags := flagsIn 1, legal := legalAll, len := lenIs 0, changes := fun _ => false, body := bodyMemPlanRead }
def execMemPlanRead (m : Msg) (s : State) : Host.Outcome State Fault Refusal := runCommand cmdMemPlanRead m s

/-- Largest size of a region (Table 12.5). -/
def regionMax : Nat → Nat
  | 1 => 2 ^ 24 | 2 => 2 ^ 19 | 3 => 2 ^ 24 | 4 => 2 ^ 24 | _ => 2 ^ 26

/-- A region's seam is a single run, and no staged growth has turned it into a group. -/
def State.regionSingle (s : State) (code : Nat) : Bool :=
  (match tget? s.dram.dir.used (s.regionDesc code) with | some { body := .run .., .. } => true | _ => false) &&
    !s.dram.growth.any fun g => g.region == code && !g.runs.isEmpty

def bodyMemRegionGrow (m : Msg) (s : State) : Done :=
  let c := m.p 0
  let n := m.f 4 4
  if !m.stage then refuse s Status.badParam 6
  else if c = 0 then badParam s 0
  else if 5 < c then outOfRange s 0
  else needZero s m [1, 2, 3] <|
    if n % 1024 != 0 || regionMax c < s.regionSize c + s.stagedGrowth c + n then outOfRange s 4
    else if n = 0 then ok (s.stageWith id)
    else match allocRuns s.dram.free n with
      | none => refuse s Status.noRoom 1
      | some (rs, rest) =>
        let descs := rs.length + (if s.regionSingle c then 1 else 0)
        if s.dram.dir.freeCount < descs then refuse s Status.noRoom 8
        else
          let s1 := s.stageWith id
          ok { s1 with dram := { s1.dram with
            free := rest, growth := s.dram.growth ++ [{ region := c, runs := rs, descs := descs }],
            dir := { s.dram.dir with reserved := s.dram.dir.reserved + descs } } }

/-- R364: MEM_REGION_GROW. -/
def cmdMemRegionGrow : Cmd :=
  { op := 0x0B02, flags := flagsIn 1, legal := legalRun, len := lenIs 8, locks := fun _ => true, changes := fun _ => true,
    body := bodyMemRegionGrow }
def execMemRegionGrow (m : Msg) (s : State) : Host.Outcome State Fault Refusal := runCommand cmdMemRegionGrow m s

/-- Commit hook (R364): each staged growth's runs join the region's seam, which keeps its descriptor. -/
def State.applyGrowth (s : State) : State :=
  s.dram.growth.foldl (fun s g =>
    let s0 := { s with dram := { s.dram with dir := { s.dram.dir with reserved := s.dram.dir.reserved - g.descs } } }
    let (ms, s1) := g.runs.foldl (fun (acc : List Nat × State) r =>
      let (i, s') := acc.2.newSeam { body := .run r.1 r.2, host := false, owns := true }
      (acc.1 ++ [i], s')) ([], s0)
    let d := s1.regionDesc g.region
    match tget? s1.dram.dir.used d with
    | some x =>
      match x.body with
      | .run f n =>
        let (i, s2) := s1.newSeam { body := .run f n, host := false, owns := true }
        { s2 with dram := { s2.dram with dir := { s2.dram.dir with used := tset s2.dram.dir.used d { x with body := .group (i :: ms) } } } }
      | .group old => { s1 with dram := { s1.dram with dir := { s1.dram.dir with used := tset s1.dram.dir.used d { x with body := .group (old ++ ms) } } } }
      | _ => s1
    | none => s1) { s with dram := { s.dram with growth := [] } } |> fun t => { t with dram := { t.dram with growth := [] } }

/-- DISCARD releases what staged growth reserved (R364). -/
def State.dropGrowth (s : State) : State :=
  s.dram.growth.foldl (fun s g => { s with dram := { s.dram with
      free := g.runs.foldl addRun s.dram.free, dir := { s.dram.dir with reserved := s.dram.dir.reserved - g.descs } } })
    { s with dram := { s.dram with growth := [] } }

/-! MEM_STATUS and MEM_RETIRED_READ. -/

/-- Whole degrees of a temperature in 1/4 degree C. -/
def wholeDegrees (t : Int) : Bytes := le 1 (unsigned 8 (t / 4))

/-- The counters as MEM_STATUS gives them: the two times that run included, in us and ms. -/
def State.memCounters (s : State) : List W64 :=
  let panic := (s.dram.counters.getD 8 0).toNat + (match s.dram.panic with | some t => s.now - t | none => 0)
  let hot := (s.dram.counters.getD 11 0).toNat + (match s.dram.hot with | some t => s.now - t | none => 0)
  (s.dram.counters.set 8 (BitVec.ofNat 64 (panic / 1000))).set 11 (BitVec.ofNat 64 (hot / 1000000))

/-- CLEAR: counters zeroed, the peak restarts at the occupancy, the running times restart. -/
def State.clearMemStatus (s : State) : State :=
  { s with dram := { s.dram with counters := zeroBank s.dram.counters, wqPeak := s.dram.wq.length,
                                     panic := s.dram.panic.map fun _ => s.now, hot := s.dram.hot.map fun _ => s.now } }

def bodyMemStatus (m : Msg) (s : State) : Done :=
  let x := s.dram
  if 2 < m.p 0 then badParam s 0
  else if (if m.p 0 = 0 then 1 < m.p 1 else m.p 1 != 0) then badParam s 1
  else needZero s m [2, 3] <|
    if m.p 0 = 2 then
      let hi := m.f 4 2
      let lo := m.f 6 2
      if hi < 64 || 1000 < hi then outOfRange s 4
      else if hi < lo + 64 then outOfRange s 6
      else if m.f 8 2 < 1024 || 8192 < m.f 8 2 then outOfRange s 8
      else needZero s m (span 10 15) <|
        ok (State.panicLevel { s with dram := { x with high := hi, low := lo, panicLevel := m.f 8 2 } }).judgeDrain
    else needZero s m (span 4 15) <|
      if m.p 0 = 1 then ok s ([1, 0, 0, 0] ++ le 2 x.high ++ le 2 x.low ++ le 2 x.panicLevel ++ zeros 6)
      else
        ok (if m.p 1 = 1 then s.clearMemStatus else s)
          (le 2 x.wq.length ++ le 2 x.wqPeak ++ le 1 (flagByte [s.drains, x.panic.isSome, x.hot.isSome]) ++ wholeDegrees x.temp0 ++
            wholeDegrees x.temp1 ++ le 1 (x.channels.filter (·.lost)).length ++
            (x.channels.flatMap fun c => le 1 c.lost.toNat ++ [0] ++ le 2 c.repaired) ++ bankBytes s.memCounters)

/-- R369: MEM_STATUS. -/
def cmdMemStatus : Cmd :=
  { op := 0x0B03, legal := legalAll, len := lenIs 16, locks := fun m => m.p 0 == 2, changes := fun m => m.p 0 == 2 || m.p 1 == 1,
    body := bodyMemStatus }
def execMemStatus (m : Msg) (s : State) : Host.Outcome State Fault Refusal := runCommand cmdMemStatus m s

def retiredEntry (r : Retired) : Bytes :=
  le 1 r.kind ++ le 1 r.source ++ le 1 r.space ++ le 1 r.stack ++ le 4 r.index ++ le 8 r.clock.toNat

def bodyMemRetiredRead (m : Msg) (s : State) : Done :=
  let l := s.dram.retired
  let first := m.f 0 4
  let n := m.f 4 2
  if n = 0 || 254 < n then outOfRange s 4
  else needZero s m [6, 7] <|
    let es := (l.drop first).take n
    let next := if first + n < l.length then first + n else 0xFFFFFFFF
    ok s (le 4 l.length ++ le 4 next ++ es.flatMap retiredEntry)

/-- R369: MEM_RETIRED_READ. -/
def cmdMemRetiredRead : Cmd :=
  { op := 0x0B04, legal := legalAll, len := lenIs 8, changes := fun _ => false, body := bodyMemRetiredRead }
def execMemRetiredRead (m : Msg) (s : State) : Host.Outcome State Fault Refusal := runCommand cmdMemRetiredRead m s

/-! Host seams (R366). -/

/-- Descriptors below a seam, itself included. -/
def Directory.below (d : Directory) : Nat → Nat → List Nat
  | 0, _ => []
  | depth + 1, i =>
    i :: (match tget? d.used i with
      | some { body := .group ms, .. } => ms.flatMap fun m => d.below depth m
      | _ => [])

def State.belowSeam (s : State) (i : Nat) : List Nat := s.dram.dir.below s.dram.dir.used.length i

/-- The device references of a DMA descriptor (Table 15.11): byte offset, and whether the seam is written. -/
def deviceRefs (d : Bytes) : List (Nat × Bool) :=
  match byteAt d 19 with
  | 0x01 => [(8, true)]
  | 0x02 => (0, false) :: (if bitAt d 20 2 then [] else [(8, false)])
  | 0x10 => [(8, true)]
  | 0x11 => [(0, false)]
  | _ => []

/-- Descriptors that a running job, build or export uses (R366, R430). -/
def State.seamsAtWork (s : State) : List Nat :=
  (s.dram.jobs.filter (fun j => j.state == .running)).flatMap (fun j => j.a :: j.b.toList) ++
  (s.rule.builds.filterMap fun b => if b.state == .running then b.list else none) ++
  (if s.fwd.build.state == .running then s.fwd.build.list.toList else []) ++
  (if s.flow.exporter.state == .running then [s.flow.exporter.dest] else [])

/-- The same and those of a transfer (R366). -/
def State.seamsUsed (s : State) : List Nat :=
  s.seamsAtWork ++ (s.host.channels.flatMap fun c => c.transfer.toList.flatMap fun t =>
    (deviceRefs t.desc).filterMap fun r => s.dram.dir.find (fieldLe t.desc r.1 4))

/-- Two seams share a descriptor: one is the other, lies below it, or holds it. -/
def State.seamsShare (s : State) (i u : Nat) : Bool := (s.belowSeam i).contains u || (s.belowSeam u).contains i

/-- A seam is in use where a seam in use shares it: itself, one below it, or one that holds it. -/
def State.seamBusy (s : State) (i : Nat) : Bool :=
  s.seamsUsed.any fun u => s.seamsShare i u

def Directory.isHost (d : Directory) (i : Nat) : Bool := match tget? d.used i with | some x => x.host | none => false

def bodySeamCreate (m : Msg) (s : State) : Done :=
  let first := m.f 4 4
  let n := m.f 8 4
  if 1 < m.p 0 then badParam s 0
  else needZero s m [1, 2, 3] <|
    if m.p 0 = 0 then
      needZero s m (span 4 7) <|
        if n = 0 || 2 ^ 28 < n then outOfRange s 8
        else match allocRuns s.dram.free n with
          | none => refuse s Status.noRoom 1
          | some (rs, rest) =>
            if s.dram.dir.freeCount < descsFor rs then refuse s Status.noRoom 8
            else
              let (i, s1) := ({ s with dram := { s.dram with free := rest } }).newRuns rs true
              ok s1 (le 4 (s1.handleOf i))
    else if !s.inRegion 5 first then outOfRange s 4
    else if n = 0 || 2 ^ 28 < n || !(cutRun (first, n) (s.regionRuns 5)).isEmpty then outOfRange s 8
    else if s.dram.dir.freeCount < 1 then refuse s Status.noRoom 8
    else
      let (i, s1) := s.newSeam { body := .run first n, host := true, owns := false }
      ok s1 (le 4 (s1.handleOf i))

/-- R366, R369: SEAM_CREATE. Host seams belong to the device that made them, so the seam commands are not forwarded. -/
def cmdSeamCreate : Cmd :=
  { op := 0x0B05, legal := legalRun, len := lenIs 12, changes := fun _ => true, perDevice := true, body := bodySeamCreate }
def execSeamCreate (m : Msg) (s : State) : Host.Outcome State Fault Refusal := runCommand cmdSeamCreate m s

/-- The members of a group, checked in order: each a host seam in no group and not named before. -/
def groupMembers (s : State) : List Bytes → Nat → List Nat → Except Nat (List Nat)
  | [], _, acc => .ok acc
  | h :: hs, base, acc =>
    match s.dram.dir.find (ofLe h) with
    | none => .error base
    | some i =>
      if !s.dram.dir.isHost i || (s.parentOf i).isSome || acc.contains i then .error base
      else groupMembers s hs (base + 4) (acc ++ [i])

/-- The first member, by its place in the command, at which a group would pass 2^28 tiles. -/
def groupPasses (s : State) : List Nat → Nat → Nat → Option Nat
  | [], _, _ => none
  | i :: is, off, n => if 2 ^ 28 < n + s.seamLength i then some off else groupPasses s is (off + 4) (n + s.seamLength i)

def bodySeamGroup (m : Msg) (s : State) : Done :=
  match groupMembers s (m.recs 4) 16 [] with
  | .error d => refuse s Status.badParam d
  | .ok ms =>
    match groupPasses s ms 0 0 with
    | some off => outOfRange s off
    | none =>
      if s.dram.dir.freeCount < 1 then refuse s Status.noRoom 8
      else
        let (i, s1) := s.newSeam { body := .group ms, host := true, owns := false }
        ok s1 (le 4 (s1.handleOf i))

/-- R366, R369: SEAM_GROUP. -/
def cmdSeamGroup : Cmd :=
  { op := 0x0B06, legal := legalRun, len := fun m => (m.len.toNat % 4 == 0 && 8 ≤ m.len.toNat && m.len.toNat ≤ 4080, 4080),
    changes := fun _ => true, perDevice := true, body := bodySeamGroup }
def execSeamGroup (m : Msg) (s : State) : Host.Outcome State Fault Refusal := runCommand cmdSeamGroup m s

/-! Reading a seam cell by cell. -/

/-- The cells of a seam in ordinal order: device tiles, or rule-store tiles (true). -/
def State.seamCells (s : State) (i : Nat) : List (Bool × Nat) :=
  ((s.seamRuns i).flatMap fun r => (List.range r.2).map fun k => (false, r.1 + k)) ++ (s.dram.dir.storeTiles i).map fun t => (true, t)

/-- A cell read with assay: its bytes (60 of a device tile, 64 of a rule-store tile), or none. -/
def State.readCell (s : State) (v : Staged) (hurt : Upsets) (c : Bool × Nat) (who : Consumer) : Option Bytes × State :=
  if c.1 then (if hurt.store.contains c.2 then (none, s.storeFault c.2 who) else (some (s.storeBytes c.2), s))
  else s.readTileIn v c.2 who

/-- A cell as delivered: with its check, or the invalid pattern where it failed (R20). -/
def delivered (c : Bool × Nat) (p : Option Bytes) : Bytes :=
  if c.1 then fit 64 (p.getD []) else wholeTile (p.getD invalidPayload) c.2

def readCells (v : Staged) (hurt : Upsets) (who : Consumer) : List (Bool × Nat) → State → List (Option Bytes) × State
  | [], s => ([], s)
  | c :: cs, s =>
    let (p, s1) := s.readCell v hurt c who
    let (ps, s2) := readCells v hurt who cs s1
    (p :: ps, s2)

def bodySeamRead (m : Msg) (s : State) : Done :=
  match s.dram.dir.find (m.f 0 4) with
  | none => badParam s 0
  | some i =>
    if s.seamLength i ≤ m.f 4 4 then outOfRange s 4
    else if m.p 8 = 0 || 63 < m.p 8 then outOfRange s 8
    else if s.seamLength i < m.f 4 4 + m.p 8 then outOfRange s 4
    else needZero s m (span 9 11) <|
      let cells := ((s.seamCells i).drop (m.f 4 4)).take (m.p 8)
      let (ps, s1) := readCells (s.view m) {} .command cells s
      ok s1 (le 4 cells.length ++ le 4 (ps.filter (·.isNone)).length ++ ((cells.zip ps).flatMap fun x => delivered x.1 x.2))

/-- R366, R369: SEAM_READ. -/
def cmdSeamRead : Cmd :=
  { op := 0x0B07, flags := fun m => m.flags == 0 || m.flags == 1 || m.flags == 2, memory := true, legal := legalAll, len := lenIs 12,
    changes := fun _ => false, body := bodySeamRead }
def execSeamRead (m : Msg) (s : State) : Host.Outcome State Fault Refusal := runCommand cmdSeamRead m s

/-! Seam jobs (R367). -/

def State.job (s : State) (j : Nat) : Job := s.dram.jobs.getD j ⟨.none, .fill, 0, none, [], 0, 0, none, 0, 0⟩
def State.setJob (s : State) (j : Nat) (x : Job) : State := { s with dram := { s.dram with jobs := s.dram.jobs.set j x } }

/-- The number of a new job: the one after the last issued, passing over those still running. -/
def State.nextJob (s : State) : Option Nat :=
  ((List.range 8).map fun k => (s.dram.lastJob + 1 + k) % 8).find? fun j => (s.job j).state != .running

/-- Start a job: its number, or NO_ROOM for a job number or a task slot. -/
def State.startJob (s : State) (op : JobOp) (a : Nat) (b : Option Nat) (pattern : Bytes) : Done :=
  match s.nextJob with
  | none => refuse s Status.noRoom 7
  | some j =>
    match s.newTask TaskType.seamAssist (.seamJob j) with
    | none => refuse s Status.noRoom 0x10
    | some (_, s1) =>
      let s2 := s1.setJob j { state := .running, op := op, a := a, b := b, pattern := pattern, done := 0, bad := 0, first := none,
                              start := s.now, elapsedMs := 0 }
      ok { s2 with dram := { s2.dram with lastJob := j } } (le 4 j)

def bodySeamFill (m : Msg) (s : State) : Done :=
  match s.dram.dir.find (m.f 0 4) with
  | none => badParam s 0
  | some i => if !s.dram.dir.isHost i || s.seamBusy i then badParam s 0 else s.startJob .fill i none (slice m.params 4 60)

/-- R367: SEAM_FILL. -/
def cmdSeamFill : Cmd :=
  { op := 0x0B08, legal := legalRun, len := lenIs 64, changes := fun _ => true, perDevice := true, body := bodySeamFill }
def execSeamFill (m : Msg) (s : State) : Host.Outcome State Fault Refusal := runCommand cmdSeamFill m s

def bodySeamCompare (m : Msg) (s : State) : Done :=
  match s.dram.dir.find (m.f 0 4) with
  | none => badParam s 0
  | some a =>
    if m.f 4 4 = 0xFFFFFFFF then s.startJob .compare a none (slice m.params 8 60)
    else match s.dram.dir.find (m.f 4 4) with
      | none => badParam s 4
      | some b => needZero s m (span 8 67) <|
          if s.seamLength a != s.seamLength b then outOfRange s 4 else s.startJob .compare a (some b) []

/-- R367: SEAM_COMPARE. -/
def cmdSeamCompare : Cmd :=
  { op := 0x0B09, legal := legalAll, len := lenIs 68, changes := fun _ => true, perDevice := true, body := bodySeamCompare }
def execSeamCompare (m : Msg) (s : State) : Host.Outcome State Fault Refusal := runCommand cmdSeamCompare m s

def bodySeamCheck (m : Msg) (s : State) : Done :=
  match s.dram.dir.find (m.f 0 4) with
  | none => badParam s 0
  | some a => s.startJob .check a none []

/-- R367: SEAM_CHECK. -/
def cmdSeamCheck : Cmd :=
  { op := 0x0B0A, legal := legalAll, len := lenIs 4, changes := fun _ => true, perDevice := true, body := bodySeamCheck }
def execSeamCheck (m : Msg) (s : State) : Host.Outcome State Fault Refusal := runCommand cmdSeamCheck m s

/-- What a job finds as it goes: cells done, bad ones, and the first bad ordinal. -/
structure JobTally where
  done : Nat
  bad : Nat
  first : Option Nat

def JobTally.add (t : JobTally) (bad : Bool) : JobTally :=
  { done := t.done + 1, bad := t.bad + bad.toNat, first := if bad then some (t.first.getD t.done) else t.first }

/-- Fill every cell of a seam. -/
def fillCells (pattern : Bytes) : List (Bool × Nat) → State → State
  | [], s => s
  | c :: cs, s => fillCells pattern cs (if c.1 then s else s.putTile c.2 pattern)

/-- Compare cells against a pattern or against the cells of a second seam; an absent cell is a mismatch. -/
def compareCells (hurt : Upsets) (pattern : Bytes) : List (Bool × Nat) → List (Option (Bool × Nat)) → State → JobTally → JobTally × State
  | [], _, s, t => (t, s)
  | c :: cs, ds, s, t =>
    let (p, s1) := s.readCell s.cur hurt c .miner
    match ds with
    | some d :: ds' =>
      let (q, s2) := s1.readCell s1.cur hurt d .miner
      compareCells hurt pattern cs ds' s2 (t.add (p.isNone || p != q))
    | _ => compareCells hurt pattern cs (ds.drop 1) s1 (t.add (match p with | some x => fit 60 x != fit 60 pattern | none => true))

/-- Assay every cell. -/
def checkCells (hurt : Upsets) : List (Bool × Nat) → State → JobTally → JobTally × State
  | [], s, t => (t, s)
  | c :: cs, s, t =>
    let (p, s1) := s.readCell s.cur hurt c .miner
    checkCells hurt cs s1 (t.add (p.isNone && (c.1 || !s.flow.quarantine.contains c.2)))

/-- The work of a job, whole. -/
def State.runJob (s : State) (x : Job) (hurt : Upsets) : JobTally × State :=
  let cells := s.seamCells x.a
  match x.op with
  | .fill => ({ done := cells.length, bad := 0, first := none }, fillCells x.pattern cells s)
  | .compare => compareCells hurt x.pattern cells (match x.b with | some b => (s.seamCells b).map some | none => []) s ⟨0, 0, none⟩
  | .check => checkCells hurt cells s ⟨0, 0, none⟩

/-- R367: a job finishes on a miner and its result becomes readable. -/
def execSeamJobComplete (job : Nat) (hurt : Upsets) (s : State) : Host.Outcome State Fault Refusal :=
  let x := s.job job
  if s.refreshing || x.state != .running || 7 < job || !s.atWork (.seamJob job) then .next s
  else
    let (t, s1) := (s.upset hurt).runJob x hurt
    let s2 := s1.setJob job { x with state := .done, done := t.done, bad := t.bad, first := t.first, elapsedMs := (s.now - x.start) / 1000000 }
    done s (s2.finishWork (· == .seamJob job))

/-! Retire, swap root and information. -/

def bodySeamRetire (m : Msg) (s : State) : Done :=
  match s.dram.dir.find (m.f 0 4) with
  | none => badParam s 0
  | some i =>
    if !s.dram.dir.isHost i || (s.parentOf i).isSome || s.seamBusy i then badParam s 0 else ok (s.retireSeam i)

/-- R366: SEAM_RETIRE. -/
def cmdSeamRetire : Cmd :=
  { op := 0x0B0B, legal := legalRun, len := lenIs 4, changes := fun _ => true, perDevice := true, body := bodySeamRetire }
def execSeamRetire (m : Msg) (s : State) : Host.Outcome State Fault Refusal := runCommand cmdSeamRetire m s

/-- Exchange what two seams hold (Table 1.7). -/
def Directory.swap (d : Directory) (a b : Nat) : Directory :=
  match tget? d.used a, tget? d.used b with
  | some x, some y =>
    { d with used := tset (tset d.used a { x with body := y.body, owns := y.owns }) b { y with body := x.body, owns := x.owns } }
  | _, _ => d

/-- SEAM_SWAP_ROOT. The spec does not order its refusals: a group named with one of its own members has another length, and is refused for it
with RANGE (DESIGN CHOICE, log 145). -/
def bodySeamSwapRoot (m : Msg) (s : State) : Done :=
  match s.dram.dir.find (m.f 0 4) with
  | none => badParam s 0
  | some a =>
    if !s.dram.dir.isHost a || s.seamBusy a then badParam s 0
    else match s.dram.dir.find (m.f 4 4) with
      | none => badParam s 4
      | some b =>
        if !s.dram.dir.isHost b || s.seamBusy b then badParam s 4
        else if s.seamLength a != s.seamLength b then outOfRange s 4
        else if a = b then ok s
        else ok { s with dram := { s.dram with dir := s.dram.dir.swap a b } }

/-- R366: SEAM_SWAP_ROOT. -/
def cmdSeamSwapRoot : Cmd :=
  { op := 0x0B0C, legal := legalRun, len := lenIs 8, changes := fun _ => true, perDevice := true, body := bodySeamSwapRoot }
def execSeamSwapRoot (m : Msg) (s : State) : Host.Outcome State Fault Refusal := runCommand cmdSeamSwapRoot m s

/-- A handle field, or 0xFFFF_FFFF for no seam. -/
def State.handleField (s : State) : Option Nat → Bytes
  | some i => le 4 (s.handleOf i)
  | none => le 4 0xFFFFFFFF

def State.seamInfo (s : State) (i : Nat) : Bytes :=
  let x := tget? s.dram.dir.used i
  let group := match x with
    | some { body := .group _, .. } => true
    | some { body := .pieces rs, .. } => rs.length != 1
    | _ => false
  let parent := s.parentOf i
  let at8 := match x with
    | some { body := .run f _, .. } => f
    | some { body := .group ms, .. } => ms.length
    | some { body := .store rs, .. } => (rs.headD (0, 0)).1
    | some { body := .pieces rs, .. } => if rs.length = 1 then (rs.headD (0, 0)).1 else rs.length
    | none => 0
  le 1 (if group then 2 else 1) ++ le 1 (if s.dram.dir.isHost i then 0 else 1) ++ le 1 (flagByte [s.seamBusy i, parent.isSome]) ++ [0] ++
    le 4 (s.seamLength i) ++ le 4 at8 ++ s.handleField parent ++ zeros 8

def JobState.code : JobState → Nat | .none => 0 | .running => 1 | .done => 2
def JobOp.code : JobOp → Nat | .fill => 1 | .compare => 2 | .check => 3

def jobInfo (x : Job) : Bytes :=
  if x.state == .none then zeros 12 ++ le 4 0xFFFFFFFF ++ zeros 8
  else
    le 1 x.state.code ++ le 1 x.op.code ++ [0, 0] ++ le 4 x.done ++ le 4 x.bad ++ le 4 (x.first.getD 0xFFFFFFFF) ++
      le 4 x.elapsedMs ++ zeros 4

/-- A running job as SEAM_INFO shows it: how far it has come the spec leaves open, within the seam's length. -/
def State.runningJob (s : State) (x : Job) : Job :=
  let d := (Config.freeWord s.free).toNat % (s.seamLength x.a + 1)
  let b := if x.op == .fill then 0 else (Config.freeWord (s.free + 1)).toNat % (d + 1)
  { x with done := d, bad := b, first := if b = 0 then none else some ((Config.freeWord (s.free + 2)).toNat % d),
           elapsedMs := (s.now - x.start) / 1000000 }

def bodySeamInfo (m : Msg) (s : State) : Done :=
  if 1 < m.p 0 then badParam s 0
  else needZero s m [1, 2, 3] <|
    if m.p 0 = 0 then
      match s.dram.dir.find (m.f 4 4) with
      | none => badParam s 4
      | some i => ok s (s.seamInfo i)
    else if 7 < m.f 4 4 then outOfRange s 4
    else
      let x := s.job (m.f 4 4)
      if x.state == .running then ok { s with free := s.free + 3 } (jobInfo (s.runningJob x)) else ok s (jobInfo x)

/-- R369: SEAM_INFO. -/
def cmdSeamInfo : Cmd :=
  { op := 0x0B0D, legal := legalAll, len := lenIs 8, changes := fun _ => false, body := bodySeamInfo }
def execSeamInfo (m : Msg) (s : State) : Host.Outcome State Fault Refusal := runCommand cmdSeamInfo m s

/-! SECURE_MEM_PLAN (R363). -/

/-- The default plan (Table 1.5): base and size of the six regions. -/
def defaultPlan (hb : Bool) : List (Nat × Nat) :=
  let flow := if hb then 0x4000000 else 0x8000000
  [(0, flow), (flow, 0x1000000), (flow + 0x1000000, 0x80000), (flow + 0x1080000, 0x100000), (flow + 0x1180000, 0x100000),
   (flow + 0x1280000, 0x100000)]

/-- A power of two within bounds. -/
def isPow2 (n : Nat) : Bool := n != 0 && 2 ^ n.log2 == n

/-- Sizes at plan (Table 12.5). -/
def planSizeOk (hb : Bool) (code n : Nat) : Bool :=
  match code with
  | 0 => isPow2 n && decide (2 ^ 10 ≤ n) && decide (n ≤ 2 ^ (if hb then 26 else 27))
  | 1 => n % 2 ^ 16 == 0 && decide (2 ^ 16 ≤ n) && decide (n ≤ 2 ^ 24)
  | 2 => n % 1024 == 0 && decide (1024 ≤ n) && decide (n ≤ 2 ^ 19)
  | 3 => n % 1024 == 0 && decide (2 ^ 17 ≤ n) && decide (n ≤ 2 ^ 24)
  | 4 => n % 1024 == 0 && decide (2 ^ 16 ≤ n) && decide (n ≤ 2 ^ 24)
  | _ => n % 1024 == 0 && decide (1024 ≤ n) && decide (n ≤ 2 ^ 26)

/-- The first field of a plan that breaks R363, as its parameter offset: bases and sizes in field order; a region that overlaps an earlier
one is told at its size. -/
def planBad (hb : Bool) : List (Nat × Nat) → Nat → List (Nat × Nat) → Option Nat
  | [], _, _ => none
  | (b, n) :: rest, code, before =>
    if b % 1024 != 0 || tilesOf hb ≤ b then some (8 + code * 8)
    else if !planSizeOk hb code n || tilesOf hb < b + n || before.any (fun r => r.1 < b + n && b < r.1 + r.2) then some (12 + code * 8)
    else planBad hb rest (code + 1) (before ++ [(b, n)])

/-- The seams other than the region seams and the root, and reserved descriptors. -/
def State.otherSeams (s : State) : Bool :=
  s.dram.dir.reserved != 0 || s.dram.dir.used.any fun e => e.1 != 0 && !s.dram.regions.contains e.1

/-- All that a plan does not place is free, but for tiles withdrawn. -/
def State.freeOutside (s : State) (plan : List (Nat × Nat)) : List (Nat × Nat) :=
  (cutRun (0, s.tiles) (plan.foldl (fun l r => addRun l r) [])).flatMap s.soundRuns

/-- Set the plan: region seams rebuilt in place under the root, and the rest of device memory free. -/
def State.setPlan (s : State) (plan : List (Nat × Nat)) : State :=
  let used := (s.dram.regions.zip plan).foldl (fun t e => tset t e.1 { body := .run e.2.1 e.2.2, host := false, owns := true }) s.dram.dir.used
  { s with dram := { s.dram with dir := { s.dram.dir with used := tset used 0 { body := .group s.dram.regions, host := false, owns := false } },
                                     free := s.freeOutside plan, clearing := [] } }

/-- The plan as the regions stand. -/
def State.plan (s : State) : List (Nat × Nat) := (List.range 6).map fun c => (s.regionBase c, s.regionSize c)

/-- Build the root and the region seams at the end of BOOT (R24, R456): descriptors 0 to 6. -/
def State.buildRegions (s : State) (plan : List (Nat × Nat)) : State :=
  let s1 := { s with dram := { s.dram with
    dir := { used := (List.range 7).map fun i => (i, { body := .group [], host := false, owns := false }), gens := [], fresh := 7, freed := [],
             reserved := 0 },
    regions := [1, 2, 3, 4, 5, 6] } }
  s1.setPlan plan

/-- Live contents of every region and of what caches them are emptied (R363, R469). -/
def State.clearLive (s : State) (runs : List (Nat × Nat)) : State :=
  let s1 := runs.foldl (fun s r => s.clearRun r.1 r.2) s
  { s1 with
      flow := { s1.flow with hot := [], cache := [], tailings := [], tailHead := 0, quarantine := [] },
      nat := { s1.nat with blocks := [], live := [], counts := [], deferred := [], repairs := [], lost := [], mended := [] },
      fwd := { s1.fwd with learned0 := [], learned1 := [], queue0 := [], queue1 := [] },
      telem := { s1.telem with staging := [], assembly := [] } }

/-- Host-written contents that a version of the staged tables holds in the regions are lost with the plan (R363). -/
def Staged.dropRegionTables (v : Staged) : Staged := { v with nat := { v.nat with actions := [], subs := [] } }

def bodySecureMemPlan (m : Msg) (s : State) : Done :=
  let plan := if m.p 0 = 2 then defaultPlan s.hb else (List.range 6).map fun c => (m.f (8 + c * 8) 4, m.f (12 + c * 8) 4)
  if !(m.p 0 = 1 || m.p 0 = 2) then badParam s 0
  else needZero s m (span 1 7) <|
    needZero s m (if m.p 0 = 2 then span 8 55 else []) <|
      match planBad s.hb plan 0 [] with
      | some i => outOfRange s i
      | none =>
        if s.otherSeams then badParam s 0
        else
          let s1 := s.setPlan plan
          let s2 := s1.clearLive [(0, s.tiles)]
          ok { s2 with cur := s2.cur.dropRegionTables, shadow := s2.shadow.dropRegionTables,
                       drain := s2.drain.map fun d => { d with tables := d.tables.dropRegionTables },
                       fwd := { s2.fwd with copies := [] },
                       life := { s2.life with clearing := .plan } }

/-- R363: SECURE_MEM_PLAN. -/
def cmdSecureMemPlan : Cmd :=
  { op := 0x1206, legal := legalIn [.init], len := lenIs 56, locks := fun _ => true, changes := fun _ => true, body := bodySecureMemPlan }
def execSecureMemPlan (m : Msg) (s : State) : Host.Outcome State Fault Refusal := runCommand cmdSecureMemPlan m s

end Sys2Proof.Machine
end

