-- ==== Sys2Proof/Machine/Parse.lean ====
section
/-!
DEFINITION. The parse graph: node records, the walk of a packet, and the parse commands (spec 04).
-/
namespace Sys2Proof.Machine

/-! The node record (R112-R116, Tables 4.4-4.6). -/

/-- A bit field: offset from the most significant bit of the header's first byte, and width. -/
structure BitField where
  off : Nat
  width : Nat

/-- Last byte, exclusive, that a field needs, from the header start. -/
def BitField.bytes (f : BitField) : Nat := (f.off + f.width + 7) / 8

/-- An extraction (Table 4.6). -/
structure Extract where
  src : Nat
  len : Nat
  rel : Bool
  dst : Nat

/-- A node as the walk uses it. -/
structure PNode where
  number : Nat
  inner : Bool
  frag : Nat
  select : Option BitField
  /-- Computed length: field, scale and MIN_LEN. -/
  computed : Option (BitField × Nat × Nat)
  base : Nat
  /-- Container: field, scale and base. -/
  container : Option (BitField × Nat × Nat)
  overrun : Nat
  mismatch : Nat
  l3 : Nat
  user : Nat
  default : Nat
  transitions : List (Nat × Nat × Nat)
  extracts : List Extract

def extractOf (e : Bytes) : Extract :=
  { src := fieldLe e 0 2, len := byteAt e 2, rel := bitAt e 3 7, dst := byteAt e 3 % 128 }

/-- Read a node record. -/
def nodeOf (r : Bytes) : PNode :=
  let c := byteAt r 1
  { number := byteAt r 0, inner := Nat.testBit c 6, frag := c / 16 % 4,
    select := if byteAt r 6 = 0 then none else some ⟨fieldLe r 4 2, byteAt r 6⟩,
    computed := if Nat.testBit c 3 then some (⟨fieldLe r 10 2, byteAt r 12⟩, byteAt r 13, fieldLe r 14 2) else none,
    base := fieldLe r 8 2,
    container := if Nat.testBit c 2 then some (⟨fieldLe r 18 2, byteAt r 20⟩, byteAt r 21, fieldLe r 16 2) else none,
    overrun := byteAt r 2 / 16 % 4, mismatch := byteAt r 2 / 4 % 4, l3 := byteAt r 3 / 16 % 4, user := byteAt r 3 % 16,
    default := fieldLe r 24 2,
    transitions := (List.range (byteAt r 7)).map fun i =>
      (fieldLe r (64 + 10 * i) 4, fieldLe r (68 + 10 * i) 4, fieldLe r (72 + 10 * i) 2),
    extracts := ((List.range 8).map fun i => extractOf (slice r (32 + 4 * i) 4)).filter fun e => e.len != 0 }

/-- Targets of Table 4.5. -/
def targetOk (t : Nat) : Bool := t < 256 || t == 0x8000 || t == 0x8001 || t == 0x8002

/-- The first of a list of faults: condition and offset. -/
def firstFault (l : List (Bool × Nat)) : Option Nat := (l.find? (·.1)).map (·.2)

/-- A length or container field at `o` with its width at `w` (R127). -/
def fieldFaults (r : Bytes) (o w : Nat) : List (Bool × Nat) :=
  [(decide (4095 < fieldLe r o 2), o), (decide (byteAt r w = 0 || 16 < byteAt r w), w), (decide (4096 < fieldLe r o 2 + byteAt r w), o)]

/-- Bytes that must be zero, as faults. -/
def zeroFaults (r : Bytes) (l : List Nat) : List (Bool × Nat) := l.map fun i => (byteAt r i != 0, i)

/-- Faults of extraction entry `i` of a node whose fixed length is given: each byte range, then the sums, at the source offset.
DESIGN CHOICE: an entry of length 0 is unused, and its other bytes must be zero (log 139, R112). -/
def extractFaults (r : Bytes) (fixed : Option Nat) (i : Nat) : List (Bool × Nat) :=
  let o := 32 + 4 * i
  let e := extractOf (slice r o 4)
  if e.len = 0 then zeroFaults r (span o (o + 3))
  else
    [(decide (511 < e.src), o), (decide (16 < e.len), o + 2),
     (decide (512 < e.src + e.len) || (match fixed with | some n => decide (n < e.src + e.len) | none => false), o),
     (decide (e.dst < 8) || decide (128 < e.dst + e.len) || (e.rel && (decide (e.dst < 32) || decide (72 < e.dst + e.len))), o + 3)]

/-- Faults of transition slot `i`. -/
def transitionFaults (r : Bytes) (i : Nat) : List (Bool × Nat) :=
  let o := 64 + 10 * i
  if byteAt r 7 ≤ i then zeroFaults r (span o (o + 9))
  else [(fieldLe r o 4 &&& (0xFFFFFFFF ^^^ fieldLe r (o + 4) 4) != 0, o), (!targetOk (fieldLe r (o + 8) 2), o + 8)]

/-- Offset of the first field of a node record found wrong (R127). -/
def nodeFault (r : Bytes) : Option Nat :=
  let c := byteAt r 1
  if c < 128 then firstFault (zeroFaults r (span 1 223))
  else
    let comp := Nat.testBit c 3
    let base := fieldLe r 8 2
    firstFault <|
      [(c % 4 != 0 || c / 16 % 4 == 3, 1),
       (byteAt r 2 / 64 != 0 || byteAt r 2 % 4 != 0 || byteAt r 2 / 16 % 4 == 3 || byteAt r 2 / 4 % 4 == 3, 2),
       (byteAt r 3 / 64 != 0 || byteAt r 3 / 16 % 4 == 3, 3), (decide (4095 < fieldLe r 4 2), 4), (decide (32 < byteAt r 6), 6),
       (decide (4096 < fieldLe r 4 2 + byteAt r 6), 4), (decide (16 < byteAt r 7), 7),
       (if comp then decide (511 < base) else decide (base = 0 || 512 < base), 8)] ++
      (if comp then fieldFaults r 10 12 ++ [(byteAt r 13 == 0, 13), (decide (fieldLe r 14 2 = 0 || 512 < fieldLe r 14 2), 14)]
       else zeroFaults r (span 10 15)) ++
      (if Nat.testBit c 2 then (decide (511 < fieldLe r 16 2), 16) :: fieldFaults r 18 20 ++ [(byteAt r 21 == 0, 21)]
       else zeroFaults r (span 16 21)) ++
      zeroFaults r [22, 23] ++ [(!targetOk (fieldLe r 24 2), 24)] ++ zeroFaults r (span 26 31) ++
      (List.range 8).flatMap (extractFaults r (if comp then none else some base)) ++ (List.range 16).flatMap (transitionFaults r)

/-! The walk (R106-R123). -/

/-- A walk in progress. `dev` and `node` are the counters it adds to: of Table 4.11, and (node, counter) of R131. -/
structure Walk where
  kv : Bytes
  flags : Nat
  inner : Bool
  bound : Nat
  off : Nat
  done : Nat
  parsed : Nat
  dev : List Nat
  node : List (Nat × Nat)
  claims : List Claim
  /-- Frame offsets of the IP headers of the outer and the inner layer, where a node set their L3 kind. -/
  l3 : Option Nat × Option Nat
  /-- Frame offset of the first of them all. -/
  outer : Option Nat

/-- The packet as the walk sees it, and the limits of its epoch. -/
structure WalkEnv where
  bytes : Bytes
  /-- The end of the frame has not arrived (R120). -/
  arriving : Bool
  nodeLimit : Nat
  byteLimit : Nat
  depthCurrent : Bool

/-- Where a node leaves the walk. -/
inductive WalkStep where
  | next (target : Nat) (w : Walk)
  /-- The walk ends, classifying on the inner layer or the outer. -/
  | stop (inner : Bool) (w : Walk)
  | drop (w : Walk)
  /-- Bytes it reads have not arrived. -/
  | more

def setFlag (f k : Nat) : Nat := f ||| 2 ^ k

/-- A field read from the header at `start`; bits beyond the frame end are zero (R112, R119). -/
def bitField (bytes : Bytes) (start : Nat) (f : BitField) : Nat :=
  let n := f.bytes - f.off / 8
  fieldBe bytes (start + f.off / 8) n / 2 ^ (8 * f.bytes - f.off - f.width) % 2 ^ f.width

/-- The layer a walk cut short classifies on (R111). -/
def WalkEnv.cut (e : WalkEnv) (w : Walk) : WalkStep := .stop (e.depthCurrent && w.inner) w

/-- End at a depth limit (R118). -/
def WalkEnv.depth (e : WalkEnv) (counter : Nat) (w : Walk) : WalkStep :=
  e.cut { w with flags := setFlag w.flags 0, dev := counter :: w.dev }

/-- A length fault under its disposition (R119): `overrun` or else mismatch. -/
def WalkEnv.fault (e : WalkEnv) (nd : PNode) (overrun : Bool) (w : Walk) (go : Walk → WalkStep) : WalkStep :=
  let disp := if overrun then nd.overrun else nd.mismatch
  let w1 := { w with dev := ((if overrun then 5 else 8) + disp) :: w.dev, node := (nd.number, 1 + disp) :: w.node }
  match disp with
  | 0 => .drop w1
  | 1 => e.cut { w1 with flags := setFlag w1.flags (if overrun then 1 else 2) }
  | _ => go { w1 with flags := setFlag w1.flags 6 }

/-- Offset of the current layer's block in the key vector. -/
def Walk.block (w : Walk) : Nat := if w.inner then 72 else 32

/-- Step 6 of R117: a new inner layer, and the L3 kind with its mapped prefix. -/
def Walk.enter (w : Walk) (nd : PNode) : Walk :=
  let w1 := if nd.inner then
      { w with kv := splice w.kv 72 (zeros 40), flags := setFlag (if w.inner then setFlag w.flags 5 else w.flags) 4, inner := true,
               l3 := (w.l3.1, none) }
    else w
  let o := w1.block
  let mapped := zeros 10 ++ [0xFF, 0xFF]
  let l3 := if w1.inner then (w1.l3.1, some w.off) else (some w.off, w1.l3.2)
  let outer := w1.outer.orElse fun _ => some w.off
  match nd.l3 with
  | 0 => w1
  | 1 => { w1 with l3 := l3, outer := outer, kv := splice (splice (splice w1.kv (o + 37) [4]) o mapped) (o + 16) mapped }
  | _ => { w1 with l3 := l3, outer := outer, kv := splice w1.kv (o + 37) [6] }

/-- Step 7 of R117: extractions; bytes beyond the header end are zero (R116). -/
def Walk.extract (w : Walk) (bytes : Bytes) (hend : Nat) (e : Extract) : Walk :=
  let data := (List.range e.len).map fun k => if w.off + e.src + k < hend then bytes.getD (w.off + e.src + k) 0 else 0
  { w with kv := splice w.kv (if e.rel && w.inner then e.dst + 40 else e.dst) data }

/-- The fragment test of a node (R122). -/
def isFragment (bytes : Bytes) (off frag : Nat) : Bool :=
  match frag with
  | 0 => false
  | 1 => bitAt bytes (off + 6) 5 || fieldBe bytes (off + 6) 2 % 0x2000 != 0
  | _ => true

/-- Steps 6 to 9 of R117, with the header end known. -/
def WalkEnv.complete (e : WalkEnv) (nd : PNode) (hend : Nat) (w : Walk) : WalkStep :=
  let w1 := nd.extracts.foldl (fun w x => w.extract e.bytes hend x) (w.enter nd)
  let w2 := { w1 with flags := w1.flags ||| nd.user * 256, done := w1.done + 1, parsed := hend, kv := splice w1.kv 6 (le 1 nd.number),
                      node := (nd.number, 0) :: w1.node }
  if isFragment e.bytes w.off nd.frag then
    let o := w2.block
    .stop w2.inner { w2 with flags := setFlag w2.flags 3, kv := splice (splice w2.kv (o + 32) (zeros 4)) (o + 38) [0] }
  else
    let t := match nd.select with
      | none => nd.default
      | some f =>
        let v := bitField e.bytes w.off f
        match nd.transitions.find? (fun t => v &&& t.2.1 == t.1) with
        | some t => t.2.2
        | none => nd.default
    .next t { w2 with off := hend }

/-- Step 5 of R117: a container's claimed bound (R113, R120). -/
def WalkEnv.claim (e : WalkEnv) (nd : PNode) (hend : Nat) (w : Walk) : WalkStep :=
  match nd.container with
  | none => e.complete nd hend w
  | some (f, scale, base) =>
    let c := w.off + bitField e.bytes w.off f * scale + base
    if c < hend then e.fault nd false w (e.complete nd hend)
    else if e.bytes.length < c && !e.arriving then e.fault nd true w (e.complete nd hend)
    else if w.bound < c then e.fault nd false w (e.complete nd hend)
    else
      e.complete nd hend
        { w with bound := c, claims := if e.bytes.length < c then w.claims ++ [(c, nd.number, nd.overrun)] else w.claims }

/-- Step 4 of R117: the header end against the byte limit, the frame end and the bound. -/
def WalkEnv.header (e : WalkEnv) (nd : PNode) (len : Nat) (w : Walk) : WalkStep :=
  let hend := w.off + len
  let clip := min e.bytes.length w.bound
  if e.byteLimit < hend then e.depth 4 w
  else if e.bytes.length < hend then
    (if e.arriving then .more else e.fault nd true w (e.claim nd clip))
  else if w.bound < hend then e.fault nd false w (e.claim nd clip)
  else e.claim nd hend w

/-- Step 3 of R117: the header length. -/
def WalkEnv.length (e : WalkEnv) (nd : PNode) (w : Walk) : WalkStep :=
  match nd.computed with
  | none => e.header nd nd.base w
  | some (f, scale, minLen) =>
    let n := bitField e.bytes w.off f * scale + nd.base
    if n < minLen then e.fault nd false w (e.header nd minLen) else e.header nd n w

/-- Step 2 of R117: the fields a node reads. A node waits for the bytes of its fields and of its fragment test (R107). -/
def WalkEnv.fields (e : WalkEnv) (nd : PNode) (w : Walk) : WalkStep :=
  let fs := nd.select.toList ++ (nd.computed.map (·.1)).toList ++ (nd.container.map (·.1)).toList
  let last := fs.foldl (fun m f => max m (w.off + f.bytes)) w.off
  if e.byteLimit < last then e.depth 4 w
  else if e.arriving && decide (e.bytes.length < max last (if nd.frag = 1 then w.off + 8 else 0)) then .more
  else if e.bytes.length < last then e.fault nd true w (e.length nd)
  else e.length nd w

/-- How a walk ends: the walk with its key vector closed, and whether the packet is discarded; none where it must wait for bytes. -/
structure WalkEnd where
  walk : Walk
  dropped : Bool

/-- Close the key vector (Table 4.1) and count what the flags say. -/
def closeWalk (inner : Bool) (dropped : Bool) (w : Walk) : WalkEnd :=
  let kv := splice (splice (splice (splice w.kv 0 (le 2 w.flags)) 3 (le 1 w.done)) 4 (le 2 w.parsed)) 7 (le 1 inner.toNat)
  let frag := if Nat.testBit w.flags 3 then [12] else []
  let nest := if Nat.testBit w.flags 5 then [13] else []
  { walk := { w with kv := kv, dev := frag ++ nest ++ w.dev }, dropped := dropped }

/-- Walk from a target (R106, R115): `fuel` is one more than the nodes still allowed. From the first node that has to wait for bytes the walk
goes on under `late`, the whole frame, once there is one (R107, R120). DESIGN CHOICE: a target that names a node not VALID is judged before
the node limit of step 1 (log 139). -/
def walkFrom (nodes : Table Bytes) (e : WalkEnv) (late : Option WalkEnv) : Nat → Nat → Walk → Option WalkEnd
  | fuel, target, w =>
    if target = 0x8000 then some (closeWalk w.inner false w)
    else if target = 0x8001 then some (closeWalk false false w)
    else if target = 0x8002 then some (closeWalk false true { w with dev := 1 :: w.dev })
    else match tget? nodes target with
      | none => some (closeWalk false true { w with dev := 2 :: w.dev })
      | some r =>
        match fuel with
        | 0 =>
          let w1 := { w with flags := setFlag w.flags 0, dev := 3 :: w.dev }
          some (closeWalk (e.depthCurrent && w1.inner) false w1)
        | fuel + 1 =>
          let here := e.fields (nodeOf r) w
          let (e1, late1, step) := match here, late with
            | .more, some e2 => (e2, none, e2.fields (nodeOf r) w)
            | _, _ => (e, late, here)
          match step with
          | .next t w' => walkFrom nodes e1 late1 fuel t w'
          | .stop inner w' => some (closeWalk inner false w')
          | .drop w' => some (closeWalk false true w')
          | .more => none

/-- Index of a port's start node (Table 4.9). -/
def startIndex (port : Nat) : Nat := if port < 26 then port else if port = 32 then 26 else 27

/-- More than any bound a container can claim: the start bound of a frame whose end has not arrived (R120). -/
def noBound : Nat := 2 ^ 25

/-- The whole walk of a packet that enters at a port; one that came to wait with `waited` bytes took its first nodes with those alone. -/
def walkPacket (g : ParseGraph) (bytes : Bytes) (arriving : Bool) (waited : Option Nat) (port : Nat) : Option WalkEnd :=
  let all : WalkEnv := { bytes := bytes, arriving := arriving, nodeLimit := g.nodeLimit, byteLimit := g.byteLimit, depthCurrent := g.depthCurrent }
  let (e, late) : WalkEnv × Option WalkEnv := match waited with
    | some n => if arriving then (all, none) else ({ all with bytes := bytes.take n, arriving := true }, some all)
    | none => (all, none)
  walkFrom g.nodes e late g.nodeLimit (g.starts.getD (startIndex port) 0)
    { kv := splice (splice (zeros 128) 2 (le 1 port)) 6 [0xFF], flags := 0, inner := false,
      bound := if e.arriving then noBound else bytes.length, off := 0, done := 0, parsed := 0, dev := [0], node := [], claims := [],
      l3 := (none, none), outer := none }

/-- Count in a pipeline's parse counters and in a node's. -/
def State.parseCount (s : State) (pipe : Bool) (i : Nat) : State :=
  { s with parse := if pipe then { s.parse with counters1 := bump s.parse.counters1 i } else { s.parse with counters0 := bump s.parse.counters0 i } }

def State.nodeCount (s : State) (n i : Nat) : State :=
  { s with parse := { s.parse with nodes := tset s.parse.nodes n (bump ((tget? s.parse.nodes n).getD (List.replicate 5 0)) i) } }

/-- Add what a walk counted. -/
def State.walkCounts (s : State) (pipe : Bool) (w : Walk) : State :=
  w.node.foldl (fun s x => s.nodeCount x.1 x.2) (w.dev.foldl (fun s i => s.parseCount pipe i) s)

/-! Commands (R126-R131). -/

def State.stageParse (s : State) (f : ParseGraph → ParseGraph) : State := s.stageWith fun v => { v with parse := f v.parse }

/-- Put a node record in a graph, or take a node that is not VALID from it. -/
def ParseGraph.put (g : ParseGraph) (r : Bytes) : ParseGraph :=
  { g with nodes := if bitAt r 1 7 then tset g.nodes (byteAt r 0) r else tdel g.nodes (byteAt r 0) }

def recParseNodeWrite (m : Msg) (s : State) (b : Bytes) (base : Nat) : RecAns :=
  if !m.stage then noStage
  else match nodeFault b with
    | some i => .refuse Status.badParam (base + i)
    | none => .ok (s.stageParse fun g => g.put b) []

/-- R127: PARSE_NODE_WRITE. -/
def cmdParseNodeWrite : Cmd :=
  { op := 0x0401, flags := flagsIn 5, legal := legalRun, len := lenRec 224 18, locks := fun _ => true, changes := fun _ => true,
    body := fun m s => records m 224 (recParseNodeWrite m) s }
def execParseNodeWrite (m : Msg) (s : State) : Host.Outcome State Fault Refusal := runCommand cmdParseNodeWrite m s

/-- STAGE or SNAPSHOT but not both, with the other flags of a mask (R45). -/
def flagsRead (batch : Bool) : Msg → Bool := fun m => flagsIn (if batch then 7 else 3) m && !(m.stage && m.snap)

def recParseNodeRead (m : Msg) (s : State) (b : Bytes) (base : Nat) : RecAns :=
  recZero b base [1, 2, 3] <|
    .ok s ((tget? (s.view m).parse.nodes (byteAt b 0)).getD (le 1 (byteAt b 0) ++ zeros 223))

/-- R128: PARSE_NODE_READ. -/
def cmdParseNodeRead : Cmd :=
  { op := 0x0402, flags := flagsRead true, legal := legalAll, len := lenRec 4 18, changes := fun _ => false,
    body := fun m s => records m 4 (recParseNodeRead m) s }
def execParseNodeRead (m : Msg) (s : State) : Host.Outcome State Fault Refusal := runCommand cmdParseNodeRead m s

def bodyParseLimits (m : Msg) (s : State) : Done :=
  let g := (s.view m).parse
  if 1 < m.p 0 then badParam s 0
  else if m.p 0 = 0 then
    needZero s m (span 1 39) <|
      ok s ([0] ++ le 1 g.nodeLimit ++ le 2 g.byteLimit ++ le 1 g.depthCurrent.toNat ++ zeros 3 ++ g.starts.flatMap (le 1) ++ zeros 4)
  else if !m.stage then refuse s Status.badParam 6
  else if m.p 1 = 0 || 32 < m.p 1 then outOfRange s 1
  else if m.f 2 2 < 64 || 512 < m.f 2 2 then outOfRange s 2
  else if 1 < m.p 4 then badParam s 4
  else needZero s m ([5, 6, 7] ++ span 36 39) <|
    ok (s.stageParse fun g => { g with nodeLimit := m.p 1, byteLimit := m.f 2 2, depthCurrent := m.p 4 == 1,
                                       starts := (List.range 28).map fun i => m.p (8 + i) })

/-- R129: PARSE_LIMITS. -/
def cmdParseLimits : Cmd :=
  { op := 0x0403, flags := flagsIn 1, legal := legalRead fun m => m.p 0 == 0, len := lenIs 40, locks := fun m => m.p 0 == 1,
    changes := fun m => m.p 0 != 0, body := bodyParseLimits }
def execParseLimits (m : Msg) (s : State) : Host.Outcome State Fault Refusal := runCommand cmdParseLimits m s

/-- Targets of a node that can be taken (Table 4.10). -/
def takenTargets (r : Bytes) : List Nat :=
  let nd := nodeOf r
  (if nd.select.isSome then nd.transitions.map (·.2.2) else []) ++ [nd.default]

/-- Nodes of a graph that name a node not VALID, with how many of their targets do. -/
def ParseGraph.dangling (g : ParseGraph) : List (Nat × Nat) :=
  g.nodes.filterMap fun e =>
    let n := ((takenTargets e.2).filter fun t => t < 256 && (tget? g.nodes t).isNone).length
    if n = 0 then none else some (e.1, n)

/-- Nodes reached from a list in at most `fuel` steps. -/
def ParseGraph.reach (g : ParseGraph) : Nat → List Nat → List Nat
  | 0, l => l
  | n + 1, l =>
    let more := (l.flatMap fun k => match tget? g.nodes k with | some r => takenTargets r | none => []).eraseDups.filter fun t =>
      (tget? g.nodes t).isSome && !l.contains t
    if more.isEmpty then l else g.reach n (l ++ more)

/-- The reply of Table 4.10. -/
def ParseGraph.verify (g : ParseGraph) : Bytes :=
  let d := g.dangling
  let starts := g.starts.eraseDups.filter fun t => (tget? g.nodes t).isSome
  let seen := g.reach 256 starts
  let bad := flagByte (g.starts.map fun t => (tget? g.nodes t).isNone)
  le 2 g.nodes.length ++ le 2 ((d.map (·.2)).foldl (· + ·) 0) ++ le 2 ((d.head?.map (·.1)).getD 0xFFFF) ++
    le 2 (g.nodes.length - seen.length) ++ le 4 bad ++ zeros 4

/-- One node of a LOAD_SEAM: its record, or the detail that refuses it. -/
def loadedNode (n : Nat) (tiles : List (Option Bytes)) : Except Nat Bytes :=
  if tiles.any (·.isNone) then .error (0x4000 + n)
  else
    let all := tiles.flatMap fun t => fit 60 (t.getD [])
    let r := all.take 224
    if (all.drop 224).any (· != 0) || byteAt r 0 != n || (nodeFault r).isSome then .error (0x8000 + n) else .ok r

/-- The nodes of a LOAD_SEAM from the payloads of 1,024 tiles. -/
def loadedGraph : Nat → Nat → List (Option Bytes) → Except Nat (Table Bytes)
  | 0, _, _ => .ok []
  | k + 1, n, tiles =>
    match loadedNode n (tiles.take 4) with
    | .error d => .error d
    | .ok r =>
      match loadedGraph k (n + 1) (tiles.drop 4) with
      | .error d => .error d
      | .ok rest => .ok (if bitAt r 1 7 then (n, r) :: rest else rest)

/-- LOAD_SEAM is the work of a COMMAND_ASSIST task (R328, Table 11.2): the command creates it and waits for it, holding the interpreter (R42). -/
def parseLoadSeam (m : Msg) (s : State) : Done :=
  match s.dram.dir.find (m.f 4 4) with
  | none => badParam s 4
  | some i =>
    if s.seamLength i != 1024 then outOfRange s 4
    else match s.newTask TaskType.command (.loadSeam m.ch) with
      | none => refuse s Status.noRoom 0x10
      | some (_, s1) => { ok s1 with waits := some (0, true) }

/-- The load itself, on the task's miner: every tile assayed and every record checked before the shadow's nodes are replaced (R130). -/
def loadNodes (m : Msg) (s : State) : Done :=
  match s.dram.dir.find (m.f 4 4) with
  | none => badParam s 4
  | some i =>
    let (ps, s1) := readCells s.cur {} .miner (s.seamCells i) s
    match loadedGraph 256 0 ps with
    | .error d => refuse s1 Status.badParam d
    | .ok nodes => ok (s1.stageParse fun g => { g with nodes := nodes })

def bodyParseGraphLoad (m : Msg) (s : State) : Done :=
  let noSeam := m.f 4 4 == 0xFFFFFFFF
  if 2 < m.p 0 then badParam s 0
  else needZero s m [1, 2, 3] <|
    if m.p 0 = 2 then
      if noSeam then ok s (s.view m).parse.verify else badParam s 4
    else if !m.stage then refuse s Status.badParam 6
    else if m.p 0 = 0 then
      if noSeam then ok (s.stageParse fun g => { g with nodes := [] }) else badParam s 4
    else parseLoadSeam m s

/-- R130: PARSE_GRAPH_LOAD. -/
def cmdParseGraphLoad : Cmd :=
  { op := 0x0404, flags := flagsIn 1, legal := legalRead fun m => m.p 0 == 2, len := lenIs 8, locks := fun m => m.p 0 ≤ 1,
    changes := fun m => m.p 0 != 2, body := bodyParseGraphLoad }
def execParseGraphLoad (m : Msg) (s : State) : Host.Outcome State Fault Refusal := runCommand cmdParseGraphLoad m s

def bodyParseCounters (m : Msg) (s : State) : Done :=
  if 1 < m.p 0 then badParam s 0
  else if m.p 0 = 0 && m.p 1 != 0 then badParam s 1
  else if 1 < m.p 2 then badParam s 2
  else needZero s m [3] <|
    let clear := m.p 2 == 1
    if m.p 0 = 0 then
      ok (if clear then { s with parse := { s.parse with counters0 := zeroBank s.parse.counters0, counters1 := zeroBank s.parse.counters1 } } else s)
        (bankBytes s.parse.counters0 ++ bankBytes s.parse.counters1)
    else
      ok (if clear then { s with parse := { s.parse with nodes := tdel s.parse.nodes (m.p 1) } } else s)
        (bankBytes ((tget? s.parse.nodes (m.p 1)).getD (List.replicate 5 0)))

/-- R131: PARSE_COUNTERS. -/
def cmdParseCounters : Cmd :=
  { op := 0x0405, legal := legalAll, len := lenIs 4, changes := fun m => m.p 2 == 1, body := bodyParseCounters }
def execParseCounters (m : Msg) (s : State) : Host.Outcome State Fault Refusal := runCommand cmdParseCounters m s

end Sys2Proof.Machine
end

