-- ==== Sys2Proof/Machine/Rules.lean ====
section
/-!
DEFINITION. Rule tables: records and actions, lookups and their merge, builds, the rule store, and the rule commands (spec 05).
-/
namespace Sys2Proof.Machine

/-! Records (R136, R137, R139, R143). -/

def isEgress (t : Nat) : Bool := 16 ≤ t

/-- Faults of an action record, byte by byte (Table 5.3, R139, R143). -/
def actionFault (a : Bytes) (egress : Bool) : Option Nat :=
  let v := byteAt a 0
  let en := byteAt a 1
  let copy := Nat.testBit en 7
  let ring := copy || v == 6 || byteAt a 2 == 2
  let target := if v = 2 then byteAt a 4 ≤ 25 else if v = 5 then byteAt a 4 == 32 || byteAt a 4 == 33 else v == 3 || byteAt a 4 == 0
  firstFault <|
    [(decide (6 < v) || (egress && !(v == 0 || v == 1 || v == 4 || v == 6)), 0), (en % 8 != 0 || (egress && en &&& 0x28 != 0), 1),
     (decide (2 < byteAt a 2) || (egress && byteAt a 2 != 0), 2), (byteAt a 3 != 0xFF && (decide (7 < byteAt a 3) || egress), 3),
     (!target, 4), (v != 3 && byteAt a 5 != 0, 5), (byteAt a 6 != 0, 6), (byteAt a 7 != 0, 7)] ++
    (if egress then [(byteAt a 8 != 0xFF, 8), (byteAt a 9 != 0xFF, 9), (byteAt a 10 != 0xFF, 10)] else []) ++
    [(decide (7 < byteAt a 11) || (!ring && byteAt a 11 != 0), 11), (decide (15 < byteAt a 12) || (!Nat.testBit en 6 && byteAt a 12 != 0), 12),
     (decide (7 < byteAt a 13) || (!Nat.testBit en 5 && byteAt a 13 != 0), 13),
     (decide (63 < byteAt a 14) || (!Nat.testBit en 4 && byteAt a 14 != 0), 14), (byteAt a 15 != 0, 15)] ++
    (if Nat.testBit en 3 then [] else zeroFaults a (span 16 23))

def segmentsWidth (segs : List (Nat × Nat)) : Nat := (segs.map (·.2)).foldl (· + ·) 0

/-- Faults of a rule record for a key of `w` bytes (R136, R137, R139). -/
def ruleFault (r : Bytes) (w : Nat) (egress : Bool) : Option Nat :=
  match firstFault <|
    [(fieldLe r 0 4 == 0xFFFFFFFF, 0), (byteAt r 6 &&& 0xBF != 0x80, 6), (byteAt r 7 != 0, 7)] ++
    ((List.range 40).map fun i => (byteAt r (8 + i) &&& (0xFF ^^^ byteAt r (48 + i)) != 0 || (decide (w ≤ i) && byteAt r (8 + i) != 0), 8 + i)) ++
    ((List.range 40).map fun i => (decide (w ≤ i) && byteAt r (48 + i) != 0, 48 + i)) with
  | some i => some i
  | none =>
    match actionFault (slice r 88 24) egress with
    | some i => some (88 + i)
    | none => firstFault (zeroFaults r (span 112 119))

def ruleId (r : Bytes) : Nat := fieldLe r 0 4
def rulePriority (r : Bytes) : Nat := fieldLe r 4 2
def ruleCounts (r : Bytes) : Bool := bitAt r 6 6
def ruleMask (r : Bytes) : Bytes := slice r 48 40

/-- An action's entry lies beyond the action region (R363). -/
def State.entryBeyond (s : State) (a : Bytes) : Bool := fieldLe a 8 3 != 0xFFFFFF && decide (s.regionSize 1 ≤ fieldLe a 8 3)

/-! Lookup and merge (R133-R142). -/

/-- A table's key over the match vector (R135). -/
def keyOf (segs : List (Nat × Nat)) (mv : Bytes) : Bytes := segs.flatMap fun g => slice mv g.1 g.2

/-- A rule matches a key of `w` bytes (R137). -/
def ruleMatches (r key : Bytes) (w : Nat) : Bool :=
  (List.range w).all fun i => byteAt key i &&& byteAt r (48 + i) == byteAt r (8 + i)

/-- Rule order (R138): priority, then ID. -/
def ruleBefore (a b : Bytes) : Bool :=
  rulePriority a < rulePriority b || (rulePriority a == rulePriority b && ruleId a < ruleId b)

/-- The winner among the matching rules of a table. -/
def RuleTable.find (t : RuleTable) (mv : Bytes) : Option Bytes :=
  let key := keyOf t.segments mv
  let w := segmentsWidth t.segments
  t.rules.foldl (fun best r =>
    if ruleMatches r key w && (match best with | some b => ruleBefore r b | none => true) then some r else best) none

/-- A version of a table awaits repair (R155). -/
def State.repairing (s : State) (t : RuleTable) : Bool := s.rule.storeBad.any fun b => inRuns t.store b

def State.ruleTableCount (s : State) (t i : Nat) : State :=
  { s with rule := { s.rule with tables := alter s.rule.tables t fun b => bump b i } }
def State.rulePipeCount (s : State) (pipe : Bool) (i : Nat) : State :=
  { s with rule := { s.rule with pipes := alter s.rule.pipes pipe.toNat fun b => bump b i } }

def counterKey (table id : Nat) : Nat := table * 2 ^ 32 + id

/-- Count a packet against a rule with COUNT (R144). -/
def State.ruleCount (s : State) (table : Nat) (r : Bytes) (len : Nat) : State :=
  if ruleCounts r then
    let k := counterKey table (ruleId r)
    let c := (tget? s.rule.counters k).getD (0, 0)
    { s with rule := { s.rule with counters := tset s.rule.counters k (c.1 + 1, c.2 + BitVec.ofNat 64 len) } }
  else s

/-- One lookup (R138, R142, R155): the action it returns, with its counts. -/
def State.lookup (s : State) (table : Nat) (t : RuleTable) (mv : Bytes) (len : Nat) : Bytes × State :=
  let s1 := s.ruleTableCount table 0
  if s.repairing t then (t.miss, s1.ruleTableCount table 3)
  else match t.find mv with
    | some r => (slice r 88 24, (s1.ruleTableCount table 1).ruleCount table r len)
    | none => (t.miss, s1.ruleTableCount table 2)

/-- The ingress table a pass looks up in a slot (R132, R133). -/
def ingressTable (v : Staged) (slot pass : Nat) : Option (Nat × RuleTable) :=
  v.rule.tables.find? fun e => e.1 < 16 && e.2.slot == slot && Nat.testBit e.2.passMask (pass - 1)

/-- The counters that a packet's lookups count against (R144). -/
def State.countKeys (s : State) (mv : Bytes) (tables : List (Nat × RuleTable)) : List Nat :=
  tables.filterMap fun x => if s.repairing x.2 then none else (x.2.find mv).bind fun r => if ruleCounts r then some (counterKey x.1 (ruleId r)) else none

/-- The bytes of a frame whose end is known are added to the counters it was counted against (R144). -/
def State.addOctets (s : State) (keys : List Nat) (len : Nat) : State :=
  keys.foldl (fun s k => match tget? s.rule.counters k with
    | some c => { s with rule := { s.rule with counters := tset s.rule.counters k (c.1, c.2 + BitVec.ofNat 64 len) } }
    | none => s) s

/-- The lookups of a list of tables, in slot order: their actions. -/
def runLookups (mv : Bytes) (len : Nat) : List (Nat × RuleTable) → State → List Bytes × State
  | [], s => ([], s)
  | (k, t) :: rest, s =>
    let (a, s1) := s.lookup k t mv len
    let (as, s2) := runLookups mv len rest s1
    (a :: as, s2)

/-- The first action of the list whose modifier bit `k` is set (R140). -/
def enabled (as : List Bytes) (k : Nat) : Option Bytes := as.find? fun a => bitAt a 1 k

/-- Merge of a pass's results in slot order (R140). -/
def mergeActions (as : List Bytes) : RuleResult :=
  let win := as.find? fun a => byteAt a 0 != 0
  let verdict := if as.any (fun a => byteAt a 0 == 4) then 4 else match win with | some a => byteAt a 0 | none => 1
  let w := win.getD []
  let binds := as.find? fun a => byteAt a 3 != 0xFF
  { verdict := verdict, target := if verdict = 3 then fieldLe w 4 4 else byteAt w 4, ring := byteAt w 11,
    copy := (enabled as 7).map fun a => byteAt a 11, mirror := (enabled as 6).map fun a => byteAt a 12,
    setClass := (enabled as 5).map fun a => byteAt a 13, setDscp := (enabled as 4).map fun a => byteAt a 14,
    binding := binds.map fun a => (byteAt a 3, byteAt a 2, fieldLe a 8 3, byteAt a 11) }

/-- Metadata after a pass (R140 step 3): from the last slot to the first. -/
def mergeMeta (md : Nat) (as : List Bytes) : Nat :=
  as.foldr (fun a m => if bitAt a 1 3 then (m &&& (0xFFFFFFFF ^^^ fieldLe a 20 4)) ||| (fieldLe a 16 4 &&& fieldLe a 20 4) else m) md

/-- The match vector (Table 5.1). Output port, class, subscriber and bits are zero on ingress. -/
def matchVector (kv : Bytes) (pass inPort len md : Nat) (egress : Option (Nat × Nat × Option Nat × Bool × Bool)) : Bytes :=
  fit 128 kv ++ le 1 pass ++ le 1 inPort ++ le 2 len ++ le 4 md ++
    (match egress with
     | some (port, cls, sub, copy, translated) =>
       le 1 port ++ le 1 cls ++ le 3 (sub.getD 0xFFFFFF) ++ le 1 (flagByte [translated, copy])
     | none => zeros 6) ++ zeros 18

/-! What versions hold: rule store, source seams, counters (R144, R147, R152). -/

def State.heldTables (s : State) : List RuleTable := s.versions.flatMap fun v => v.rule.tables.map (·.2)
def State.runningProfiles (s : State) : List RuleTable := s.rule.builds.filterMap fun b => if b.state == .running then b.profile else none

def tilesOfRuns (rs : List (Nat × Nat)) : List Nat := rs.flatMap fun r => (List.range r.2).map (r.1 + ·)
/-- Tiles in order as runs. -/
def runsOfTiles (ts : List Nat) : List (Nat × Nat) :=
  ts.foldr (fun t rs => match rs with | (f, n) :: rest => if t + 1 = f then (t, n + 1) :: rest else (t, 1) :: rs | [] => [(t, 1)]) []

/-- Device tiles of a source seam in order. -/
def State.sourceTiles (s : State) (t : RuleTable) : List Nat :=
  match t.source with | some d => tilesOfRuns (s.dram.dir.runs 1 d) | none => []

/-- Tiles that some version's source seam holds. -/
def State.sourcesHeld (s : State) : List Nat := s.heldTables.flatMap s.sourceTiles

/-- The free rule store: what no version and no running build holds, less the retired tiles. -/
def State.freeStore (s : State) : List (Nat × Nat) :=
  let held := (s.heldTables ++ s.runningProfiles).flatMap (·.store)
  cutRun (0, 196608) (held ++ s.rule.storeRetired.map fun t => (t, 1))

/-- The counters kept: those whose ID some version holds. -/
def State.keptCounters (s : State) : Table (W64 × W64) :=
  s.rule.counters.filter fun c => s.versions.any fun v =>
    match tget? v.rule.tables (c.1 / 2 ^ 32) with | some t => t.rules.any (fun r => ruleId r == c.1 % 2 ^ 32) | none => false

/-- Release what no version holds any longer: source seams with their tiles, rule-store seams, store tiles and counters. -/
def State.settleRules (s : State) : State :=
  let tables := s.heldTables ++ s.runningProfiles
  let live := s.sourcesHeld
  let dead := s.dram.dir.used.filter fun e =>
    match e.2.body with
    | .pieces _ => !tables.any fun t => t.source == some e.1
    | .store _ => !tables.any fun t => t.root == e.1
    | _ => false
  let s1 := dead.foldl (fun s e =>
    let gone := match e.2.body with | .pieces rs => runsOfTiles ((tilesOfRuns rs).filter fun t => !live.contains t) | _ => []
    let s1 := { s with dram := { s.dram with dir := s.dram.dir.drop e.1 } }
    gone.foldl State.releaseRun s1) s
  { s1 with rule := { s1.rule with storeFree := s1.freeStore, counters := s1.keptCounters } }

/-- Tiles of a slot table that the shadow holds of its own (R257): those that differ from the current version's, or all 69 of a new group. -/
def slotTilesChanged (cur shadow : Table Group) : Nat :=
  shadow.foldl (fun n e =>
    match tget? cur e.1 with
    | some g => n + ((List.range 69).filter fun k => (g.slots.drop (60 * k)).take 60 != (e.2.slots.drop (60 * k)).take 60).length
    | none => n + 69) 0

/-- Device-memory tiles the shadow holds through copy-on-write (R70): changed source tiles, action entries, subscriber tiles and slot tables. -/
def State.cowTiles (s : State) : Nat :=
  let rules := s.shadow.rule.tables.foldl (fun n e =>
    match tget? s.cur.rule.tables e.1 with
    | some c => if c.build = e.2.build then n + ((s.sourceTiles e.2).filter fun t => !(s.sourceTiles c).contains t).length else n
    | none => n) 0
  let diff (a b : Table Bytes) : Nat := (b.filter fun e => tget? a e.1 != some e.2).length + (a.filter fun e => (tget? b e.1).isNone).length
  rules + diff s.cur.nat.actions s.shadow.nat.actions + diff s.cur.nat.subs s.shadow.nat.subs +
    slotTilesChanged s.cur.nat.groups s.shadow.nat.groups

/-! Making a source seam. -/

/-- Write a rule's two tiles (R148). -/
def State.putRule (s : State) (a b : Nat) (r : Bytes) : State := (s.putTile a (slice r 0 60)).putTile b (slice r 60 60)

def putRules : List Nat → List Bytes → State → State
  | a :: b :: ts, r :: rs, s => putRules ts rs (s.putRule a b r)
  | _, _, s => s

/-- Take tiles from free device memory. -/
def State.takeTiles (s : State) (n : Nat) : Option (List Nat × State) :=
  if n = 0 then some ([], s)
  else (allocRuns s.dram.free n).map fun a => (tilesOfRuns a.1, { s with dram := { s.dram with free := a.2 } })

/-- A source seam over tiles in order; none of an empty list. -/
def State.newSource (s : State) (ts : List Nat) : Option Nat × State :=
  if ts.isEmpty then (none, s)
  else
    let (i, s1) := s.newSeam { body := .pieces (runsOfTiles ts), host := false, owns := false }
    (some i, s1)

/-! RULE_LOAD (R161). -/

def State.stageRule (s : State) (t : Nat) (x : RuleTable) : State :=
  s.stageWith fun v => { v with rule := { v.rule with tables := tset v.rule.tables t x } }

/-- Counters held by (table, ID), with the new ones of a list of rules (R144). -/
def State.withCounters (s : State) (table : Nat) (rs : List Bytes) : Table (W64 × W64) :=
  rs.foldl (fun t r => let k := counterKey table (ruleId r); if ruleCounts r && (tget? t k).isNone then tset t k (0, 0) else t) s.rule.counters

/-- Distinct masks of a list of rules. -/
def masksOf (rs : List Bytes) : Nat := (rs.map ruleMask).eraseDups.length

/-! Copy-on-write of rule-store tiles (R145). -/

/-- Runs with another tile at place `p`. -/
def replacePlace : List (Nat × Nat) → Nat → Nat → List (Nat × Nat)
  | [], _, _ => []
  | (f, n) :: rest, p, t =>
    if p < n then ([(f, p), (t, 1), (f + p + 1, n - p - 1)].filter fun r => r.2 != 0) ++ rest else (f, n) :: replacePlace rest (p - n) t

/-- The version of a table in every live or shadow version but the shadow. -/
def State.otherVersions (s : State) : List RuleTable :=
  (s.cur :: (match s.drain with | some d => [d.tables] | none => [])).flatMap fun v => v.rule.tables.map (·.2)

/-- A free rule-store tile is taken and written: whatever fault it had is gone. -/
def RuleLive.takeFree (x : RuleLive) (f : Nat) : RuleLive :=
  { x with storeFree := dropIndex x.storeFree f, storeBad := x.storeBad.filter (· != f) }

/-- A place of the shadow's structure changes: on its own tile, or on a free one where another version shares the tile. With none free the
tile stays shared. -/
def State.cowPlace (x : RuleTable × State) (p : Nat) : RuleTable × State :=
  let (t, s) := x
  let tile := tileAt t.store p
  match s.rule.storeFree with
  | (f, _) :: _ =>
    if s.otherVersions.any fun v => inRuns v.store tile then
      ({ t with store := replacePlace t.store p f }, { s with rule := s.rule.takeFree f })
    else x
  | [] => x

/-- The root seam of a changed structure: its own descriptor, or a new one where another version shares it. -/
def State.cowRoot (s : State) (t : RuleTable) : RuleTable × State :=
  if s.otherVersions.any fun v => v.root == t.root then
    let (i, s1) := s.newSeam { body := .store t.store, host := false, owns := false }
    ({ t with root := i }, s1)
  else
    match tget? s.dram.dir.used t.root with
    | some x => (t, { s with dram := { s.dram with dir := { s.dram.dir with used := tset s.dram.dir.used t.root { x with body := .store t.store } } } })
    | none => (t, s)

/-- An edit of rule `i` of the shadow's structure changes the rule's tile and that of its mask. The layout is not documented; which places these
are is the model's (DESIGN CHOICE, log 140): 16 tiles, then MAX_MASKS masks, then the rules. -/
def State.editStore (s : State) (t : RuleTable) (i : Nat) (r : Bytes) (rules : List Bytes) : RuleTable × State :=
  let mask := ((rules.map ruleMask).eraseDups.findIdx? (· == ruleMask r)).getD 0
  let (t1, s1) := State.cowPlace (State.cowPlace (t, s) (16 + t.maxMasks + i)) (16 + mask)
  s1.cowRoot t1

/-- Descriptors an edit needs: a new source seam, and a new root seam where the present one is shared. -/
def State.editDescs (s : State) (t : RuleTable) : Nat := if s.otherVersions.any fun v => v.root == t.root then 2 else 1

/-- The record of an INSERT takes effect: on its own tiles where only the shadow holds them, else on new ones (R145, R152). -/
def State.insertRule (s : State) (t : Nat) (x : RuleTable) (r : Bytes) : RecAns :=
  let ts := s.sourceTiles x
  let at_ := x.rules.findIdx? fun q => ruleId q == ruleId r
  let others := s.otherVersions.flatMap s.sourceTiles
  let own := match at_ with
    | some i => !others.contains (ts.getD (2 * i) 0) && !others.contains (ts.getD (2 * i + 1) 0)
    | none => false
  let mine := match at_ with | some i => [ts.getD (2 * i) 0, ts.getD (2 * i + 1) 0] | none => []
  match (if own then some (mine, s) else s.takeTiles 2) with
  | none => .refuse Status.noRoom 5
  | some (two, s1) =>
    if s1.dram.dir.freeCount < s.editDescs x then .refuse Status.noRoom 8
    else
      let i := at_.getD x.rules.length
      let ts' := ts.take (2 * i) ++ two ++ ts.drop (2 * i + 2)
      let rules' := match at_ with | some i => x.rules.set i r | none => x.rules ++ [r]
      let (src, s2) := (s1.putRule (two.getD 0 0) (two.getD 1 0) r).newSource ts'
      let s3 := { s2 with rule := { s2.rule with counters := s2.withCounters t [r] } }
      let (x1, s4) := s3.editStore x i r rules'
      .ok (s4.stageRule t { x1 with rules := rules', source := src }).settleRules []

/-- The record of a DELETE takes effect: the deleted rule's tile becomes the last of the rules' places. -/
def State.deleteRule (s : State) (t : Nat) (x : RuleTable) (i : Nat) : RecAns :=
  let ts := s.sourceTiles x
  if s.dram.dir.freeCount < s.editDescs x then .refuse Status.noRoom 8
  else
    let (src, s1) := s.newSource (ts.take (2 * i) ++ ts.drop (2 * i + 2))
    let (x1, s2) := s1.editStore x i (x.rules.getD i []) x.rules
    let tile := tileAt x1.store (16 + x.maxMasks + i)
    let (x2, s3) := s2.cowRoot { x1 with store := dropIndex x1.store tile ++ [(tile, 1)] }
    .ok (s3.stageRule t { x2 with rules := x.rules.eraseIdx i, source := src }).settleRules []

def State.building (s : State) (t : Nat) : Bool := (s.rule.builds.getD t Build.reset).state == .running

def recRuleLoad (m : Msg) (s : State) (b : Bytes) (base : Nat) : RecAns :=
  let t := byteAt b 0
  let op := byteAt b 1
  let r := slice b 8 120
  if !m.stage then noStage
  else match tget? s.shadow.rule.tables t with
    | none => .refuse Status.badParam base
    | some x =>
      if s.building t then .refuse Status.badParam base
      else if !(op = 1 || op = 2) then .refuse Status.badParam (base + 1)
      else recZero b base (span 2 7) <|
        if op = 2 then
          recZero b base (span 12 127) <|
            match x.rules.findIdx? (fun q => ruleId q == ruleId r) with
            | none => .refuse Status.range (base + 8)
            | some i => s.deleteRule t x i
        else match ruleFault r (segmentsWidth x.segments) (isEgress t) with
          | some i => .refuse Status.badParam (base + 8 + i)
          | none =>
            let rest := x.rules.filter fun q => ruleId q != ruleId r
            if s.entryBeyond (slice r 88 24) then .refuse Status.range (base + 104)
            else if x.maxRules ≤ rest.length then .refuse Status.noRoom 2
            else if x.maxMasks < masksOf (rest ++ [r]) then .refuse Status.noRoom 4
            else if 163840 < (s.withCounters t [r]).length then .refuse Status.noRoom 3
            else s.insertRule t x r

/-- R161: RULE_LOAD. -/
def cmdRuleLoad : Cmd :=
  { op := 0x0501, flags := flagsIn 5, legal := legalRun, len := lenRec 128 31, locks := fun _ => true, changes := fun _ => true,
    body := fun m s => records m 128 (recRuleLoad m) s }
def execRuleLoad (m : Msg) (s : State) : Host.Outcome State Fault Refusal := runCommand cmdRuleLoad m s

/-! RULE_BUILD and its completion (R145-R151, R162). -/

/-- The segments named in a RULE_BUILD, and the first fault among their bytes. -/
def segFaults (m : Msg) : List (Bool × Nat) :=
  (List.range 8).flatMap fun i =>
    let o := 24 + 2 * i
    if i < m.p 3 then
      [(decide (159 < m.p o), o), (decide (m.p (o + 1) = 0 || 40 < m.p (o + 1) || 160 < m.p o + m.p (o + 1)), o + 1)]
    else [(m.p o != 0, o), (m.p (o + 1) != 0, o + 1)]

def segsOf (m : Msg) : List (Nat × Nat) := (List.range (m.p 3)).map fun i => (m.p (24 + 2 * i), m.p (25 + 2 * i))

/-- Tables other than `t` as they stand in the shadow, and as running builds will stage them: a profile must fit with both, however each
build ends (R133, R146). -/
def State.otherTables (s : State) (t : Nat) : List (Nat × RuleTable) :=
  let built := (s.rule.builds.zipIdx).filterMap fun b => if b.1.state == .running then b.1.profile.map fun p => (b.2, p) else none
  (built ++ s.shadow.rule.tables).filter fun e => e.1 != t

/-- The most rules that a list of tables can come to: of each table the larger MAX_RULES. -/
def rulesSum (l : List (Nat × RuleTable)) : Nat :=
  (l.map (·.1)).eraseDups.foldl (fun n k => n + (l.filter (·.1 == k)).foldl (fun m e => max m e.2.maxRules) 0) 0

/-- Faults of a profile (R132, R133, R135, R146), as parameter offsets. -/
def State.profileFault (s : State) (m : Msg) : Option Nat :=
  let t := m.p 0
  let eg := isEgress t
  let others := s.otherTables t
  let sum := rulesSum (others.filter fun e => isEgress e.1 == eg)
  let clash := !eg && others.any fun e => !isEgress e.1 && e.2.slot == m.p 1 && e.2.passMask &&& m.p 2 != 0
  firstFault <|
    [(decide (3 < m.p 1) || (eg && m.p 1 != 0), 1), (decide (15 < m.p 2) || (eg && m.p 2 != 0), 2), (decide (8 < m.p 3), 3),
     (decide (m.f 4 4 = 0 || 65536 < m.f 4 4), 4), (decide (m.f 8 2 = 0 || 2048 < m.f 8 2), 8)] ++
    ([10, 11, 20, 21, 22, 23].map fun i => (m.p i != 0, i)) ++ segFaults m ++
    [(decide (40 < segmentsWidth (segsOf m)), 24)] ++
    ((actionFault (slice m.params 40 24) eg).map fun i => (true, 40 + i)).toList ++
    [(clash, 2), (decide ((if eg then 16384 else 65536) < sum + m.f 4 4), 4)]

/-- Put a build's record. -/
def State.setBuild (s : State) (t : Nat) (b : Build) : State := { s with rule := { s.rule with builds := s.rule.builds.set t b } }

/-- Accept a build: its footprint, its descriptors and its tasks are held. -/
def State.startBuild (s : State) (m : Msg) (list : Option Nat) : Done :=
  let t := m.p 0
  let n := m.f 16 4
  let need := m.f 4 4 + m.f 8 2 + 16
  let descs := if n = 0 then 1 else 2
  match allocRuns s.rule.storeFree need with
  | none => refuse s Status.noRoom 1
  | some (rs, _) =>
    if s.dram.dir.freeCount < descs then refuse s Status.noRoom 8
    else match State.newTasks TaskType.seamBuild (.ruleBuild t) (min 8 (s.typeCfg TaskType.seamBuild).maxMiners) s with
      | none => refuse s Status.noRoom 0x10
      | some s1 =>
        let (root, s2) := s1.newSeam { body := .store rs, host := false, owns := false }
        let seq := s.rule.sequence + 1
        let p : RuleTable :=
          { slot := m.p 1, passMask := m.p 2, segments := segsOf m, maxRules := m.f 4 4, maxMasks := m.f 8 2, rules := [],
            miss := slice m.params 40 24, source := none, store := rs, root := root, build := seq }
        let s3 := s2.setBuild t { state := .running, reason := 0, processed := 0, ordinal := none, start := s.now, tookMs := 0,
                                  profile := some p, list := list, count := n }
        let s4 := { s3 with rule := { s3.rule with sequence := seq },
                            dram := { s3.dram with dir := { s3.dram.dir with reserved := s3.dram.dir.reserved + (descs - 1) } } }
        ok { s4 with rule := { s4.rule with storeFree := s4.freeStore } } (le 4 seq)

def bodyRuleBuild (m : Msg) (s : State) : Done :=
  let t := m.p 0
  let h := m.f 12 4
  let n := m.f 16 4
  if !m.stage then refuse s Status.badParam 6
  else if 19 < t || s.building t then badParam s 0
  else if (m.params.drop 1).all (· == 0) then
    ok ((s.stageWith fun v => { v with rule := { v.rule with tables := tdel v.rule.tables t } }).settleRules) (zeros 4)
  else match s.profileFault m with
    | some i => badParam s i
    | none =>
      if s.entryBeyond (slice m.params 40 24) then outOfRange s 48
      else if m.f 4 4 < n then outOfRange s 16
      else
        let list := s.dram.dir.find h
        if h != 0xFFFFFFFF && list.isNone then badParam s 12
        else if (match list with | some i => if h = 0xFFFFFFFF then 0 else s.seamLength i | none => 0) != 2 * n then outOfRange s 12
        else if 4 ≤ (s.rule.builds.filter fun b => b.state == .running).length then refuse s Status.noRoom 6
        else s.startBuild m (if h = 0xFFFFFFFF then none else list)

/-- R162: RULE_BUILD. -/
def cmdRuleBuild : Cmd :=
  { op := 0x0502, flags := flagsIn 1, legal := legalRun, len := lenIs 64, locks := fun _ => true, changes := fun _ => true,
    body := bodyRuleBuild }
def execRuleBuild (m : Msg) (s : State) : Host.Outcome State Fault Refusal := runCommand cmdRuleBuild m s

/-- The records of a list, from its payloads, checked in list order (R149): the rules, or reason, ordinal and records checked. -/
def checkList (p : RuleTable) (egress : Bool) (beyond : Bytes → Bool) : List (Option Bytes) → Nat → List Bytes → Except (Nat × Nat × Nat) (List Bytes)
  | some a :: some b :: rest, r, acc =>
    let q := fit 60 a ++ fit 60 b
    match ruleFault q (segmentsWidth p.segments) egress with
    | some i => .error (if 88 ≤ i && i < 112 then 6 else 2, 2 * r + (if i < 60 then 0 else 1), r)
    | none =>
      if beyond (slice q 88 24) then .error (6, 2 * r + 1, r)
      else if acc.any fun x => ruleId x == ruleId q then .error (3, 2 * r, r)
      else if p.maxMasks < masksOf (acc ++ [q]) then .error (5, 2 * r, r)
      else checkList p egress beyond rest (r + 1) (acc ++ [q])
  | _, _, acc => .ok acc

/-- What a build's reservation of a source descriptor was. -/
def Build.descs (b : Build) : Nat := if b.count = 0 then 0 else 1

/-- End a build with its reservations released. Its tasks are done, or abandoned. -/
def State.endBuild (s : State) (t : Nat) (b : Build) : State :=
  let s1 := s.setBuild t { b with profile := none, list := none }
  let s2 := { s1 with dram := { s1.dram with dir := { s1.dram.dir with reserved := s1.dram.dir.reserved - b.descs } } }
  if b.state == .abandoned then s2.dropWork (· == .ruleBuild t) else s2.finishWork (· == .ruleBuild t)

def State.failBuild (s : State) (t : Nat) (b : Build) (reason : Nat) (ordinal : Option Nat) (checked : Nat) : State :=
  (s.endBuild t { b with state := .failed, reason := reason, ordinal := ordinal, processed := checked, tookMs := (s.now - b.start) / 1000000 }).settleRules

/-- A build whose list has passed: the source seam is copied and the version staged (R149, R151). -/
def State.stageBuild (s : State) (t : Nat) (b : Build) (p : RuleTable) (rules : List Bytes) : State :=
  match s.takeTiles (2 * rules.length) with
  | none => s.failBuild t b 8 none rules.length
  | some (ts, s1) =>
    let counters := s1.withCounters t rules
    if 163840 < counters.length then s.failBuild t b 8 none rules.length
    else
      let s2 := s1.endBuild t { b with state := .staged, reason := 0, processed := rules.length, ordinal := none,
                                       tookMs := (s.now - b.start) / 1000000 }
      let (src, s3) := (putRules ts rules s2).newSource ts
      let s4 := { s3 with rule := { s3.rule with counters := counters, storeBad := s3.rule.storeBad.filter fun i => !inRuns p.store i } }
      (s4.stageRule t { p with rules := rules, source := src }).settleRules

/-- R149-R151: a rule build completes on its miners, or fails. While the shadow is sealed it stages only after the new shadow opens. -/
def execRuleBuildComplete (table : Nat) (hurt : Upsets) (s : State) : Host.Outcome State Fault Refusal :=
  let b := s.rule.builds.getD table Build.reset
  match b.profile with
  | some p =>
    if s.refreshing || b.state != .running || s.sealed || !s.atWork (.ruleBuild table) then .next s
    else
      let cells := match b.list with | some i => s.seamCells i | none => []
      let (ps, s1) := readCells s.cur hurt .miner cells (s.upset hurt)
      match ps.findIdx? (·.isNone) with
      | some k => done s (s1.failBuild table b 1 (some k) 0)
      | none =>
        match checkList p (isEgress table) s1.entryBeyond ps 0 [] with
        | .error (reason, ordinal, checked) => done s (s1.failBuild table b reason (some ordinal) checked)
        | .ok rules => done s (s1.stageBuild table b p rules)
  | none => .next s

/-! Repair (R155). -/

/-- Change the table versions whose structure has a given root seam. -/
def RuleTables.mapRoot (x : RuleTables) (root : Nat) (f : RuleTable → RuleTable) : RuleTables :=
  { x with tables := x.tables.map fun e => if e.2.root == root then (e.1, f e.2) else e }

def State.mapRoot (s : State) (root : Nat) (f : RuleTable → RuleTable) : State :=
  { s with cur := { s.cur with rule := s.cur.rule.mapRoot root f }, shadow := { s.shadow with rule := s.shadow.rule.mapRoot root f },
           drain := s.drain.map fun d => { d with tables := { d.tables with rule := d.tables.rule.mapRoot root f } } }

/-- One faulting tile of a rebuilt structure is replaced by a free one; with none free it is written anew in its place, unless retired. -/
def State.mendTile (root : Nat) (s : State) (tile : Nat) : State :=
  match s.rule.storeFree with
  | (f, _) :: _ =>
    let swap (t : RuleTable) : RuleTable := { t with store := t.store.flatMap fun r =>
      if r.1 ≤ tile && tile < r.1 + r.2 then replacePlace [r] (tile - r.1) f else [r] }
    let s1 := s.mapRoot root swap
    { s1 with rule := s1.rule.takeFree f }
  | [] =>
    if s.rule.storeRetired.contains tile then s
    else { s with rule := { s.rule with storeBad := s.rule.storeBad.filter (· != tile) } }

/-- A version is rebuilt: it holds no faulting tile any longer, and its root seam is that of its new tiles. What no version holds any longer
returns to the free store, unless retired, and awaits no repair. -/
def State.rebuildRoot (s : State) (root : Nat) (bad : List Nat) : State :=
  let s1 := bad.foldl (State.mendTile root) s
  let held := s1.heldTables
  let s2 := match held.find? (fun t => t.root == root), tget? s1.dram.dir.used root with
    | some t, some x => { s1 with dram := { s1.dram with dir := { s1.dram.dir with used := tset s1.dram.dir.used root { x with body := .store t.store } } } }
    | _, _ => s1
  let s3 := { s2 with rule := { s2.rule with storeBad := s2.rule.storeBad.filter fun b => held.any fun t => inRuns t.store b } }
  { s3 with rule := { s3.rule with storeFree := s3.freeStore } }

/-- R155: a table version that holds a faulting rule-store tile is rebuilt from its source seam, by its task; other versions that share the
tile are rebuilt by their own. A source tile that fails assay leaves the version repairing. -/
def execRuleStoreRepair (tile : Nat) (s : State) : Host.Outcome State Fault Refusal :=
  match s.heldTables.find? (fun t => inRuns t.store tile && s.atWork (.ruleRepair t.root)) with
  | some t =>
    if s.refreshing || !s.rule.storeBad.contains tile then .next s
    else
      let (ps, s1) := readTiles .miner (s.sourceTiles t) s
      if ps.any (·.isNone) then done s s1
      else done s (s1.rebuildRoot t.root (s1.rule.storeBad.filter fun b => inRuns t.store b))
  | none => .next s

/-- DISCARD ends every running build and withdraws every staged one as ABANDONED (R153). -/
def State.abandonBuilds (s : State) : State :=
  (List.range 20).foldl (fun s t =>
    let b := s.rule.builds.getD t Build.reset
    if b.state == .running then s.endBuild t { b with state := .abandoned, reason := 7, ordinal := none, tookMs := (s.now - b.start) / 1000000 }
    else if b.state == .staged then s.setBuild t { b with state := .abandoned, reason := 7 }
    else s) s

/-- A commit applies the staged builds (R163). -/
def State.applyBuilds (s : State) : State :=
  { s with rule := { s.rule with builds := s.rule.builds.map fun b => if b.state == .staged then { b with state := .none } else b } }

/-! The other commands (R163-R167). -/

def BuildState.code : BuildState → Nat | .none => 0 | .running => 1 | .staged => 2 | .failed => 3 | .abandoned => 4

/-- An entry of Table 5.11. How far a running build has come the spec leaves open, up to its count. -/
def State.buildEntry (s : State) (t : Nat) : Bytes :=
  let b := s.rule.builds.getD t Build.reset
  let c := tget? s.cur.rule.tables t
  let h := tget? s.shadow.rule.tables t
  let repair := s.versions.any fun v => match tget? v.rule.tables t with | some x => s.repairing x | none => false
  let run := b.state == .running
  let rules (x : Option RuleTable) : Nat := match x with | some y => y.rules.length | none => 0
  let held := match h with | some p => runsLength p.store | none => 0
  le 1 t ++ le 1 (if repair && !run then 5 else b.state.code) ++ le 1 b.reason ++ le 1 (flagByte [c.isSome, h.isSome]) ++
    le 4 (if run then (Config.freeWord (s.free + t)).toNat % (b.count + 1) else b.processed) ++ le 4 (b.ordinal.getD 0xFFFFFFFF) ++
    le 4 (if run then (s.now - b.start) / 1000000 else b.tookMs) ++ le 4 (rules c) ++ le 4 (rules h) ++
    s.handleField (c.bind (·.source)) ++ le 4 held

def bodyRuleBuildStatus (m : Msg) (s : State) : Done :=
  if 19 < m.p 0 && m.p 0 != 0xFF then badParam s 0
  else needZero s m [1, 2, 3] <|
    let ts := if m.p 0 = 0xFF then List.range 20 else [m.p 0]
    ok { s with free := s.free + 20 }
      (le 4 (runsLength s.rule.storeFree) ++ le 4 s.rule.storeRetired.length ++
        le 1 (s.rule.builds.filter fun b => b.state == .running).length ++ zeros 7 ++ ts.flatMap s.buildEntry)

/-- R163: RULE_BUILD_STATUS. -/
def cmdRuleBuildStatus : Cmd :=
  { op := 0x0503, legal := legalAll, len := lenIs 4, changes := fun _ => false, body := bodyRuleBuildStatus }
def execRuleBuildStatus (m : Msg) (s : State) : Host.Outcome State Fault Refusal := runCommand cmdRuleBuildStatus m s

/-- Insert a rule in the order of R138. -/
def insertOrdered (r : Bytes) : List Bytes → List Bytes
  | [] => [r]
  | x :: xs => if ruleBefore r x then r :: x :: xs else x :: insertOrdered r xs

def RuleTable.ordered (t : RuleTable) : List Bytes := t.rules.foldr insertOrdered []

def bodyRuleRead (m : Msg) (s : State) : Done :=
  if 19 < m.p 0 then badParam s 0
  else if 1 < m.p 1 then badParam s 1
  else if m.p 2 = 0 || 33 < m.p 2 then outOfRange s 2
  else needZero s m (3 :: span 8 11) <|
    match tget? (s.view m).rule.tables (m.p 0) with
    | none => badParam s 0
    | some t =>
      let l := t.ordered
      let k := if m.p 1 = 1 then l.findIdx? (fun r => ruleId r == m.f 4 4) else if m.f 4 4 < l.length then some (m.f 4 4) else none
      match k with
      | none => outOfRange s 4
      | some k =>
        let next := if k + m.p 2 < l.length then k + m.p 2 else 0xFFFFFFFF
        ok s (le 4 l.length ++ le 4 next ++ ((l.drop k).take (m.p 2)).flatten)

/-- R164: RULE_READ. -/
def cmdRuleRead : Cmd :=
  { op := 0x0504, flags := flagsRead false, legal := legalAll, len := lenIs 12, changes := fun _ => false, body := bodyRuleRead }
def execRuleRead (m : Msg) (s : State) : Host.Outcome State Fault Refusal := runCommand cmdRuleRead m s

def bodyRuleDefault (m : Msg) (s : State) : Done :=
  let t := m.p 0
  let a := slice m.params 4 24
  if !m.stage then refuse s Status.badParam 6
  else if 19 < t then badParam s 0
  else needZero s m [1, 2, 3] <|
    if s.building t then badParam s 0
    else match tget? s.shadow.rule.tables t with
      | none => badParam s 0
      | some x =>
        match actionFault a (isEgress t) with
        | some i => badParam s (4 + i)
        | none => if s.entryBeyond a then outOfRange s 12 else ok (s.stageRule t { x with miss := a })

/-- R165: RULE_DEFAULT. -/
def cmdRuleDefault : Cmd :=
  { op := 0x0505, flags := flagsIn 1, legal := legalRun, len := lenIs 28, locks := fun _ => true, changes := fun _ => true,
    body := bodyRuleDefault }
def execRuleDefault (m : Msg) (s : State) : Host.Outcome State Fault Refusal := runCommand cmdRuleDefault m s

/-- Rule counters from an ID on (mode 0x00). -/
def ruleCountersFrom (s : State) (m : Msg) : Done :=
  let l := (s.rule.counters.filter fun c => counterKey (m.p 0) (m.f 4 4) ≤ c.1 && c.1 < counterKey (m.p 0 + 1) 0)
  let es := l.take (m.p 3)
  let next := match l.drop (m.p 3) with | e :: _ => e.1 % 2 ^ 32 | [] => 0xFFFFFFFF
  let out := le 4 es.length ++ le 4 next ++ es.flatMap fun e => le 4 e.1 ++ le 8 e.2.1.toNat ++ le 8 e.2.2.toNat
  ok (if m.p 2 = 1 then
      { s with rule := { s.rule with counters := s.rule.counters.map fun c => if es.any fun e => e.1 == c.1 then (c.1, 0, 0) else c } }
    else s) out

def bodyRuleCounters (m : Msg) (s : State) : Done :=
  let mode := m.p 1
  if 2 < mode then badParam s 1
  else if (if mode = 2 then 1 else 19) < m.p 0 then badParam s 0
  else if 1 < m.p 2 then badParam s 2
  else if mode = 0 then (if m.p 3 = 0 || 200 < m.p 3 then outOfRange s 3 else ruleCountersFrom s m)
  else needZero s m (span 3 7) <|
    if mode = 1 then
      ok (if m.p 2 = 1 then { s with rule := { s.rule with tables := alter s.rule.tables (m.p 0) zeroBank } } else s)
        (bankBytes (s.rule.tables.getD (m.p 0) []))
    else
      ok (if m.p 2 = 1 then { s with rule := { s.rule with pipes := alter s.rule.pipes (m.p 0) zeroBank } } else s)
        (bankBytes (s.rule.pipes.getD (m.p 0) []))

/-- R166: RULE_COUNTERS. -/
def cmdRuleCounters : Cmd :=
  { op := 0x0506, legal := legalAll, len := lenIs 8, changes := fun m => m.p 2 == 1, body := bodyRuleCounters }
def execRuleCounters (m : Msg) (s : State) : Host.Outcome State Fault Refusal := runCommand cmdRuleCounters m s

def bodyRecircConfig (m : Msg) (s : State) : Done :=
  let r := (s.view m).rule.recirc
  let ceilBad (o : Nat) : Bool := m.f o 2 = 0 || 400 < m.f o 2
  if 1 < m.p 0 then badParam s 0
  else if m.p 0 = 0 then
    needZero s m (span 1 7) <|
      ok s ([0] ++ le 1 r.maxPasses ++ le 1 r.toHost.toNat ++ le 1 r.ring ++ le 2 r.ceil32 ++ le 2 r.ceil33)
  else if !m.stage then refuse s Status.badParam 6
  else if m.p 1 = 0 || 4 < m.p 1 then outOfRange s 1
  else if 1 < m.p 2 then outOfRange s 2
  else if 7 < m.p 3 then outOfRange s 3
  else if ceilBad 4 then outOfRange s 4
  else if ceilBad 6 then outOfRange s 6
  else
    ok (s.stageWith fun v => { v with rule := { v.rule with recirc :=
      { maxPasses := m.p 1, toHost := m.p 2 == 1, ring := m.p 3, ceil32 := m.f 4 2, ceil33 := m.f 6 2 } } })

/-- R167: RECIRC_CONFIG. -/
def cmdRecircConfig : Cmd :=
  { op := 0x0507, flags := flagsIn 1, legal := legalRead fun m => m.p 0 == 0, len := lenIs 8, locks := fun m => m.p 0 == 1,
    changes := fun m => m.p 0 != 0, body := bodyRecircConfig }
def execRecircConfig (m : Msg) (s : State) : Host.Outcome State Fault Refusal := runCommand cmdRecircConfig m s

end Sys2Proof.Machine
end

