-- ==== Sys2Proof/Machine/Verdict.lean ====
section
/-!
DEFINITION. The flow stage and the verdict of one pass: the flow found or missed, the policy, translation and balancing of its packets,
learning, the copies made and where the packet goes (spec 05-10).
-/
namespace Sys2Proof.Machine

/-! Small parts. -/

/-- Upstream: the first-pass port's side is SUBSCRIBER (R241). -/
def Staged.fromSub (v : Staged) (p : Pkt) : Bool := !(v.flowPort p.inPort).network

def kvProto (kv : Bytes) : Nat := byteAt kv (classBlock kv + 36)
def kvKind (kv : Bytes) : Nat := byteAt kv (classBlock kv + 37)
def kvDst (kv : Bytes) : Bytes := slice kv (classBlock kv + 16) 16
/-- Destination port, or the identifier of an ICMP layer (R248). -/
def kvDstPort (kv : Bytes) : Nat := if isIcmp (kvProto kv) then fieldBe kv (classBlock kv + 32) 2 else fieldBe kv (classBlock kv + 34) 2

/-- Packets of a subscriber carried statelessly, and limited, are counted in the interval, while one runs (R402). -/
def State.countInterval (s : State) (n stateless limited : Nat) : State :=
  if s.telem.interval = 0 then s
  else
    let x := (tget? s.telem.subInterval n).getD (0, 0)
    { s with telem := { s.telem with subInterval := tset s.telem.subInterval n (satur 32 (x.1 + stateless), satur 32 (x.2 + limited)) } }

/-- A packet to be counted is work of the STATELESS_ACCOUNT task: counted at once while it runs, else it waits for it (R329, Table 11.2). -/
def State.intervalCount (s : State) (sub : Option Nat) (stateless limited : Nat) : State :=
  match sub with
  | none => s
  | some n =>
    if s.serves TaskType.stateless then s.countInterval n stateless limited
    else { s with telem := { s.telem with stateless := s.telem.stateless ++ [(n, stateless, limited)] } }

/-! The miss-hold buffers (R191, R356). -/

def State.held (s : State) (pipe : Bool) : List Parked := if pipe then s.flow.held1 else s.flow.held0

def State.setHeld (s : State) (pipe : Bool) (l : List Parked) : State :=
  { s with flow := if pipe then { s.flow with held1 := l, peak1 := max s.flow.peak1 l.length }
                   else { s.flow with held0 := l, peak0 := max s.flow.peak0 l.length } }

/-- Put a packet in its pipeline's buffer of 8,192 entries, at a place or at the tail; none where it is full (R191, R193). -/
def State.park (s : State) (x : Parked) (pos : Option Nat) : Option State :=
  let l := s.held x.pkt.pipe
  let i := pos.getD l.length
  if 8192 ≤ l.length then none else some ((s.setHeld x.pkt.pipe (l.take i ++ x :: l.drop i)).panicLevel)

/-- Every parked packet of either pipeline. -/
def State.parked (s : State) : List Parked := s.flow.held0 ++ s.flow.held1

/-- Change the parked packets of a key. -/
def State.eachParked (s : State) (key : Bytes) (f : Parked → Parked) : State :=
  let g := fun x => if x.key == key || (key.length == 40 && x.key.length == 40 && sameKey x.key key) then f x else x
  { s with flow := { s.flow with held0 := s.flow.held0.map g, held1 := s.flow.held1.map g } }

def State.readyParked (s : State) (key : Bytes) : State := s.eachParked key fun x => { x with ready := true }

/-- A read has been delivered to the packets parked on a key: they resume with what it gave (R12, R14). -/
def State.deliver (s : State) (key : Bytes) (st : Stage) (whole : Bool) : State :=
  s.eachParked key fun x => { x with ready := true, gave := x.gave ++ [(st, whole)] }

/-- A setup's first packet of the key is in a reinjection queue (R210). -/
def State.reinjecting (s : State) (key : Bytes) : Bool :=
  (s.buf.reinject0 ++ s.buf.reinject1).any fun p => sameKey p.2 key

/-- HELD clears when the flow's last parked packet has resumed (R192). -/
def State.unhold (s : State) (key : Bytes) : State :=
  if key.length != 40 || s.parked.any (fun x => x.key.length == 40 && sameKey x.key key) || (s.requestOf key).isSome || s.reinjecting key then s
  else match s.hotFind key with
    | some (w, e) => s.setHot w { e with held := false }
    | none => s

/-- Discard a packet that the pipeline holds: its cells leave the ingress account. -/
def State.discard (s : State) (p : Pkt) : State := s.dropIngress p.pipe p.cells

/-- A packet is older than the residence limit of 50 ms (R35). -/
def State.expired (s : State) (p : Pkt) : Bool := p.admitted + 50000000 < s.now

/-! Learning at the verdict (R268, R272, R273). -/

def Pkt.blank : Pkt :=
  { id := 0, bytes := [], len := 0, inPort := 0, pipe := false, pass := 1, stamp := 0, admitted := 0, ingress := 0, kv := zeros 128,
    l3 := (none, none), metadata := 0,
    rule := { verdict := 1, target := 0, ring := 0, copy := none, mirror := none, setClass := none, setDscp := none, binding := none },
    sub := none, qclass := 0, subClass := 0, upstream := false, counted := false, nexthop := none, routeOff := 0, rewrites := [],
    copy := false, session := none, reason := 0, arriving := false, claims := [], waited := none, outer := none, translated := false }

/-- The LEARN task sends a learn record to its ring; one that the ring does not take is lost (R273). -/
def State.sendLearn (s : State) (pipe : Bool) (port : Nat) (data : Bytes) : State :=
  let p : Pkt := { Pkt.blank with inPort := port, pipe := pipe, stamp := s.epoch.current, admitted := s.now, reason := 10 }
  let (okay, s1) := s.offerRing s.cur s.cur.fwd.learnRing p (some data)
  if okay then s1.notePeak else s1.fwdCount pipe FwdCounter.syncLost

/-- Raise a learn record, unless an identical one was raised within 10 ms: work of the LEARN task, sent at once while it runs (R273, R329,
Table 11.2). -/
def State.raiseLearn (s : State) (pipe : Bool) (domain mac port kind : Nat) : State :=
  let k := bridgeKey domain mac
  if s.raisedLately k port kind then s
  else
    let s1 := s.noteRaised k port kind
    let data := learnRecord s domain mac port kind pipe
    if s.serves TaskType.learn then s1.sendLearn pipe port data
    else { s1 with fwd := { s1.fwd with records := s1.fwd.records ++ [(pipe, port, data)] } }

/-- HOST entries of a pipeline that name a port in a domain (R273). -/
def Staged.hostCount (v : Staged) (pipe : Bool) (domain port : Nat) : Nat :=
  ((v.fwd.hosts pipe).filter fun e => e.1 / 2 ^ 48 == domain && e.2.port == port).length

/-- The source of a first-pass packet: learning, and whether the port's limit discards the packet (R268, R272, R273). -/
def State.learn (s : State) (v : Staged) (p : Pkt) : Bool × State :=
  let mac := ofBe (slice p.kv 14 6)
  match v.domainRec p with
  | none => (false, s)
  | some (k, d) =>
    if p.pass != 1 || !d.learn || bitAt p.kv 14 0 || mac = 0 then (false, s)
    else
      let lim := v.learnLimit p.inPort
      let event : LearnEvent := { domain := k, mac := mac, port := p.inPort }
      if d.sync then
        match s.bridgeLookup v p.pipe k mac with
        | .host h =>
          if h.port = p.inPort then (false, s.hitHost p.pipe (bridgeKey k mac))
          else if s.flowNow - h.portTime < v.fwd.moveGuard * 1000 then (false, s.fwdCount p.pipe FwdCounter.conflict)
          else (false, s.raiseLearn p.pipe k mac p.inPort 2)
        | _ =>
          if lim.limit ≤ v.hostCount p.pipe k p.inPort then
            (if lim.flood then (false, s.fwdCount p.pipe FwdCounter.limitedFlood) else (true, s.fwdCount p.pipe FwdCounter.limitedDrop))
          else (false, s.raiseLearn p.pipe k mac p.inPort 1)
      else
        match s.bridgeLookup v p.pipe k mac with
        | .host _ => (false, s)
        | .learned w e => if e.port = p.inPort then (false, s.refreshSource p.pipe w e) else (false, s.queueLearn p.pipe event)
        | .miss =>
          if !lim.flood && lim.limit ≤ s.learnedCount v p.inPort then (true, s.fwdCount p.pipe FwdCounter.limitedDrop)
          else (false, s.queueLearn p.pipe event)

/-! The flow's record at a verdict (R177, R179, R180, R400). -/

/-- The entry after a packet's own update. -/
def HotEntry.update (e : HotEntry) (now len flags : Nat) (fromSub : Bool) : HotEntry :=
  { e with packets := min (2 ^ 40 - 1) (e.packets + 1), octets := min (2 ^ 48 - 1) (e.octets + len),
           lastSeen := BitVec.ofNat 32 (now / 2 ^ 10), tcp := tcpByte e.key (e.tcp.toNat % 32 ||| seenBits flags fromSub), dirty := true }

/-- Counts that became saturated (R180). -/
def HotEntry.saturated (old new : HotEntry) : Nat :=
  (if new.packets = 2 ^ 40 - 1 && old.packets != new.packets then 1 else 0) +
  (if new.octets = 2 ^ 48 - 1 && old.octets != new.octets then 1 else 0)

/-- The sampling state after a verdict, and whether a sample is asked for (R400). -/
def sampleStep (control sampling : Byte) (now period : Nat) : Bool × Byte :=
  let t := now / 2 ^ 30 % 128
  if !ctlSample control then (false, sampling)
  else if !sampling.getLsbD 7 then (false, BitVec.ofNat 8 (128 + t))
  else if period ≤ (t + 128 - sampling.toNat % 128) % 128 then (true, BitVec.ofNat 8 (128 + t))
  else (false, sampling)

/-- Update the hot-tier entry of a packet's flow. -/
def State.updateFlow (s : State) (v : Staged) (way : Nat) (p : Pkt) : State :=
  match tget? s.flow.hot way with
  | none => s
  | some e =>
    let now := s.flowNow
    let e1 := e.update now p.len (byteAt p.kv (classBlock p.kv + 38)) (v.fromSub p)
    let (ask, smp) := sampleStep e.control e.sampling now (s.telem.sampling.getD (ctlClass e.control) (0, 56)).2
    let e2 := { e1 with sampling := smp }
    let s1 := s.setHot way e2
    let s2 := if e.saturated e2 = 0 then s1 else s1.flowDev 3 (e.saturated e2)
    if ask then s2.askSample (.sample e2.key e2.action e2.packets e2.octets (e2.first now) e2.tcp e2.control e2.w e2.home now) else s2

/-! Outputs (R253, R280, R281). -/

/-- Send a packet through a next hop. -/
def State.viaHop (s : State) (v : Staged) (p : Pkt) (n : Nat) (shapes : Bool) : State :=
  match s.nexthop v n with
  | none => s.fwdCount p.pipe FwdCounter.hopUndefined
  | some r =>
    match hopKind r with
    | 2 => s
    | 3 => s.toHost v p (hopRing r) 8
    | _ =>
      let (block, off) := routingLayer v p
      let ttl := byteAt p.kv (block + 39)
      if hopDecTtl r && ttl ≤ 1 && off.isSome then
        let s1 := s.fwdCount p.pipe FwdCounter.ttlExpired
        if v.fwd.ttlToHost then s1.toHost v p v.fwd.ttlRing 5 else s1
      else s.toPort v { p with nexthop := if off.isSome then some n else none, routeOff := off.getD 0 } (hopPort r) shapes

/-- What the flow stage hands to the verdict. -/
structure Bound where
  /-- Way of the packet's flow. -/
  way : Option Nat := none
  /-- The flow's action entry, where it is present. -/
  entry : Option (Nat × Bytes) := none
  /-- The flow key. -/
  key : Bytes := []
  /-- The packet takes its binding slot's fall-back verdict (R141, R211, R256). -/
  fallback : Bool := false
  /-- The packet is carried statelessly (R212). -/
  stateless : Bool := false
  /-- What the reads that the packet waited for delivered (R14). -/
  got : List (Stage × Bool) := []

/-- Offset of the classifying layer's IP header. -/
def Pkt.classOff (p : Pkt) : Option Nat := if byteAt p.kv 7 = 1 then p.l3.2 else p.l3.1

/-- A packet that translation touches: of ICMP, an echo request or an echo reply alone (R251, R252). -/
def Pkt.translates (p : Pkt) : Bool :=
  !isIcmp (kvProto p.kv) || (kvProto p.kv == 1 && (match p.classOff with
    | some o => (let t := byteAt p.bytes (o + 4 * (byteAt p.bytes o % 16)); t == 0 || t == 8)
    | none => false))

/-- The binding that a hairpinned packet's destination names (R252). -/
def State.hairpin (s : State) (v : Staged) (p : Pkt) (e : Bytes) (got : List (Stage × Bool)) : Option Bytes :=
  if !(isBinding e && v.fromSub p) then none
  else match v.pool (entryPool e) with
    | none => none
    | some r =>
      match s.inbound v (poolCtx r) (kvDst p.kv) (kvDstPort p.kv) (kvProto p.kv) got with
      | .binding _ d => (match v.pool (entryPool d) with | some q => if poolEim q then some d else none | none => none)
      | _ => none

/-- Downstream next hop of the subscriber of a binding (R253 rule 1). -/
def State.downHop (s : State) (v : Staged) (sub : Nat) : Option Nat :=
  (s.subRecord v sub).bind fun t => if fieldLe t 20 4 = 0xFFFFFFFF then none else some (fieldLe t 20 4)

/-- The member a packet's flow takes: the one it has while it is present, else one from the slot table (R258). -/
def State.member (s : State) (v : Staged) (b : Bound) : Option Nat × State :=
  match b.way, b.entry.bind (fun e => entryGroup e.2) with
  | some w, some g =>
    match tget? s.flow.hot w with
    | none => (none, s)
    | some e =>
      match v.memberHop g e.member with
      | some h => (some h, s)
      | none =>
        let m := if b.got.contains (.slot g, false) then 0xFF else s.slotMember v g e.key
        match v.memberHop g m with
        | none => (none, s.natCount NatCounter.noMember)
        | some h =>
          let s1 := (s.setHot w { e with member := m, dirty := true }).natCount NatCounter.rechosen
          (some h, { s1 with nat := { s1.nat with rechosen := tset s1.nat.rechosen g (((tget? s1.nat.rechosen g).getD 0 + 1) % 2 ^ 32) } })
  | _, _ => (none, s)

/-- The translation of a packet of a flow bound to a BINDING (R251). -/
def translation (p : Pkt) (e : Bytes) (upstream : Bool) : List Rewrite :=
  if isIcmp (kvProto p.kv) then
    (if upstream then [.ident true (bindPublic e).1 (bindPublic e).2] else [.ident false (bindPrivate e).1 (bindPrivate e).2])
  else if upstream then [.source (bindPublic e).1 (bindPublic e).2] else [.dest (bindPrivate e).1 (bindPrivate e).2]

/-- The rewrite of a hairpinned packet's destination. -/
def hairpinRewrite (p : Pkt) (e : Bytes) : List Rewrite :=
  if isIcmp (kvProto p.kv) then [.ident false (bindPrivate e).1 (bindPrivate e).2] else [.dest (bindPrivate e).1 (bindPrivate e).2]

/-- The forwarding result carried out (R264, R265, R280). -/
def State.byForwarding (s : State) (v : Staged) (p : Pkt) (shapes : Bool) : State :=
  match s.forward v p with
  | (.discard, s1) => s1
  | (.port q, s1) => s1.toPort v p q shapes
  | (.flood m, s1) => s1.floodTo v p m
  | (.hop n, s1) => s1.viaHop v p n shapes

/-- RECIRCULATE: to the recirculation port's queue, or the exceeded action (R156, R157). -/
def State.recirculate (s : State) (v : Staged) (p : Pkt) : State :=
  if v.rule.recirc.maxPasses ≤ p.pass then
    let s1 := s.rulePipeCount p.pipe 2
    if v.rule.recirc.toHost then s1.toHost v p v.rule.recirc.ring 6 else s1
  else (s.rulePipeCount p.pipe 1).toPort v p p.rule.target false

/-- Carry out the merged verdict of a packet whose policy is known, with the balancing member of its flow. Translation and hairpinning act
where the verdict is FORWARD, REDIRECT_PORT or REDIRECT_NEXTHOP (R251, R252), and only FORWARD chooses a next hop (R253). -/
def State.dispose (s : State) (v : Staged) (p : Pkt) (b : Bound) (mem : Option Nat) (shapes : Bool) : State :=
  let bind := (b.entry.map (·.2)).bind fun e => if isBinding e && p.translates && p.rule.verdict ≤ 3 then some e else none
  let pin := bind.bind fun e => s.hairpin v p e b.got
  let s1 := if pin.isSome then s.natCount NatCounter.hairpinned else s
  let p1 := { p with rewrites := (match bind with | some e => translation p e p.upstream | none => []) ++
                                 (match pin with | some d => hairpinRewrite p d | none => []) }
  match p.rule.verdict with
  | 4 => s
  | 2 => s1.toPort v p1 p.rule.target shapes
  | 3 => s1.viaHop v p1 p.rule.target shapes
  | 5 => s.recirculate v p
  | 6 => s.toHost v p p.rule.ring (if p.reason = 7 then 7 else 1)
  | _ =>
    let to_ := match pin with
      | some d => some (entrySub d)
      | none => if bind.isSome && !p.upstream then p.sub else none
    let first := to_.bind (s1.downHop v)
    let s1 := match to_ with | some n => s1.meetSub v n .pipeline | none => s1
    let policy := b.entry.bind fun e => if entryKind e.2 = 4 && fieldLe e.2 10 4 != 0xFFFFFFFF then some (fieldLe e.2 10 4) else none
    match first.orElse fun _ => mem.orElse fun _ => policy with
    | some n => s1.viaHop v p1 n shapes
    | none => s1.byForwarding v p1 shapes

/-- The packet with its fall-back verdict in place of its flow's binding, and the counter of it (R141): 4 drop, 5 forward, 6 host. -/
def fallbackOf (p : Pkt) : Nat × Pkt :=
  match p.rule.binding with
  | some (_, 1, _, _) => (5, p)
  | some (_, 2, _, ring) => (6, { p with rule := { p.rule with verdict := 6, ring := ring } })
  | _ => (4, { p with rule := { p.rule with verdict := 4 } })

/-- The verdict of a pass. -/
def State.verdict (s : State) (v : Staged) (p0 : Pkt) (b0 : Bound) : State :=
  let s1 := (if b0.stateless then s.pipeEvent p0.pipe 6 else s).pipeEvent p0.pipe 5
  let (fall, p1) := if b0.fallback then fallbackOf p0 else (0, p0)
  let b : Bound := if b0.fallback then { b0 with entry := none } else b0
  let s2 := if b0.fallback then s1.rulePipeCount p0.pipe fall else s1
  let up := v.fromSub p1
  let sub := b.entry.bind fun e => subscriberOf v e.2 b.key
  let pol := v.policy (s2.policyOf v (b.entry.map (·.2)) sub)
  let s2 := match sub with | some n => s2.meetSub v n .pipeline | none => s2
  let q := p1.rule.setClass.getD (if p1.pass = 1 then (v.buf.sched.getD p1.inPort SchedCfg.reset).defaultClass else p1.qclass)
  let sc := policySubClass pol q
  let p : Pkt := { p1 with sub := sub, qclass := q, subClass := sc, upstream := up, counted := policyCounts pol }
  let s3 := match b.way with | some w => s2.updateFlow v w p | none => s2
  let s4 := match sub with | some n => if policyCounts pol then s3.subPacket n sc up p.len else s3 | none => s3
  let (mem, s5) := s4.member v b
  let (limited, s6) := if p0.rule.verdict = 4 then (false, s5) else s5.learn v p
  let s7 := s6.passCopies v p
  let s8 := if limited then s7
    else if fall = 6 then s7.toHost v p p.rule.ring 4
    else s7.dispose v p b mem (policyShapes pol)
  s8.discard p0

/-! Stateless carriage (R193, R212). -/

/-- An action entry from the action cache, or read with assay where the cache has it not, and then loaded (R14, R17, R208): whether it is
sound, and the entry. -/
def State.entryNow (s : State) (v : Staged) (idx : Nat) (who : Consumer) : Bool × Option Bytes × State :=
  if idx = 0xFFFFFF then (true, none, s)
  else if s.cached idx then (!(s.nat.faulted.contains idx || s.flow.quarantine.contains (s.entryTile idx)), s.entryCached v idx, s)
  else
    let whole := (s.newestIn v (s.entryTile idx)).isSome
    let (e, s1) := s.entryRead v idx who
    (whole, e, if e.isSome then s1.cacheLoad idx else s1)

/-- Carry a packet statelessly, or into its fall-back where its binding slot names a translation entry (R212), or an entry that fails its
assay (R18). -/
def State.carry (s : State) (v : Staged) (p : Pkt) (key : Bytes) : State :=
  let (whole, e, s1) := match p.rule.binding with
    | some (_, _, idx, _) => s.entryNow v idx .pipeline
    | none => (true, none, s)
  let s2 := s1.intervalCount (e.bind fun b => subscriberOf v b key) 1 0
  s2.verdict v p { key := key, fallback := !whole || (match e with | some b => isTranslation b | none => false), stateless := true }

/-- A packet that must be parked when its pipeline's buffer is full (R193). -/
def State.overflow (s : State) (v : Staged) (p : Pkt) (key : Bytes) (cls : Nat) : State :=
  if (v.flow.classes.getD cls FlowClass.reset).overflowDrop then (s.flowPipe p.pipe 10).discard p
  else (s.flowPipe p.pipe 9).carry v p key

/-! The flow stage (R168-R173, R191, R192, R248). -/

/-- The tile whose read a stage waits for, the first of a bucket (R191, R14, R248, R258). -/
def State.stageTile (s : State) (v : Staged) (key : Bytes) : Stage → Option Nat
  | .b0 => some (s.regionTile 0 (8 * (s.bucketsOf key).1))
  | .b1 => some (s.regionTile 0 (8 * (s.bucketsOf key).2))
  | .action idx => some (s.entryTile idx)
  | .slot g => ((v.group g).bind (·.seam)).map fun d => s.seamTile d (s.hash1 key % 4096 / 60)
  | .place => none
  | .setup => none

/-- Ask for a read, where none of its key is outstanding. -/
def State.ask (s : State) (v : Staged) (key : Bytes) (pipe : Bool) (st : Stage) : State :=
  if s.flow.requests.any (fun r => r.key == key) then s
  else s.setRequest { key := key, pipe := pipe, stage := st, claim := none, tile := s.stageTile v key st, issued := false }

/-- What a packet brings to the flow stage: the place of a parked packet in its buffer, the key it was parked or set up on, and what its
reads delivered (R12, R192). -/
structure Resuming where
  pos : Option Nat := none
  own : Option Bytes := none
  got : List (Stage × Bool) := []

/-- The packet was parked, or set up, on this key: its resumption onto its flow is no lookup of its own (R191, R192). -/
def Resuming.owns (r : Resuming) (key : Bytes) : Bool := match r.own with | some k => k.length == 40 && sameKey k key | none => false

/-- A packet as it is parked. -/
def Parked.of (p : Pkt) (key : Bytes) (r : Resuming) : Parked :=
  { pkt := p, key := key, ready := false, fallback := false, stateless := false, gave := r.got }

/-- The place a packet parks at: a resumed one returns to its own, and the first packet of a setup precedes those chained behind it, so that
packets of a flow keep their order (R192, R210). -/
def State.placeOf (s : State) (p : Pkt) (key : Bytes) (r : Resuming) : Option Nat :=
  r.pos.orElse fun _ => if r.own.isSome then (s.held p.pipe).findIdx? fun x => x.key == keyId key else none

/-- A hit that must wait for a read of its own: the way is HELD and the packet parked (R14, R248, R258). -/
def State.holdFor (s : State) (v : Staged) (p : Pkt) (key : Bytes) (w : Nat) (e : HotEntry) (st : Stage) (r : Resuming) : State :=
  match s.park (.of p (keyId key) r) (s.placeOf p key r) with
  | none => s.overflow v p key (ctlClass e.control)
  | some s1 => (s1.setHot w { e with held := true }).ask v (keyId key) p.pipe st

/-- A group's slot table must be read: the flow's member is no longer present, and no read has delivered the slot (R258). -/
def Staged.slotWanted (v : Staged) (e : HotEntry) (entry : Bytes) (got : List (Stage × Bool)) : Option Nat :=
  (entryGroup entry).bind fun g =>
    if (v.memberHop g e.member).isNone && (v.group g).isSome && !got.any (fun x => x.1 == .slot g) then some g else none

/-- A repair task is queued for a binding met faulty, once (R256, R331). -/
def State.askRepair (s : State) (v : Staged) (idx : Nat) (key : Bytes) (stamp : W16) : State :=
  if key.length != 40 || !v.inBindingArea idx || s.withdrawn 0 (s.entryTile idx) || s.nat.repairs.any (·.1 == idx) then s
  else match s.newTask TaskType.flowSetup (.repair idx key stamp) with
    | some (_, s1) => { s1 with nat := { s1.nat with repairs := s1.nat.repairs ++ [(idx, key, stamp)] } }
    | none => s

/-- A packet of a flow meets a BINDING that a fault took, in the action cache or as it was read: its repair is asked for, by the next packet
again where no slot is free (R256, R331). -/
def State.meetFault (s : State) (v : Staged) (idx : Nat) (key : Bytes) (stamp : W16) : State :=
  if s.nat.faulted.contains idx then
    let s1 := s.askRepair v idx key stamp
    if s1.nat.repairs.any (·.1 == idx) || !v.inBindingArea idx then { s1 with nat := { s1.nat with faulted := s1.nat.faulted.erase idx } } else s1
  else s

/-- A hit that may take its verdict, or must first read its entry, a slot table or a hairpin's binding. -/
def State.hit (s : State) (v : Staged) (p : Pkt) (key : Bytes) (w : Nat) (e : HotEntry) (r : Resuming) : State :=
  if e.action = 0xFFFFFF then s.verdict v p { way := some w, key := key }
  else match s.entryAt v r.got e.action with
    | none => s.holdFor v p key w e (.action e.action) r
    | some none => (s.meetFault v e.action (keyId key) p.stamp).verdict v p { way := some w, key := key, fallback := true }
    | some (some a) =>
      let pin := match v.pool (entryPool a) with
        | some q =>
          if isBinding a && v.fromSub p && p.translates && p.rule.verdict ≤ 3 then
            s.inbound v (poolCtx q) (kvDst p.kv) (kvDstPort p.kv) (kvProto p.kv) r.got
          else .notPool
        | none => .notPool
      match pin, v.slotWanted e a r.got with
      | .read idx, _ => s.holdFor v p key w e (.action idx) r
      | _, some g => s.holdFor v p key w e (.slot g) r
      | _, none => s.verdict v p { way := some w, entry := some (e.action, a), key := key, got := r.got }

/-- The lookup of a formed key. -/
def State.lookupFlow (s : State) (v : Staged) (p : Pkt) (key : Bytes) (r : Resuming) : State :=
  match s.hotFind key with
  | some (w, e) =>
    let s1 := if r.owns key then s else (s.flowPipe p.pipe 0).flowPipe p.pipe 1
    if e.held && !r.owns key then
      let ready := s1.parked.any fun x => x.ready && x.key.length == 40 && sameKey x.key key
      match s1.park { Parked.of p (keyId key) r with ready := ready } r.pos with
      | some s2 => s2.flowPipe p.pipe 6
      | none => s1.overflow v p key (ctlClass e.control)
    else s1.hit v p key w e r
  | none =>
    let s0 := s.flowPipe p.pipe 0
    match p.rule.binding with
    | none => (s0.flowPipe p.pipe 8).verdict v p { key := key }
    | some (cls, _, _, _) =>
      match s0.park (.of p (keyId key) r) r.pos with
      | none => s0.overflow v p key cls
      | some s1 =>
        if (s1.requestOf key).isSome || s1.reinjecting key then s1.flowPipe p.pipe 5
        else s1.ask v (keyId key) p.pipe .b0

/-- The flow stage of one pass. -/
def State.flowStage (s : State) (v : Staged) (p : Pkt) (rs : Resuming) : State :=
  let fp := v.flowPort p.inPort
  if kvKind p.kv = 0 then (s.flowPipe p.pipe 7).verdict v p {}
  else
    let inb := if fp.network then s.inbound v (contextOf fp p.kv) (kvDst p.kv) (kvDstPort p.kv) (kvProto p.kv) rs.got else .notPool
    match inb with
    | .none r =>
      (s.natCount NatCounter.inboundNoBinding).verdict v
        { p with rule := { p.rule with verdict := if byteAt r 26 = 0 then 4 else 6, ring := byteAt r 27 }, reason := 7 } {}
    | .read idx =>
      let key := le 4 idx
      match s.park (.of p key rs) rs.pos with
      | some s1 => s1.ask v key p.pipe (.action idx)
      | none => s.overflow v p (flowKey fp p.kv) (match p.rule.binding with | some (c, _) => c | none => 0)
    | .binding idx e =>
      let key := flowKey fp p.kv (some (mappedPrefix ++ (bindPrivate e).1, (bindPrivate e).2))
      let p1 : Pkt := { p with rule := { p.rule with binding := p.rule.binding.map fun x => (x.1, x.2.1, idx, x.2.2.2) } }
      s.lookupFlow v p1 key rs
    | .notPool =>
      s.lookupFlow v p (flowKey fp p.kv) rs

/-! A pass: parse, rules, flow stage (R11, R108, R140). -/

/-- The cells of the die that strike a pass. -/
def State.struckPass (s : State) (pipe : Bool) (hurt : Upsets) : State :=
  hurt.store.foldl (fun s i => s.storeFault i .pipeline) ((s.struckOn hurt .pipeline).struckFwd pipe hurt)

/-- The provisional claims of a frame still arriving are kept for its end (R120). -/
def State.noteClaims (s : State) (id : Nat) (cs : List Claim) : State :=
  { s with buf := { s.buf with arriving := s.buf.arriving.map fun a => if a.id = id then { a with claims := cs } else a } }

/-- The rule counters that take the bytes of a frame still arriving, at its end (R144). -/
def State.noteCounts (s : State) (id : Nat) (keys : List Nat) : State :=
  { s with buf := { s.buf with arriving := s.buf.arriving.map fun a => if a.id = id then { a with counts := a.counts ++ keys } else a } }

/-- R121: claims beyond the frame's end: counted, and true where one of them discards the frame. -/
def State.lateClaims (s : State) (pipe : Bool) (claims : List Claim) (len : Nat) : Bool × State :=
  let late := claims.filter fun c => len < c.1
  if late.isEmpty then (false, s)
  else (late.any (fun c => c.2.2 != 2), late.foldl (fun s c => s.nodeCount c.2.1 4) (s.parseCount pipe 11))

/-- One pass of a packet entering at a port: none where the walk waits for bytes still to arrive (R107). A frame that ended while its walk
waited has its provisional claims judged now (R120, R121). -/
def State.pass (s : State) (p : Pkt) (port : Nat) : Option State :=
  let v := s.version p.stamp
  match walkPacket v.parse p.bytes p.arriving p.waited port with
  | none => none
  | some w =>
    let (lost, s0) := if p.arriving then (false, s.noteClaims p.id w.walk.claims) else s.lateClaims p.pipe w.walk.claims p.bytes.length
    let s1 := (s0.walkCounts p.pipe w.walk).rulePipeCount p.pipe 0
    if w.dropped || lost then some (s1.discard p)
    else
      let (len, s2) := if p.arriving then (let (r, s2) := s1.draw; (r.toNat % 65536, s2)) else (p.frameLen, s1)
      let mv := matchVector w.walk.kv p.pass p.inPort len p.metadata.toNat none
      let tables := (List.range 4).filterMap fun slot => ingressTable v slot p.pass
      let (as, s3) := runLookups mv (if p.arriving then 0 else len) tables s2
      let s4 := if p.arriving then s3.noteCounts p.id (s2.countKeys mv tables) else s3
      let p1 : Pkt := { p with kv := w.walk.kv, len := len, l3 := w.walk.l3, outer := w.walk.outer, claims := w.walk.claims, waited := none,
                               rule := mergeActions as, metadata := BitVec.ofNat 32 (mergeMeta p.metadata.toNat as), reason := 0,
                               rewrites := [], translated := false, nexthop := none }
      some (s4.flowStage v p1 {})

end Sys2Proof.Machine
end

