-- ==== Sys2Proof/Machine/Pipeline.lean ====
section
/-!
DEFINITION. The pipelines' admission sources and the DRAM tier behind them: lane frames, resumptions, recirculated and reinjected packets,
bucket reads with new flows, entry reads, flow setups, and departures from the hot tier (spec 01, 06, 07, 08).
-/
namespace Sys2Proof.Machine

/-! Admission queues (R11). -/

def State.laneQ (s : State) (pipe : Bool) : List Pkt := if pipe then s.buf.lane1 else s.buf.lane0
def State.setLaneQ (s : State) (pipe : Bool) (l : List Pkt) : State :=
  { s with buf := if pipe then { s.buf with lane1 := l } else { s.buf with lane0 := l } }
def State.recircQ (s : State) (pipe : Bool) : List Pkt := if pipe then s.buf.recirc1 else s.buf.recirc0
def State.setRecircQ (s : State) (pipe : Bool) (l : List Pkt) : State :=
  { s with buf := if pipe then { s.buf with recirc1 := l } else { s.buf with recirc0 := l } }
def State.reinjectQ (s : State) (pipe : Bool) : List (Pkt × Bytes) := if pipe then s.buf.reinject1 else s.buf.reinject0
def State.setReinjectQ (s : State) (pipe : Bool) (l : List (Pkt × Bytes)) : State :=
  { s with buf := if pipe then { s.buf with reinject1 := l } else { s.buf with reinject0 := l } }

/-- The recirculation port of a pipeline. -/
def recircPort (pipe : Bool) : Nat := if pipe then 33 else 32

/-- A frame of the admission queue that does not wait, admitted, for its bytes (R107). -/
def Pkt.walks (p : Pkt) : Bool := p.waited.isNone || !p.arriving

/-- The admission queue asks for the slot (R11). -/
def State.laneAsks (s : State) (pipe : Bool) : Bool := (s.laneQ pipe).any Pkt.walks

/-- The key of a record of FLOW_WRITE (64 bytes) or FLOW_PIN (48 bytes) for which a channel's command waits (R199). -/
def Channel.waitsOn (c : Channel) : Option Bytes :=
  match c.waiting with
  | some (.flow op m n _) => if op = 0x0605 || op = 0x0404 then none else some (slice m.params ((if op = 0x0602 then 64 else 48) * n + 8) 40)
  | _ => none

/-- A flow's packets may resume: no record waits to be applied before them (R199). -/
def State.mayResume (s : State) (key : Bytes) : Bool :=
  !List.any [s.ns, s.sec, s.peer, s.bmc] fun c => match c.waitsOn with | some k => key.length == 40 && sameKey k key | none => false

/-- The oldest parked packet that is ready to resume, with its place: none passes a packet of its own key that waits before it (R192). -/
def State.readyHeld (s : State) (pipe : Bool) : Option (Parked × Nat) :=
  (s.held pipe).zipIdx.find? fun x =>
    x.1.ready && s.mayResume x.1.key && !((s.held pipe).take x.2).any fun y => y.key == x.1.key && !y.ready

/-- A packet older than the residence limit is discarded and counted (R35). -/
def State.dropOld (s : State) (p : Pkt) : State := ((s.bufCount BufCounter.residence).countDiscard p).discard p

/-- R11: the oldest lane frame that can is admitted, stamped and takes its pass. One whose walk has to wait for bytes stays, admitted, and
goes on when they have arrived, letting the frames behind it pass (R107). -/
def execLaneFrameAdmit (pipe : Bool) (hurt : Upsets) (s : State) : Host.Outcome State Fault Refusal :=
  let l := s.laneQ pipe
  match l.findIdx? Pkt.walks with
  | some i =>
    match l[i]? with
    | some p =>
      let first := p.waited.isNone
      let p1 : Pkt := if first then { p with stamp := s.epoch.current, admitted := s.now, pass := 1, pipe := pipe } else p
      let s1 := s.setLaneQ pipe (l.eraseIdx i)
      let s2 := (if first then s1.grant pipe 0 else s1).struckPass pipe hurt
      (match s2.pass p1 p1.inPort with
        | some s3 => done s s3
        | none => done s (s2.setLaneQ pipe (l.set i { p1 with waited := some p1.bytes.length })))
    | none => .next s
  | none => .next s

/-- A parked packet resumes: into its fall-back, statelessly, or at the flow stage (R12, R13, R192). -/
def State.resume (s : State) (x : Parked) (pos : Nat) : State :=
  let v := s.version x.pkt.stamp
  if x.fallback then s.verdict v x.pkt { key := x.key, fallback := true }
  else if x.stateless then s.carry v x.pkt x.key
  else s.flowStage v x.pkt { pos := some pos, own := some x.key, got := x.gave }

/-- R12: a parked packet is admitted as a resumption, when no lane frame asks for the slot. -/
def execMissResume (pipe : Bool) (hurt : Upsets) (s : State) : Host.Outcome State Fault Refusal :=
  if s.laneAsks pipe then .next s
  else match s.readyHeld pipe with
  | some (x, i) =>
    let s1 := (s.setHeld pipe ((s.held pipe).eraseIdx i)).struckPass pipe hurt
    let s2 := if s1.expired x.pkt then s1.dropOld x.pkt else (s1.grant pipe 1).resume x i
    done s (s2.unhold x.key).panicLevel
  | none => .next s

/-- R156: a recirculated packet is admitted as its next pass, after lane frames and resumptions. -/
def execRecircAdmit (pipe : Bool) (hurt : Upsets) (s : State) : Host.Outcome State Fault Refusal :=
  if s.laneAsks pipe || (s.readyHeld pipe).isSome then .next s
  else match s.recircQ pipe with
  | p :: q =>
    let s1 := s.setRecircQ pipe q
    if s1.expired p then done s (s1.dropOld p)
    else match ((s1.grant pipe 2).struckPass pipe hurt).pass { p with pass := p.pass + 1, pipe := pipe } (recircPort pipe) with
      | some s2 => done s s2
      | none => .next s
  | [] => .next s

/-- A first packet has left the reinjection queue: those chained behind it may resume (R210). -/
def State.releaseBehind (s : State) (p : Pkt) (key : Bytes) : State :=
  (s.eachParked key fun x => if x.pkt.id = p.id then x else { x with ready := true }).unhold key

/-- R341: a packet that a miner returned is admitted last, at the flow stage; the packets chained behind it may then resume (R210). -/
def execReinjectAdmit (pipe : Bool) (hurt : Upsets) (s : State) : Host.Outcome State Fault Refusal :=
  if s.laneAsks pipe || (s.readyHeld pipe).isSome || !(s.recircQ pipe).isEmpty then .next s
  else match s.reinjectQ pipe with
  | (p, key) :: q =>
    if !s.mayResume key then .next s
    else
    let s1 := (s.setReinjectQ pipe q).struckPass pipe hurt
    let s2 := if s1.expired p then s1.dropOld p else (s1.grant pipe 3).flowStage (s1.version p.stamp) p { own := some key }
    done s (s2.releaseBehind p key)
  | [] => .next s

/-! New flows (R207-R215). -/

/-- Tokens of a subscriber, in 10^-9, as they stand now. -/
def State.tokensOf (s : State) (sub : Nat) (l : NewLimit) : Nat :=
  match tget? s.flow.tokens sub with
  | some (t, at_) => min (l.depth * 1000000000) (t + (s.now - at_) * l.rate)
  | none => l.depth * 1000000000

/-- The new-flow limit of a subscriber's own policy class (R213). -/
def State.newLimit (s : State) (v : Staged) (sub : Nat) : NewLimit :=
  (tget? v.flow.limits (s.policyOf v none (some sub))).getD { drop := false, rate := 0, depth := 64 }

/-- Take a new-flow token (R213): true where the flow may go on, and whether one that may not is discarded. -/
def State.takeToken (s : State) (v : Staged) (sub : Option Nat) : Bool × Bool × State :=
  match sub with
  | none => (true, false, s)
  | some n =>
    let l := s.newLimit v n
    let s := s.meetSub v n .pipeline
    if l.rate = 0 then (true, false, s)
    else
      let t := s.tokensOf n l
      if 1000000000 ≤ t then (true, false, { s with flow := { s.flow with tokens := tset s.flow.tokens n (t - 1000000000, s.now) } })
      else (false, l.drop, (s.lifeCount Life.newLimited).intervalCount (some n) 0 1)

/-- The first parked packet of a key in its request's pipeline, else in the other. -/
def State.firstParked (s : State) (r : Request) : Option Parked :=
  ((s.held r.pipe) ++ (s.held !r.pipe)).find? fun x => x.key == r.key

/-- Remove one parked packet. -/
def State.unpark (s : State) (id : Nat) : State :=
  { s with flow := { s.flow with held0 := s.flow.held0.filter (fun x => x.pkt.id != id), held1 := s.flow.held1.filter (fun x => x.pkt.id != id) } }

/-- The request of a key ends without a flow: its packets look it up afresh, the one numbered as given (R207, R211, R212). -/
def State.endWithout (s : State) (r : Request) (id : Nat) (first : Parked → Parked) : State :=
  let s1 := (s.endRequest r.key).readyParked r.key
  let g := fun (y : Parked) => if y.pkt.id = id then first y else y
  { s1 with flow := { s1.flow with held0 := s1.flow.held0.map g, held1 := s1.flow.held1.map g } }

/-- The request of a key ends and all its packets take their fall-back (R211). -/
def State.endInFallback (s : State) (r : Request) : State :=
  (s.endRequest r.key).eachParked r.key fun y => { y with ready := true, fallback := true }

/-- The record of a new flow, installed HELD (R209, R399). -/
def State.installNew (s : State) (v : Staged) (p : Pkt) (key : Bytes) (cls action member tile way : Nat) : State :=
  let k := withDir key !(v.fromSub p)
  let control := controlByte cls false (p.stamp.getLsbD 0) (s.sampleMark cls key)
  let payload := newFlowTile k action member control (tcpByte k 0) s.flowNow
  let s1 := s.queueWrite tile payload
  s1.setHot way { hotOfTile payload tile s1.flowNow with held := true }

/-- A placement waits for its bucket, or for the room its writes need, keeping its claim (R206, R355). -/
def State.waitPlace (s : State) (r : Request) (claim : Option Nat) : State :=
  s.setRequest { r with stage := .place, claim := claim, tile := none }

/-- Create a flow at the slot chosen on the fast path (R209), or hand it to a flow-setup task (R210, R331). It waits, its slot claimed, while
the write queue or the key's set has no room. -/
def State.createAt (s : State) (v : Staged) (r : Request) (x : Parked) (cls idx : Nat) (e : Option Bytes) (tile : Nat) : State :=
  if (match e with | some b => isTranslation b | none => false) then
    match s.newTask TaskType.flowSetup (.setup x.pkt r.key) with
    | some (_, s1) => s1.setRequest { r with stage := .setup, claim := some tile, tile := none }
    | none => (s.minerCount 0).endInFallback r
  else if !s.wqRoom tile true then s.waitPlace r (some tile)
  else
    match s.wayFor r.key with
    | (none, s1) => s1.waitPlace r (some tile)
    | (some w, s1) =>
      if !s1.wqRoom tile true then s1.waitPlace r (some tile)
      else
        let (m, s2) := (s1.evict tile (withDir r.key !(v.fromSub x.pkt))).newMember v e r.key .pipeline
        let s3 := s2.installNew v x.pkt r.key cls idx m tile w
        ((s3.lifeCount Life.admittedFast).endRequest r.key).readyParked r.key

/-- The flow is not created for want of room: its first packet is carried statelessly (R207, R214). -/
def State.noPlace (s : State) (r : Request) (id : Nat) : State := s.endWithout r id fun y => { y with stateless := true }

/-- Steps 2 to 4 of R207, from a claim kept while it still holds, or from a choice made afresh. The slot is claimed from the choice on, so that
a victim of the hot tier that is placed anew for its way does not take it (R206). -/
def State.placeNew (s : State) (v : Staged) (r : Request) (x : Parked) (cls idx : Nat) (e : Option Bytes) : State :=
  let s0 := s.setRequest { r with claim := none }
  let create (s : State) (t : Nat) : State := (s.setRequest { r with claim := some t }).createAt v r x cls idx e t
  match r.claim.filter (s.claimHolds r) with
  | some t =>
    if (s0.slotFlow t).isSome && s0.tailingsFull then (s0.lifeCount Life.tailingsFull).noPlace r x.pkt.id else create s0 t
  | none =>
    if s0.placeBusy r.key then s0.waitPlace r none
    else match s0.choosePlace v r.key cls with
      | (.none active, s1) => (s1.countNoRoom active).noPlace r x.pkt.id
      | (.free t, s1) => create s1 t
      | (.victim t, s1) => if s1.tailingsFull then (s1.lifeCount Life.tailingsFull).noPlace r x.pkt.id else create s1 t

/-- A flow found in neither bucket is admitted (R207); one whose token has been taken goes on with its placement. -/
def State.admitNew (s : State) (r : Request) (x : Parked) : State :=
  let v := s.version x.pkt.stamp
  match x.pkt.rule.binding with
  | none => (s.endRequest r.key).readyParked r.key
  | some (cls, _, idx, _) =>
    let (_, e, s1) := s.entryNow v idx .pipeline
    if r.stage == .place then s1.placeNew v r x cls idx e
    else match s1.takeToken v (e.bind fun b => subscriberOf v b r.key) with
      | (false, drop, s2) =>
        if drop then (((s2.unpark x.pkt.id).discard x.pkt).endRequest r.key).readyParked r.key else s2.noPlace r x.pkt.id
      | (true, _, s2) => s2.placeNew v r x cls idx e

/-- A flow found in a bucket is installed HELD (R191); it waits while no way can be had. -/
def State.installFound (s : State) (r : Request) (tile : Nat) (p : Bytes) (count : Nat) : State :=
  match s.wayFor r.key with
  | (none, s1) => s1.setRequest { r with tile := none }
  | (some w, s1) =>
    let e := { hotOfTile p tile s1.flowNow with held := true }
    let s2 := (s1.setHot w e).flowPipe r.pipe count
    if e.action = 0xFFFFFF || s2.cached e.action then (s2.endRequest r.key).readyParked r.key
    else s2.setRequest { r with stage := .action e.action, tile := some (s2.entryTile e.action), issued := false }

/-- A bucket of the request returns (R191), or what a placement waited for may have come (R206, R355): B1 is read, the flow found is
installed, or a new flow is admitted. -/
def State.bucketBack (s : State) (r : Request) : State :=
  let second := r.stage != .b0
  let (ts, s1) := s.readBucket (if second then (s.bucketsOf r.key).2 else (s.bucketsOf r.key).1) .pipeline
  let (ts, s1) := if r.stage == .place then (let (us, s2) := s1.readBucket (s.bucketsOf r.key).1 .pipeline; (us ++ ts, s2)) else (ts, s1)
  match holding r.key ts with
  | some (t, p) => s1.installFound r t p (if second then 3 else 2)
  | none =>
    if !second then s1.setRequest { r with stage := .b1, tile := some (s1.regionTile 0 (8 * (s1.bucketsOf r.key).2)), issued := false }
    else match s1.firstParked r with
      | none => s1.endRequest r.key
      | some x => (if r.stage == .place then s1 else (s1.flowPipe r.pipe 4).pipeEvent r.pipe 4).admitNew r x

/-- A channel may issue a read: no refresh stalls it, and no drain has its batch to issue first (R354, R357, Table 12.3: a read issued before the
refresh returns within its first 40 MEM cycles). -/
def State.mayRead (s : State) (channel : Nat) : Bool :=
  !(s.refreshing && decide (s.dram.lastRefresh + 27 ≤ s.now)) &&
    !(s.drains && !s.dram.owes.getD channel false && s.dram.wq.any fun e => tileChannel e.1 == channel)

/-- The read of a request returns: it was issued, or it is the oldest REAL_TIME read that waits at its channel (R352). -/
def State.readReturns (s : State) (r : Request) : Bool :=
  r.issued ||
    (match r.tile with
     | some t => s.mayRead (tileChannel t) &&
        (match s.flow.requests.find? (·.waitsAt (tileChannel t)) with | some x => x.key == r.key | none => true)
     | none => !s.refreshing)

/-- The read of a request that returns has taken its slots. -/
def State.issued (s : State) (r : Request) : State :=
  match r.tile with | some t => if r.issued then s else s.issueRead (tileChannel t) | none => s

/-- R191: the bucket read of a key returns. -/
def execBucketReadReturn (key : Bytes) (hurt : Upsets) (s : State) : Host.Outcome State Fault Refusal :=
  match s.requestOf key with
  | some r =>
    if [Stage.b0, .b1, .place].contains r.stage && s.readReturns r then
      done s ((((s.issued r).struckOn hurt .pipeline).bucketBack r).unhold r.key).panicLevel
    else .next s
  | none => .next s

/-! Entry reads (R14, R248, R256, R258). -/

/-- A flow of the key is bound to the entry: a hairpin's destination is another flow's, whose key its packet does not give (R252, R256). -/
def State.boundTo (s : State) (key : Bytes) (idx : Nat) : Bool :=
  match s.hotFind key with | some (_, e) => e.action == idx | none => false

/-- The stamp of the first packet that a request holds, and the tables it names (R31). -/
def State.stampFor (s : State) (r : Request) : W16 := ((s.firstParked r).map (·.pkt.stamp)).getD s.epoch.current
def State.versionFor (s : State) (r : Request) : Staged := s.version (s.stampFor r)

/-- An action entry or a slot tile has been read: whether it passed its assay. -/
def State.entryBack (s : State) (v : Staged) (r : Request) : Bool × State :=
  match r.stage with
  | .action idx =>
    let whole := (s.newestIn v (s.entryTile idx)).isSome
    let (e, s1) := s.entryRead v idx .pipeline
    let s2 := if e.isSome then s1.cacheLoad idx else s1
    (whole, if !whole && s2.boundTo r.key idx then (s2.noteFaulted idx).meetFault v idx r.key (s2.stampFor r) else s2)
  | .slot g => s.readSlotTile v g r.key .pipeline
  | _ => (true, s)

/-- A request that reads an action entry or a slot tile. -/
def readsEntry : Stage → Bool
  | .action _ | .slot _ => true
  | _ => false

/-- R14, R248, R258: the read of an action entry, of a slot table or of an endpoint's binding returns. -/
def execActionEntryReadReturn (key : Bytes) (hurt : Upsets) (s : State) : Host.Outcome State Fault Refusal :=
  match s.flow.requests.find? (fun r => r.key == key && readsEntry r.stage) with
  | some r =>
    if !s.readReturns r then .next s
    else
      let v := s.versionFor r
      let (whole, s1) := ((s.issued r).struckOn hurt .pipeline).entryBack v r
      done s (((s1.endRequest r.key).deliver r.key r.stage whole).unhold r.key)
  | none => .next s

/-! Flow setup (R210, R211, R245, R249). -/

/-- The binding that a setup ends with. -/
def State.setupEntry (s : State) (v : Staged) (idx : Nat) (key : Bytes) : Setup × State :=
  match s.entryRead v idx .miner with
  | (none, s1) => (.error NatCounter.count, s1)
  | (some e, s1) =>
    if isBinding e then
      (match v.pool (entryPool e) with
       | some p => if poolEim p then (.ok idx, s1) else (.error NatCounter.filtered, s1)
       | none => (.error NatCounter.filtered, s1))
    else s1.setupBinding v e idx key

/-- Space for the writes of one setup, for its first packet, and for its victim's record (R210, R226, R341, R355): the new flow's tile may use
the reserve, a block's allocation and the victim's record may not. -/
def State.setupRoom (s : State) (v : Staged) (p : Pkt) (idx tile : Nat) : Bool :=
  let bound := match s.newestIn v (s.entryTile idx) with | some e => isBinding e | none => true
  let others := (if bound then 0 else 2) + (if (s.slotFlow tile).isNone then 0 else 2)
  (others == 0 || s.writeRoom others) && s.wqRoom tile true && (s.reinjectQ p.pipe).length < 256 && ((s.slotFlow tile).isNone || !s.tailingsFull)

/-- The slot of a setup: the one it claimed, read again, while it is still free or an eligible victim, or one chosen afresh from the newest
state of both buckets (R189, R206, R215, R222). None where it waits, or where no flow is created. -/
def State.setupSlot (s : State) (v : Staged) (r : Request) (p : Pkt) (cls : Nat) : Option Nat × State :=
  let s1 := match r.claim with | some t => (s.readTile t .miner).2 | none => s
  match r.claim.filter (s1.claimHolds r) with
  | some t => (some t, s1)
  | none =>
    let s2 := s1.setRequest { r with claim := none }
    let fails (s : State) : State := (s.noPlace r p.id).finishWork fun w => w == .setup p r.key
    if s2.placeBusy r.key then (none, s2)
    else
      let s3 := ((s2.readBucket (s2.bucketsOf r.key).1 .miner).2.readBucket (s2.bucketsOf r.key).2 .miner).2
      match s3.choosePlace v r.key cls with
      | (.none active, s4) => (none, fails (s4.countNoRoom active))
      | (.free t, s4) => (some t, s4.setRequest { r with claim := some t })
      | (.victim t, s4) =>
        if s4.tailingsFull then (none, fails (s4.lifeCount Life.tailingsFull)) else (some t, s4.setRequest { r with claim := some t })

/-- A setup with its slot: the binding found or allocated, the tile written, the flow installed HELD and the first packet returned; a
failure takes the fall-back (R211). It waits while the key's set has no way, its binding found by the next attempt. -/
def State.setupAt (s : State) (v : Staged) (r : Request) (p : Pkt) (cls idx t : Nat) : State :=
  match s.setupEntry v idx r.key with
  | (.error n, s1) => ((s1.natCount n).endInFallback r).finishWork fun w => w == .setup p r.key
  | (.ok b, s1) =>
    match s1.wayFor r.key with
    | (none, s2) => s2
    | (some w, s2) =>
      let (m, s3) := (s2.evict t (withDir r.key !(v.fromSub p))).newMember v (s2.entryCached v b) r.key .miner
      let s4 := (((s3.installNew v p r.key cls b m t w).setLive b).cacheLoad b).lifeCount Life.admittedMiner
      let s5 := if s4.parked.any (fun x => x.pkt.id == p.id) then
          (s4.unpark p.id).setReinjectQ p.pipe (s4.reinjectQ p.pipe ++ [(p, r.key)]) else s4.readyParked r.key
      (((s5.endRequest r.key).finishWork fun w => w == .setup p r.key).unhold r.key).panicLevel

/-- R245: a flow-setup task does its work on its miner. It waits for the space it needs, its slot claimed. -/
def execFlowSetup (slot : Nat) (hurt : Upsets) (s : State) : Host.Outcome State Fault Refusal :=
  if s.refreshing then .next s
  else match s.task slot with
  | some { work := .setup p key, state := .running _, .. } =>
    match s.requestOf key with
    | none => done s (s.finishWork fun w => w == .setup p key)
    | some r =>
      let v := s.version p.stamp
      let cls := (p.rule.binding.map (·.1)).getD 0
      let idx := (p.rule.binding.map (·.2.2.1)).getD 0xFFFFFF
      match (s.struckOn hurt .miner).setupSlot v r p cls with
      | (none, s1) => done s s1
      | (some t, s1) => done s (if s1.setupRoom v p idx t then s1.setupAt v { r with claim := some t } p cls idx t else s1)
  | _ => .next s

/-! Leaving the hot tier (R184-R186, R190). -/

/-- R186: space comes for a WB_PENDING entry: it is written back, or placed anew. -/
def execPendingWriteBack (way : Nat) (s : State) : Host.Outcome State Fault Refusal :=
  match tget? s.flow.hot way with
  | some e => if e.wbPending && !e.held then done s (s.leaveHot way e).2 else .next s
  | none => .next s

/-- The entries of a set whose last packet is more than HOT_IDLE old leave (R185). -/
def State.demote (s : State) : List Nat → State
  | [] => s
  | w :: ws =>
    match tget? s.flow.hot w with
    | some e =>
      if !e.held && !e.wbPending && s.cur.flow.hotIdle * 1000000000 < s.flowNow - e.last s.flowNow then
        ((s.leaveHot w e).2.flowDev 1).demote ws
      else s.demote ws
    | none => s.demote ws

/-- R185: the visit of one set. -/
def execHotIdleDemote (set : Nat) (s : State) : Host.Outcome State Fault Refusal :=
  if set < 131072 && s.booted then done s (s.demote ((List.range 8).map (set * 8 + ·))) else .next s

end Sys2Proof.Machine
end

