-- ==== Sys2Proof/Machine/FlowCmd.lean ====
section
/-!
DEFINITION. The flow commands, the export, the ageing sweep, the scrub and the fault history (spec 06, 07; R337).
-/
namespace Sys2Proof.Machine

/-! Views and settings (R197, R198). -/

/-- The flow view of a hot-tier form: an entry, or one loaded from a tile (Table 6.14). -/
def flowView (result where_ : Nat) (e : HotEntry) (last first now : Nat) : Bytes :=
  le 1 result ++ le 1 where_ ++ le 1 e.w ++ [e.sampling] ++ le 4 e.home ++ fit 40 e.key ++ le 3 e.action ++ [e.tcp] ++ le 1 e.member ++
    [e.control] ++ [0, 0] ++ le 8 e.packets ++ le 8 e.octets ++ le 8 last ++ le 8 first ++ le 8 now

/-- The view of a result without a flow. -/
def emptyView (result where_ home now : Nat) : Bytes := le 1 result ++ le 1 where_ ++ [0, 0] ++ le 4 home ++ zeros 80 ++ le 8 now

def State.viewHot (s : State) (e : HotEntry) : Bytes := flowView 0 0 e (e.last s.flowNow) (e.first s.flowNow) s.flowNow
def State.viewTile (s : State) (t : Nat) (p : Bytes) : Bytes :=
  flowView 0 (if (tget? s.dram.wq t).isSome then 1 else 2) (hotOfTile p t s.flowNow) (tileLast p s.flowNow) (tileFirst p s.flowNow) s.flowNow

/-- FLOW_READ BY_KEY (R197). -/
def State.readByKey (s : State) (key : Bytes) : Bytes × State :=
  match s.findFlow key .command with
  | (.hot _ e, s1) => (s1.viewHot e, s1)
  | (.tile t p _, s1) => (s1.viewTile t p, s1)
  | (.absent bad, s1) => (emptyView (if bad then 2 else 1) 0 0 s1.flowNow, s1)

/-- FLOW_READ BY_TILE (R197). -/
def State.readByTile (s : State) (t : Nat) : Bytes × State :=
  match s.hotByHome t with
  | some (_, e) => (s.viewHot e, s)
  | none =>
    let at_ := if (tget? s.dram.wq t).isSome then 1 else 2
    match s.readTile t .command with
    | (none, s1) => (emptyView 2 at_ t s1.flowNow, s1)
    | (some p, s1) => (if p == invalidPayload then emptyView 3 at_ t s1.flowNow else s1.viewTile t p, s1)

/-- The settings as FLOW_READ replies them (Tables 6.3, 6.16). -/
def flowSettings (c : FlowCfg) : Bytes :=
  zeros 4 ++ le 4 c.hotIdle ++ zeros 8 ++ c.ports.flatMap fun p =>
    le 1 p.network.toNat ++ le 1 p.ctxOffset ++ le 2 p.ctxMask.toNat ++ le 2 p.ctxBase.toNat ++ [0, 0]

def recFlowRead (m : Msg) (s : State) (b : Bytes) (base : Nat) : RecAns :=
  let mode := byteAt b 0
  if 2 < mode then .refuse Status.badParam base
  else recZero b base [1, 2, 3] <|
    if mode = 2 then
      if m.batch then .refuse Status.badParam base
      else recZero b base (span 4 47) (.ok s (flowSettings (s.view m).flow))
    else if mode = 0 then
      recZero b base (span 4 7) (let (v, s1) := s.readByKey (slice b 8 40); .ok s1 v)
    else recZero b base (span 8 47) <|
      if s.inRegion 0 (fieldLe b 4 4) then (let (v, s1) := s.readByTile (fieldLe b 4 4); .ok s1 v)
      else .refuse Status.range (base + 4)

/-- R197: FLOW_READ. -/
def cmdFlowRead : Cmd :=
  { op := 0x0601, flags := fun m => flagsIn 7 m && !(m.stage && m.snap) && (!m.stage || m.p 0 == 2), memory := true, legal := legalAll, len := lenRec 48 42,
    changes := fun _ => false, body := fun m s => records m 48 (recFlowRead m) s }
def execFlowRead (m : Msg) (s : State) : Host.Outcome State Fault Refusal := runCommand cmdFlowRead m s

/-! FLOW_WRITE (R198, R199). -/

/-- The tile of a hot-tier form, its W as it stands. -/
def HotEntry.asTile (e : HotEntry) (last first : Nat) : Bytes :=
  fit 40 e.key ++ le 3 e.action ++ le 3 (compress e.packets) ++ le 3 (compress e.octets) ++ le 3 (last / 2 ^ 20) ++ le 3 (first / 2 ^ 24) ++
    [e.tcp] ++ le 1 e.member ++ [e.control] ++ le 1 e.w ++ [e.sampling]

/-- Apply a change of the record at the flow's newest place, in the hot tier or through the write queue (R199). -/
def State.applyFlow (s : State) (w : Newest) (f : HotEntry → HotEntry) (t : Bytes → Bytes) : State :=
  match w with
  | .hot way e => s.setHot way { f e with dirty := true }
  | .tile home p _ => s.taskWrite home (t p)
  | .absent _ => s

/-- What a STORE writes over an existing tile (Table 6.15). -/
def storeTile (b p : Bytes) (now : Nat) : Bytes :=
  let keep := bitAt b 1 1
  let control := controlByte (byteAt b 2) (bitAt b 3 0) ((tileControl p).getLsbD 3) (ctlSample (tileControl p))
  let counts := if keep then slice p 43 12 else zeros 6 ++ le 3 (now / 2 ^ 20) ++ le 3 (now / 2 ^ 24)
  slice p 0 40 ++ slice b 4 3 ++ counts ++ [tcpByte (slice p 0 40) (byteAt b 48)] ++ slice b 7 1 ++ [control] ++
    (if keep then slice p 58 1 else [0]) ++ slice p 59 1

/-- The same over a hot-tier entry. -/
def storeHot (b : Bytes) (e : HotEntry) (now : Nat) : HotEntry :=
  let control := controlByte (byteAt b 2) (bitAt b 3 0) (e.control.getLsbD 3) (ctlSample e.control)
  let x := { e with action := fieldLe b 4 3, member := byteAt b 7, control := control, tcp := tcpByte e.key (byteAt b 48) }
  if bitAt b 1 1 then x
  else { x with packets := 0, octets := 0, w := 0, lastSeen := BitVec.ofNat 32 (now / 2 ^ 10), firstSeen := BitVec.ofNat 24 (now / 2 ^ 24) }

/-- A flow bound to a BINDING sets its live bit (R251). -/
def State.keepBinding (s : State) (idx : Nat) : State :=
  if idx != 0xFFFFFF && s.cur.inBindingArea idx && (s.bindingAt idx).isSome then s.setLive idx else s

/-- A new flow of a STORE, placed in the DRAM tier as admission places one (R198). -/
def State.storeNew (s : State) (b : Bytes) : RecAns :=
  let key := slice b 8 40
  let cls := byteAt b 2
  let control := controlByte cls (bitAt b 3 0) (s.epoch.current.getLsbD 0) (s.sampleMark cls key)
  let tile := newFlowTile key (fieldLe b 4 3) (byteAt b 7) control (tcpByte key (byteAt b 48)) s.flowNow
  if s.placeBusy key then .hold s
  else match s.choosePlace s.cur key cls with
    | (.none active, s1) => .refuseWith (s1.countNoRoom active) Status.noRoom 1
    | (.free t, s1) => .ok ((s1.taskWrite t tile).keepBinding (fieldLe b 4 3)) []
    | (.victim t, s1) =>
      if s1.tailingsFull then .refuseWith s1 Status.noRoom 2
      else .ok (((s1.evict t key).taskWrite t tile).keepBinding (fieldLe b 4 3)) []

/-- The first reserved byte or bit of a STORE or SET_BINDING record that is not zero (Table 6.15). -/
def flowWriteFault (b : Bytes) : Option Nat :=
  let store := byteAt b 0 = 1
  let top (n : Nat) : Nat := if store then n else 1
  firstFault ([(decide (top 4 ≤ byteAt b 1), 1), (decide (top 8 ≤ byteAt b 2), 2), (decide (top 2 ≤ byteAt b 3), 3),
    (decide (16 ≤ byteAt b 45), 45), (decide (top 32 ≤ byteAt b 48), 48)] ++ zeroFaults b (span 49 63))

def recFlowWrite (s : State) (b : Bytes) (base : Nat) : RecAns :=
  let key := slice b 8 40
  if !(byteAt b 0 == 1 || byteAt b 0 == 2) then .refuse Status.badParam base
  else match flowWriteFault b with
    | some i => .refuse Status.badParam (base + i)
    | none =>
      if fieldLe b 4 3 != 0xFFFFFF && s.regionSize 1 ≤ fieldLe b 4 3 then .refuse Status.range (base + 4)
      else if (s.requestOf key).isSome then .wait s
      else
        let (w, s1) := s.findFlow key .command
        if byteAt b 0 = 2 then
          match w with
          | .absent _ => .refuseWith s1 Status.range (base + 8)
          | _ => .ok (s1.applyFlow w (fun e => { e with action := fieldLe b 4 3, member := byteAt b 7 })
              (fun p => splice (splice p 40 (slice b 4 3)) 56 (slice b 7 1))) []
        else match w with
          | .absent _ => s1.storeNew b
          | _ =>
            if bitAt b 1 0 then .refuseWith s1 Status.badParam (base + 1)
            else .ok (s1.applyFlow w (fun e => storeHot b e s1.flowNow) (fun p => storeTile b p s1.flowNow)) []

/-- The first setting out of range of a SETTINGS record (Table 6.16). -/
def settingsFault (m : Msg) : Option Nat :=
  firstFault ([(m.f 4 4 == 0 || 3600 < m.f 4 4, 4)] ++ (List.range 26).flatMap fun p =>
    let o := 16 + 8 * p
    [(decide (1 < m.p o), o), (m.p (o + 1) != 0xFF && !(8 ≤ m.p (o + 1) && m.p (o + 1) ≤ 126), o + 1)])

def bodyFlowSettings (m : Msg) (s : State) : Done :=
  if !m.stage then refuse s Status.badParam 6
  else match settingsFault m with
    | some i => outOfRange s i
    | none => needZero s m ([1, 2, 3] ++ span 8 15 ++ (List.range 26).flatMap fun p => [22 + 8 * p, 23 + 8 * p]) <|
      ok (s.stageWith fun v => { v with flow := { v.flow with
        hotIdle := m.f 4 4
        ports := (List.range 26).map fun p =>
          { network := m.p (16 + 8 * p) == 1, ctxOffset := m.p (17 + 8 * p), ctxMask := BitVec.ofNat 16 (m.f (18 + 8 * p) 2),
            ctxBase := BitVec.ofNat 16 (m.f (20 + 8 * p) 2) } } })

/-- R198: FLOW_WRITE; byte 0 selects the SETTINGS form. -/
def cmdFlowWrite : Cmd :=
  { op := 0x0602, flags := fun m => flagsIn 5 m && (!m.stage || m.p 0 == 3) && !(m.batch && m.p 0 == 3), memory := true, legal := legalRun,
    len := fun m => if m.p 0 = 3 then lenIs 224 m else lenRec 64 63 m,
    most := fun m => if m.stage then 224 else if m.batch then 4032 else 64, locks := fun m => m.p 0 == 3, changes := fun _ => true,
    body := fun m s => if m.p 0 = 3 then bodyFlowSettings m s else records m 64 recFlowWrite s }
def execFlowWrite (m : Msg) (s : State) : Host.Outcome State Fault Refusal := runCommand cmdFlowWrite m s

/-! FLOW_DELETE and FLOW_PIN (R228, R229). -/

def recFlowDelete (s : State) (b : Bytes) (base : Nat) : RecAns :=
  let key := slice b 8 40
  recZero b base (span 0 7) <|
    if 16 ≤ byteAt b 45 then .refuse Status.badParam (base + 45)
    else if (s.requestOf key).isSome || s.reinjecting key || s.parked.any (fun x => x.key.length == 40 && sameKey x.key key) then .wait s
    else
      let (w, s1) := s.findFlow key .command
      match w.home with
      | none => .refuseWith s1 Status.range (base + 8)
      | some h =>
        if !s1.endRoom then .refuseWith s1 Status.noRoom 9
        else .ok ((State.waitRoom h 17 s1).endFlow w 2) []

/-- R228: FLOW_DELETE. -/
def cmdFlowDelete : Cmd :=
  { op := 0x0605, flags := flagsIn 4, memory := true, legal := legalRun, len := lenRec 48 85, changes := fun _ => true,
    body := fun m s => records m 48 recFlowDelete s }
def execFlowDelete (m : Msg) (s : State) : Host.Outcome State Fault Refusal := runCommand cmdFlowDelete m s

def pinBit (c : Byte) (on : Bool) : Byte := if on then c ||| 16#8 else c &&& ~~~ 16#8

def recFlowPin (s : State) (b : Bytes) (base : Nat) : RecAns :=
  let key := slice b 8 40
  let on := byteAt b 0 == 1
  if 1 < byteAt b 0 then .refuse Status.badParam base
  else recZero b base (span 1 7) <|
    if 16 ≤ byteAt b 45 then .refuse Status.badParam (base + 45)
    else if (s.requestOf key).isSome then .wait s
    else
      let (w, s1) := s.findFlow key .command
      match w with
      | .absent _ => .refuseWith s1 Status.range (base + 8)
      | _ => .ok (s1.applyFlow w (fun e => { e with control := pinBit e.control on }) (fun p => splice p 57 [pinBit (tileControl p) on])) []

/-- R229: FLOW_PIN. -/
def cmdFlowPin : Cmd :=
  { op := 0x0606, flags := flagsIn 4, memory := true, legal := legalRun, len := lenRec 48 85, changes := fun _ => true,
    body := fun m s => records m 48 recFlowPin s }
def execFlowPin (m : Msg) (s : State) : Host.Outcome State Fault Refusal := runCommand cmdFlowPin m s

/-- A waiting LOAD_SEAM goes on once its task has a miner (R130, R328). -/
def State.resumeLoad (s : State) (ch : Nat) (m : Msg) : State :=
  let s1 := s.setChan ch { s.chan ch with waiting := none }
  (finish cmdParseGraphLoad m s1 (loadNodes m.norm s1) 0).finishWork (· == .loadSeam ch)

/-- A waiting flow command goes on from its record `n`, which is checked and applied if it need wait no longer (R42, R199). Its reply carries
the epoch of its resumption (R48; DESIGN CHOICE, log 134). -/
def State.resumeFlow (s : State) (ch op : Nat) (m : Msg) (n : Nat) : State :=
  let c := if op = 0x0602 then cmdFlowWrite else if op = 0x0605 then cmdFlowDelete else cmdFlowPin
  let k := if op = 0x0602 then 64 else 48
  let f := if op = 0x0602 then recFlowWrite else if op = 0x0605 then recFlowDelete else recFlowPin
  let s1 := s.setChan ch { s.chan ch with waiting := none }
  finish c m s1 (records m.norm k f s1 n) (c.recSize m)

/-- R42: a command that waits goes on. -/
def execFlowCommandResume (ch : Nat) (s : State) : Host.Outcome State Fault Refusal :=
  match (s.chan ch).waiting with
  | some (.flow op m n _) =>
    if 3 < ch || s.refreshing then .next s
    else if op = 0x0404 then (if s.atWork (.loadSeam ch) then done s (s.resumeLoad ch m) else .next s)
    else done s (s.resumeFlow ch op m n)
  | _ => .next s

/-! FLOW_EXPORT (R200). -/

def ExportState.code : ExportState → Nat | .none => 0 | .running => 1 | .done => 2 | .aborted => 3

/-- The record of one tile of the flow region as an export takes it: payload, whether it is a flow, merged from the hot tier or the write
queue, or faulty. -/
def State.exportTile (s : State) (t : Nat) : Bytes × Bool × Bool × Bool × State :=
  match s.hotByHome t with
  | some (_, e) => (e.tile s.flowNow e.nextW, true, true, false, s)
  | none =>
    let queued := (tget? s.dram.wq t).isSome
    match s.readTile t .miner with
    | (some p, s1) => (p, p != invalidPayload, queued && p != invalidPayload, false, s1)
    | (none, s1) => (invalidPayload, false, false, true, s1)

/-- Copy the next `n` tiles, from ordinal `k`. -/
def State.exportTiles (dest : List (Nat × Nat)) : Nat → Nat → State → State
  | 0, _, s => s
  | n + 1, k, s =>
    let (p, flow, merged, bad, s1) := s.exportTile (s.flow.exporter.first + k)
    let s2 := s1.putTile (tileAt dest k) p
    let x := s2.flow.exporter
    State.exportTiles dest n (k + 1) { s2 with flow := { s2.flow with exporter :=
      { x with done := x.done + 1, flows := x.flows + flow.toNat, merged := x.merged + merged.toNat, faults := x.faults + bad.toNat } } }

/-- End an export after `n` tiles. -/
def State.endExport (s : State) (n : Nat) (st : ExportState) : State :=
  let s1 := State.exportTiles (s.seamRuns s.flow.exporter.dest) n 0 s
  let s2 := { s1 with flow := { s1.flow with exporter :=
    { s1.flow.exporter with state := st, tookMs := (s.now - s1.flow.exporter.start) / 1000000, holds := none } } }
  if st == .aborted then s2.dropWork (· == .exporter) else s2.finishWork (· == .exporter)

/-- How far a running export has come, which the spec leaves open. -/
def State.exportProgress (s : State) : Nat := (Config.freeWord s.free).toNat % (s.flow.exporter.count + 1)

def exportInfo (x : Export) : Bytes :=
  le 1 x.state.code ++ zeros 3 ++ le 4 x.done ++ le 4 x.flows ++ le 4 x.merged ++ le 4 x.faults ++ le 4 x.tookMs

/-- The export as STATUS shows it: of a running one, what a copy of its progress so far would have counted. -/
def State.exportStatus (s : State) : Bytes :=
  let x := s.flow.exporter
  if x.state != .running then exportInfo x
  else
    let y := (State.exportTiles [] s.exportProgress 0 s).flow.exporter
    exportInfo { y with tookMs := (s.now - x.start) / 1000000 }

/-- Start an export. -/
def State.startExport (s : State) (m : Msg) : Done :=
  let first := m.f 4 4
  let count := m.f 8 4
  let inside := match ordinalOf (s.regionRuns 0) first 0 with | some k => k + count ≤ s.regionSize 0 | none => false
  if !inside then outOfRange s 4
  else if count = 0 then outOfRange s 8
  else match s.dram.dir.find (m.f 12 4) with
  | none => badParam s 12
  | some d =>
    let overlap := (s.seamRuns d).any fun r => (s.regionRuns 0).any fun q => r.1 < q.1 + q.2 && q.1 < r.1 + r.2
    if overlap || !(s.dram.dir.storeTiles d).isEmpty then badParam s 12
    else if s.seamLength d != count then outOfRange s 12
    else if s.flow.exporter.state == .running then refuse s Status.noRoom 1
    else match State.newTasks TaskType.command .exporter (s.typeCfg TaskType.command).maxMiners s with
      | none => refuse s Status.noRoom 0x10
      | some s1 =>
        let x : Export := { state := .running, sequence := s.flow.exporter.sequence + 1, first := first, count := count, dest := d,
                            holds := if m.snap then some s.epoch.current else none, done := 0, flows := 0, merged := 0, faults := 0,
                            start := s.now, tookMs := 0 }
        ok { s1 with flow := { s1.flow with exporter := x } } (le 4 x.sequence)

def bodyFlowExport (m : Msg) (s : State) : Done :=
  if 2 < m.p 0 then badParam s 0
  else needZero s m ([1, 2, 3] ++ span 16 23) <|
    if m.p 0 = 0 then s.startExport m
    else needZero s m (span 4 15) <|
      if m.p 0 = 1 then ok { s with free := s.free + 1 } s.exportStatus
      else
        let s1 := if s.flow.exporter.state == .running then State.endExport { s with free := s.free + 1 } s.exportProgress .aborted else s
        ok s1 (exportInfo s1.flow.exporter)

/-- R200: FLOW_EXPORT. -/
def cmdFlowExport : Cmd :=
  { op := 0x0603, flags := fun m => flagsIn 2 m && (!m.snap || m.p 0 == 0), legal := legalAll, len := lenIs 24,
    changes := fun m => m.p 0 != 1, body := bodyFlowExport }
def execFlowExport (m : Msg) (s : State) : Host.Outcome State Fault Refusal := runCommand cmdFlowExport m s

/-- R200, R438: a flow export finishes on a miner; with SNAPSHOT its hold passes to the destination seam for 100 ms. -/
def execFlowExportDone (hurt : Upsets) (s : State) : Host.Outcome State Fault Refusal :=
  let x := s.flow.exporter
  if s.refreshing || x.state != .running || !s.atWork .exporter then .next s
  else
    let s1 := (s.upset hurt).endExport x.count .done
    done s (match x.holds with
      | some e => { s1 with host := { s1.host with holds := s1.host.holds ++ [{ desc := x.dest, epoch := e, until_ := s.now + 100000000 }] } }
      | none => s1)

/-! FLOW_STATS (R201). -/

def bodyFlowStats (m : Msg) (s : State) : Done :=
  if 1 < m.p 0 then badParam s 0
  else needZero s m [1, 2, 3] <|
    let hot := s.flow.hot
    let out := le 4 hot.length ++ le 4 (hot.filter fun e => e.2.dirty).length ++
      le 4 (hot.filter fun e => e.2.held || e.2.wbPending).length ++ le 4 s.flow.requests.length ++
      le 2 s.flow.held0.length ++ le 2 s.flow.held1.length ++ le 2 s.flow.peak0 ++ le 2 s.flow.peak1 ++
      bankBytes s.flow.device ++ s.flow.pipes.flatMap bankBytes
    ok (if m.p 0 = 1 then { s with flow := { s.flow with device := zeroBank s.flow.device, pipes := s.flow.pipes.map zeroBank,
                                                         peak0 := s.flow.held0.length, peak1 := s.flow.held1.length } } else s) out

/-- R201: FLOW_STATS. -/
def cmdFlowStats : Cmd :=
  { op := 0x0604, legal := legalAll, len := lenIs 4, changes := fun m => m.p 0 == 1, body := bodyFlowStats }
def execFlowStats (m : Msg) (s : State) : Host.Outcome State Fault Refusal := runCommand cmdFlowStats m s

/-! Staged flow settings (R230-R232). -/

def State.stageFlow (s : State) (f : FlowCfg → FlowCfg) : State := s.stageWith fun v => { v with flow := f v.flow }

def classRecord (c : Nat) (x : FlowClass) : Bytes :=
  le 1 c ++ [0] ++ le 1 x.random.toNat ++ le 1 x.overflowDrop.toNat ++ x.timeouts.flatMap (le 2) ++ zeros 12

def recFlowClassSet (m : Msg) (s : State) (b : Bytes) (base : Nat) : RecAns :=
  let c := byteAt b 0
  if 7 < c then .refuse Status.badParam base
  else if 1 < byteAt b 1 then .refuse Status.range (base + 1)
  else if byteAt b 1 = 0 then recZero b base (span 2 31) (.ok s (classRecord c ((s.view m).flow.classes.getD c FlowClass.reset)))
  else if !m.stage then noStage
  else match firstFault ([(decide (1 < byteAt b 2), 2), (decide (1 < byteAt b 3), 3)] ++ (List.range 8).map fun i =>
      (fieldLe b (4 + 2 * i) 2 == 0 || decide (10800 < fieldLe b (4 + 2 * i) 2), 4 + 2 * i)) with
    | some i => .refuse Status.range (base + i)
    | none =>
      let x : FlowClass :=
        { random := byteAt b 2 == 1, overflowDrop := byteAt b 3 == 1, timeouts := (List.range 8).map fun i => fieldLe b (4 + 2 * i) 2 }
      recZero b base (span 20 31) (.ok (s.stageFlow fun f => { f with classes := f.classes.set c x }) [])

/-- R230: FLOW_CLASS_SET. -/
def cmdFlowClassSet : Cmd :=
  { op := 0x0607, flags := flagsIn 5, legal := legalRead fun m => !anyRec m 32 1, len := lenRec 32 8, locks := fun m => anyRec m 32 1,
    changes := fun m => anyRec m 32 1, body := fun m s => records m 32 (recFlowClassSet m) s }
def execFlowClassSet (m : Msg) (s : State) : Host.Outcome State Fault Refusal := runCommand cmdFlowClassSet m s

def recFlowNewLimit (m : Msg) (s : State) (b : Bytes) (base : Nat) : RecAns :=
  let c := fieldLe b 0 2
  if 4095 < c then .refuse Status.badParam base
  else if 1 < byteAt b 2 then .refuse Status.range (base + 2)
  else if byteAt b 2 = 0 then
    let x := (tget? (s.view m).flow.limits c).getD { drop := false, rate := 0, depth := 64 }
    recZero b base (span 3 11) (.ok s (le 2 c ++ [0] ++ le 1 x.drop.toNat ++ le 4 x.rate ++ le 2 x.depth ++ [0, 0]))
  else if !m.stage then noStage
  else if 1 < byteAt b 3 then .refuse Status.range (base + 3)
  else if 1000000 < fieldLe b 4 4 then .refuse Status.range (base + 4)
  else if fieldLe b 8 2 = 0 then .refuse Status.range (base + 8)
  else recZero b base [10, 11] <|
    .ok (s.stageFlow fun f => { f with limits := tset f.limits c { drop := byteAt b 3 == 1, rate := fieldLe b 4 4, depth := fieldLe b 8 2 } }) []

/-- R231: FLOW_NEW_LIMIT. -/
def cmdFlowNewLimit : Cmd :=
  { op := 0x0609, flags := flagsIn 5, legal := legalRead fun m => !anyRec m 12 2, len := lenRec 12 340, locks := fun m => anyRec m 12 2,
    changes := fun m => anyRec m 12 2, body := fun m s => records m 12 (recFlowNewLimit m) s }
def execFlowNewLimit (m : Msg) (s : State) : Host.Outcome State Fault Refusal := runCommand cmdFlowNewLimit m s

/-- Flows present in the flow region: its tiles that hold one, among those memory, the write queue or the hot tier know of. -/
def State.flowsPresent (s : State) : Nat :=
  let listed := (s.dram.mem.map fun c => c.1 / 64) ++ s.dram.wq.map (·.1) ++ s.flow.hot.map (·.2.home)
  (listed.eraseDups.filter fun t => s.inRegion 0 t && ((s.hotByHome t).isSome || (s.slotFlow t).isSome)).length

def bodyFlowAgeConfig (m : Msg) (s : State) : Done :=
  let op := m.p 0
  if 2 < op then badParam s 0
  else if (if op = 2 then 2 ≤ m.p 1 else m.p 1 != 0) then badParam s 1
  else needZero s m (if op = 1 then [5, 6, 7] else span 2 7) <|
    if op = 0 then ok s ([0, 0] ++ le 2 (s.view m).flow.sweepPeriod ++ le 1 (s.view m).flow.scrubPeriod ++ zeros 3)
    else if op = 2 then
      ok (if m.p 1 = 1 then { s with flow := { s.flow with life := zeroBank s.flow.life } } else s)
        (le 4 s.flowsPresent ++ le 4 s.flow.tailings.length ++ le 4 (satur 32 s.flow.sweepMs) ++ le 4 s.flow.scrubPos ++ bankBytes s.flow.life)
    else if !m.stage then refuse s Status.badParam 6
    else if m.f 2 2 < 5 || 3600 < m.f 2 2 then outOfRange s 2
    else if m.p 4 = 0 || 24 < m.p 4 then outOfRange s 4
    else ok (s.stageFlow fun f => { f with sweepPeriod := m.f 2 2, scrubPeriod := m.p 4 })

/-- R232: FLOW_AGE_CONFIG. -/
def cmdFlowAgeConfig : Cmd :=
  { op := 0x0608, flags := fun m => flagsIn 1 m && (!m.stage || m.p 0 != 2), legal := legalRead fun m => m.p 0 != 1, len := lenIs 8,
    locks := fun m => m.p 0 == 1, changes := fun m => m.p 0 == 1 || (m.p 0 == 2 && m.p 1 == 1), body := bodyFlowAgeConfig }
def execFlowAgeConfig (m : Msg) (s : State) : Host.Outcome State Fault Refusal := runCommand cmdFlowAgeConfig m s

def bodyFlowHashSeed (m : Msg) (s : State) : Done :=
  if 1 < m.p 0 then badParam s 0
  else needZero s m [1, 2, 3] <|
    if m.p 0 = 0 then needZero s m (span 4 11) (ok s (zeros 4 ++ le 4 s.flow.seed0.toNat ++ le 4 s.flow.seed1.toNat))
    else if s.flowsPresent != 0 then badParam s 0
    else if m.f 4 4 = m.f 8 4 then badParam s 8
    else ok { s with flow := { s.flow with seed0 := BitVec.ofNat 32 (m.f 4 4), seed1 := BitVec.ofNat 32 (m.f 8 4) } }

/-- R233: FLOW_HASH_SEED. -/
def cmdFlowHashSeed : Cmd :=
  { op := 0x060A, legal := fun m s => s.booted && (m.p 0 != 1 || s.life.state == .init), len := lenIs 12, locks := fun m => m.p 0 == 1,
    changes := fun m => m.p 0 == 1, body := bodyFlowHashSeed }
def execFlowHashSeed (m : Msg) (s : State) : Host.Outcome State Fault Refusal := runCommand cmdFlowHashSeed m s

/-! The ageing sweep (R216-R218). -/

/-- The timeout of a flow in s (Table 7.2). -/
def timeoutOf (c : FlowClass) (key : Bytes) (tcp : Byte) : Nat :=
  let i := if bitAt key 37 1 then 0 else if bitAt key 37 2 then 1
    else if byteAt key 36 = 6 then (match tcp.toNat / 32 with | 1 => 2 | 2 => 3 | 3 => 4 | 4 => 5 | 5 => 6 | _ => 7) else 7
  c.timeouts.getD i 120

/-- A flow has been idle past its timeout and is neither pinned, held nor asked for (R216, R218). -/
def State.idleOut (s : State) (key : Bytes) (control tcp : Byte) (last : Nat) (held : Bool) : Bool :=
  !ctlPinned control && !held && (s.requestOf key).isNone &&
    decide (timeoutOf (s.cur.flow.classes.getD (ctlClass control) FlowClass.reset) key tcp * 1000000000 < s.flowNow - last)

/-- The sweep's visit of one tile; false where its record or its write must wait for space (R393). -/
def State.sweepTile (s : State) (t : Nat) (read : Option Bytes) : Bool × State :=
  let expire (w : Newest) : Bool × State := if s.endRoom && s.wqRoom t false then (true, s.endFlow w 1) else (false, s)
  match s.hotByHome t with
  | some (way, e) => if s.idleOut e.key e.control e.tcp (e.last s.flowNow) e.held then expire (.hot way e) else (true, s.keepBinding e.action)
  | none =>
    match read with
    | some p =>
      if p == invalidPayload then (true, s)
      else if s.idleOut (tileKey p) (tileControl p) (tileTcp p) (tileLast p s.flowNow) false then expire (.tile t p false)
      else (true, s.keepBinding (tileAction p))
    | none => (true, s)

def State.sweepTiles : List (Nat × Option Bytes) → State → Bool × State
  | [], s => (true, s)
  | (t, p) :: ts, s =>
    match s.sweepTile t p with
    | (true, s1) => State.sweepTiles ts s1
    | (false, s1) => (false, s1)

/-- The sweep goes on to its next bucket, or ends its pass and the binding visit is due (R217, R254). -/
def State.sweepOn (s : State) : State :=
  if s.flow.sweepNext + 1 < s.buckets then { s with flow := { s.flow with sweepNext := s.flow.sweepNext + 1 } }
  else
    { s.lifeCount Life.sweeps with
        flow := { (s.lifeCount Life.sweeps).flow with
          sweepNext := 0, sweepStart := s.now, sweepMs := (s.now - s.flow.sweepStart) / 1000000,
          sweepFrom := s.sweepDue s.buckets, sweepFromPos := 0 },
        nat := { s.nat with visitDue := true } }

/-- R217: the SWEEP task visits its next bucket, once it is due; it holds while a clearing runs (R363). -/
def execSweepBucketVisit (hurt : Upsets) (s : State) : Host.Outcome State Fault Refusal :=
  if s.refreshing || !s.serves TaskType.sweep || !s.booted || s.buckets = 0 || s.life.clearing != .none || s.now < s.sweepDue s.flow.sweepNext then .next s
  else
    let (ts, s1) := (s.struckOn hurt .miner).readBucket s.flow.sweepNext .miner
    match State.sweepTiles ts s1 with
    | (true, s2) => done s s2.sweepOn
    | (false, s2) => done s s2

/-! The scrub (R223). -/

/-- The place of the n-th queue entry, counted through the queues in key order: the number of its descriptor. -/
def nthQueued : Table QueueLive → Nat → Option (Nat × Nat)
  | [], _ => none
  | (q, x) :: rest, n => if n < x.items.length then some (q, n) else nthQueued rest (n - x.items.length)

/-- Remove an entry of a queue. -/
def State.unqueue (s : State) (q i : Nat) : State := s.setQueue q { s.queue q with items := (s.queue q).items.eraseIdx i }

/-- The entry of a descriptor, by its number. -/
def State.queuedAt (s : State) (n : Nat) : Option (Nat × Nat × Queued) :=
  (nthQueued s.buf.queues n).bind fun (q, i) => ((s.queue q).items[i]?).map fun e => (q, i, e)

/-- An uncorrectable word of the packet buffer (R293, R294): logged, for the pipeline of the descriptor's packet; a descriptor discards its
packet. -/
def State.bufferFault (s : State) (h : Nat × Nat) : State :=
  let found := if h.1 = 2 then s.queuedAt h.2 else none
  let s1 := s.logError ErrCode.bufferEcc ((found.map (·.2.2.pkt.pipe.toNat)).getD 0) (le 1 h.1 ++ zeros 3 ++ le 4 h.2)
  match found with
  | some (q, i, e) => ((s1.unqueue q i).bufCount BufCounter.ecc).countDiscard e.pkt
  | none => s1

/-- R223: the SCRUB task reads its next tile or word group, once it is due; it holds while a clearing runs (R363). -/
def execScrubRead (hurt : Upsets) (s : State) : Host.Outcome State Fault Refusal :=
  if s.refreshing || !s.serves TaskType.scrub || !s.booted || s.life.clearing != .none || s.now < s.scrubDue s.flow.scrubNext then .next s
  else
    let n := runsLength s.scrubRuns
    let k := s.flow.scrubNext
    let s1 := hurt.store.foldl (fun s i => s.storeFault i .scrub) (hurt.buffer.foldl State.bufferFault (s.struckOn hurt .scrub))
    let s2 := s1.lifeCount Life.scrubCorrected hurt.corrected
    let s3 := if k < n then
        (let t := tileAt s.scrubRuns k
         let s3 := (s2.readTile t .scrub).2
         { s3 with flow := { s3.flow with scrubPos := t } })
      else s2
    if k + 1 < s.scrubTotal then done s { s3 with flow := { s3.flow with scrubNext := k + 1 } }
    else done s { s3.lifeCount Life.scrubs with flow := { (s3.lifeCount Life.scrubs).flow with
      scrubNext := 0, scrubStart := s.now, scrubFrom := s.scrubDue s.scrubTotal, scrubFromPos := 0 } }

/-! Promotion (R337). -/

/-- The sweep, or the scrub, lags its schedule by more than a sixteenth of its period. -/
def State.lags (s : State) (type : Nat) : Bool :=
  if type = TaskType.sweep then s.cur.flow.sweepPeriod * 1000000000 / 16 < s.now - s.sweepDue s.flow.sweepNext
  else s.cur.flow.scrubPeriod * 3600000000000 / 16 < s.now - s.scrubDue s.flow.scrubNext

/-- At a commit a new SWEEP_PERIOD, or SCRUB_PERIOD, paces the pass from its next place on (R232). -/
def State.applyPeriods (old s : State) : State :=
  { s with flow := { s.flow with
      sweepFrom := old.sweepDue old.flow.sweepNext, sweepFromPos := old.flow.sweepNext,
      scrubFrom := old.scrubDue old.flow.scrubNext, scrubFromPos := old.flow.scrubNext } }

/-- Raise or end the promotion of a type: its ready task joins the list of the level now in force. -/
def State.setPromoted (s : State) (type : Nat) (on : Bool) : State :=
  let mark (s : State) : State :=
    { s with miners := if type = TaskType.sweep then { s.miners with sweepUp := on } else { s.miners with scrubUp := on } }
  match s.miners.tasks.find? (fun e => e.2.type == type) with
  | none => mark s
  | some (k, t) =>
    let s1 := mark (s.unready k)
    let s2 := match t.state with | .running _ => s1 | .ready => s1.makeReady k | .parked => if on then s1.makeReady k else s1
    if on then (s2.minerCount 2).trace 5 (match t.state with | .running m => m | _ => 0) k t t.address t.wait else s2

def State.judgeLag (s : State) (type : Nat) : State :=
  if s.lags type == s.promoted type then s else s.setPromoted type (s.lags type)

/-- R337: a lagging sweep or scrub is promoted, and loses its promotion when its lag is cleared. -/
def execTaskPromote (s : State) : Host.Outcome State Fault Refusal :=
  if s.booted then done s ((s.judgeLag TaskType.sweep).judgeLag TaskType.scrub) else .next s

/-- R221: entries of the fault history whose newer fault is more than 24 h old are freed. -/
def execFaultHistoryExpire (s : State) : Host.Outcome State Fault Refusal :=
  done s { s with flow := { s.flow with history := s.flow.history.filter fun e => s.flowNow ≤ e.newer + dayNs } }

end Sys2Proof.Machine
end

