-- ==== Sys2Proof/Machine/Nat.lean ====
section
/-!
DEFINITION. Translation, balancing and subscribers: their commands, and the tasks that keep bindings, blocks and counters (spec 08).
-/
namespace Sys2Proof.Machine

def State.stageNat (s : State) (f : NatCfg → NatCfg) : State := s.stageWith fun v => { v with nat := f v.nat }

/-! What the shadow refers to (R260). -/

def overlaps (a n b k : Nat) : Bool := a < b + k && b < a + n

/-- A shadow action entry names a pool, or a balancing group. -/
def NatCfg.namesPool (c : NatCfg) (p : Nat) : Bool := c.actions.any fun e => entryKind e.2 == 1 && entryPool e.2 == p
def NatCfg.groupRefs (c : NatCfg) (g : Nat) : Nat := (c.actions.filter fun e => entryGroup e.2 == some g).length

/-- Allocated slots of a pool. -/
def State.poolBlocks (s : State) (r : Bytes) : Table Block :=
  s.nat.blocks.filter fun b => poolSlotBase r ≤ b.1 && b.1 < poolSlotBase r + poolSlots r

/-- Blocks allocated in a pool as the current or a draining version places it. -/
def State.poolInUse (s : State) (p : Nat) : Bool :=
  s.versions.any fun v => match v.pool p with | some r => !(s.poolBlocks r).isEmpty | none => false

/-! NAT_POOL_SET (R243, Table 8.5). -/

/-- The first field of a POOL SET out of range, against the shadow. -/
def State.poolFault (s : State) (b : Bytes) : Option Nat :=
  let c := s.shadow.nat
  let others := c.pools.filter fun e => e.1 != byteAt b 1
  let bs := poolBlock b
  let per := (poolHi b + 1 - poolLo b) / bs
  let bind := poolRuns b * bs
  let clash := (c.addrs.filter fun a => a.1 / 4096 == byteAt b 1).any fun a =>
    c.addrs.any fun d => d.1 / 4096 != byteAt b 1 && slice d.2 12 4 == slice a.2 12 4 &&
      (match tget? c.pools (d.1 / 4096) with | some r => poolCtx r == poolCtx b | none => false)
  firstFault [
    (decide (1 < byteAt b 3), 3), (clash, 4),
    (!(isPow2 bs && 64 ≤ bs && bs ≤ 4096), 6),
    (decide (poolLo b < 1024) || poolLo b % bs != 0, 8),
    (decide (poolHi b < poolLo b) || (poolHi b + 1) % bs != 0, 10),
    (decide (1048576 < poolSlotBase b + poolA b * per) ||
      others.any (fun e => overlaps (poolSlotBase b) (poolA b * per) (poolSlotBase e.2) (poolSlots e.2)), 12),
    (decide (s.regionSize 1 < poolBindBase b + bind) ||
      others.any (fun e => overlaps (poolBindBase b) bind (poolBindBase e.2) (poolRuns e.2 * poolBlock e.2)), 16),
    (poolA b == 0 || decide (4096 < poolA b + (others.map fun e => poolA e.2).foldl (· + ·) 0), 24),
    (decide (1 < byteAt b 26), 26), (decide (7 < byteAt b 27), 27)]

/-- The geometry of a pool, as a version in use places it while blocks of it are allocated, against a new record (R243). -/
def State.poolHeld (s : State) (p : Nat) (b : Bytes) : Option (Nat × Nat) :=
  s.liveVersions.findSome? fun v => (v.pool p).bind fun r => if (s.poolBlocks r).isEmpty then none else poolMoved r b

def recPoolSet (s : State) (b : Bytes) (base : Nat) : RecAns :=
  let p := byteAt b 1
  match s.poolFault b with
  | some i => .refuse Status.range (base + i)
  | none => recZero b base (span 28 31) <|
    match s.poolHeld p b with
    | some f => .refuse Status.badParam (base + f.1)
    | none =>
      .ok (s.stageNat fun c => { c with pools := tset c.pools p b
                                        addrs := c.addrs.filter fun a => a.1 / 4096 != p || decide (a.1 % 4096 < poolA b) }) []

def recPoolRemove (s : State) (b : Bytes) (base : Nat) : RecAns :=
  let p := byteAt b 1
  recZero b base (span 3 31) <|
    if (s.shadow.pool p).isNone then .refuse Status.badParam (base + 1)
    else if s.poolInUse p || s.shadow.nat.namesPool p then .refuse Status.badParam (base + 2)
    else .ok (s.stageNat fun c => { c with pools := tdel c.pools p, addrs := c.addrs.filter fun a => a.1 / 4096 != p }) []

def recPoolAddress (s : State) (b : Bytes) (base : Nat) : RecAns :=
  let p := byteAt b 1
  let ord := fieldLe b 4 2
  match s.shadow.pool p with
  | none => .refuse Status.badParam (base + 1)
  | some r =>
    if 1 < byteAt b 2 then .refuse Status.badParam (base + 2)
    else if byteAt b 3 != 0 then .refuse Status.badParam (base + 3)
    else if poolA r ≤ ord then .refuse Status.range (base + 4)
    else recZero b base (span 6 11 ++ span 16 31) <|
      let twice := s.shadow.nat.addrs.any fun a => a.1 != p * 4096 + ord && slice a.2 12 4 == slice b 12 4 &&
        (match s.shadow.pool (a.1 / 4096) with | some q => poolCtx q == poolCtx r | none => false)
      if twice then .refuse Status.range (base + 12)
      else .ok (s.stageNat fun c => { c with addrs := tset c.addrs (p * 4096 + ord) b }) []

def recNatPoolSet (m : Msg) (s : State) (b : Bytes) (base : Nat) : RecAns :=
  if !m.stage then noStage
  else if byteAt b 0 = 2 then recPoolAddress s b base
  else if byteAt b 0 = 1 then
    (if byteAt b 2 = 0 then recPoolSet s b base else if byteAt b 2 = 1 then recPoolRemove s b base else .refuse Status.badParam (base + 2))
  else .refuse Status.badParam base

/-- R243: NAT_POOL_SET. -/
def cmdNatPoolSet : Cmd :=
  { op := 0x0701, flags := flagsIn 5, legal := legalRun, len := lenRec 32 127, locks := fun _ => true, changes := fun _ => true,
    body := fun m s => records m 32 (recNatPoolSet m) s }
def execNatPoolSet (m : Msg) (s : State) : Host.Outcome State Fault Refusal := runCommand cmdNatPoolSet m s

/-- How many of some bindings are in a state (1 ACTIVE, 2 HOLD). -/
def bindingsIn (bs : List Bytes) (st : Nat) : Nat := (bs.filter fun e => byteAt e 1 == st).length

def bodyNatPoolRead (m : Msg) (s : State) : Done :=
  let v := s.view m
  let p := m.p 1
  if !(m.p 0 == 1 || m.p 0 == 2) then badParam s 0
  else match v.pool p with
    | none => badParam s 1
    | some r =>
      if m.p 0 = 1 then needZero s m (span 2 7) <|
        let bl := s.poolBlocks r
        let (bs, s1) := State.readBindings .command (bl.flatMap fun b => s.blockRun b.1) s
        ok s1 (fit 32 r ++ le 4 bl.length ++ le 4 (poolRuns r - bl.length) ++ le 4 (bindingsIn bs 1) ++ le 4 (bindingsIn bs 2))
      else if poolA r ≤ m.f 2 2 then outOfRange s 2
      else if m.p 4 = 0 || 120 < m.p 4 then outOfRange s 4
      else needZero s m [5, 6, 7] <|
        ok s (((List.range (m.p 4)).filter fun k => m.f 2 2 + k < poolA r).flatMap fun k =>
          let ord := m.f 2 2 + k
          let held := (s.poolBlocks r).filter fun b => (b.1 - poolSlotBase r) / poolPer r == ord
          splice (fit 32 ((v.poolAddr p ord).getD [])) 20 (le 2 held.length))

/-- R260: NAT_POOL_READ. -/
def cmdNatPoolRead : Cmd :=
  { op := 0x0702, flags := flagsRead false, legal := legalAll, len := lenIs 8, changes := fun _ => false, body := bodyNatPoolRead }
def execNatPoolRead (m : Msg) (s : State) : Host.Outcome State Fault Refusal := runCommand cmdNatPoolRead m s

def bodyNatBlockConfig (m : Msg) (s : State) : Done :=
  let op := m.p 0
  if 2 < op then badParam s 0
  else if (if op = 2 then 2 ≤ m.p 1 else m.p 1 != 0) then badParam s 1
  else needZero s m (if op = 1 then [6, 7] else span 2 7) <|
    if op = 0 then ok s ([0, 0] ++ le 2 (s.view m).nat.bindingHold ++ le 2 (s.view m).nat.blockHold ++ [0, 0])
    else if op = 2 then
      ok (if m.p 1 = 1 then { s with nat := { s.nat with counters := zeroBank s.nat.counters } } else s) (bankBytes s.nat.counters)
    else if !m.stage then refuse s Status.badParam 6
    else if m.f 2 2 < 120 || 3600 < m.f 2 2 then outOfRange s 2
    else if 3600 < m.f 4 2 then outOfRange s 4
    else ok (s.stageNat fun c => { c with bindingHold := m.f 2 2, blockHold := m.f 4 2 })

/-- R260, R261: NAT_BLOCK_CONFIG. -/
def cmdNatBlockConfig : Cmd :=
  { op := 0x0703, flags := fun m => flagsIn 1 m && (!m.stage || m.p 0 != 2), legal := legalRead fun m => m.p 0 != 1, len := lenIs 8,
    locks := fun m => m.p 0 == 1, changes := fun m => m.p 0 == 1 || (m.p 0 == 2 && m.p 1 == 1), body := bodyNatBlockConfig }
def execNatBlockConfig (m : Msg) (s : State) : Host.Outcome State Fault Refusal := runCommand cmdNatBlockConfig m s

/-! NAT_BINDING_READ and NAT_BINDING_RELEASE (R260). -/

/-- One entry of NAT_BINDING_READ; one absent or faulty delivers the payload of its tile, or the invalid pattern. -/
def State.bindingView (s : State) (idx : Nat) : Bytes × State :=
  match s.readTile (s.entryTile idx) .command with
  | (none, s1) => ([2] ++ le 1 (s1.nat.live.contains idx).toNat ++ [0, 0] ++ invalidPayload, s1)
  | (some p, s1) =>
    (le 1 (asBinding p).isNone.toNat ++ le 1 (s1.nat.live.contains idx).toNat ++ [0, 0] ++ fit 60 p, s1)

def State.bindingViews : List Nat → State → Bytes × State
  | [], s => ([], s)
  | i :: is, s =>
    let (b, s1) := s.bindingView i
    let (bs, s2) := State.bindingViews is s1
    (b ++ bs, s2)

/-- The entry of a public endpoint in a context, where its block is allocated. -/
def State.publicEntry (s : State) (ctx : Nat) (ip : Bytes) (port : Nat) : Option Nat :=
  match s.cur.publicAddr ip ctx with
  | none => none
  | some (p, ord) =>
    match s.cur.pool p with
    | none => none
    | some r =>
      if port < poolLo r || poolHi r < port then none
      else (s.block (poolSlotBase r + ord * poolPer r + (port - poolLo r) / poolBlock r)).map fun m => m.base + (port - poolLo r) % poolBlock r

/-- A block view of a subscriber's descriptor: slot, pool, public address, first and last port, bindings, block map bits [63:62]. -/
def State.blockView (s : State) (t1 : Bytes) (k : Nat) : Bytes :=
  match (descsOf t1).find? (fun d => d.1 == k) with
  | none => zeros 16
  | some (_, slot, _, pool) =>
    let (pub, first, last) := match s.cur.slotPool slot with
      | some (p, r, ord, first) => ((match s.cur.poolAddr p ord with | some a => slice a 12 4 | none => zeros 4), first, first + poolBlock r - 1)
      | none => (zeros 4, 0, 0)
    let n := ((s.blockRun slot).filter fun i => (s.bindingAt i).isSome).length
    let bits := match s.block slot with | some b => 2 + b.empty.toNat | none => 0
    le 4 slot ++ le 1 pool ++ pub ++ le 2 first ++ le 2 last ++ le 2 n ++ le 1 bits

def bodyNatBindingRead (m : Msg) (s : State) : Done :=
  match m.p 0 with
  | 0 =>
    if m.p 1 = 0 || 60 < m.p 1 then outOfRange s 1
    else needZero s m ([2, 3] ++ span 8 11) <|
      if s.regionSize 1 < m.f 4 4 + m.p 1 then outOfRange s 4
      else
        let (b, s1) := State.bindingViews ((List.range (m.p 1)).map (m.f 4 4 + ·)) s
        ok s1 b
  | 1 => needZero s m [1, 10, 11] <|
    match s.publicEntry (m.f 2 2) (slice m.params 4 4) (m.f 8 2) with
    | some i =>
      let (b, s1) := s.bindingView i
      ok s1 b
    | none => ok s ([1] ++ zeros 3 ++ invalidPayload)
  | 2 => needZero s m ([1, 2, 3] ++ span 8 11) <|
    let s0 := s.meetSub s.cur (m.f 4 4) .command
    if (s0.subRecord s0.cur (m.f 4 4)).isNone then badParam s0 4
    else
      let (t, s1) := s0.readTile1 s0.cur (m.f 4 4) .command
      ok s1 ((List.range 8).flatMap (s1.blockView t))
  | _ => badParam s 0

/-- R260: NAT_BINDING_READ. -/
def cmdNatBindingRead : Cmd :=
  { op := 0x0704, flags := flagsIn 2, memory := true, legal := legalAll, len := lenIs 12, changes := fun _ => false, body := bodyNatBindingRead }
def execNatBindingRead (m : Msg) (s : State) : Host.Outcome State Fault Refusal := runCommand cmdNatBindingRead m s

/-- Free every binding of a block, then the block itself (causes of Table 14.4). -/
def State.dropBlock (s : State) (slot cause : Nat) : State :=
  ((s.blockRun slot).foldl (fun s i => match s.readBinding i .command with | (some _, s1) => s1.freeBinding i | (none, s1) => s1) s).releaseBlock
    slot cause

/-- Slots of a subscriber's blocks in descriptor order. -/
def State.blocksOf (s : State) (sub : Nat) : List Nat :=
  (List.range 8).flatMap fun d => (s.nat.blocks.filter fun x => x.2.sub == sub && x.2.desc == d).map (·.1)

def recBindingRelease (s : State) (b : Bytes) (base : Nat) : RecAns :=
  let n := fieldLe b 4 4
  if 2 < byteAt b 0 then .refuse Status.badParam base
  else recZero b base [1, 2, 3] <|
    match byteAt b 0 with
    | 0 =>
      if s.regionSize 1 ≤ n then .refuse Status.range (base + 4)
      else match s.readBinding n .command with
        | (some _, s1) => .ok (s1.freeBinding n) []
        | (none, s1) => .refuseWith s1 Status.range (base + 4)
    | 1 => if (s.block n).isNone then .refuse Status.range (base + 4) else .ok (s.dropBlock n 2) []
    | _ =>
      let s0 := s.meetSub s.cur n .command
      if (s0.subRecord s0.cur n).isNone then .refuseWith s0 Status.badParam (base + 4)
      else .ok ((s0.blocksOf n).foldl (fun s x => s.dropBlock x 3) s0) []

/-- R260: NAT_BINDING_RELEASE. -/
def cmdNatBindingRelease : Cmd :=
  { op := 0x0705, flags := flagsIn 4, memory := true, legal := legalIn [.test, .service, .degraded], len := lenRec 8 63, changes := fun _ => true,
    body := fun m s => records m 8 recBindingRelease s }
def execNatBindingRelease (m : Msg) (s : State) : Host.Outcome State Fault Refusal := runCommand cmdNatBindingRelease m s

/-! Balancing (R257, R258, R260). -/

/-- Targets of the ACTIVE members (R258 step 1). -/
def slotTargets (active : List (Nat × Nat)) : Table Nat :=
  let total := (active.map (·.2)).foldl (· + ·) 0
  let base : Table Nat := active.map fun a => (a.1, 4096 * a.2 / total)
  let left := 4096 - (base.map (·.2)).foldl (· + ·) 0
  (base.zipIdx).map fun (x : (Nat × Nat) × Nat) => (x.1.1, x.1.2 + if x.2 < left then 1 else 0)

/-- A slot keeps its member while that member is below its target (step 2): the slot's member if it does, and what is left of the
targets. -/
def keepSlots : List Nat → Table Nat → List (Option Nat) × Table Nat
  | [], t => ([], t)
  | m :: ms, t =>
    match tget? t m with
    | some (n + 1) => let (r, t1) := keepSlots ms (tset t m n); (some m :: r, t1)
    | _ => let (r, t1) := keepSlots ms t; (none :: r, t1)

/-- The remaining slots go to the lowest members still below their targets (step 3). -/
def fillSlots : List (Option Nat) → Table Nat → List Nat
  | [], _ => []
  | some m :: ms, t => m :: fillSlots ms t
  | none :: ms, t =>
    match t.find? (fun e => e.2 != 0) with
    | some (m, n) => m :: fillSlots ms (tset t m (n - 1))
    | none => 0xFF :: fillSlots ms t

/-- R258: the slot table recomputed. -/
def Group.recompute (g : Group) : Group :=
  let active := g.members.filterMap fun e => if e.2.2.2 then none else some (e.1, e.2.2.1)
  if active.isEmpty then { g with slots := List.replicate 4096 0xFF }
  else
    let (kept, left) := keepSlots g.slots (slotTargets active)
    { g with slots := fillSlots kept left }

/-- Stage a change of a group, its slot table recomputed; its slot tiles are written again. -/
def State.stageGroup (s : State) (g : Nat) (f : Group → Group) : State :=
  let s1 := s.stageNat fun c => { c with groups := match tget? c.groups g with | some x => tset c.groups g (f x).recompute | none => c.groups }
  match (s.shadow.group g).bind (·.seam) with
  | some d => { s1 with nat := { s1.nat with mended := s1.nat.mended ++ s1.nat.lost.filter fun t => (ordinalOf (s1.seamRuns d) t 0).isSome } }
  | none => s1

def recBalGroupSet (m : Msg) (s : State) (b : Bytes) (base : Nat) : RecAns :=
  let g := fieldLe b 0 2
  if !m.stage then noStage
  else if 4095 < g then .refuse Status.range base
  else if 1 < byteAt b 2 then .refuse Status.badParam (base + 2)
  else recZero b base (span 3 7) <|
    if byteAt b 2 = 1 then
      if (s.shadow.group g).isNone then .refuse Status.badParam base
      else if s.shadow.nat.groupRefs g != 0 then .refuse Status.badParam (base + 2)
      else .ok (s.stageNat fun c => { c with groups := tdel c.groups g }) []
    else if (s.shadow.group g).isSome then .ok (s.stageNat id) []
    else match allocRuns s.dram.free 69 with
      | none => .refuse Status.noRoom 1
      | some (runs, rest) =>
        if s.dram.dir.freeCount < descsFor runs then .refuse Status.noRoom 1
        else
          let (d, s1) := State.newRuns { s with dram := { s.dram with free := rest } } runs false
          .ok (s1.stageNat fun c => { c with groups := tset c.groups g { members := [], slots := List.replicate 4096 0xFF, seam := some d } }) []

/-- R257, R260: BAL_GROUP_SET. -/
def cmdBalGroupSet : Cmd :=
  { op := 0x0706, flags := flagsIn 5, legal := legalRun, len := lenRec 8 510, locks := fun _ => true, changes := fun _ => true,
    body := fun m s => records m 8 (recBalGroupSet m) s }
def execBalGroupSet (m : Msg) (s : State) : Host.Outcome State Fault Refusal := runCommand cmdBalGroupSet m s

def recBalMemberSet (m : Msg) (s : State) (b : Bytes) (base : Nat) : RecAns :=
  let g := fieldLe b 0 2
  let k := byteAt b 2
  if !m.stage then noStage
  else if (s.shadow.group g).isNone then .refuse Status.badParam base
  else if byteAt b 3 = 2 then
    recZero b base (span 4 11) (.ok (s.stageGroup g fun x => { x with members := tdel x.members k }) [])
  else if byteAt b 3 = 1 then
    if 65535 < fieldLe b 4 4 then .refuse Status.range (base + 4)
    else if byteAt b 8 = 0 then .refuse Status.range (base + 8)
    else recZero b base [9, 10, 11] <|
      .ok (s.stageGroup g fun x => { x with members := tset x.members k (fieldLe b 4 4, byteAt b 8, false) }) []
  else .refuse Status.badParam (base + 3)

/-- R258, R260: BAL_MEMBER_SET. -/
def cmdBalMemberSet : Cmd :=
  { op := 0x0707, flags := flagsIn 5, legal := legalRun, len := lenRec 12 340, locks := fun _ => true, changes := fun _ => true,
    body := fun m s => records m 12 (recBalMemberSet m) s }
def execBalMemberSet (m : Msg) (s : State) : Host.Outcome State Fault Refusal := runCommand cmdBalMemberSet m s

def recBalMemberDrain (m : Msg) (s : State) (b : Bytes) (base : Nat) : RecAns :=
  let g := fieldLe b 0 2
  let k := byteAt b 2
  if !m.stage then noStage
  else match s.shadow.group g with
    | none => .refuse Status.badParam base
    | some x =>
      if (tget? x.members k).isNone then .refuse Status.badParam (base + 2)
      else recZero b base [3] <|
        .ok (s.stageGroup g fun x => { x with members := tmap x.members fun n y => if n = k then (y.1, y.2.1, true) else y }) []

/-- R258, R260: BAL_MEMBER_DRAIN. -/
def cmdBalMemberDrain : Cmd :=
  { op := 0x0708, flags := flagsIn 5, legal := legalRun, len := lenRec 4 1020, locks := fun _ => true, changes := fun _ => true,
    body := fun m s => records m 4 (recBalMemberDrain m) s }
def execBalMemberDrain (m : Msg) (s : State) : Host.Outcome State Fault Refusal := runCommand cmdBalMemberDrain m s

def bodyBalGroupRead (m : Msg) (s : State) : Done :=
  let v := s.view m
  let g := m.f 0 2
  match v.group g with
  | none => badParam s 0
  | some x =>
    if 2 < m.p 2 then badParam s 2
    else needZero s m [3] <|
      if m.p 2 = 0 then
        let act := (x.members.filter fun e => !e.2.2.2).length
        ok s (le 4 act ++ le 4 (x.members.length - act) ++ le 4 (v.nat.groupRefs g) ++ le 4 ((tget? s.nat.rechosen g).getD 0) ++
          (List.range 256).flatMap fun k => match tget? x.members k with
            | some (h, w, d) => le 4 h ++ le 1 w ++ le 1 (if d then 2 else 1) ++ le 2 (x.slots.filter (· == k)).length
            | none => zeros 8)
      else ok s (((x.slots.drop (if m.p 2 = 1 then 0 else 2048)).take 2048).map (BitVec.ofNat 8))

/-- R260: BAL_GROUP_READ. -/
def cmdBalGroupRead : Cmd :=
  { op := 0x0709, flags := flagsRead false, legal := legalAll, len := lenIs 4, changes := fun _ => false, body := bodyBalGroupRead }
def execBalGroupRead (m : Msg) (s : State) : Host.Outcome State Fault Refusal := runCommand cmdBalGroupRead m s

/-- Slot seams of groups that no version holds any longer are retired (R257, R33). -/
def State.settleGroups (old s : State) : State :=
  let seams (x : State) : List Nat := (x.versions.flatMap fun v => v.nat.groups.filterMap fun e => e.2.seam).eraseDups
  ((seams old).filter fun d => !(seams s).contains d).foldl State.retireSeam s

/-! Subscribers (R239-R242, R260). -/

/-- Number of subscribers the region holds. -/
def State.subscribers (s : State) : Nat := s.regionSize 2 / 4

def State.holdsBlocks (s : State) (sub : Nat) : Bool := s.nat.blocks.any fun b => b.2.sub == sub

/-- A tile written again in the shadow is whole again at the commit (R256). -/
def State.mend (s : State) (t : Nat) : State := { s with nat := { s.nat with mended := s.nat.mended ++ [t] } }

/-- The bits of a prefix beyond a length are zero. -/
def prefixClean (len : Nat) (b : Bytes) : Bool := (List.range (64 - len)).all fun i => !bitAt b ((len + i) / 8) (7 - (len + i) % 8)

/-- The records under which a subscriber holds its blocks: none where it holds no block, else those of the versions in use, and the
shadow's where neither of them defines it. -/
def State.heldSubs (s : State) (n : Nat) : List Bytes :=
  if !s.holdsBlocks n then []
  else match s.liveVersions.filterMap fun v => tget? v.nat.subs n with
    | [] => (tget? s.shadow.nat.subs n).toList
    | l => l

/-- Why a tile 0 breaks R239, R240 or the refusals of Table 8.9, against the shadow: status and payload offset. The address that a subscriber
with blocks must keep is its private IPv4 address, the one its bindings translate (DEDUCED, log 161). -/
def State.subFault (s : State) (n : Nat) (t : Bytes) : Option (Nat × Nat) :=
  let c := s.shadow.nat
  let f := byteAt t 0
  let others := c.subs.filter fun e => e.1 != n && bitAt e.2 0 7 && fieldLe e.2 2 2 == fieldLe t 2 2
  let held := s.heldSubs n
  if f / 128 = 0 || f / 4 % 32 != 0 then some (Status.badParam, 0)
  else if byteAt t 1 != 0 then some (Status.badParam, 1)
  else if held.any (fun o => slice o 2 2 != slice t 2 2) then some (Status.badParam, 2)
  else if held.any (fun o => slice o 4 4 != slice t 4 4 || bitAt o 0 0 != bitAt t 0 0) then some (Status.badParam, 4)
  else if bitAt t 0 0 && others.any (fun e => bitAt e.2 0 0 && slice e.2 4 4 == slice t 4 4) then some (Status.badParam, 4)
  else if bitAt t 0 1 && (!prefixClean c.v6Len (slice t 8 8) || others.any (fun e => bitAt e.2 0 1 && slice e.2 8 8 == slice t 8 8)) then
    some (Status.badParam, 8)
  else if 4095 < fieldLe t 16 2 then some (Status.badParam, 16)
  else if 65535 < fieldLe t 20 4 && fieldLe t 20 4 != 0xFFFFFFFF then some (Status.range, 20)
  else (firstNonZeroAt t ([18, 19] ++ span 32 59)).map fun i => (Status.badParam, i)

def recSubWrite (m : Msg) (s : State) (b : Bytes) (base : Nat) : RecAns :=
  let n := fieldLe b 1 3
  let t := slice b 4 60
  if !m.stage then noStage
  else match byteAt b 0 with
    | 1 =>
      if s.subscribers ≤ n then .refuse Status.range (base + 1)
      else match s.subFault n t with
        | some (st, i) => .refuse st (base + 4 + i)
        | none => .ok ((s.stageNat fun c => { c with subs := tset c.subs n t }).mend (s.subTile n 0)) []
    | 2 => recZero b base (span 4 63) <|
      if (tget? s.shadow.nat.subs n).isNone || s.holdsBlocks n then .refuse Status.badParam (base + 1)
      else .ok (s.stageNat fun c => { c with subs := tdel c.subs n }) []
    | 3 => recZero b base ([1, 2, 3] ++ span 5 63) <|
      if byteAt b 4 < 32 || 64 < byteAt b 4 then .refuse Status.range (base + 4)
      else if s.shadow.nat.subs.any fun e => bitAt e.2 0 1 then .refuse Status.badParam (base + 4)
      else .ok (s.stageNat fun c => { c with v6Len := byteAt b 4 }) []
    | _ => .refuse Status.badParam base

/-- R240, R260: SUB_WRITE. -/
def cmdSubWrite : Cmd :=
  { op := 0x070A, flags := flagsIn 5, memory := true, legal := legalRun, len := lenRec 64 63, locks := fun _ => true, changes := fun _ => true,
    body := fun m s => records m 64 (recSubWrite m) s }
def execSubWrite (m : Msg) (s : State) : Host.Outcome State Fault Refusal := runCommand cmdSubWrite m s

/-- A counter tile with counts added: four classes of packets and bytes, then discards; a faulty or empty tile starts from zero
(R241, R256). -/
def addCounts (t : Option Bytes) (counts : List (Nat × Nat)) (disc : Nat) : Bytes :=
  let t := match t with | some p => if p == invalidPayload then zeros 60 else p | none => zeros 60
  ((List.range 4).flatMap fun c =>
    let x := counts.getD c (0, 0)
    le 6 (fieldLe t (14 * c) 6 + x.1) ++ le 8 (fieldLe t (14 * c + 6) 8 + x.2)) ++ le 4 (fieldLe t 56 4 + disc)

/-- Tiles 2 and 3 of a subscriber with the on-die cache merged in (R241). -/
def State.mergedCounts (s : State) (sub : Nat) (who : Consumer) : Bytes × Bytes × State :=
  let c := (tget? s.nat.counts sub).getD SubCount.zero
  let (u, s1) := s.readTile (s.subTile sub 2) who
  let (d, s2) := s1.readTile (s1.subTile sub 3) who
  (addCounts u (c.counts.take 4) c.upDisc, addCounts d (c.counts.drop 4) c.downDisc, s2)

/-- Counters as SUB_READ replies them: packets and bytes of four classes, then discards, 8 bytes each. -/
def countsReply (t : Bytes) : Bytes :=
  ((List.range 4).flatMap fun c => le 8 (fieldLe t (14 * c) 6) ++ slice t (14 * c + 6) 8) ++ le 8 (fieldLe t 56 4)

def bodySubRead (m : Msg) (s : State) : Done :=
  let n := m.f 4 4
  let part := m.p 0
  if 3 < part then badParam s 0
  else if (if part = 2 then 2 ≤ m.p 1 else m.p 1 != 0) then badParam s 1
  else needZero s m (if part = 3 then [] else [2, 3]) <|
    if part = 3 then
      match s.cur.subByAddress false (mappedPrefix ++ slice m.params 4 4) (m.f 2 2) with
      | some k => ok (s.meetSub s.cur k .command) (le 4 k ++ fit 60 ((s.subRecord s.cur k).getD invalidPayload))
      | none => ok s (le 4 0xFFFFFFFF ++ zeros 60)
    else
      let s0 := s.meetSub s.cur n .command
      match s.subRecord s.cur n with
      | none => badParam s0 4
      | some t =>
        match part with
        | 0 => ok s0 (le 4 n ++ fit 60 t)
        | 1 =>
          let (t1, s1) := s0.readTile1 s0.cur n .command
          ok s1 (le 4 n ++ fit 60 t1)
        | _ =>
          let (u, d, s1) := s0.mergedCounts n .command
          let s2 := if m.p 1 = 1 then
              (let s2 := { s1 with nat := { s1.nat with counts := tdel s1.nat.counts n } }
               (s2.taskWrite (s2.subTile n 2) (zeros 60)).taskWrite (s2.subTile n 3) (zeros 60))
            else s1
          ok s2 (countsReply u ++ countsReply d)

/-- R260: SUB_READ. -/
def cmdSubRead : Cmd :=
  { op := 0x070B, flags := flagsIn 2, memory := true, legal := legalAll, len := lenIs 8, changes := fun m => m.p 0 == 2 && m.p 1 == 1, body := bodySubRead }
def execSubRead (m : Msg) (s : State) : Host.Outcome State Fault Refusal := runCommand cmdSubRead m s

def recSubPolicySet (m : Msg) (s : State) (b : Bytes) (base : Nat) : RecAns :=
  let c := fieldLe b 0 2
  if 4095 < c then .refuse Status.range base
  else if 1 < byteAt b 2 then .refuse Status.badParam (base + 2)
  else if byteAt b 2 = 0 then recZero b base (span 3 15) (.ok s ((s.view m).policy c))
  else if !m.stage then noStage
  else if 4 ≤ byteAt b 3 then .refuse Status.badParam (base + 3)
  else if byteAt b 4 = 0 || 8 < byteAt b 4 then .refuse Status.range (base + 4)
  else recZero b base (5 :: span 8 15) (.ok (s.stageNat fun x => { x with policies := tset x.policies c (splice b 2 [0]) }) [])

/-- R242: SUB_POLICY_SET. -/
def cmdSubPolicySet : Cmd :=
  { op := 0x070C, flags := flagsIn 5, legal := legalRead fun m => !anyRec m 16 2, len := lenRec 16 255, locks := fun m => anyRec m 16 2,
    changes := fun m => anyRec m 16 2, body := fun m s => records m 16 (recSubPolicySet m) s }
def execSubPolicySet (m : Msg) (s : State) : Host.Outcome State Fault Refusal := runCommand cmdSubPolicySet m s

/-! Action entries (R234, R235, R260). -/

/-- Why a payload is no entry that the host may write: status and payload offset. A subscriber index beyond the subscriber region, which holds
`subs` subscribers, is RANGE (R363); a reference to a pool, group, subscriber or class that is not defined, a pool, group or class past its
range included, is BAD_PARAM (R260; DEDUCED, log 138). -/
def Staged.entryFault (v : Staged) (subs : Nat) (e : Bytes) : Option (Nat × Nat) :=
  let k := entryKind e
  let sub := entrySub e
  if !(k == 1 || k == 3 || k == 4) then some (Status.badParam, 0)
  else if byteAt e 1 != 0 then some (Status.badParam, 1)
  else if sub < 0xFFFFFE && subs ≤ sub then some (Status.range, 2)
  else if sub < 0xFFFFFE && (tget? v.nat.subs sub).isNone then some (Status.badParam, 2)
  else if fieldLe e 5 2 != 0xFFFF && 4095 < fieldLe e 5 2 then some (Status.badParam, 5)
  else if (if k = 1 then (v.pool (entryPool e)).isNone else entryPool e != 0) then some (Status.badParam, 7)
  else if k = 4 then
    (if fieldLe e 8 2 != 0 then some (Status.badParam, 8)
     else if 65535 < fieldLe e 10 4 && fieldLe e 10 4 != 0xFFFFFFFF then some (Status.range, 10)
     else (firstNonZeroAt e (span 14 59)).map fun i => (Status.badParam, i))
  else if (match entryGroup e with | some g => (v.group g).isNone | none => k == 3) then some (Status.badParam, 8)
  else (firstNonZeroAt e (span 10 59)).map fun i => (Status.badParam, i)

def recActionWrite (m : Msg) (s : State) (b : Bytes) (base : Nat) : RecAns :=
  let idx := fieldLe b 0 3
  if !m.stage then noStage
  else if s.regionSize 1 ≤ idx then .refuse Status.range base
  else if s.shadow.inBindingArea idx then .refuse Status.badParam base
  else match byteAt b 3 with
    | 1 => match s.shadow.entryFault s.subscribers (slice b 4 60) with
      | some (st, i) => .refuse st (base + 4 + i)
      | none => .ok ((s.stageNat fun c => { c with actions := tset c.actions idx (slice b 4 60) }).mend (s.entryTile idx)) []
    | 2 => recZero b base (span 4 63) (.ok (s.stageNat fun c => { c with actions := tdel c.actions idx }) [])
    | _ => .refuse Status.badParam (base + 3)

/-- R235, R260: ACTION_WRITE. -/
def cmdActionWrite : Cmd :=
  { op := 0x070D, flags := flagsIn 5, memory := true, legal := legalRun, len := lenRec 64 63, locks := fun _ => true, changes := fun _ => true,
    body := fun m s => records m 64 (recActionWrite m) s }
def execActionWrite (m : Msg) (s : State) : Host.Outcome State Fault Refusal := runCommand cmdActionWrite m s

/-- Entries as ACTION_READ replies them: result and payload; a faulty one as the invalid pattern (R19). -/
def readEntries (v : Staged) : List Nat → State → Bytes × State
  | [], s => ([], s)
  | i :: is, s =>
    let (p, s1) := s.readTileIn v (s.entryTile i) .command
    let one := match p with
      | none => [2] ++ zeros 3 ++ invalidPayload
      | some p => le 1 (p == invalidPayload).toNat ++ zeros 3 ++ fit 60 p
    let (r, s2) := readEntries v is s1
    (one ++ r, s2)

def bodyActionRead (m : Msg) (s : State) : Done :=
  if m.p 3 = 0 || 63 < m.p 3 then outOfRange s 3
  else needZero s m (span 4 7) <|
    if s.regionSize 1 < m.f 0 3 + m.p 3 then outOfRange s 0
    else
      let (b, s1) := readEntries (s.view m) ((List.range (m.p 3)).map (m.f 0 3 + ·)) s
      ok s1 b

/-- R260: ACTION_READ. -/
def cmdActionRead : Cmd :=
  { op := 0x070E, flags := flagsRead false, memory := true, legal := legalAll, len := lenIs 8, changes := fun _ => false, body := bodyActionRead }
def execActionRead (m : Msg) (s : State) : Host.Outcome State Fault Refusal := runCommand cmdActionRead m s

/-- At a commit, tiles written again in the shadow are whole (R256); at a discard they are not. -/
def State.applyMended (s : State) : State :=
  { s with nat := { s.nat with lost := s.nat.lost.filter (fun t => !s.nat.mended.contains t), mended := [] } }
def State.dropMended (s : State) : State := { s with nat := { s.nat with mended := [] } }

/-! The binding visit (R254, R255). -/

/-- One binding at the visit: revived, held or freed by its live bit. -/
def State.visitBinding (s : State) (idx : Nat) : State :=
  match s.readBinding idx .miner with
  | (none, s) => s
  | (some e, s) =>
    let live := s.nat.live.contains idx
    let hold := byteAt e 1 == 2
    let since := resolveTime s.flowNow 20 32 (fieldLe e 28 4)
    if live then (if hold then s.taskWrite (s.entryTile idx) (splice (splice e 1 [1]) 28 (zeros 4)) else s)
    else if !hold then s.taskWrite (s.entryTile idx) (splice (splice e 1 [2]) 28 (le 4 (s.flowNow / 2 ^ 20)))
    else if s.cur.nat.bindingHold * 1000000000 ≤ s.flowNow - since then s.freeBinding idx
    else s

/-- One block: EMPTY follows its bindings, and one EMPTY for BLOCK_HOLD is released. -/
def State.visitBlock (s : State) (slot : Nat) : State :=
  match s.block slot with
  | none => s
  | some m =>
    if (s.blockRun slot).any fun i => (s.bindingAt i).isSome then
      s.setBlock slot (some { m with empty := false })
    else
      let m1 := if m.empty then m else { m with empty := true, emptySince := BitVec.ofNat 16 (s.flowNow / 2 ^ 30) }
      let s1 := s.setBlock slot (some m1)
      if s1.cur.nat.blockHold * 1000000000 ≤ s1.flowNow - resolveTime s1.flowNow 30 16 m1.emptySince.toNat then s1.releaseBlock slot 1 else s1

/-- R254, R255: after a pass of the sweep, its task visits every binding and block is visited and the live bits are cleared. -/
def execBindingVisit (s : State) : Host.Outcome State Fault Refusal :=
  if s.refreshing || !(s.serves TaskType.sweep && s.nat.visitDue && s.writeRoom 1) then .next s
  else
    let slots := s.nat.blocks.map (·.1)
    let s1 := (slots.flatMap s.blockRun).foldl State.visitBinding s
    let s2 := slots.foldl State.visitBlock s1
    done s { s2 with nat := { s2.nat with live := [], visitDue := false } }

/-- R247: a deferred release is made once its record finds room, unless the block is no longer one to release: a block whose BLOCK_HOLD ended
is EMPTY no longer (R255). A block released by a command loses whatever bindings it holds. -/
def execDeferredBlockRelease (s : State) : Host.Outcome State Fault Refusal :=
  match s.nat.deferred with
  | x :: rest =>
    let slot := x % 2 ^ 20
    let cause := x / 2 ^ 20
    let held := (s.blockRun slot).any fun i => (s.bindingAt i).isSome
    if s.refreshing || !(s.serves TaskType.sweep && s.stagingRoom 258 && s.writeRoom 1) then .next s
    else if (s.block slot).isNone || (cause = 1 && held) then done s { s with nat := { s.nat with deferred := rest } }
    else done s (s.dropBlock slot cause)
  | [] => .next s

/-- A binding rebuilt from its index, the flow key and its pool (R256), from the version of the packet that met the fault. Its policy override, its group and the TRANSLATE entry that created
it are named by none of these: free values. -/
def State.repairBinding (s0 : State) (idx : Nat) (key : Bytes) (stamp : W16) : State :=
  let v := s0.version stamp
  let run := s0.nat.blocks.find? fun b => match v.slotPool b.1 with
    | some (_, r, _, _) => b.2.base ≤ idx && idx < b.2.base + poolBlock r | none => false
  match run with
  | none => s0
  | some (slot, m) =>
    let s := s0.meetSub v m.sub .miner
    match v.slotPool slot, s.subRecord v m.sub with
    | some (p, _, ord, first), some t =>
      if slice t 4 4 != v4Of (slice key 0 16) || (s.bindingAt idx).isSome || s.withdrawn 0 (s.entryTile idx) then s
      else
        let (a, s1) := s.draw
        let (b, s2) := s1.draw
        let (c, s3) := s2.draw
        let pub := match v.poolAddr p ord with | some x => slice x 12 4 | none => zeros 4
        let trans := zeros 5 ++ le 2 a.toNat ++ le 1 p ++ le 2 b.toNat
        let e := bindingPayload s3 m.sub trans key pub (first + (idx - m.base)) (c.toNat % 2 ^ 24) m.desc slot
        ((s3.taskWrite (s3.entryTile idx) e).setLive idx).natCount NatCounter.repaired
    | _, _ => s

/-- R256: the oldest repair whose task is on a miner is made. -/
def execBindingRepair (hurt : Upsets) (s : State) : Host.Outcome State Fault Refusal :=
  if s.refreshing || !s.writeRoom 1 then .next s
  else match s.nat.repairs.find? fun r => s.atWork (.repair r.1 r.2.1 r.2.2) with
  | some (idx, key, stamp) =>
    let s1 := (s.upset hurt).repairBinding idx key stamp
    done s ({ s1 with nat := { s1.nat with repairs := s1.nat.repairs.erase (idx, key, stamp) } }.finishWork
      fun w => w == Work.repair idx key stamp)
  | none => .next s

/-- Add the cache of one subscriber into its tiles. -/
def State.flushSub (s : State) (sub : Nat) : State :=
  let (u, d, s1) := s.mergedCounts sub .miner
  let s2 := (s1.taskWrite (s1.subTile sub 2) u).taskWrite (s1.subTile sub 3) d
  { s2 with nat := { s2.nat with counts := tdel s2.nat.counts sub } }

/-- R241: the counter cache is added into the subscriber tiles. -/
def execSubCounterFlush (hurt : Upsets) (s : State) : Host.Outcome State Fault Refusal :=
  if s.refreshing || s.nat.counts.isEmpty || !s.writeRoom 1 then .next s else done s ((s.nat.counts.map (·.1)).foldl State.flushSub (s.upset hurt))

end Sys2Proof.Machine
end

