-- ==== Sys2Proof/Machine/FwdCmd.lean ====
section
/-!
DEFINITION. Commands on the forwarding tables, the ageing visit, bulk removal, and the route build (spec 09).
-/
namespace Sys2Proof.Machine

def State.stageFwd (s : State) (f : FwdCfg → FwdCfg) : State := s.stageWith fun v => { v with fwd := f v.fwd }

/-! BRIDGE_ENTRY_SET and BRIDGE_ENTRY_DELETE (R267, R284, R285). -/

/-- Pipelines of a mask. -/
def maskPipes (mask : Nat) : List Bool := [false, true].filter fun p => Nat.testBit mask p.toNat

/-- The way a HOST entry of a key holds in any version, or the shadow. -/
def State.hostWayOf (s : State) (pipe : Bool) (key : Nat) : Option Nat :=
  ((tget? (s.shadow.fwd.hosts pipe) key).orElse fun _ => (tget? (s.cur.fwd.hosts pipe) key).orElse fun _ =>
    (s.drain.bind fun d => tget? (d.tables.fwd.hosts pipe) key)).map (·.way)

/-- The way a staged HOST entry claims (R267): its own where it has one, a free way, or that of the LEARNED entry of least recent
refresh. -/
def State.claimWay (s : State) (pipe : Bool) (domain mac : Nat) : Option Nat :=
  match s.hostWayOf pipe (bridgeKey domain mac) with
  | some w => some w
  | none =>
    let ways := (bucketWays (s.bridgeBucket domain mac)).filter fun w => !(s.hostWays pipe).contains w
    match ways.find? (fun w => (tget? (s.fwd.learned pipe) w).isNone) with
    | some w => some w
    | none => leastBy (fun w => match tget? (s.fwd.learned pipe) w with | some x => x.refreshed | none => 0) ways

/-- Stage a HOST entry in one pipeline; an entry that keeps its port keeps its port time. -/
def State.stageHost (s : State) (pipe : Bool) (key port way : Nat) (f : FwdCfg) : FwdCfg :=
  let since := match tget? (f.hosts pipe) key with
    | some e => if e.port = port then e.portTime else s.flowNow
    | none => s.flowNow
  f.setHosts pipe (tset (f.hosts pipe) key { port := port, way := way, portTime := since })

def recBridgeEntrySet (m : Msg) (s : State) (b : Bytes) (base : Nat) : RecAns :=
  let d := fieldLe b 0 2
  let mac := ofBe (slice b 2 6)
  let port := byteAt b 8
  let mask := byteAt b 9
  if !m.stage then noStage
  else match tget? s.shadow.fwd.domains d with
    | none => .refuse Status.badParam base
    | some x =>
      if bitAt b 2 0 then .refuse Status.badParam (base + 2)
      else if 25 < port && port != 0xFF then .refuse Status.badParam (base + 8)
      else if 3 < mask || (x.sync && mask != 3) then .refuse Status.badParam (base + 9)
      else recZero b base (span 10 15) <|
        let places := (maskPipes mask).map fun p => (p, s.claimWay p d mac)
        if places.any fun p => p.2.isNone then .refuse Status.noRoom 1
        else
          .ok (s.stageFwd fun f => places.foldl (fun f p => s.stageHost p.1 (bridgeKey d mac) port (p.2.getD 0) f) f) []

/-- R284: BRIDGE_ENTRY_SET. A record of an ordinary domain is this member's own (R274). -/
def cmdBridgeEntrySet : Cmd :=
  { op := 0x0801, flags := flagsIn 5, legal := legalRun, len := lenRec 16 255, locks := fun _ => true, changes := fun _ => true,
    ownRecords := true, own := fun _ s b => !s.shadow.fwd.synced (fieldLe b 0 2), body := fun m s => records m 16 (recBridgeEntrySet m) s }
def execBridgeEntrySet (m : Msg) (s : State) : Host.Outcome State Fault Refusal := runCommand cmdBridgeEntrySet m s

/-- Remove the LEARNED entry of a key in a pipeline. -/
def State.unlearn (s : State) (domain mac : Nat) (pipe : Bool) : State :=
  match s.findLearned pipe domain mac with
  | some (w, _) => s.setLearned pipe (tdel (s.fwd.learned pipe) w)
  | none => s

def recBridgeEntryDelete (m : Msg) (s : State) (b : Bytes) (base : Nat) : RecAns :=
  let mode := byteAt b 0
  let mask := byteAt b 1
  let d := fieldLe b 2 2
  let mac := ofBe (slice b 4 6)
  if 2 < mode then .refuse Status.badParam base
  else if 3 < mask then .refuse Status.badParam (base + 1)
  else if mode != 1 && 4095 < d then .refuse Status.range (base + 2)
  else recZero b base (match mode with | 0 => [10, 11] | 1 => span 2 9 ++ [11] | _ => span 4 11) <|
    if mode = 1 && 25 < byteAt b 10 then .refuse Status.badParam (base + 10)
    else if mode = 0 then
      (if m.stage then
        let key := bridgeKey d mac
        let here := (maskPipes mask).filter fun p => (tget? (s.shadow.fwd.hosts p) key).isSome
        if here.isEmpty then .refuse Status.range (base + 4)
        else .ok (s.stageFwd fun f => here.foldl (fun f p => f.setHosts p (tdel (f.hosts p) key)) f) []
      else .ok ((maskPipes mask).foldl (State.unlearn · d mac) s) [])
    else
      let r : BulkRemoval := { byPort := mode == 1, pipeMask := mask, value := if mode = 1 then byteAt b 10 else d }
      .ok { s with fwd := { s.fwd with bulk := s.fwd.bulk ++ [r] } } []

/-- R285: BRIDGE_ENTRY_DELETE; STAGE only with mode KEY. A staged record of an ordinary domain is this member's own (R274). -/
def cmdBridgeEntryDelete : Cmd :=
  { op := 0x0802, flags := fun m => flagsIn 5 m && (!m.stage || !anyRec m 12 0), legal := legalRead fun m => !m.stage,
    len := lenRec 12 340, locks := fun m => m.stage, changes := fun _ => true, ownRecords := true,
    own := fun m s b => m.stage && !s.shadow.fwd.synced (fieldLe b 2 2),
    body := fun m s => records m 12 (recBridgeEntryDelete m) s }
def execBridgeEntryDelete (m : Msg) (s : State) : Host.Outcome State Fault Refusal := runCommand cmdBridgeEntryDelete m s

/-- A bulk removal names an entry. -/
def BulkRemoval.names (r : BulkRemoval) (e : Learned) : Bool := if r.byPort then e.port == r.value else e.domain == r.value

/-- R285: the LEARN task makes the removal handed to it first. -/
def execBulkLearnedRemoval (s : State) : Host.Outcome State Fault Refusal :=
  match s.fwd.bulk with
  | r :: rest =>
    if !s.serves TaskType.learn then .next s
    else
    let s1 := { s with fwd := { s.fwd with bulk := rest } }
    done s ((maskPipes r.pipeMask).foldl (fun s p => s.setLearned p ((s.fwd.learned p).filter fun e => !r.names e.2)) s1)
  | [] => .next s

/-! The ageing visit (R275). -/

def FwdLive.age (f : FwdLive) (pipe : Bool) : Nat := if pipe then f.age1 else f.age0
def FwdLive.ageStart (f : FwdLive) (pipe : Bool) : Nat := if pipe then f.ageStart1 else f.ageStart0
def FwdLive.setAge (f : FwdLive) (pipe : Bool) (way start : Nat) : FwdLive :=
  if pipe then { f with age1 := way, ageStart1 := start } else { f with age0 := way, ageStart0 := start }

/-- The ageing visit to one way. -/
def State.ageWay (s : State) (pipe : Bool) (way : Nat) : State :=
  match tget? (s.fwd.learned pipe) way with
  | some e =>
    if e.hit then s.setLearned pipe (tset (s.fwd.learned pipe) way { e with hit := false })
    else (s.setLearned pipe (tdel (s.fwd.learned pipe) way)).fwdCount pipe FwdCounter.aged
  | none =>
    match (s.cur.fwd.hosts pipe).find? fun e => e.2.way == way with
    | some (key, h) =>
      if !s.cur.fwd.synced (key / 2 ^ 48) then s
      else if (s.fwd.hits pipe).contains key then { s with fwd := s.fwd.setHits pipe ((s.fwd.hits pipe).filter (· != key)) }
      else s.raiseLearn pipe (key / 2 ^ 48) (key % 2 ^ 48) h.port 3
    | none => s

/-- Ways at which an entry stands, from `w` on: those the visit has work at. -/
def State.agedWay (s : State) (pipe : Bool) (w : Nat) : Option Nat :=
  let ways := (s.fwd.learned pipe).map (·.1) ++ (s.cur.fwd.hosts pipe).map fun e => e.2.way
  leastBy (fun x => x) (ways.filter fun x => w ≤ x)

/-- R275: the learn unit visits its next entry when the flow clock brings its turn; past the last entry the next round begins. -/
def execBridgeAgeVisit (pipe : Bool) (s : State) : Host.Outcome State Fault Refusal :=
  let period := s.cur.fwd.bridgeAge * 1000000000
  let start := s.fwd.ageStart pipe
  match s.agedWay pipe (s.fwd.age pipe) with
  | some w =>
    if s.flowNow < start + w * period / 262144 then .next s
    else
      let s1 := s.ageWay pipe w
      done s { s1 with fwd := s1.fwd.setAge pipe (w + 1) start }
  | none => if s.flowNow < start + period then .next s else .next { s with fwd := s.fwd.setAge pipe 0 (start + period) }

/-! BRIDGE_READ (R286). -/

def sinceSeconds (s : State) (t : Nat) : Bytes := le 4 (satur 32 ((s.flowNow - t) / 1000000000))

def bridgeView (s : State) (domain mac port kind : Nat) (hit : Bool) (t : Nat) : Bytes :=
  le 2 domain ++ be 6 mac ++ le 1 port ++ le 1 kind ++ le 1 hit.toNat ++ [0] ++ sinceSeconds s t

def hostView (s : State) (pipe : Bool) (key : Nat) (h : HostEntry) : Bytes :=
  bridgeView s (key / 2 ^ 48) (key % 2 ^ 48) h.port 2 ((s.fwd.hits pipe).contains key) h.portTime
def learnedView (s : State) (e : Learned) : Bytes := bridgeView s e.domain e.mac e.port 1 e.hit e.portTime

/-- The view of a way in a version. -/
def State.wayView (s : State) (v : Staged) (pipe : Bool) (way : Nat) : Bytes :=
  match (v.fwd.hosts pipe).find? fun e => e.2.way == way with
  | some (key, h) => hostView s pipe key h
  | none => match tget? (s.fwd.learned pipe) way with
    | some e => learnedView s e
    | none => zeros 16

/-- The view of a key in a version. -/
def State.keyView (s : State) (v : Staged) (pipe : Bool) (domain mac : Nat) : Bytes :=
  match tget? (v.fwd.hosts pipe) (bridgeKey domain mac) with
  | some h => hostView s pipe (bridgeKey domain mac) h
  | none => match s.findLearned pipe domain mac with
    | some (_, e) => learnedView s e
    | none => zeros 16

/-- Entries of a pipeline as a version shows them: its HOST entries and the LEARNED entries they hide none of. -/
def State.entryCount (s : State) (v : Staged) (pipe : Bool) : Nat :=
  (v.fwd.hosts pipe).length + ((s.fwd.learned pipe).filter fun e => !(v.fwd.hosts pipe).any fun h =>
    h.2.way == e.1 || h.1 == bridgeKey e.2.domain e.2.mac).length

def bodyBridgeRead (m : Msg) (s : State) : Done :=
  let pipe := m.p 1 == 1
  let v := s.view m
  let head := le 4 (s.entryCount v pipe) ++ le 4 s.fwd.seed.toNat
  if 1 < m.p 0 then badParam s 0
  else if 1 < m.p 1 then badParam s 1
  else if m.p 0 = 0 then
    needZero s m [2, 3] <|
      if 4095 < m.f 4 2 then outOfRange s 4 else ok s (head ++ s.keyView v pipe (m.f 4 2) (ofBe (slice m.params 6 6)))
  else if m.p 2 = 0 || 254 < m.p 2 then outOfRange s 2
  else needZero s m [3, 4, 5, 10, 11] <|
    if 262144 < m.f 6 4 + m.p 2 then outOfRange s 6
    else ok s (head ++ (List.range (m.p 2)).flatMap fun i => s.wayView v pipe (m.f 6 4 + i))

/-- R286: BRIDGE_READ. -/
def cmdBridgeRead : Cmd :=
  { op := 0x0803, flags := flagsRead false, legal := legalAll, len := lenIs 12, changes := fun _ => false, body := bodyBridgeRead }
def execBridgeRead (m : Msg) (s : State) : Host.Outcome State Fault Refusal := runCommand cmdBridgeRead m s

/-! BRIDGE_DOMAIN_SET (R287), LEARN_LIMIT_SET (R288), LEARN_CONFIG (R289). -/

def domainRecord (f : FwdCfg) (d : Nat) : Bytes :=
  match tget? f.domains d with
  | some x => [1, 0] ++ le 2 d ++ le 4 x.mask.toNat ++ le 1 (flagByte [x.learn, x.sync, x.routing, x.unknownDrop]) ++ zeros 7
  | none => [1, 0] ++ le 2 d ++ zeros 12

def portDomainRecord (f : FwdCfg) (p : Nat) : Bytes :=
  let x := f.ports.getD p DomainPort.reset
  [2, 0] ++ le 1 p ++ le 1 x.mode ++ le 1 x.classifying.toNat ++ [0] ++ le 2 x.base ++ zeros 8

def recDomain (m : Msg) (s : State) (b : Bytes) (base : Nat) : RecAns :=
  let d := fieldLe b 2 2
  let mask := fieldLe b 4 4
  let op := byteAt b 1
  if 2 < op then .refuse Status.badParam (base + 1)
  else if 4095 < d then .refuse Status.range (base + 2)
  else if op = 0 then recZero b base (span 4 15) (.ok s (domainRecord (s.view m).fwd d))
  else if !m.stage then noStage
  else if op = 2 then
    recZero b base (span 4 15) <|
      if (tget? s.shadow.fwd.domains d).isNone then .refuse Status.badParam (base + 2)
      else .ok (s.stageFwd fun f => { f with domains := tdel f.domains d }) []
  else if 2 ^ 26 ≤ mask then .refuse Status.badParam (base + 7)
  else if 15 < byteAt b 8 then .refuse Status.badParam (base + 8)
  else recZero b base (span 9 15) <|
    let x : Domain := { mask := BitVec.ofNat 26 mask, learn := bitAt b 8 0, sync := bitAt b 8 1, routing := bitAt b 8 2, unknownDrop := bitAt b 8 3 }
    if x.sync && 64 ≤ ((tdel s.shadow.fwd.domains d).filter fun e => e.2.sync).length then .refuse Status.noRoom 1
    else .ok (s.stageFwd fun f => { f with domains := tset f.domains d x }) []

def recPortDomain (m : Msg) (s : State) (b : Bytes) (base : Nat) : RecAns :=
  let p := byteAt b 2
  if 1 < byteAt b 1 then .refuse Status.badParam (base + 1)
  else if 25 < p then .refuse Status.badParam (base + 2)
  else if byteAt b 1 = 0 then recZero b base (span 4 15) (.ok s (portDomainRecord (s.view m).fwd p))
  else if !m.stage then noStage
  else if 2 < byteAt b 3 then .refuse Status.badParam (base + 3)
  else if 1 < byteAt b 4 then .refuse Status.badParam (base + 4)
  else recZero b base (5 :: span 8 15) <|
    if 4095 < fieldLe b 6 2 then .refuse Status.range (base + 6)
    else
      let x : DomainPort := { mode := byteAt b 3, classifying := byteAt b 4 == 1, base := fieldLe b 6 2 }
      .ok (s.stageFwd fun f => { f with ports := f.ports.set p x }) []

def recBridgeDomainSet (m : Msg) (s : State) (b : Bytes) (base : Nat) : RecAns :=
  if byteAt b 0 = 1 then recDomain m s b base else if byteAt b 0 = 2 then recPortDomain m s b base else .refuse Status.badParam base

/-- R287: BRIDGE_DOMAIN_SET. -/
def cmdBridgeDomainSet : Cmd :=
  { op := 0x0804, flags := flagsIn 5, legal := legalRead fun m => !anyRec m 16 1, len := lenRec 16 255, locks := fun m => anyRec m 16 1,
    changes := fun m => anyRec m 16 1, body := fun m s => records m 16 (recBridgeDomainSet m) s }
def execBridgeDomainSet (m : Msg) (s : State) : Host.Outcome State Fault Refusal := runCommand cmdBridgeDomainSet m s

def recLearnLimitSet (m : Msg) (s : State) (b : Bytes) (base : Nat) : RecAns :=
  let p := byteAt b 0
  if 25 < p then .refuse Status.badParam base
  else if 1 < byteAt b 1 then .refuse Status.badParam (base + 1)
  else if byteAt b 1 = 0 then
    recZero b base (span 2 7) <|
      let x := (s.view m).learnLimit p
      .ok s (le 1 p ++ [0] ++ le 1 x.flood.toNat ++ [0] ++ le 2 x.limit ++ le 2 (satur 16 (s.learnedCount (s.view m) p)))
  else if !m.stage then noStage
  else if 1 < byteAt b 2 then .refuse Status.badParam (base + 2)
  else recZero b base [3, 6, 7] <|
    .ok (s.stageFwd fun f => { f with limits := f.limits.set p { flood := byteAt b 2 == 1, limit := fieldLe b 4 2 } }) []

/-- R288: LEARN_LIMIT_SET. -/
def cmdLearnLimitSet : Cmd :=
  { op := 0x0805, flags := flagsIn 5, legal := legalRead fun m => !anyRec m 8 1, len := lenRec 8 510, locks := fun m => anyRec m 8 1,
    changes := fun m => anyRec m 8 1, body := fun m s => records m 8 (recLearnLimitSet m) s }
def execLearnLimitSet (m : Msg) (s : State) : Host.Outcome State Fault Refusal := runCommand cmdLearnLimitSet m s

def learnConfigRecord (f : FwdCfg) : Bytes :=
  zeros 4 ++ fit 6 f.routerMac ++ [0, 0] ++ le 4 f.moveGuard ++ le 4 f.bridgeAge ++ le 1 f.learnRing ++ le 1 f.ttlToHost.toNat ++
    le 1 f.ttlRing ++ zeros 9

def bodyLearnConfig (m : Msg) (s : State) : Done :=
  let op := m.p 0
  if 2 < op then badParam s 0
  else if (if op = 2 then 1 < m.p 1 else m.p 1 != 0) then badParam s 1
  else if op = 0 then needZero s m (span 2 31) <| ok s (learnConfigRecord (s.view m).fwd)
  else if op = 2 then
    needZero s m (span 2 31) <|
      let f := s.fwd
      ok (if m.p 1 = 1 then { s with fwd := { f with counters := f.counters.map zeroBank, device := zeroBank f.device } } else s)
        (f.counters.flatMap bankBytes ++ bankBytes f.device)
  else if !m.stage then refuse s Status.badParam 6
  else needZero s m [2, 3, 10, 11] <|
    if 10000 < m.f 12 4 then outOfRange s 12
    else if m.f 16 4 < 10 || 1000000 < m.f 16 4 then outOfRange s 16
    else if 7 < m.p 20 then outOfRange s 20
    else if 1 < m.p 21 then badParam s 21
    else if 7 < m.p 22 then outOfRange s 22
    else needZero s m (span 23 31) <|
      ok (s.stageFwd fun f => { f with routerMac := slice m.params 4 6, moveGuard := m.f 12 4, bridgeAge := m.f 16 4, learnRing := m.p 20,
                                       ttlToHost := m.p 21 == 1, ttlRing := m.p 22 })

/-- R289: LEARN_CONFIG. -/
def cmdLearnConfig : Cmd :=
  { op := 0x0806, flags := fun m => flagsIn 1 m && (!m.stage || m.p 0 != 2), legal := legalRead fun m => m.p 0 != 1, len := lenIs 32, locks := fun m => m.p 0 == 1,
    changes := fun m => m.p 0 == 1 || (m.p 0 == 2 && m.p 1 == 1), body := bodyLearnConfig }
def execLearnConfig (m : Msg) (s : State) : Host.Outcome State Fault Refusal := runCommand cmdLearnConfig m s

/-! Routes (R278, R279, R290, R291). -/

/-- Prefix of a route record as 128 bits from the top. -/
def routePrefix (b : Bytes) : Nat := if byteAt b 1 = 6 then ofBe (slice b 8 16) else ofBe (slice b 8 4) * 2 ^ 96
def recordKey (b : Bytes) : Nat := routeKey (fieldLe b 4 2) (byteAt b 1 == 6) (routePrefix b) (byteAt b 2)
def keyV6 (k : Nat) : Bool := k / 2 ^ 136 % 2 == 1

/-- Bytes of a prefix that must be zero hold a bit: the first of them. -/
def prefixFault (b : Bytes) : Option Nat :=
  let len := byteAt b 2
  let size := if byteAt b 1 = 6 then 16 else 4
  (List.range 16).find? fun i => byteAt b (8 + i) % 2 ^ (if i < size then 8 - min 8 (len - 8 * i) else 8) != 0

/-- First fault of a route record other than its operation: status and offset. -/
def routeFault (b : Bytes) (insert : Bool) : Option (Nat × Nat) :=
  if !(byteAt b 1 = 4 || byteAt b 1 = 6) then some (Status.badParam, 1)
  else if (if byteAt b 1 = 6 then 128 else 32) < byteAt b 2 then some (Status.range, 2)
  else match firstNonZeroAt b [3, 6, 7] with
    | some i => some (Status.badParam, i)
    | none => match prefixFault b with
      | some i => some (Status.badParam, 8 + i)
      | none => if insert && 65535 < fieldLe b 24 4 then some (Status.range, 24) else none

/-- A table's routes of a family. -/
def familyCount (t : Table Nat) (v6 : Bool) : Nat := (t.filter fun e => keyV6 e.1 == v6).length
def familyLimit (v6 : Bool) : Nat := if v6 then 65536 else 262144

/-- Prefix places held: those of the current version, and those of the others that differ from it (R278). -/
def State.placesHeld (s : State) (v6 : Bool) : Nat :=
  let base := s.cur.fwd.routes
  let differ (t other : Table Nat) : Nat := (t.filter fun e => keyV6 e.1 == v6 && tget? base e.1 != some e.2 && tget? other e.1 != some e.2).length
  let drain := match s.drain with | some d => d.tables.fwd.routes | none => []
  familyCount base v6 + differ drain [] + differ s.shadow.fwd.routes drain
def State.placesFree (s : State) (v6 : Bool) : Nat := 2 * familyLimit v6 - s.placesHeld v6

def recRoute (s : State) (b : Bytes) (base : Nat) : RecAns :=
  let op := byteAt b 0
  let key := recordKey b
  let v6 := byteAt b 1 == 6
  let t := s.shadow.fwd.routes
  if !(op = 1 || op = 2) || s.fwd.build.state == .running then .refuse Status.badParam base
  else match routeFault b (op == 1) with
    | some (st, i) => .refuse st (base + i)
    | none =>
      if op = 2 then
        (if (tget? t key).isNone then .refuse Status.range (base + 8) else .ok (s.stageFwd fun f => { f with routes := tdel f.routes key }) [])
      else if (tget? t key).isNone && familyLimit v6 ≤ familyCount t v6 then .refuse Status.noRoom (if v6 then 3 else 2)
      else
        let s1 := s.stageFwd fun f => { f with routes := tset f.routes key (fieldLe b 24 4) }
        if s.drain.isSome && decide (2 * familyLimit v6 < s1.placesHeld v6) then .refuse Status.noRoom 4 else .ok s1 []

/-- Check records of tile `k` in order (R279): the routes, or the reason. -/
def checkRoutes (k : Nat) : List Bytes → Table Nat → Except (Nat × Nat) (Table Nat)
  | [], t => .ok t
  | b :: rest, t =>
    let v6 := byteAt b 1 == 6
    if byteAt b 0 != 1 || (routeFault b true).isSome then .error (2, k)
    else if (tget? t (recordKey b)).isSome then .error (3, k)
    else if familyLimit v6 ≤ familyCount t v6 then .error (4, k)
    else checkRoutes k rest (tset t (recordKey b) (fieldLe b 24 4))

/-- Check a list tile by tile, the records of each before its bytes 56-59: the routes, or the reason with the first failing tile. -/
def checkRouteTiles : List Bytes → Nat → Nat → Table Nat → Except (Nat × Nat) (Table Nat)
  | [], _, _, t => .ok t
  | p :: ps, k, n, t =>
    match checkRoutes k ([fit 28 p, slice p 28 28].take n) t with
    | .error e => .error e
    | .ok t1 => if (firstNonZeroAt p [56, 57, 58, 59]).isSome then .error (2, k) else checkRouteTiles ps (k + 1) (n - 2) t1

/-- The table that a build's list spells in what its seam holds now, as its tasks will read it. -/
def State.listRoutes (s : State) (i n : Nat) : Option (Table Nat) :=
  let ps := (readCells s.cur {} .command (s.seamCells i) s).1
  if ps.any (·.isNone) then none
  else match checkRouteTiles (ps.map fun p => p.getD []) 0 n [] with | .ok t => some t | .error _ => none

/-- While a third version drains, the route store has the places of a shadow that holds these routes (R278). -/
def State.placesFor (s : State) (t : Table Nat) : Bool :=
  let s1 := s.stageFwd fun f => { f with routes := t }
  s.drain.isNone || [false, true].all fun v6 => decide (s1.placesHeld v6 ≤ 2 * familyLimit v6)

/-- Accept a route build: its tasks are created. One whose list needs places that the store lacks while a version drains is refused; a list
that the build would fail is accepted, and fails (R278, R279; DESIGN CHOICE, log 141). -/
def bodyRouteBuild (m : Msg) (s : State) : Done :=
  let n := m.f 8 4
  if s.fwd.build.state == .running then badParam s 0
  else needZero s m ([1, 2, 3] ++ span 12 15) <|
    match s.dram.dir.find (m.f 4 4) with
    | none => badParam s 4
    | some i =>
      if s.seamLength i != (n + 1) / 2 then outOfRange s 4
      else if !(s.listRoutes i n).all s.placesFor then refuse s Status.noRoom 4
      else match State.newTasks TaskType.seamBuild .routeBuild (min 8 (s.typeCfg TaskType.seamBuild).maxMiners) s with
        | none => refuse s Status.noRoom 0x10
        | some s1 =>
          let seq := s.fwd.sequence + 1
          ok { s1 with fwd := { s1.fwd with
                sequence := seq
                build := { state := .running, reason := 0, processed := 0, ordinal := none, start := s.now, tookMs := 0, profile := none,
                           list := some i, count := n } } } (le 4 seq)

def bodyRouteLoad (m : Msg) (s : State) : Done :=
  if !m.stage then refuse s Status.badParam 6
  else if !m.batch && m.p 0 = 3 then bodyRouteBuild m s
  else records m 28 recRoute s

/-- R290: ROUTE_LOAD. -/
def cmdRouteLoad : Cmd :=
  { op := 0x0807, flags := fun m => flagsIn 5 m && !(m.batch && m.p 0 = 3), legal := legalRun,
    len := fun m => if !m.batch && m.p 0 = 3 then (m.len.toNat == 16, 28) else lenRec 28 145 m,
    locks := fun _ => true, changes := fun _ => true, memory := true, body := bodyRouteLoad }
def execRouteLoad (m : Msg) (s : State) : Host.Outcome State Fault Refusal := runCommand cmdRouteLoad m s

/-- End a route build. -/
def State.endRouteBuild (s : State) (b : Build) : State :=
  let s1 := { s with fwd := { s.fwd with build := { b with list := none, tookMs := (s.now - b.start) / 1000000 } } }
  if b.state == .abandoned then s1.dropWork (· == .routeBuild) else s1.finishWork (· == .routeBuild)

/-- R279: the route build, on its miners, stages the table its list spells, or ends FAILED. While the shadow is sealed it waits, and so it does
for places that a version drains (log 141). -/
def execRouteBuildComplete (hurt : Upsets) (s : State) : Host.Outcome State Fault Refusal :=
  let b := s.fwd.build
  if s.refreshing || b.state != .running || s.sealed || !s.atWork .routeBuild then .next s
  else
    let cells := match b.list with | some i => s.seamCells i | none => []
    let (ps, s1) := readCells s.cur hurt .miner cells (s.upset hurt)
    let fail (reason k : Nat) : State := s1.endRouteBuild { b with state := .failed, reason := reason, ordinal := some k }
    match ps.findIdx? (·.isNone) with
    | some k => done s (fail 1 k)
    | none =>
      match checkRouteTiles (ps.map fun p => p.getD []) 0 b.count [] with
      | .error (reason, k) => done s (fail reason k)
      | .ok t => if !s1.placesFor t then .next s else done s ((s1.stageFwd fun f => { f with routes := t }).endRouteBuild { b with state := .staged, processed := b.count })

/-- DISCARD abandons the route build (R279). -/
def State.abandonRoutes (s : State) : State :=
  let b := s.fwd.build
  if b.state == .running then s.endRouteBuild { b with state := .abandoned, reason := 5 }
  else if b.state == .staged then { s with fwd := { s.fwd with build := { b with state := .abandoned, reason := 5 } } }
  else s

def routeRecord (key hop : Nat) : Bytes :=
  let v6 := keyV6 key
  let pre := key / 256 % 2 ^ 128
  [1] ++ le 1 (if v6 then 6 else 4) ++ le 1 (key % 256) ++ [0] ++ le 2 (key / 2 ^ 137) ++ [0, 0] ++ be 16 pre ++ le 4 hop

def State.brokenRoute (s : State) : Bool := s.fwd.broken.any FwdItem.isRoute

def routeStatus (s : State) : Bytes :=
  let b := s.fwd.build
  let state := if s.brokenRoute && b.state != .running then 5 else b.state.code
  le 4 (familyCount s.cur.fwd.routes false) ++ le 4 (familyCount s.cur.fwd.routes true) ++ le 4 (familyCount s.shadow.fwd.routes false) ++
    le 4 (familyCount s.shadow.fwd.routes true) ++ le 1 state ++ le 1 b.reason ++ [0, 0] ++ le 4 (b.ordinal.getD 0xFFFFFFFF) ++
    le 4 (if b.state == .running then (s.now - b.start) / 1000000 else b.tookMs) ++ le 4 (s.placesFree false)

def bodyRouteRead (m : Msg) (s : State) : Done :=
  let t := (s.view m).fwd.routes
  let v6 := m.p 1 == 6
  match m.p 0 with
  | 0 =>
    if !(m.p 1 = 4 || v6) then badParam s 1
    else needZero s m ([2, 3, 6, 7] ++ if v6 then [] else span 12 23) <|
      match longestRoute t (m.f 4 2) v6 (if v6 then ofBe (slice m.params 8 16) else ofBe (slice m.params 8 4) * 2 ^ 96) (if v6 then 128 else 32) with
      | some (k, n) => ok s (routeRecord k n)
      | none => ok s (zeros 28)
  | 1 =>
    needZero s m [1] <|
      if m.p 2 = 0 || 145 < m.p 2 then outOfRange s 2
      else needZero s m (span 3 7 ++ span 12 23) <|
        if t.length < m.f 8 4 then outOfRange s 8
        else
          let next := if m.f 8 4 + m.p 2 < t.length then m.f 8 4 + m.p 2 else 0xFFFFFFFF
          ok s (le 4 t.length ++ le 4 next ++ ((t.drop (m.f 8 4)).take (m.p 2)).flatMap fun e => routeRecord e.1 e.2)
  | 2 => needZero s m (span 1 23) <| ok s (routeStatus s)
  | _ => badParam s 0

/-- R291: ROUTE_READ. -/
def cmdRouteRead : Cmd :=
  { op := 0x0808, flags := flagsRead false, legal := legalAll, len := lenIs 24, changes := fun _ => false, body := bodyRouteRead }
def execRouteRead (m : Msg) (s : State) : Host.Outcome State Fault Refusal := runCommand cmdRouteRead m s

/-! Next hops (R280, R292). -/

/-- Faults of a record's encapsulation fields and of its bytes that must be zero. -/
def encapFaults (b : Bytes) : List (Bool × Nat) :=
  let e := hopEncap b
  [(decide (4 < e), 7),
     (decide (hopOuter b != 0 && (e = 0 || e = 4)), 20), (decide (hopInner b != 0 && e != 2 && e != 3), 22),
     (decide (hopSession b != 0 && e != 3 && e != 4), 24), (decide (hopKind b = 3 && 7 < hopRing b), 26),
     (decide (3 < byteAt b 27) || (bitAt b 27 1 && (decide (e = 0) || decide (e = 4))), 27)] ++ (span 28 31).map fun i => (byteAt b i != 0, i)

/-- First wrong byte of a next-hop record: to be set, or of a DELETE, whose kind and port are not judged. -/
def hopFault (b : Bytes) : Option Nat :=
  firstFault <|
    (if byteAt b 4 = 1 then [(decide (hopKind b = 0 || 3 < hopKind b), 5), (decide (hopKind b = 1 && 25 < hopPort b), 6)] else []) ++ encapFaults b

def recNexthopSet (m : Msg) (s : State) (b : Bytes) (base : Nat) : RecAns :=
  let n := fieldLe b 0 4
  if !m.stage then noStage
  else if 65535 < n then .refuse Status.range base
  else if !(byteAt b 4 = 1 || byteAt b 4 = 2) then .refuse Status.badParam (base + 4)
  else match hopFault b with
    | some i => .refuse Status.badParam (base + i)
    | none => .ok (s.stageFwd fun f => { f with nexthops := if byteAt b 4 = 1 then tset f.nexthops n b else tdel f.nexthops n }) []

/-- R292: NEXTHOP_SET. -/
def cmdNexthopSet : Cmd :=
  { op := 0x0809, flags := flagsIn 5, legal := legalRun, len := lenRec 32 127, locks := fun _ => true, changes := fun _ => true,
    body := fun m s => records m 32 (recNexthopSet m) s }
def execNexthopSet (m : Msg) (s : State) : Host.Outcome State Fault Refusal := runCommand cmdNexthopSet m s

def bodyNexthopRead (m : Msg) (s : State) : Done :=
  let first := m.f 0 4
  let n := m.p 4
  if 65535 < first then outOfRange s 0
  else if n = 0 || 127 < n then outOfRange s 4
  else if 65536 < first + n then outOfRange s 0
  else needZero s m [5, 6, 7] <|
    ok s ((List.range n).flatMap fun i => (tget? (s.view m).fwd.nexthops (first + i)).getD (le 4 (first + i) ++ zeros 28))

/-- R292: NEXTHOP_READ. -/
def cmdNexthopRead : Cmd :=
  { op := 0x080A, flags := flagsRead false, legal := legalAll, len := lenIs 8, changes := fun _ => false, body := bodyNexthopRead }
def execNexthopRead (m : Msg) (s : State) : Host.Outcome State Fault Refusal := runCommand cmdNexthopRead m s

/-! What a commit boundary does to the tables (R267, R274, R279, R282). -/

/-- A domain that the boundary sets SYNC on. -/
def newlySynced (old s : State) (d : Nat) : Bool :=
  s.cur.fwd.synced d && !old.cur.fwd.synced d

/-- LEARNED entries that HOST entries displace, or whose domain becomes synchronised, go; so do the queued events of such a domain. -/
def State.boundaryLearned (old s : State) (pipe : Bool) : State :=
  let hosts := s.cur.fwd.hosts pipe
  let keep (e : Nat × Learned) : Bool :=
    !(hosts.any fun h => h.2.way == e.1 || h.1 == bridgeKey e.2.domain e.2.mac) && !newlySynced old s e.2.domain
  let s1 := s.setLearned pipe ((s.fwd.learned pipe).filter keep)
  { s1 with fwd := s1.fwd.setQueue pipe ((s1.fwd.queue pipe).filter fun e => !newlySynced old s e.domain) }

def State.applyForwarding (old s : State) : State :=
  let s1 := State.boundaryLearned old (State.boundaryLearned old s false) true
  let f := s1.fwd
  { s1 with fwd := { f with build := if f.build.state == .staged then { f.build with state := .none } else f.build } }

end Sys2Proof.Machine
end

