-- ==== Sys2Proof/Machine/Wire.lean ====
section
/-!
DEFINITION. Frames on the wire: tags and EtherType, Internet checksums and their incremental update, and PTP messages recognised by
R377 (spec 08 R251, 13 R377, R380).
-/
namespace Sys2Proof.Machine

/-! Internet checksums. -/

/-- The 16-bit words of a byte string in wire order, an odd last byte padded with zero. -/
def words16 : Bytes → List Nat
  | a :: b :: rest => (a.toNat * 256 + b.toNat) :: words16 rest
  | [a] => [a.toNat * 256]
  | [] => []

/-- Ones' complement sum folded to 16 bits. -/
def fold16 (n : Nat) : Nat := let a := n % 65536 + n / 65536; let b := a % 65536 + a / 65536; b % 65536 + b / 65536
def sum16 (ws : List Nat) : Nat := fold16 (ws.foldl (· + ·) 0)
/-- The Internet checksum of a byte string. -/
def checksum16 (bs : Bytes) : Nat := 65535 - sum16 (words16 bs)

/-- RFC 1624: the checksum `c` after the words `old` become `new`. -/
def update16 (c : Nat) (old new : List Nat) : Nat :=
  65535 - fold16 ((65535 - c) + (old.map (65535 - ·)).foldl (· + ·) 0 + new.foldl (· + ·) 0)

/-- Update the checksum at offset `at_` of a frame for bytes that changed. A UDP checksum of zero over IPv4 stays zero. -/
def updateAt (frame : Bytes) (at_ : Nat) (keepZero : Bool) (old new : Bytes) : Bytes :=
  let c := fieldBe frame at_ 2
  if keepZero && c = 0 then frame
  else
    let c' := update16 c (words16 old) (words16 new)
    splice frame at_ (be 2 (if keepZero && c' = 0 then 0xFFFF else c'))

/-! Headers of a frame. -/

def isTag (t : Nat) : Bool := t == 0x8100 || t == 0x88A8

/-- Offset of the EtherType after up to two tags. -/
def etherOffset (frame : Bytes) : Nat :=
  if !isTag (fieldBe frame 12 2) then 12 else if !isTag (fieldBe frame 16 2) then 16 else 20

/-! PTP messages (R377). -/

/-- A PTP message in a frame: offset of its header, and the offset of the UDP checksum with whether the UDP runs over IPv4. -/
structure PtpAt where
  start : Nat
  udp : Option (Nat × Bool)
  deriving DecidableEq, Repr

/-- Encapsulation of a PTP message to one of the UDP ports. -/
def ptpCarrier (frame : Bytes) (ports : List Nat) : Option PtpAt :=
  let e := etherOffset frame
  let l3 := e + 2
  match fieldBe frame e 2 with
  | 0x88F7 => some { start := l3, udp := none }
  | 0x0800 =>
    let ihl := byteAt frame l3 % 16
    let udp := l3 + ihl * 4
    if byteAt frame l3 / 16 = 4 && 5 ≤ ihl && fieldBe frame (l3 + 6) 2 % 0x4000 = 0 && byteAt frame (l3 + 9) = 17 &&
        ports.contains (fieldBe frame (udp + 2) 2) then
      some { start := udp + 8, udp := some (udp + 6, true) }
    else none
  | 0x86DD =>
    let udp := l3 + 40
    if byteAt frame l3 / 16 = 6 && byteAt frame (l3 + 6) = 17 && ports.contains (fieldBe frame (udp + 2) 2) then
      some { start := udp + 8, udp := some (udp + 6, false) }
    else none
  | _ => none

/-- A PTP message recognised in a frame. -/
def ptpIn (frame : Bytes) (ports : List Nat) : Option PtpAt :=
  match ptpCarrier frame ports with
  | some p =>
    if byteAt frame (p.start + 1) % 16 = 2 && 44 ≤ fieldBe frame (p.start + 2) 2 &&
        p.start + fieldBe frame (p.start + 2) 2 ≤ frame.length then some p
    else none
  | none => none

def ptpMessage (frame : Bytes) : Option PtpAt := ptpIn frame [319]
def ptpType (frame : Bytes) (p : PtpAt) : Nat := byteAt frame p.start % 16
/-- Event messages: Sync, Delay_Req, Pdelay_Req, Pdelay_Resp. -/
def isPtpEvent (t : Nat) : Bool := t < 4

/-- Replace bytes of a PTP message, with its UDP checksum updated (R380). -/
def ptpReplace (frame : Bytes) (p : PtpAt) (off : Nat) (new : Bytes) : Bytes :=
  let at_ := p.start + off
  let old := slice frame at_ new.length
  let odd := (at_ - (match p.udp with | some (c, _) => c | none => at_)) % 2 = 1
  let pad (b : Bytes) : Bytes := if odd then 0 :: b else b
  let f := splice frame at_ new
  match p.udp with
  | some (c, v4) =>
    let g := updateAt f c v4 (pad old) (pad new)
    if !v4 && fieldBe g c 2 = 0 then splice g c (be 2 0xFFFF) else g
  | none => f

end Sys2Proof.Machine
end

