-- ==== Sys2Proof/Machine/HostRings.lean ====
section
/-!
DEFINITION. The rings the device writes in host memory through REQUEST channels: slots, phases, consumer counts and interrupts
(spec 10 R314-R320, 14 R406, R412, 15 R436).
-/
namespace Sys2Proof.Machine

/-! Rings by requester number (Table 15.8): 0-7 copy-to-host rings, 8 the telemetry ring, 9 the dump ring. -/

def State.hostRing (s : State) (n : Nat) : HostRing :=
  if n < 8 then s.ring n else if n = 8 then s.telem.ring else s.telem.dumpRing

def State.setHostRing (s : State) (n : Nat) (x : HostRing) : State :=
  if n < 8 then s.setRing n x
  else if n = 8 then { s with telem := { s.telem with ring := x } } else { s with telem := { s.telem with dumpRing := x } }

def HostRing.slots (x : HostRing) : Nat := 2 ^ x.k
def HostRing.slotBytes (x : HostRing) : Nat := 2 ^ x.j
/-- Producer count minus consumer count. -/
def HostRing.unread (x : HostRing) : Nat := (x.produced - x.consumed).toNat
/-- R317: full when the counts differ by the slot count. -/
def HostRing.full (x : HostRing) : Bool := x.unread == x.slots
/-- R316: 1 on the first lap, and alternating. -/
def HostRing.phase (x : HostRing) : Bool := x.produced.toNat / x.slots % 2 == 0
def HostRing.slotAddr (x : HostRing) : Nat := x.base + x.produced.toNat % x.slots * x.slotBytes
/-- State as STATUS reports it (R319): every enabled ring stops while the engine is halted. -/
def HostRing.code (x : HostRing) (engineHalted : Bool) : Nat := if !x.enabled then 0 else if x.halted || engineHalted then 2 else 1

/-! Requesters and their channels (R426, R436). -/

/-- The owner of a channel may issue requests (R426). -/
def State.mayRequest (s : State) (c : Nat) : Bool := s.host.linkUp && (s.fn (s.ownedByPf1 c)).able

/-- A REQUEST channel that may run. -/
def State.requestReady (s : State) (c : Nat) : Bool :=
  let x := s.dma c
  x.request && x.enable && !s.host.halted && s.mayRequest c && (x.state == .idle || x.state == .running)

/-- A ring may write its next slot. -/
def State.ringReady (s : State) (n : Nat) : Bool :=
  let x := s.hostRing n
  x.enabled && !x.halted && !x.full && s.requestReady x.channel

/-- Requesters attached to a channel (R436): the enabled rings that name it. -/
def State.ringsOn (s : State) (c : Nat) : List Nat :=
  (List.range 10).filter fun r => (s.hostRing r).enabled && (s.hostRing r).channel == c

/-- The head of a copy-to-host ring's queue is whole, so that its record can be made. -/
def State.headReady (s : State) (r : Nat) : Bool :=
  decide (r < 8) && (s.queue (ringQueue r)).items.head?.any fun e => !e.pkt.arriving || e.record.isSome

/-- A requester has something to do for the channel (R436): a record to write, or, with the ring full, its consumer address to read (R317). -/
def State.ringWork (s : State) (r : Nat) : Bool :=
  let x := s.hostRing r
  !x.halted && (x.slot.isSome || s.headReady r || x.full)

/-- A requester has a burst to write. -/
def State.ringDue (s : State) (r : Nat) : Bool := s.ringReady r && ((s.hostRing r).slot.isSome || s.headReady r)

/-- R436: the requesters of one channel are served in turn; the next of this one that has a burst. -/
def State.nextRing (s : State) (c : Nat) : Option Nat :=
  ((List.range 10).map fun k => ((s.dma c).turn + 1 + k) % 10).find? fun r => (s.ringsOn c).contains r && s.ringDue r

/-- MSI-X vector of a ring (Table 15.5). -/
def ringVector (n : Nat) : Nat := 4 + n

/-- R318: raise the ring's vector for a record written, unless its holdoff runs. -/
def State.ringIrq (s : State) (n : Nat) : State :=
  let x := s.hostRing n
  if !x.irq then s
  else match x.holdUntil with
    | some _ => s.setHostRing n { x with again := true }
    | none =>
      let s1 := s.raiseVector (s.ownedByPf1 x.channel) (ringVector n)
      if x.holdoff = 0 then s1 else s1.setHostRing n { x with holdUntil := some (s.now + x.holdoff * 1000), again := false }

/-! Requests of a function (Table 15.1): posted writes of at most its maximum payload size, reads of at most its maximum read request. -/

def State.writeParts (pf1 : Bool) (s : State) : Nat → Nat → Bytes → State
  | 0, _, _ => s
  | n + 1, at_, bytes =>
    let k := (s.fn pf1).payload
    if bytes.isEmpty then s else State.writeParts pf1 (s.send (.hostWrite pf1 at_ (bytes.take k))) n (at_ + k) (bytes.drop k)

def State.hostWrites (s : State) (pf1 : Bool) (at_ : Nat) (bytes : Bytes) : State := State.writeParts pf1 s (bytes.length / 128 + 1) at_ bytes

def State.readParts (pf1 : Bool) (kind : Nat) (s : State) : Nat → Nat → Nat → State
  | 0, _, _ => s
  | n + 1, at_, len =>
    let k := (s.fn pf1).readMax
    if len = 0 then s else State.readParts pf1 kind (s.send (.hostRead pf1 kind at_ (min k len))) n (at_ + k) (len - k)

/-- Read requests that bytes of host memory take. -/
def PciFunction.requests (f : PciFunction) (len : Nat) : Nat := (len + f.readMax - 1) / f.readMax

/-- Non-posted requests outstanding (Table 15.1: at most 256); a descriptor fetch and a consumer read are whole in their own commands. -/
def State.readsOut (s : State) : Nat := (s.host.channels.map (·.reads.length)).foldl (· + ·) 0

/-- A record is whole in its slot: the producer count, the head of its queue gone, the counters, the interrupt (R316, R318). -/
def State.slotWritten (s : State) (n : Nat) : State :=
  let x := s.hostRing n
  let s1 := s.setHostRing n { x with slot := none, sent := 0, produced := x.produced + 1, polled := none, fullAt := s.now }
  let q := s1.queue (ringQueue n)
  let s2 := if n < 8 then (s1.setQueue (ringQueue n) { q with items := q.items.tail }).ringCount n 0
    else { s1 with telem := (if n = 8 then { s1.telem with counters := bump s1.telem.counters 10 }
                             else { s1.telem with dumpsWritten := s1.telem.dumpsWritten + 1 }) }
  s2.ringIrq n

/-- One burst of a ring's record, at most 512 B: its bytes from 4 on, and last bytes 0-3, PHASE set in byte 0 (R316, R436). -/
def State.ringBurst (s : State) (n : Nat) : State :=
  let x := s.hostRing n
  let pf1 := s.ownedByPf1 x.channel
  match x.slot with
  | none => s
  | some bytes =>
    let s1 := s.setDma x.channel { s.dma x.channel with turn := n }
    let off := 4 + 512 * x.sent
    if off < bytes.length then
      (s1.hostWrites pf1 (x.slotAddr + off) ((bytes.drop off).take 512)).setHostRing n { x with sent := x.sent + 1 }
    else (s1.send (.hostWrite pf1 x.slotAddr (le 1 (byteAt bytes 0 + (if x.phase then 0x80 else 0)) ++ slice bytes 1 3))).slotWritten n

/-- A ring that has no record in progress takes one; the room for it is there until its header is written. -/
def State.ringTakes (s : State) (n : Nat) : Bool :=
  let x := s.hostRing n
  x.enabled && !x.halted && !x.full && x.slot.isNone && !s.host.halted

def State.takeSlot (s : State) (n : Nat) (bytes : Bytes) : State :=
  s.setHostRing n { s.hostRing n with slot := some bytes, sent := 0 }

/-! R316: a copy-to-host record. -/

/-- Data of an entry and whether it is cut: to the slot, and a mirror copy to its session's truncation. -/
def State.recordData (s : State) (x : HostRing) (e : Queued) : Bytes × Bool :=
  let data := e.record.getD e.pkt.bytes
  let mirrorLimit := match (if e.pkt.reason = 3 then e.pkt.session.bind (s.version e.pkt.stamp).session else none) with
    | some r => if fieldLe r 6 2 = 0 then data.length else fieldLe r 6 2 - 4
    | none => data.length
  let limit := min mirrorLimit (x.slotBytes - 32)
  (data.take limit, decide (limit < data.length))

/-- Header of Table 10.2, without PHASE. -/
def recordHeader (e : Queued) (len : Nat) (cut : Bool) : Bytes :=
  let p := e.pkt
  le 1 cut.toNat ++ le 1 (if e.record.isSome then 2 else 1) ++ le 1 p.reason ++ le 1 p.inPort ++ le 2 len ++ le 2 e.len ++
    le 2 p.stamp.toNat ++ le 1 p.pass ++ le 1 (if p.reason = 3 then p.session.getD p.qclass else p.qclass) ++ le 4 p.metadata.toNat ++
    le 3 (p.sub.getD 0xFFFFFF) ++ [0] ++ le 4 e.sec.toNat ++ le 4 e.ns.toNat ++ zeros 4

/-- R383: an entry as it is delivered to a ring. A PTP event message whose ingress port has RX_TS set carries D. -/
def State.stampRx (s : State) (e : Queued) : Bool × Queued :=
  match ptpMessage e.pkt.bytes with
  | some p =>
    let on := match (s.version e.pkt.stamp).ptp.ports[e.pkt.inPort]? with | some x => x.rxTs | none => false
    if on && e.record.isNone && isPtpEvent (ptpType e.pkt.bytes p) then
      (true, { e with pkt := { e.pkt with bytes := ptpReplace e.pkt.bytes p 16 (le 4 e.since) } })
    else (false, e)
  | none => (false, e)

def State.timeCount (s : State) (i : Nat) : State := { s with time := { s.time with counters := bump s.time.counters i } }

/-- An uncorrectable word of the packet buffer is logged, with the pipeline that meets it (R293, R294). -/
def State.cellFault (s : State) (pipe : Nat) (h : Nat × Nat) : State := s.logError ErrCode.bufferEcc pipe (le 1 h.1 ++ zeros 3 ++ le 4 h.2)

/-- The data of a record read from cells of which words are uncorrectable: such a word, somewhere in it, has no stated value (R293). -/
def State.spoiled (s : State) (data : Bytes) : Nat → Bytes × State
  | 0 => (data, s)
  | n + 1 =>
    let (w, s1) := s.draw
    let (a, s2) := s1.draw
    let (b, s3) := s2.draw
    s3.spoiled ((splice data (8 * (w.toNat % max 1 (data.length / 8))) (le 4 a.toNat ++ le 4 b.toNat)).take data.length) n

/-- R316: a ring makes the record of its queue's head, which stays queued until the record is whole in its slot. An uncorrectable descriptor
discards its packet (R294). -/
def State.makeRecord (s : State) (n : Nat) (hurt : Upsets) : State :=
  match (s.queue (ringQueue n)).items with
  | [] => s
  | e :: rest =>
    let s1 := hurt.buffer.foldl (State.cellFault · e.pkt.pipe.toNat) s
    if hurt.buffer.any (·.1 == 2) then
      ((s1.setQueue (ringQueue n) { s1.queue (ringQueue n) with items := rest }).bufCount BufCounter.ecc).countDiscard e.pkt
    else
      let (stamped, x) := s1.stampRx e
      let s2 := if stamped then s1.timeCount 3 else s1
      let (sound, cut) := s2.recordData (s2.ring n) x
      let (data, s3) := s2.spoiled sound (hurt.buffer.filter (·.1 == 1)).length
      (if cut then s3.ringCount n 3 else s3).takeSlot n (recordHeader x data.length cut ++ data)

/-- A ring is served: its next record is made, if none is in progress, and one burst is written. -/
def State.serveRing (s : State) (n : Nat) (hurt : Upsets) : State :=
  (if (s.hostRing n).slot.isNone then s.makeRecord n hurt else s).ringBurst n

/-- R317: a full ring reads its consumer address, and reads it again every 2 us until a slot is free. -/
def execRingConsumerPoll (ring : Nat) (consumed : W32) (s : State) : Host.Outcome State Fault Refusal :=
  let x := s.hostRing ring
  if decide (ring < 10) && x.enabled && !x.halted && x.full && s.requestReady x.channel && x.polled.all (· + 2000 ≤ s.now) && decide (s.readsOut < 256) then
    done s ((s.send (.hostRead (s.ownedByPf1 x.channel) 4 x.consumerAddr 4)).setHostRing ring { x with consumed := consumed, polled := some s.now })
  else .next s

/-- R318: a ring's holdoff ends; the vector is raised again if records were written during it. -/
def execRingHoldoffExpire (ring : Nat) (s : State) : Host.Outcome State Fault Refusal :=
  let x := s.hostRing ring
  match x.holdUntil with
  | some t =>
    if 10 ≤ ring || s.now < t then .next s
    else
      let s1 := s.setHostRing ring { x with holdUntil := none, again := false }
      done s (if x.again then s1.ringIrq ring else s1)
  | none => .next s

/-! What the ring commands share (R314, R436). -/

/-- The function that sent a command: PF1 for HOST_S, and for what the peer forwarded from there. -/
def senderPf1 (m : Msg) : Bool := m.ch == 1 || (m.ch == 2 && m.origin == 1)

/-- R436: a channel that a ring command may not name. -/
def State.channelBad (s : State) (m : Msg) (c : Nat) : Bool := 15 < c || !(s.dma c).request || s.ownedByPf1 c != senderPf1 m

/-- ENABLE zeroes both counts and starts at PHASE 1. -/
def HostRing.start (x : HostRing) : HostRing :=
  { x with enabled := true, halted := x.abandoned, produced := 0, consumed := 0, holdUntil := none, again := false, polled := none,
           slot := none, sent := 0 }
/-- DISABLE ends a ring's halt, its holdoff and its record in progress (R319, R320). -/
def HostRing.stop (x : HostRing) : HostRing :=
  { x with enabled := false, halted := false, abandoned := false, holdUntil := none, again := false, slot := none, sent := 0 }

end Sys2Proof.Machine
end

