-- ==== Sys2Proof/Machine/BufCmd.lean ====
section
/-!
DEFINITION. Commands on the buffer, its queues, schedulers, shaping nodes, mirror sessions and rings, and residence (spec 10).
-/
namespace Sys2Proof.Machine

def State.stageBuf (s : State) (f : BufCfg → BufCfg) : State := s.stageWith fun v => { v with buf := f v.buf }

/-! R308: residence. -/

/-- The number by which a residence expiry names a pipeline's recirculation or reinjection queue: above every queue key. -/
def pipeQueue (reinject pipe : Bool) : Nat := 525312 + 2 * reinject.toNat + pipe.toNat

/-- A packet 50 ms old leaves the middle of a recirculation queue, or of a reinjection queue (R11, R35). -/
def State.expireRecirc (s : State) (pipe : Bool) (index : Nat) : State :=
  match (s.recircQ pipe)[index]? with
  | some p => if s.now < p.admitted + 50000000 then s else (s.setRecircQ pipe ((s.recircQ pipe).eraseIdx index)).dropOld p
  | none => s

def State.expireReinject (s : State) (pipe : Bool) (index : Nat) : State :=
  match (s.reinjectQ pipe)[index]? with
  | some (p, key) =>
    if s.now < p.admitted + 50000000 then s
    else ((s.setReinjectQ pipe ((s.reinjectQ pipe).eraseIdx index)).dropOld p).releaseBehind p key
  | none => s

/-- The ring whose record in progress is of the entry. -/
def State.recordRing (s : State) (queue index : Nat) : Option Nat :=
  if index = 0 && 512 ≤ queue && queue < 520 && (s.ring (queue - 512)).slot.isSome then some (queue - 512) else none

/-- R308: a packet whose ring record is being written is not discarded; one of a ring that a halt stopped can be. -/
def State.recordBusy (s : State) (queue index : Nat) : Bool :=
  match s.recordRing queue index with
  | some r => !(s.ring r).halted && !s.host.halted
  | none => false

/-- R319: the record of an entry that expires is not written again. -/
def State.dropRecord (s : State) (queue index : Nat) : State :=
  match s.recordRing queue index with
  | some r => s.setRing r { s.ring r with slot := none, sent := 0 }
  | none => s

/-- R308: an entry 50 ms old is taken out of its queue and discarded. -/
def execResidenceExpire (queue index : Nat) (s : State) : Host.Outcome State Fault Refusal :=
  let q := s.queue queue
  if queue = pipeQueue false false || queue = pipeQueue false true then done s (s.expireRecirc (queue = pipeQueue false true) index)
  else if queue = pipeQueue true false || queue = pipeQueue true true then done s (s.expireReinject (queue = pipeQueue true true) index)
  else match q.items[index]? with
  | some e =>
    if s.now < e.pkt.admitted + 50000000 || s.recordBusy queue index then .next s
    else
      let s1 := (s.dropRecord queue index).setQueue queue { q with items := q.items.eraseIdx index, discarded := q.discarded + 1 }
      done s ((s1.bufCount BufCounter.residence).countDiscard e.pkt)
  | none => .next s

/-! QUEUE_CONFIG (R295, R322). -/

/-- Cells a version guarantees or reserves; more than 180,224 is refused (R295). -/
def Staged.reserved (v : Staged) : Nat := v.buf.res0 + v.buf.res1 + v.minSum

def isBufPort (p : Nat) : Bool := p < 26 || p = 32 || p = 33

def recQueueConfig (m : Msg) (s : State) (b : Bytes) (base : Nat) : RecAns :=
  let p := byteAt b 0
  let c := byteAt b 1
  let isRing := decide (0x40 ≤ p) && decide (p < 0x48)
  let q := if isRing then ringQueue (p - 0x40) else classQueue p c
  let min := fieldLe b 4 2
  let max := fieldLe b 6 2
  if !isBufPort p && !isRing then .refuse Status.badParam base
  else if (if isRing then c != 0 else decide (7 < c)) then .refuse Status.range (base + 1)
  else if 1 < byteAt b 2 then .refuse Status.badParam (base + 2)
  else if byteAt b 2 = 0 then
    recZero b base (span 3 7) <|
      let x := (s.view m).queueCfg q
      .ok s (le 1 p ++ le 1 c ++ [0] ++ le 1 x.alpha ++ le 2 x.min ++ le 2 x.max)
  else if !m.stage then noStage
  else if 7 < byteAt b 3 then .refuse Status.range (base + 3)
  else if 8192 < min then .refuse Status.range (base + 4)
  else if max < 38 then .refuse Status.range (base + 6)
  else
    let f (v : BufCfg) : BufCfg := { v with queues := tset v.queues q { alpha := byteAt b 3, min := min, max := max } }
    if 180224 < ({ s.shadow with buf := f s.shadow.buf } : Staged).reserved then .refuse Status.range (base + 4)
    else .ok (s.stageBuf f) []

/-- R322: QUEUE_CONFIG. -/
def cmdQueueConfig : Cmd :=
  { op := 0x0901, flags := flagsIn 5, legal := legalRead fun m => !anyRec m 8 2, len := lenRec 8 510, locks := fun m => anyRec m 8 2,
    changes := fun m => anyRec m 8 2, body := fun m s => records m 8 (recQueueConfig m) s }
def execQueueConfig (m : Msg) (s : State) : Host.Outcome State Fault Refusal := runCommand cmdQueueConfig m s

/-! Shaping nodes (R305, R306, R322). -/

/-- The node record in force: the current version's, or that of the draining version. -/
def State.nodeNow (s : State) (n : Nat) : Option Bytes :=
  (s.cur.node n).orElse fun _ => s.drain.bind fun d => d.tables.node n

/-- Level of a bucket under a node record, in units of 2^-16 B (R305). -/
def State.bucketUnder (s : State) (r : Bytes) (n : Nat) : Int :=
  let depth : Int := (nodeDepth r * 65536 : Nat)
  match tget? s.buf.buckets n with
  | none => depth
  | some (level, t) => min depth (level + ((nodeRate r * 65536000 * (s.now - t) / 1000000000 : Nat) : Int))

/-- Level of a node's bucket now; 0 where there is no node. -/
def State.bucketNow (s : State) (n : Nat) : Int := match s.nodeNow n with | some r => s.bucketUnder r n | none => 0

/-- Debit a node's bucket by what a packet sent costs (R305). -/
def State.debit (s : State) (n len : Nat) : State :=
  match s.nodeNow n with
  | some r =>
    let cost : Int := ((len : Int) + nodeOverhead r) * 65536
    { s with buf := { s.buf with buckets := tset s.buf.buckets n (s.bucketUnder r n - cost, s.now) } }
  | none => s

/-- A commit keeps a bucket's level, cut to the new depth, also of a node that has sent nothing and is full at its old depth; a node first
defined starts full (R305). -/
def State.applyNodes (old s : State) : State :=
  let keep (n : Nat) (new was : Bytes) : Int × Nat := (min ((nodeDepth new * 65536 : Nat) : Int) (old.bucketUnder was n), s.now)
  let settle (n : Nat) : Option (Int × Nat) :=
    match s.cur.node n, old.cur.node n with
    | some new, some was => some (keep n new was)
    | some _, none => none
    | none, some was => some (old.bucketUnder was n, s.now)
    | none, none => none
  let listed := s.buf.buckets.filterMap fun e => (settle e.1).map fun x => (e.1, x)
  let deeper := s.cur.buf.nodes.filter fun e =>
    (tget? s.buf.buckets e.1).isNone && (match old.cur.node e.1 with | some was => nodeDepth was < nodeDepth e.2 | none => false)
  { s with buf := { s.buf with buckets := deeper.foldl (fun t e =>
      match old.cur.node e.1 with | some was => tset t e.1 (keep e.1 e.2 was) | none => t) listed } }

def shaperFault (b : Bytes) : Option (Nat × Nat) :=
  if 25 < byteAt b 4 then some (Status.badParam, 4)
  else if byteAt b 5 = 0 then some (Status.range, 5)
  else if nodeOverhead b < -32 || 63 < nodeOverhead b then some (Status.range, 6)
  else if byteAt b 7 != 0 then some (Status.badParam, 7)
  else if nodeRate b = 0 || 1250000 < nodeRate b then some (Status.range, 8)
  else if fieldLe b 12 2 = 0 || 4096 < fieldLe b 12 2 then some (Status.range, 12)
  else if 15 < byteAt b 15 then some (Status.badParam, 15)
  else if nodeCap b < 38 || 8192 < nodeCap b then some (Status.range, 16)
  else (firstNonZeroAt b [18, 19]).map fun i => (Status.badParam, i)

def recShaperNodeSet (m : Msg) (s : State) (b : Bytes) (base : Nat) : RecAns :=
  let n := fieldLe b 0 3
  if !m.stage then noStage
  else if 131071 < n then .refuse Status.badParam base
  else match byteAt b 3 with
    | 1 =>
      if (s.shadow.subDefined n).isNone then .refuse Status.badParam base
      else (match shaperFault b with
        | some (st, i) => .refuse st (base + i)
        | none => .ok (s.stageBuf fun f => { f with nodes := tset f.nodes n b }) [])
    | 2 =>
      recZero b base (span 4 19) <|
        if (s.shadow.subDefined n).isNone then .refuse Status.badParam base
        else .ok (s.stageBuf fun f => { f with nodes := tdel f.nodes n }) []
    | _ => .refuse Status.badParam (base + 3)

/-- R305: SHAPER_NODE_SET. -/
def cmdShaperNodeSet : Cmd :=
  { op := 0x0902, flags := flagsIn 5, legal := legalRun, len := lenRec 20 204, locks := fun _ => true, changes := fun _ => true,
    body := fun m s => records m 20 (recShaperNodeSet m) s }
def execShaperNodeSet (m : Msg) (s : State) : Host.Outcome State Fault Refusal := runCommand cmdShaperNodeSet m s

/-- Age of the oldest packet at the head of a node's queues, in us. -/
def State.headAge (s : State) (n : Nat) : Nat :=
  (((List.range 4).map fun c => match (s.queue (nodeQueue n c)).items with
    | e :: _ => (s.now - e.pkt.admitted) / 1000
    | [] => 0).foldl max 0)

def nodeState (s : State) (n : Nat) : Bytes :=
  le 4 (unsigned 32 (s.bucketNow n / 65536)) ++ ((List.range 4).flatMap fun c => le 2 (satur 16 (s.queue (nodeQueue n c)).held)) ++
    le 4 (satur 32 (s.headAge n))

def bodyShaperNodeRead (m : Msg) (s : State) : Done :=
  let n := m.f 0 3
  if 131071 < n then badParam s 0
  else if 1 < m.p 3 then badParam s 3
  else needZero s m (span 4 7) <|
    if m.p 3 = 0 then ok s (((s.view m).node n).getD (zeros 20)) else ok s (nodeState s n)

/-- R322: SHAPER_NODE_READ; the flags go with CONFIG only. -/
def cmdShaperNodeRead : Cmd :=
  { op := 0x0903, flags := fun m => flagsRead false m && (m.p 3 != 1 || m.flags == 0), legal := legalAll, len := lenIs 8,
    changes := fun _ => false, body := bodyShaperNodeRead }
def execShaperNodeRead (m : Msg) (s : State) : Host.Outcome State Fault Refusal := runCommand cmdShaperNodeRead m s

/-! SCHED_CONFIG and MIRROR_SET (R302, R303, R313, R322). -/

def schedRecord (p : Nat) (x : SchedCfg) : Bytes :=
  le 1 p ++ [0] ++ le 1 x.spMask.toNat ++ le 1 x.defaultClass ++ x.quanta.flatMap (le 1 ·) ++ le 4 x.ceiling

def recSchedConfig (m : Msg) (s : State) (b : Bytes) (base : Nat) : RecAns :=
  let p := byteAt b 0
  if 25 < p then .refuse Status.badParam base
  else if 1 < byteAt b 1 then .refuse Status.badParam (base + 1)
  else if byteAt b 1 = 0 then recZero b base (span 2 15) (.ok s (schedRecord p ((s.view m).buf.sched.getD p SchedCfg.reset)))
  else if !m.stage then noStage
  else if 7 < byteAt b 3 then .refuse Status.range (base + 3)
  else match (span 4 11).find? (fun i => byteAt b i == 0) with
    | some i => .refuse Status.range (base + i)
    | none =>
      if 400000 < fieldLe b 12 4 then .refuse Status.range (base + 12)
      else
        let x : SchedCfg := { spMask := b.getD 2 0, defaultClass := byteAt b 3, quanta := (span 4 11).map (byteAt b), ceiling := fieldLe b 12 4 }
        .ok (s.stageBuf fun f => { f with sched := f.sched.set p x }) []

/-- R322: SCHED_CONFIG. -/
def cmdSchedConfig : Cmd :=
  { op := 0x0904, flags := flagsIn 5, legal := legalRead fun m => !anyRec m 16 1, len := lenRec 16 255, locks := fun m => anyRec m 16 1,
    changes := fun m => anyRec m 16 1, body := fun m s => records m 16 (recSchedConfig m) s }
def execSchedConfig (m : Msg) (s : State) : Host.Outcome State Fault Refusal := runCommand cmdSchedConfig m s

def sessionFault (b : Bytes) : Option (Nat × Nat) :=
  if 25 < byteAt b 2 && byteAt b 2 != 0xFF then some (Status.badParam, 2)
  else if (if byteAt b 2 = 0xFF then decide (7 < byteAt b 3) else byteAt b 3 != 0) then some (Status.badParam, 3)
  else if 7 < byteAt b 4 then some (Status.range, 4)
  else if byteAt b 5 != 0 then some (Status.badParam, 5)
  else if fieldLe b 6 2 != 0 && (fieldLe b 6 2 < 64 || 9600 < fieldLe b 6 2) then some (Status.range, 6)
  else if fieldLe b 8 2 = 0 then some (Status.range, 8)
  else (firstNonZeroAt b (span 10 15)).map fun i => (Status.badParam, i)

def recMirrorSet (m : Msg) (s : State) (b : Bytes) (base : Nat) : RecAns :=
  let k := byteAt b 0
  if 15 < k then .refuse Status.badParam base
  else match byteAt b 1 with
    | 0 => recZero b base (span 2 15) (.ok s (((s.view m).session k).getD (le 1 k ++ zeros 15)))
    | 1 =>
      if !m.stage then noStage
      else (match sessionFault b with
        | some (st, i) => .refuse st (base + i)
        | none => .ok (s.stageBuf fun f => { f with mirrors := tset f.mirrors k (splice b 1 [0]) }) [])
    | 2 =>
      if !m.stage then noStage
      else recZero b base (span 2 15) <|
        if (s.shadow.session k).isNone then .refuse Status.badParam base
        else .ok (s.stageBuf fun f => { f with mirrors := tdel f.mirrors k }) []
    | _ => .refuse Status.badParam (base + 1)

/-- R313: MIRROR_SET. -/
def cmdMirrorSet : Cmd :=
  { op := 0x0905, flags := flagsIn 5, legal := legalRead fun m => !anyRec m 16 1, len := lenRec 16 255, locks := fun m => anyRec m 16 1,
    changes := fun m => anyRec m 16 1, body := fun m s => records m 16 (recMirrorSet m) s }
def execMirrorSet (m : Msg) (s : State) : Host.Outcome State Fault Refusal := runCommand cmdMirrorSet m s

/-! HOSTRING_SET (R314, R320, R322). -/

/-- DISABLE discards the records of a ring's queue (R320). -/
def State.emptyRing (s : State) (r : Nat) : State :=
  let q := s.queue (ringQueue r)
  let s1 := s.setQueue (ringQueue r) { q with items := [] }
  q.items.foldl (fun s e => ((s.ringCount r 2).bufCount BufCounter.ringDisabled).countDiscard e.pkt) s1

def hostringRecord (r op : Nat) (x : HostRing) : Bytes :=
  le 1 r ++ le 1 op ++ le 1 x.channel ++ le 1 x.irq.toNat ++ le 1 x.j ++ le 1 x.k ++ le 2 x.holdoff ++ le 8 x.base ++ le 8 x.consumerAddr ++
    zeros 16

def hostringStatus (s : State) (r : Nat) : Bytes :=
  let x := s.ring r
  le 1 (x.code s.host.halted) ++ zeros 3 ++ le 4 x.produced.toNat ++ le 4 x.consumed.toNat ++
    le 4 (s.queue (ringQueue r)).items.length ++ bankBytes (s.buf.ringCounters.getD r [])

/-- Geometry of a ring: the first field out of range. -/
def geometryFault (m : Msg) : Option Nat :=
  firstFault [(decide (m.p 4 < 8 || 14 < m.p 4), 4), (decide (m.p 5 < 6 || 16 < m.p 5), 5), (decide (1000 < m.f 6 2), 6),
              (decide (m.f 8 8 % 4096 != 0), 8), (decide (m.f 16 8 % 4 != 0), 16)]

def bodyHostringSet (m : Msg) (s : State) : Done :=
  let r := m.p 0
  let x := s.ring r
  if 7 < r then badParam s 0
  else match m.p 1 with
    | 0 => needZero s m (span 2 39) (ok s (hostringRecord r 0 x))
    | 1 =>
      if 15 < m.p 2 then outOfRange s 2
      else if s.channelBad m (m.p 2) then badParam s 2
      else if 1 < m.p 3 then badParam s 3
      else (match geometryFault m with
        | some i => outOfRange s i
        | none => needZero s m (span 24 39) <|
          if x.enabled then refuse s Status.state s.life.state.code
          else
            let y := { x with channel := m.p 2, irq := m.p 3 == 1, j := m.p 4, k := m.p 5, holdoff := m.f 6 2, base := m.f 8 8,
                              consumerAddr := m.f 16 8 }
            ok (s.setRing r y) (hostringRecord r 1 y))
    | 2 => needZero s m (span 2 39) (ok (s.setRing r x.start))
    | 3 => needZero s m (span 2 39) (ok ((s.emptyRing r).setRing r x.stop))
    | 4 =>
      if !(m.p 3 = 0 || m.p 3 = 2) then badParam s 3
      else needZero s m (2 :: span 4 39) <|
        ok (if m.p 3 = 2 then { s with buf := { s.buf with ringCounters := alter s.buf.ringCounters r zeroBank } } else s) (hostringStatus s r)
    | _ => badParam s 1

/-- R314: HOSTRING_SET. -/
def cmdHostringSet : Cmd :=
  { op := 0x0906, legal := legalAll, len := lenIs 40, changes := fun m => m.p 1 != 0 && (m.p 1 != 4 || m.p 3 != 0), body := bodyHostringSet }
def execHostringSet (m : Msg) (s : State) : Host.Outcome State Fault Refusal := runCommand cmdHostringSet m s

/-! BUFFER_STATUS and BUFFER_THRESHOLD (R322). -/

/-- The places where a packet lies under an ingress account. -/
def State.waitingPkts (s : State) : List Pkt :=
  s.buf.lane0 ++ s.buf.lane1 ++ s.parked.map (·.pkt) ++ (s.buf.reinject0 ++ s.buf.reinject1).map (·.1)

/-- Cells occupied by the packets that the pipelines hold and by the queues, each packet counted once however many copies refer to it
(R294). -/
def State.occupied (s : State) : Nat :=
  let note (t : Table Nat) (p : Pkt) : Table Nat := tset t p.id (max ((tget? t p.id).getD 0) p.cells)
  let each (t : Table Nat × Nat) (e : Queued) : Table Nat × Nat := if e.record.isSome then (t.1, t.2 + 1) else (note t.1 e.pkt, t.2)
  let piped := (s.waitingPkts ++ s.buf.recirc0 ++ s.buf.recirc1).foldl note []
  let (t, n) := s.buf.queues.foldl (fun t q => q.2.items.foldl each t) ((piped, 0) : Table Nat × Nat)
  (t.map (·.2)).foldl (· + ·) n

def State.freeCells (s : State) : Nat := totalCells - s.occupied
def State.subscriberCells (s : State) : Nat := ((s.buf.queues.filter fun e => isNodeQueue e.1).map (·.2.held)).foldl (· + ·) 0

def deviceBlock (s : State) : Bytes :=
  le 4 s.freeCells ++ le 4 s.freeShared ++ le 4 (262144 - s.descriptors) ++ le 4 s.buf.ing0 ++ le 4 s.buf.ing1 ++ le 4 s.subscriberCells ++
    le 4 s.buf.peakU ++ zeros 4

def classEntry (s : State) (q : Nat) : Bytes :=
  let x := s.queue q
  le 4 x.held ++ le 4 x.peak ++ le 8 x.enqueued.toNat ++ le 8 x.discarded.toNat

def State.clearQueue (s : State) (q : Nat) : State :=
  let x := s.queue q
  s.setQueue q { x with peak := x.held, enqueued := 0, discarded := 0 }

def bodyBufferStatus (m : Msg) (s : State) : Done :=
  let clear := m.p 2 == 1
  if 1 < m.p 0 then badParam s 0
  else if (if m.p 0 = 0 then m.p 1 != 0 else !isBufPort (m.p 1)) then badParam s 1
  else if 1 < m.p 2 then badParam s 2
  else needZero s m [3] <|
    if m.p 0 = 0 then
      ok (if clear then { s with buf := { s.buf with counters := zeroBank s.buf.counters, peakU := s.sharedUse } } else s)
        (deviceBlock s ++ bankBytes s.buf.counters)
    else
      let qs := (List.range 8).map (classQueue (m.p 1))
      ok (if clear then qs.foldl State.clearQueue s else s) (qs.flatMap (classEntry s))

/-- R322: BUFFER_STATUS. -/
def cmdBufferStatus : Cmd :=
  { op := 0x0907, legal := legalAll, len := lenIs 4, changes := fun m => m.p 2 == 1, body := bodyBufferStatus }
def execBufferStatus (m : Msg) (s : State) : Host.Outcome State Fault Refusal := runCommand cmdBufferStatus m s

def bodyBufferThreshold (m : Msg) (s : State) : Done :=
  let f := (s.view m).buf
  if 1 < m.p 0 then badParam s 0
  else if m.p 0 = 0 then needZero s m (span 1 7) (ok s ([0] ++ le 1 f.subAlpha ++ zeros 2 ++ le 2 f.res0 ++ le 2 f.res1))
  else if !m.stage then refuse s Status.badParam 6
  else if 7 < m.p 1 then outOfRange s 1
  else needZero s m [2, 3] <|
    if 32768 < m.f 4 2 then outOfRange s 4
    else if 32768 < m.f 6 2 then outOfRange s 6
    else
      let g (v : BufCfg) : BufCfg := { v with subAlpha := m.p 1, res0 := m.f 4 2, res1 := m.f 6 2 }
      if 180224 < ({ s.shadow with buf := g s.shadow.buf } : Staged).reserved then outOfRange s 4 else ok (s.stageBuf g)

/-- R322: BUFFER_THRESHOLD. -/
def cmdBufferThreshold : Cmd :=
  { op := 0x0908, flags := flagsIn 1, legal := legalRead fun m => m.p 0 == 0, len := lenIs 8, locks := fun m => m.p 0 == 1,
    changes := fun m => m.p 0 != 0, body := bodyBufferThreshold }
def execBufferThreshold (m : Msg) (s : State) : Host.Outcome State Fault Refusal := runCommand cmdBufferThreshold m s

end Sys2Proof.Machine
end

