-- ==== Sys2Proof/Machine/Lanes.lean ====
section
/-!
DEFINITION. Ports, lanes, ring roles and the canary: their commands and events, and what a commit changes in them (spec 03).
-/
namespace Sys2Proof.Machine

/-! The port table (R77, R84, R95-R98). -/

def PortTable.cfg (t : PortTable) (p : Nat) : PortCfg := t.ports.getD p PortCfg.reset

/-- The FEC choices of a mode with its medium (Table 3.2). -/
def fecOk (mode fec medium : Nat) : Bool :=
  match mode with
  | 1 => fec == 0 || fec == 1
  | 2 | 3 => fec == 2 || (fec == 0 && medium == 2)
  | _ => fec == 2

/-- Ports of a table other than `p` that hold one of the lanes a mode at `p` would take (R84). -/
def PortTable.clash (t : PortTable) (p mode : Nat) : Bool :=
  (t.ports.zipIdx).any fun e => e.2 != p && e.1.mode != 0 && decide (e.2 < p + modeLanes mode) && decide (p < e.2 + modeLanes e.1.mode)

def PortTable.setPort (t : PortTable) (p : Nat) (f : PortCfg → PortCfg) : PortTable := { t with ports := alter t.ports p f }

/-- A port record as READ replies it. -/
def portRecord (p : Nat) (c : PortCfg) : Bytes :=
  if c.mode = 0 then le 1 p ++ zeros 4 ++ [1, 0, 0]
  else le 1 p ++ le 1 c.mode ++ le 1 c.fec ++ le 1 c.medium ++ le 1 (flagByte [c.an, c.cutThrough]) ++ [1] ++ le 2 c.maxFrame

def State.stagePorts (s : State) (f : PortTable → PortTable) : State := s.stageWith fun v => { v with port := f v.port }

/-- R95: one PORT_CONFIG record. A SET with mode NONE keeps the port's enable as the shadow has it (DESIGN CHOICE, log 135). -/
def recPortConfig (m : Msg) (s : State) (b : Bytes) (base : Nat) : RecAns :=
  let p := byteAt b 0
  let mode := byteAt b 1
  let fec := byteAt b 2
  let medium := byteAt b 3
  let fl := byteAt b 4
  let maxf := fieldLe b 6 2
  if 23 < p then .refuse Status.badParam base
  else if 1 < byteAt b 5 then .refuse Status.badParam (base + 5)
  else if byteAt b 5 = 1 then recZero b base [1, 2, 3, 4, 6, 7] (.ok s (portRecord p ((s.view m).port.cfg p)))
  else if !m.stage then noStage
  else if 5 < mode then .refuse Status.badParam (base + 1)
  else if (modeLanes mode = 2 && p % 2 != 0) || (modeLanes mode = 4 && p % 4 != 0) then .refuse Status.badParam base
  else if s.shadow.port.clash p mode then .refuse Status.badParam base
  else if mode = 0 then
    recZero b base [2, 3, 4, 6, 7] <|
      .ok (s.stagePorts fun t => t.setPort p fun c => { PortCfg.reset with enable := c.enable }) []
  else if 2 < fec then .refuse Status.badParam (base + 2)
  else if 2 < medium then .refuse Status.badParam (base + 3)
  else if !fecOk mode fec medium then .refuse Status.badParam (base + 2)
  else if 4 ≤ fl || (fl % 2 = 1 && (medium = 2 || (fec = 0 && mode != 1))) then .refuse Status.badParam (base + 4)
  else if maxf < 64 || 9600 < maxf then .refuse Status.range (base + 6)
  else
    .ok (s.stagePorts fun t => t.setPort p fun c =>
      { c with mode := mode, fec := fec, medium := medium, an := Nat.testBit fl 0, cutThrough := Nat.testBit fl 1, maxFrame := maxf }) []

/-- R95: PORT_CONFIG. -/
def cmdPortConfig : Cmd :=
  let sets (m : Msg) := (m.recs 8).any fun b => byteAt b 5 == 0
  { op := 0x0301, flags := flagsIn 5, legal := legalRead fun m => !sets m, len := lenRec 8 510, locks := sets, changes := sets,
    body := fun m s => records m 8 (recPortConfig m) s }
def execPortConfig (m : Msg) (s : State) : Host.Outcome State Fault Refusal := runCommand cmdPortConfig m s

/-- R96: one PORT_ENABLE record. A ring role stays with a port that is disabled or freed later in the shadow (R89; DESIGN CHOICE, log 135). -/
def recPortEnable (m : Msg) (s : State) (b : Bytes) (base : Nat) : RecAns :=
  let p := byteAt b 0
  if 23 < p then .refuse Status.badParam base
  else if 1 < byteAt b 2 then .refuse Status.badParam (base + 2)
  else recZero b base [3] <|
    if byteAt b 2 = 1 then
      recZero b base [1] (.ok s (le 1 p ++ le 1 ((s.view m).port.cfg p).enable.toNat ++ [1, 0]))
    else if !m.stage then noStage
    else if 1 < byteAt b 1 || (byteAt b 1 = 1 && (s.shadow.port.cfg p).mode = 0) then .refuse Status.badParam (base + 1)
    else .ok (s.stagePorts fun t => t.setPort p fun c => { c with enable := byteAt b 1 == 1 }) []

/-- R96: PORT_ENABLE. -/
def cmdPortEnable : Cmd :=
  let sets (m : Msg) := (m.recs 4).any fun b => byteAt b 2 == 0
  { op := 0x0302, flags := flagsIn 5, legal := legalRead fun m => !sets m, len := lenRec 4 1020, locks := sets, changes := sets,
    body := fun m s => records m 4 (recPortEnable m) s }
def execPortEnable (m : Msg) (s : State) : Host.Outcome State Fault Refusal := runCommand cmdPortEnable m s

def tapsRecord (lane : Nat) (t : Taps) : Bytes :=
  le 1 lane ++ [0] ++ ([t.pre2, t.pre1, t.main, t.post].flatMap fun v => le 1 (unsigned 8 v)) ++ le 1 t.freeze.toNat ++ [0]

/-- The first tap outside its range (Table 3.6), as its record offset. -/
def tapBad (t : Taps) : Option Nat :=
  if t.pre2 < -8 || 0 < t.pre2 then some 2
  else if t.pre1 < -16 || 0 < t.pre1 then some 3
  else if t.main < 24 || 63 < t.main then some 4
  else if t.post < -16 || 0 < t.post then some 5
  else if 63 < t.main - t.pre2 - t.pre1 - t.post then some 4
  else none

def recLaneTune (m : Msg) (s : State) (b : Bytes) (base : Nat) : RecAns :=
  let lane := byteAt b 0
  let t : Taps := { pre2 := signed 8 (byteAt b 2), pre1 := signed 8 (byteAt b 3), main := signed 8 (byteAt b 4),
                    post := signed 8 (byteAt b 5), freeze := byteAt b 6 == 1 }
  if 25 < lane then .refuse Status.badParam base
  else if 1 < byteAt b 1 then .refuse Status.badParam (base + 1)
  else if byteAt b 1 = 0 then
    (if 1 < byteAt b 6 then .refuse Status.badParam (base + 6)
     else recZero b base [7] (.ok s (tapsRecord lane ((s.view m).port.taps.getD lane Taps.reset))))
  else if !m.stage then noStage
  else match tapBad t with
    | some i => .refuse Status.range (base + i)
    | none =>
      if 1 < byteAt b 6 then .refuse Status.badParam (base + 6)
      else recZero b base [7] (.ok (s.stagePorts fun v => { v with taps := v.taps.set lane t }) [])

/-- R98: LANE_TUNE. -/
def cmdLaneTune : Cmd :=
  let sets (m : Msg) := anyRec m 8 1
  { op := 0x0305, flags := flagsIn 5, legal := legalRead fun m => !sets m, len := lenRec 8 510, changes := sets,
    body := fun m s => records m 8 (recLaneTune m) s }
def execLaneTune (m : Msg) (s : State) : Host.Outcome State Fault Refusal := runCommand cmdLaneTune m s

/-! PORT_STATUS and PORT_COUNTERS (R99, R100). -/

/-- The link a code of Table 3.7 names; DISABLED and LOOPBACK are no link of their own. -/
def Link.ofCode : Nat → Option Link
  | 1 => some .down | 2 => some .an | 3 => some .training | 4 => some .up | 5 => some .localFault | 6 => some .remoteFault
  | 7 => some .anNoCommon | _ => none

def ringRole (t : PortTable) (p : Nat) : Nat := if t.east == some p then 1 else if t.west == some p then 2 else 0

def bodyPortStatus (m : Msg) (s : State) : Done :=
  let p := m.p 0
  if 25 < p then badParam s 0
  else needZero s m [1, 2, 3] <|
    let c := s.portCfg p
    let x := s.port p
    ok s (le 1 p ++ le 1 (if p < 24 then c.mode else 3) ++ le 1 (if p < 24 then c.fec else 2) ++ le 1 (s.linkCode p) ++
      le 1 (x.cdr.toNat * 16 + x.sd.toNat) ++ le 1 (ringRole s.cur.port p) ++ le 2 x.ups ++
      le 4 (satur 32 ((s.now - x.changed) / 1000000)) ++ zeros 4)

/-- R99: PORT_STATUS. -/
def cmdPortStatus : Cmd :=
  { op := 0x0303, legal := legalAll, len := lenIs 4, changes := fun _ => false, onBmc := true, body := bodyPortStatus }
def execPortStatus (m : Msg) (s : State) : Host.Outcome State Fault Refusal := runCommand cmdPortStatus m s

def bodyPortCounters (m : Msg) (s : State) : Done :=
  let p := m.p 0
  if 25 < p then badParam s 0
  else if 1 < m.p 1 then badParam s 1
  else needZero s m [2, 3] <|
    let x := s.port p
    ok (if m.p 1 = 1 then s.setPort p { x with counters := zeroBank x.counters } else s) (bankBytes x.counters)

/-- R100: PORT_COUNTERS. -/
def cmdPortCounters : Cmd :=
  { op := 0x0304, legal := legalAll, len := lenIs 4, changes := fun m => m.p 1 == 1, body := bodyPortCounters }
def execPortCounters (m : Msg) (s : State) : Host.Outcome State Fault Refusal := runCommand cmdPortCounters m s

/-- Count in a port's counter of Table 3.9. -/
def State.portCount (s : State) (p i : Nat) (n : Nat := 1) : State :=
  s.setPort p { s.port p with counters := bump (s.port p).counters i n }

/-! PORT_LOOPBACK (R101). -/

/-- A port put into a loopback mode or out of one: a front port's lanes start or stop with it, and what is on its way is lost (R86, R101). -/
def State.setLoopback (s : State) (p mode : Nat) : State :=
  let s1 := (s.setPort p { s.port p with loopback := mode }).cutFrames p
  let s2 := { s1 with buf := { s1.buf with looped := s1.buf.looped.filter fun x => x.1 != p },
                      pair := if p = 24 then { s1.pair with own0 := none } else if p = 25 then { s1.pair with own1 := none } else s1.pair }
  State.noteLinks s (if p < 24 && mode = 0 then s2.retrain p else s2)

def bodyPortLoopback (m : Msg) (s : State) : Done :=
  let p := m.p 0
  if 25 < p then badParam s 0
  else if 3 < m.p 1 then badParam s 1
  else needZero s m [2, 3] <|
    ok (s.setLoopback p (m.p 1))

/-- R101: PORT_LOOPBACK. -/
def cmdPortLoopback : Cmd :=
  { op := 0x0306, legal := legalIn [.test], len := lenIs 4, changes := fun _ => true, body := bodyPortLoopback }
def execPortLoopback (m : Msg) (s : State) : Host.Outcome State Fault Refusal := runCommand cmdPortLoopback m s

/-- Leaving TEST ends every loopback (R101). -/
def State.endLoopbacks (s : State) : State :=
  (List.range 26).foldl (fun s p => if (s.port p).loopback = 0 then s else s.setLoopback p 0) s

/-! Ring roles (R89, R97). -/

def roleByte : Option Nat → Bytes
  | some p => le 1 p
  | none => [0xFF]
def roleOf (b : Nat) : Option Nat := if b = 0xFF then none else some b

/-- A role is none, or a front port that holds a mode and is enabled in the table. -/
def PortTable.roleOk (t : PortTable) (b : Nat) : Bool := b == 0xFF || (decide (b < 24) && (t.cfg b).mode != 0 && (t.cfg b).enable)

def recRingConfig (m : Msg) (s : State) (b : Bytes) (base : Nat) : RecAns :=
  let e := byteAt b 0
  let w := byteAt b 1
  if !m.stage then noStage
  else if !s.shadow.port.roleOk e then .refuse Status.badParam base
  else if !s.shadow.port.roleOk w || (e != 0xFF && e == w) then .refuse Status.badParam (base + 1)
  else recZero b base [2, 3] (.ok (s.stagePorts fun t => { t with east := roleOf e, west := roleOf w }) [])

def bodyRingConfig (m : Msg) (s : State) : Done :=
  if m.params.isEmpty then ok s (roleByte (s.view m).port.east ++ roleByte (s.view m).port.west ++ [0, 0])
  else records m 4 (recRingConfig m) s

/-- R97: RING_CONFIG: 4 bytes set, none read; with BATCH (Table 3.4) the 4 bytes are a record. -/
def cmdRingConfig : Cmd :=
  let sets (m : Msg) := m.len.toNat != 0
  { op := 0x0307, flags := flagsIn 5, legal := legalRead fun m => !sets m,
    len := fun m => if m.batch then lenRec 4 1020 m else lenOneOf [0, 4] m, locks := sets, changes := sets, body := bodyRingConfig }
def execRingConfig (m : Msg) (s : State) : Host.Outcome State Fault Refusal := runCommand cmdRingConfig m s

/-! The canary (R90-R92, R102-R104). -/

/-- The conditions of R90. -/
def State.canaryRuns (s : State) : Bool := s.inService && s.canary.armed && s.canary.live0 && s.canary.live1

def bodyCanaryStatus (_ : Msg) (s : State) : Done :=
  let c := s.canary
  let age (t : Nat) : Bytes := le 2 (satur 16 ((s.now - t) / 1000))
  ok s (le 1 (flagByte [s.cur.port.east.isSome && s.cur.port.west.isSome, c.armed, c.toggling]) ++ le 1 c.reason ++
    roleByte s.cur.port.east ++ roleByte s.cur.port.west ++ age c.alive0 ++ age c.alive1 ++ le 4 c.stopNs.toNat ++ le 4 c.armings)

/-- R102: CANARY_STATUS. -/
def cmdCanaryStatus : Cmd :=
  { op := 0x0308, legal := legalAll, len := lenIs 0, changes := fun _ => false, body := bodyCanaryStatus }
def execCanaryStatus (m : Msg) (s : State) : Host.Outcome State Fault Refusal := runCommand cmdCanaryStatus m s

/-- Toggling begins at the next CTL cycle at which R90 holds (R103): the first half-period is high. -/
def State.canaryStart (s : State) : State :=
  if s.canaryRuns && !s.canary.toggling then { s with canary := { s.canary with toggling := true, level := .high, halfAt := s.now } } else s

def bodySecureCanaryArm (m : Msg) (s : State) : Done :=
  needZero s m [2, 3] <|
    if !(s.cur.port.east == some (m.p 0) && s.cur.port.west == some (m.p 1)) then badParam s 0
    else if s.canary.armed then refuse s Status.state s.life.state.code
    else
      ok { s with canary := { s.canary with armed := true, armings := satur 32 (s.canary.armings + 1) } }.canaryStart

/-- R103: SECURE_CANARY_ARM; never forwarded (R485). -/
def cmdSecureCanaryArm : Cmd :=
  { op := 0x1202, legal := legalIn [.service, .degraded], len := lenIs 4, changes := fun _ => true, perDevice := true,
    body := bodySecureCanaryArm }
def execSecureCanaryArm (m : Msg) (s : State) : Host.Outcome State Fault Refusal := runCommand cmdSecureCanaryArm m s

/-- R104: SECURE_CANARY_DISARM; never forwarded (R485). -/
def cmdSecureCanaryDisarm : Cmd :=
  { op := 0x1207, legal := legalAll, len := lenIs 0, changes := fun _ => true, perDevice := true,
    body := fun _ s => ok (s.canaryStop 1) }
def execSecureCanaryDisarm (m : Msg) (s : State) : Host.Outcome State Fault Refusal := runCommand cmdSecureCanaryDisarm m s

/-- A half-period of the canary: 37,500 CTL cycles, in ns (R90). -/
def halfPeriod : Nat := 50000

/-- R90, R91: a half-period ends, 37,500 CTL cycles after it began. A toggling canary changes its level while R90 holds, and is driven low
where it does not. -/
def execCanaryHalfPeriod (s : State) : Host.Outcome State Fault Refusal :=
  if !(s.canary.armed && s.canary.toggling && decide (s.canary.halfAt + halfPeriod ≤ s.now)) then .next s
  else if s.canaryRuns then
    done s { s with canary := { s.canary with level := (if s.canary.level == .high then .low else .high),
                                              halfAt := s.canary.halfAt + halfPeriod } }
  else done s { s with canary := { s.canary with toggling := false, level := .low } }

/-- A pipeline's window failed: an armed canary is disarmed and CANARY_HEARTBEAT_LOST is logged (R91); a pair's primary relinquishes
(R496). -/
def State.heartbeatLost (s : State) (pipe : Nat) (armed : Bool) : State :=
  let s1 := if armed then (s.canaryStop 3).logError ErrCode.canaryLost pipe [] else s
  if s1.pair.role == .primary && s1.pair.state != .none then { s1 with pair := { s1.pair with relinquish := true } } else s1

/-- Verdicts a pipeline has delivered. -/
def State.verdictCount (s : State) (pipe : Bool) : W64 := (s.buf.events.getD pipe.toNat []).getD 5 0

/-- A heartbeat window: 75,000 CTL cycles, in ns (R90). -/
def heartbeatWindow : Nat := 100000

/-- R90, R91: a 100 us window of both pipelines closes. A pipeline is alive where its admission arbiter ran and its verdict stage delivered
a verdict or held no packet; whether the arbiter ran and whether the stage held a packet that it did not pass on are facts of the silicon. -/
def execCanaryHeartbeatWindow (ran held : Bool × Bool) (s : State) : Host.Outcome State Fault Refusal :=
  let c := s.canary
  if !(s.booted && decide (c.windowAt + heartbeatWindow ≤ s.now)) then .next s
  else
    let alive0 := ran.1 && (s.verdictCount false != c.verdicts0 || !held.1)
    let alive1 := ran.2 && (s.verdictCount true != c.verdicts1 || !held.2)
    let s1 := { s with canary := { c with live0 := alive0, live1 := alive1, alive0 := if alive0 then s.now else c.alive0,
                                          alive1 := if alive1 then s.now else c.alive1, windowAt := c.windowAt + heartbeatWindow,
                                          verdicts0 := s.verdictCount false, verdicts1 := s.verdictCount true } }
    let s2 := if alive0 then s1 else s1.heartbeatLost 0 c.armed
    done s (if alive1 then s2 else s2.heartbeatLost 1 c.armed).canaryStart

/-! Links (R79, R85, R99). -/

/-- A peer lane of a pair goes down or comes back (R88, R483): logged, and the standing fault follows. -/
def State.peerLaneDown (s : State) (west : Bool) : State :=
  let s1 := { s with pair := if west then { s.pair with laneDown1 := true, laneUp1 := none } else { s.pair with laneDown0 := true, laneUp0 := none } }
  (s1.logError ErrCode.peerLaneDown (if west then 25 else 24) []).setFault FaultBit.peerLaneDown true

/-- A link changes: a peer lane of a JOINED or SYNCING pair that leaves UP is lost; one that comes up starts its second (R483). -/
def State.changeLink (s : State) (p : Nat) (l : Link) (cdr sd : BitVec 4) : State :=
  let was := (s.port p).link == .up
  let s0 := s.setLink p l cdr sd
  let s1 := if l == .anNoCommon then { s0 with ports := alter s0.ports p fun x => { x with anTried := s0.now } } else s0
  if p < 24 then s1
  else
    let west := p == 25
    if was && l != .up then
      (if s1.pair.state == .joined || s1.pair.state == .syncing then s1.peerLaneDown west
       else { s1 with pair := if west then { s1.pair with laneUp1 := none } else { s1.pair with laneUp0 := none } })
    else if !was && l == .up then
      { s1 with pair := if west then { s1.pair with laneUp1 := some s1.now } else { s1.pair with laneUp0 := some s1.now } }
    else s1

/-- The bits of the lanes a port has. -/
def State.portLaneMask (s : State) (p : Nat) : BitVec 4 :=
  BitVec.ofNat 4 (2 ^ (if p < 24 then modeLanes (s.portCfg p).mode else 1) - 1)

/-- The port negotiates: a front port whose committed AN is set (R79); the peer ports never do (R87). -/
def State.negotiates (s : State) (p : Nat) : Bool := p < 24 && (s.portCfg p).an

/-- A link state the port can be in: the states of negotiation only where it negotiates (R79, R87). -/
def State.linkOk (s : State) (p : Nat) (l : Link) : Bool := (l != .an && l != .anNoCommon) || s.negotiates p

/-- R99: a link comes up, goes down or faults, with the CDR lock and signal detect of its lanes. Lanes that do not run have no link. -/
def execLinkStateChange (port link : Nat) (cdr sd : BitVec 4) (s : State) : Host.Outcome State Fault Refusal :=
  match Link.ofCode link with
  | some l => if s.lanesRun port && s.linkOk port l then done s (s.changeLink port l (cdr &&& s.portLaneMask port) (sd &&& s.portLaneMask port)) else .next s
  | none => .next s

/-- R79: a port in AN_NO_COMMON negotiates again after 1 s; `common` says that the partner now offers the ability. -/
def execAnRetry (port : Nat) (common : Bool) (s : State) : Host.Outcome State Fault Refusal :=
  let x := s.port port
  if !(x.link == .anNoCommon && decide (x.anTried + 1000000000 ≤ s.now) && s.lanesRun port && s.negotiates port) then .next s
  else
    let s1 := s.setPort port { x with anTried := s.now }
    done s (if common then s1.setLink port .training 0 0 else s1)

/-- R88: a peer lane fails. -/
def execPeerLaneFail (west : Bool) (s : State) : Host.Outcome State Fault Refusal :=
  let p := if west then 25 else 24
  if s.lanesRun p && (s.port p).link == .up then done s (s.changeLink p .down 0 0) else .next s

/-- R483: a failed peer lane that has been UP for 1 s is restored; the fault clears with the last such lane. -/
def execPeerLaneRestore (west : Bool) (s : State) : Host.Outcome State Fault Refusal :=
  let down := if west then s.pair.laneDown1 else s.pair.laneDown0
  let up := if west then s.pair.laneUp1 else s.pair.laneUp0
  match up with
  | some t =>
    if down && s.portUp (if west then 25 else 24) && decide (t + 1000000000 ≤ s.now) then
      let s1 := { s with pair := if west then { s.pair with laneDown1 := false } else { s.pair with laneDown0 := false } }
      let s2 := s1.logError ErrCode.peerLaneDown (if west then 25 else 24) [] true
      done s (s2.setFault FaultBit.peerLaneDown (s2.pair.laneDown0 || s2.pair.laneDown1))
    else .next s
  | none => .next s

/-! Commit hook (R85, R91, R498). -/

/-- The settings whose change takes a port down (R85). -/
def PortCfg.retrains (a b : PortCfg) : Bool := a.mode != b.mode || a.fec != b.fec || a.medium != b.medium || a.an != b.an

/-- At a commit boundary, ports whose settings, enable or hold changed start over, and a change of a ring role stops the canary. -/
def State.applyPorts (old s : State) : State :=
  let s1 := { s with pair := { s.pair with portsHeld := false } }
  let s2 := (List.range 24).foldl (fun s p =>
    if (old.portCfg p).retrains (s.portCfg p) || (old.portCfg p).enable != (s.portCfg p).enable || old.portsHeld != s.portsHeld
    then s.retrain p else s) s1
  let s3 := State.noteLinks old (s2.relock (List.range 26))
  if old.cur.port.east != s.cur.port.east || old.cur.port.west != s.cur.port.west then s3.canaryStop 4 else s3

end Sys2Proof.Machine
end

