-- ==== Sys2Proof/Machine/Time.lean ====
section
/-!
DEFINITION. The time base: the three clocks, steps, time-stamps, the transparent clock's correction, the peer delay engine, PPS, the
recovered clock and the time commands (spec 13).
-/
namespace Sys2Proof.Machine

/-! Clocks (R370-R372). -/

/-- The time counter in units of 2^-32 ns. -/
def Time.raw (t : Time) : Nat := (t.sec.toNat * 1000000000 + t.ns) * 2 ^ 32 + t.frac
/-- The time counter set from units of 2^-32 ns. -/
def Time.setRaw (t : Time) (v : Nat) : Time :=
  let ns := v / 2 ^ 32
  { t with sec := BitVec.ofNat 64 (ns / 1000000000), ns := ns % 1000000000, frac := v % 2 ^ 32 }

/-- One TIME cycle of the three clocks. -/
def Time.tick (t : Time) : Time :=
  { t.setRaw (t.raw + t.inc.toNat) with residence := t.residence + BitVec.ofNat 80 t.inc.toNat, flow := t.flow + 1 }

/-- INC in force changes: both registers read it back (R371, R389). -/
def Time.setInc (t : Time) (v : Nat) : Time := { t with inc := BitVec.ofNat 40 v, incHi := BitVec.ofNat 8 (v / 2 ^ 32) }
def incOk (v : Nat) : Bool := 2 ^ 32 - 4294967 ≤ v && v ≤ 2 ^ 32 + 4294967

def State.onTime (s : State) (f : Time → Time) : State := { s with time := f s.time }

/-! Time-stamps (R375, R376). -/

def State.ptp (s : State) (p : Nat) : PtpLive := s.time.ports.getD p PtpLive.reset
def State.setPtp (s : State) (p : Nat) (x : PtpLive) : State := s.onTime fun t => { t with ports := t.ports.set p x }
def State.ptpPort (_ : State) (v : Staged) (p : Nat) : PtpPort := v.ptp.ports.getD p { mode := 0, rxTs := false, transport := 0, logInt := 0 }

/-- Error of a time-stamp in 1/64 ns, which the spec leaves open within 80 ps of a CALIBRATED port and 2 ns of another. -/
def stampError (calibrated : Bool) (w : W32) : Int :=
  let k : Nat := if calibrated then 5 else 128
  ((w.toNat % (2 * k + 1) : Nat) : Int) - (k : Nat)

/-- A clock in 1/64 ns as a frame crosses the reference plane of its port, its board delays taken into account (R376). -/
def State.rxPlane (s : State) (p clock : Nat) : Nat := unsigned 54 ((clock : Int) - (s.ptp p).rxBoard)
def State.txPlane (s : State) (p clock : Nat) : Nat := unsigned 54 ((clock : Int) + (s.ptp p).txBoard)

/-- The time counter in 1/64 ns. -/
def Time.counter64 (t : Time) : Nat := t.raw / 2 ^ 26

/-- R375: the port's receive time-stamp of a frame, on the residence clock and on the time counter, in 1/64 ns; the former is the answer. -/
def State.rxStamp (s : State) (p : Nat) : Nat × State :=
  let (w, s1) := s.draw
  let e := stampError (s.ptp p).calibrated w
  let at_ := unsigned 54 ((s.rxPlane p s.time.residence64 : Int) + e)
  (at_, s1.setPtp p { s1.ptp p with rxAt := at_, rxTime := ((s.time.counter64 : Int) - (s.ptp p).rxBoard + e).toNat })

/-- R375: the transmit time-stamp, likewise. -/
def State.txStamp (s : State) (p : Nat) : Nat × State :=
  let (w, s1) := s.draw
  let e := stampError (s.ptp p).calibrated w
  let at_ := unsigned 54 ((s.txPlane p s.time.residence64 : Int) + e)
  (at_, s1.setPtp p { s1.ptp p with txAt := at_, txTime := ((s.time.counter64 : Int) + (s.ptp p).txBoard + e).toNat })

/-- R376: the latency measurement of a port that came UP completes. -/
def execPortCalibrationDone (port rx tx : Nat) (s : State) : Host.Outcome State Fault Refusal :=
  if decide (port < 26) && (s.port port).link == .up && !(s.ptp port).calibrated then
    done s (s.setPtp port { s.ptp port with calibrated := true, rxLatency := rx % 65536, txLatency := tx % 65536 })
  else .next s

/-! Frames leaving a MAC. -/

def windowNs (k : Nat) : Nat := 2 ^ k * 1000

/-- Windows that are over at a flow-clock time are complete: the last, the peak, and the one of the frame that began at `began` (R411). -/
def BwWindow.roll (w : BwWindow) (flow : Nat) (began : Option Nat) : BwWindow :=
  let len := windowNs w.k
  if flow < w.endedAt + len then w
  else
    let one := decide (flow < w.endedAt + 2 * len)
    { w with
      rxNow := 0, rxLast := if one then w.rxNow else 0, rxPeak := max w.rxPeak w.rxNow,
      txNow := 0, txLast := if one then w.txNow else 0, txPeak := max w.txPeak w.txNow, endedAt := flow / len * len,
      openTx := if began.any (w.endedAt ≤ ·) then some (w.endedAt, w.txNow) else w.openTx }

/-- A port's window at this instant, whether or not its last end has been told (R411). -/
def State.windowNow (s : State) (p : Nat) (w : BwWindow) : BwWindow :=
  w.roll s.time.flow.toNat ((s.buf.sending.find? fun x => x.lane == p).map (·.began))

/-- A change of a port's window, as it stands at this instant. -/
def State.onWindow (s : State) (p : Nat) (f : BwWindow → BwWindow) : State :=
  { s with telem := { s.telem with windows := alter s.telem.windows p fun w => f (s.windowNow p w) } }

/-- A frame crosses the MAC of a port: its bytes and 20 B of preamble and gap count in the port's window (R411). -/
def State.windowAdd (s : State) (p : Nat) (tx : Bool) (len : Nat) : State :=
  s.onWindow p fun w =>
    if s.time.flow.toNat < w.endedAt then w
    else if tx then { w with txNow := w.txNow + len + 20 } else { w with rxNow := w.rxNow + len + 20 }

/-- A transmitted frame counts in the window in which its first byte left: the present one, or an older one, whose total it completes. -/
def BwWindow.sent (w : BwWindow) (len began : Nat) : BwWindow :=
  if w.endedAt ≤ began then { w with txNow := w.txNow + len + 20 }
  else match w.openTx with
    | some (start, bytes) =>
      let total := bytes + len + 20
      let last := start + windowNs w.k == w.endedAt
      { w with txLast := if last then total else w.txLast, txPeak := max w.txPeak total, openTx := none }
    | none => w

def State.windowSent (s : State) (p len began : Nat) : State := s.onWindow p fun w => w.sent len began

/-- A frame leaves the MAC of a port: for its partner; back to the port's own receiver in PMA_NEAR and PCS_NEAR; nowhere in PMA_FAR, where
the transmitter carries what is received (R101). -/
def State.emitFrame (s : State) (p : Nat) (bytes : Bytes) (aborted : Bool) : State :=
  match (s.port p).loopback with
  | 0 => s.send (.frame p bytes aborted)
  | 3 => s
  | _ => { s with buf := { s.buf with looped := s.buf.looped ++ [(p, bytes, aborted)] } }

/-- Send a whole frame, given without FCS, whose first byte left at a flow-clock time. -/
def State.sentFrame (s : State) (p : Nat) (bytes : Bytes) (began : Nat) : State :=
  let len := bytes.length + 4
  (((s.emitFrame p bytes false).portCount p 10).portCount p 11 len).windowSent p len began

def State.sendFrame (s : State) (p : Nat) (bytes : Bytes) : State := s.sentFrame p bytes s.time.flow.toNat

/-- End a frame with an inverted FCS. -/
def State.abortFrame (s : State) (p : Nat) (bytes : Bytes) (began : Nat) : State :=
  ((s.emitFrame p bytes true).portCount p 12).windowSent p (bytes.length + 4) began

/-! The transparent clock (R378-R382). -/

/-- Add to a correctionField, saturating (R379): the new field, and whether it saturated. -/
def addCorrection (cf add : Int) : Int × Bool :=
  let top : Int := 2 ^ 63 - 1
  if cf = top then (top, false) else if top < cf + add then (top, true) else (cf + add, false)

/-- The PTP mode of an egress port, and whether an ingress port's is P2P, in a version. -/
def State.ptpModes (s : State) (v : Staged) (p inPort : Nat) : Nat × Bool :=
  ((s.ptpPort v p).mode, decide (inPort < 26) && (s.ptpPort v inPort).mode == 2)

/-- Error of a residence time in 1/64 ns, which the spec leaves open within 100 ps (R379). -/
def residenceError (w : W32) : Int := ((w.toNat % 13 : Nat) : Int) - 6

/-- Correct a frame that leaves port `p` under the PTP modes of its ports, crossing its plane at `tx` (R378, Table 13.2). -/
def State.correctPtp (s : State) (modes : Nat × Bool) (p : Nat) (pkt : Pkt) (frame : Bytes) (tx : Nat) : Bytes × State :=
  let mode := modes.1
  if 25 < p || mode = 0 || pkt.copy then (frame, s)
  else match ptpMessage frame with
    | none => (frame, s)
    | some m =>
      let t := ptpType frame m
      if !isPtpEvent t || (mode = 2 && 2 ≤ t) then (frame, s)
      else if mode = 2 && t = 1 then (frame, s.timeCount 2)
      else
        let inP2p := modes.2
        let live := s.ptp pkt.inPort
        let valid := live.delayState == .valid
        let (w, s) := s.draw
        let residence : Int := ((elapsed64 pkt.arrived tx : Nat) + residenceError w) * 1024
        let add := if t = 0 && inP2p && valid then residence + live.delay else residence
        let s1 := if t = 0 && inP2p && !valid then s.timeCount 1 else s
        let (cf, sat) := addCorrection (signed 64 (fieldBe frame (m.start + 8) 8)) add
        let s2 := if sat then s1.timeCount 0 else s1
        (ptpReplace frame m 8 (be 8 (unsigned 64 cf)), s2.setPtp p { s2.ptp p with counters := bump (s2.ptp p).counters 0 })

/-! The peer delay engine (R381). Its frames are laid out as IEEE 1588-2019 lays them out. -/

/-- A port's identity: clockIdentity and port + 1. -/
def State.ptpIdentity (s : State) (p : Nat) : Bytes := fit 8 s.cur.ptp.device.clockId ++ be 2 (p + 1)

/-- A peer-delay message of 54 bytes. -/
def pdelayMessage (s : State) (p kind : Nat) (correction : Int) (seq : Nat) (tail : Bytes) : Bytes :=
  le 1 kind ++ [0x12] ++ be 2 54 ++ le 1 s.cur.ptp.device.domain ++ zeros 3 ++ be 8 (unsigned 64 correction) ++ zeros 4 ++
    s.ptpIdentity p ++ be 2 seq ++ [0x05, 0x7F] ++ zeros 10 ++ fit 10 tail

/-- Encapsulate a peer-delay message for a port's transport (Table 13.3). -/
def State.pdelayFrame (s : State) (p : Nat) (msg : Bytes) : Bytes :=
  let d := s.cur.ptp.device
  let udp (pseudo : Bytes) : Bytes :=
    let head := be 2 319 ++ be 2 319 ++ be 2 (8 + msg.length)
    let c := checksum16 (pseudo ++ head ++ zeros 2 ++ msg)
    head ++ be 2 (if c = 0 then 0xFFFF else c) ++ msg
  let frame := match (s.ptpPort s.cur p).transport with
    | 0 => [0x01, 0x80, 0xC2, 0, 0, 0x0E] ++ fit 6 d.mac ++ [0x88, 0xF7] ++ msg
    | 1 =>
      let dst : Bytes := [224, 0, 0, 107]
      let total := 28 + msg.length
      let head : Bytes := [0x45, 0] ++ be 2 total ++ zeros 4 ++ [1, 17]
      let ip := head ++ be 2 (checksum16 (head ++ zeros 2 ++ fit 4 d.ip4 ++ dst)) ++ fit 4 d.ip4 ++ dst
      [0x01, 0x00, 0x5E, 0, 0, 0x6B] ++ fit 6 d.mac ++ [0x08, 0x00] ++ ip ++ udp (fit 4 d.ip4 ++ dst ++ [0, 17] ++ be 2 (8 + msg.length))
    | _ =>
      let dst : Bytes := [0xFF, 0x02] ++ zeros 13 ++ [0x6B]
      let ip : Bytes := [0x60, 0, 0, 0] ++ be 2 (8 + msg.length) ++ [17, 1] ++ fit 16 d.ip6 ++ dst
      [0x33, 0x33, 0, 0, 0, 0x6B] ++ fit 6 d.mac ++ [0x86, 0xDD] ++ ip ++ udp (fit 16 d.ip6 ++ dst ++ be 4 (8 + msg.length) ++ zeros 3 ++ [17])
  if frame.length < 60 then fit 60 frame else frame

/-- The engine of a port runs: P2P, and the port UP. -/
def State.runsPdelay (s : State) (p : Nat) : Bool := decide (p < 26) && (s.ptpPort s.cur p).mode == 2 && s.portUp p

/-- R381: a port's interval expires and it sends a Pdelay_Req; an exchange not complete is lost. -/
def execPdelayReqSend (port : Nat) (s : State) : Host.Outcome State Fault Refusal :=
  let x := s.ptp port
  if !s.runsPdelay port || s.now < x.nextReq then .next s
  else
    let (t1, s1) := s.txStamp port
    let x0 := s1.ptp port
    let x1 : PtpLive :=
      if x.waiting then
        { x0 with counters := bump x.counters 2, losses := x.losses + 1,
                  delayState := if 3 ≤ x.losses + 1 then .invalid else x.delayState }
      else x0
    let n := (s.ptpPort s.cur port).logInt
    let period := (1000000000 * 2 ^ (n + 4).toNat) / 16
    let x2 : PtpLive := { x1 with sequence := x1.sequence + 1, waiting := true, t1 := t1 * 1024, twoStep := none, nextReq := (if x.nextReq + period ≤ s.now then s.now else x.nextReq) + period }
    let s2 := s1.setPtp port x2
    done s (s2.sendFrame port (s2.pdelayFrame port (pdelayMessage s2 port 2 0 x2.sequence.toNat (zeros 10))))

/-- A sample of the link delay arrives (Table 13.3). -/
def PtpLive.sample (x : PtpLive) (t4 : Nat) (turnaround : Int) : PtpLive :=
  let trip : Int := ((t4 + 2 ^ 64 - x.t1) % 2 ^ 64 : Nat)
  let v := (trip - turnaround) / 2
  { x with delay := if x.sampled then x.delay + (v - x.delay) / 16 else v, sampled := true, delayState := .valid, waiting := false, losses := 0,
           twoStep := none, counters := bump x.counters 1 }

/-- A PTP timestamp of 10 bytes in ns. -/
def ptpTime (frame : Bytes) (at_ : Nat) : Int := ((fieldBe frame at_ 6 * 1000000000 + fieldBe frame (at_ + 6) 4 : Nat) : Int)

/-- A peer-delay message received on a P2P port (R377, R381): the messages the engine consumes. A Follow_Up, a general message of IEEE
1588-2019, may come to UDP port 320 (DEDUCED, log 72). -/
def pdelayIn (frame : Bytes) : Option (Nat × PtpAt) :=
  match ptpIn frame [319, 320] with
  | some m =>
    let t := ptpType frame m
    if t = 0xA || ((t = 2 || t = 3) && (ptpIn frame [319]).isSome) then some (t, m) else none
  | none => none

/-- The responder answers a request; the turnaround is the device's own (log 70). -/
def State.answerPdelay (s : State) (p : Nat) (frame : Bytes) (m : PtpAt) : State :=
  let (w, s1) := s.draw
  let cf := signed 64 (fieldBe frame (m.start + 8) 8) + ((w.toNat * 1024 : Nat) : Int)
  let s2 := s1.setPtp p { s1.ptp p with counters := bump (s1.ptp p).counters 3 }
  s2.sendFrame p (s2.pdelayFrame p (pdelayMessage s2 p 3 cf (fieldBe frame (m.start + 30) 2) (slice frame (m.start + 20) 10)))

/-- A response or follow-up for the request outstanding. -/
def State.takePdelay (s : State) (p t : Nat) (frame : Bytes) (m : PtpAt) : State :=
  let x := s.ptp p
  let mine := x.waiting && fieldBe frame (m.start + 30) 2 == x.sequence.toNat && slice frame (m.start + 44) 10 == s.ptpIdentity p
  let cf := signed 64 (fieldBe frame (m.start + 8) 8)
  if !mine then s
  else if t = 3 then
    let (r, s1) := s.rxStamp p
    let x := s1.ptp p
    if bitAt frame (m.start + 6) 1 then s1.setPtp p { x with twoStep := some (cf, (ptpTime frame (m.start + 34)).toNat, r * 1024) }
    else s1.setPtp p (x.sample (r * 1024) cf)
  else match x.twoStep with
    | some (c, receipt, t4) => s.setPtp p (x.sample t4 (c + cf + (ptpTime frame (m.start + 34) - (receipt : Int)) * 65536))
    | none => s

/-- A peer-delay message is consumed (R381). -/
def State.consumePdelay (s : State) (p t : Nat) (frame : Bytes) (m : PtpAt) : State :=
  let s1 := s.timeCount 4
  if t = 2 then s1.answerPdelay p frame m else s1.takePdelay p t frame m

/-- R381: a peer-delay message arrives on a P2P port. -/
def execPdelayReceive (port : Nat) (frame : Bytes) (s : State) : Host.Outcome State Fault Refusal :=
  if !s.runsPdelay port then .next s
  else match pdelayIn frame with
    | some (t, m) => done s ((s.windowAdd port false (frame.length + 4)).consumePdelay port t frame m)
    | none => .next s

/-- A commit that puts a port into P2P starts its engine at NONE (Table 13.3). -/
def State.applyPtp (old s : State) : State :=
  (List.range 26).foldl (fun s p =>
    if (s.ptpPort s.cur p).mode == 2 && (old.ptpPort old.cur p).mode != 2 then
      s.setPtp p { s.ptp p with
        delayState := .none, delay := 0, sampled := false, waiting := false, losses := 0, twoStep := none, nextReq := 0 }
    else s) s

/-! PPS and RCLK_OUT (R384-R386). -/

/-- The captured time: the counter less the input delay, in ns. -/
def State.captureNs (s : State) : Nat :=
  ((((s.time.raw : Nat) : Int) - s.time.ppsDelay * 2 ^ 26) / 2 ^ 32 % (2 ^ 64 * 1000000000)).toNat

/-- What the interrupts of a capture are judged against: the capture it replaces is unread by no function any more (R384, R422). -/
def State.beforeCapture (s : State) : State :=
  let gone (f : PciFunction) : PciFunction := { f with ppsUnread := false }
  { s with host := { s.host with pf0 := gone s.host.pf0, pf1 := gone s.host.pf1 } }

/-- R384: a filtered edge of PPS_IN; with PPS_IE set, each capture raises vector 14. -/
def execPpsInCapture (rising : Bool) (s : State) : Host.Outcome State Fault Refusal :=
  if !(s.booted && s.time.ppsInEn && rising != s.time.ppsInFalling) then .next s
  else
    let v := s.captureNs
    let note (f : PciFunction) : PciFunction := { f with ppsOverrun := f.ppsOverrun || f.ppsUnread, ppsUnread := true }
    let s1 := s.onTime fun t => { t with ppsNs := v % 1000000000, ppsSec := BitVec.ofNat 64 (v / 1000000000), ppsCount := t.ppsCount + 1 }
    done s.beforeCapture { s1 with host := { s1.host with pf0 := note s1.host.pf0, pf1 := note s1.host.pf1 } }

/-- The counter advanced across the output offset in this TIME cycle, and not by a step. -/
def State.ppsCrossed (s : State) : Bool :=
  let second := 1000000000 * 2 ^ 32
  let at_ := (s.time.ppsOffset * 2 ^ 26 % (second : Nat)).toNat
  (s.time.raw % second + second - at_) % second < s.time.inc.toNat && s.time.stepped != some s.now

/-- R385: PPS_OUT rises. -/
def execPpsOutEdge (s : State) : Host.Outcome State Fault Refusal :=
  if s.booted && s.time.ppsOutEn && s.ppsCrossed then done s (s.onTime fun t => { t with ppsOut := true, ppsRose := s.now }) else .next s

/-- R385: PPS_OUT falls when its width has passed. -/
def execPpsOutFall (s : State) : Host.Outcome State Fault Refusal :=
  if s.time.ppsOut && decide (s.time.ppsRose + s.time.ppsWidth * 1000 ≤ s.now) then done s (s.onTime fun t => { t with ppsOut := false })
  else .next s

/-- R386: RCLK_OUT resumes after 10 ms of continuous lock. -/
def execRclkResume (s : State) : Host.Outcome State Fault Refusal :=
  match s.time.locks.getD s.time.rclkLane none with
  | some t =>
    if s.time.rclkOn && !s.time.rclkRun && decide (t + 10000000 ≤ s.now) then done s (s.onTime fun t => { t with rclkRun := true }) else .next s
  | none => .next s

/-! Registers of the time block (R388, R389). -/

/-- R388: a write of SNAP latches the time counter and the flow clock for a function. -/
def State.takeSnap (s : State) (pf1 : Bool) : State :=
  s.setFn pf1 { s.fn pf1 with snapDone := true, snapNs := s.time.ns, snapFrac := s.time.frac / 65536, snapSec := s.time.sec,
                              snapFlow := s.time.flow }

def execTimeSnap (pf1 : Bool) (s : State) : Host.Outcome State Fault Refusal :=
  if s.host.linkUp then done s (s.takeSnap pf1) else .next s

/-- R389: a write of TIME_INC_LO submits INC, or sets INC_REFUSED. -/
def State.writeInc (s : State) (v : W32) : State :=
  let inc := s.time.incWritten.toNat * 2 ^ 32 + v.toNat
  if incOk inc then s.onTime fun t => t.setInc inc
  else
    let s1 := s.onTime fun t => t.setInc t.inc.toNat
    { s1 with host := { s1.host with pf0 := { s1.host.pf0 with incRefused := true }, pf1 := { s1.host.pf1 with incRefused := true } } }

def execTimeIncLoWrite (v : W32) (s : State) : Host.Outcome State Fault Refusal :=
  if s.host.linkUp && s.booted then done s (s.writeInc v) else .next s

/-! Commands (R390, R391). -/

/-- The counter laid out: SECONDS, NANOSECONDS, FRACTION and two zero bytes, from units of 2^-32 ns. -/
def counterBytes (v : Nat) : Bytes :=
  le 8 (v / 2 ^ 32 / 1000000000) ++ le 4 (v / 2 ^ 32 % 1000000000) ++ le 2 (v % 2 ^ 32 / 65536) ++ zeros 2

def bodyTimeRead (_ : Msg) (s : State) : Done :=
  let t := s.time
  let anyPtp := s.cur.ptp.ports.any fun p => p.mode != 0
  ok s (counterBytes t.raw ++ le 8 t.flow.toNat ++ le 8 (t.residence.toNat / 65536) ++ le 5 t.inc.toNat ++ zeros 3 ++
    le 1 (flagByte [t.ppsOutEn, t.ppsInEn, anyPtp]) ++ zeros 7)

/-- R391: TIME_READ. -/
def cmdTimeRead : Cmd := { op := 0x0C01, legal := legalAll, len := lenIs 0, changes := fun _ => false, body := bodyTimeRead }
def execTimeRead (m : Msg) (s : State) : Host.Outcome State Fault Refusal := runCommand cmdTimeRead m s

/-- A refusal against the jump limit is logged and flagged (R374). -/
def State.jumpRefused (s : State) (step : Int) : State :=
  let s1 := (s.logError ErrCode.timeJump 0 (le 8 (unsigned 64 (step.tdiv (2 ^ 32))))).alert AlertBit.timeJump
  { s1 with host := { s1.host with pf0 := { s1.host.pf0 with jumpRefused := true }, pf1 := { s1.host.pf1 with jumpRefused := true } } }

/-- Apply a step (R373). -/
def State.stepTo (s : State) (v : Nat) : State :=
  let s1 := s.onTime fun t => { t.setRaw v with stepped := some s.now }
  { s1 with host := { s1.host with pf0 := { s1.host.pf0 with stepped := true }, pf1 := { s1.host.pf1 with stepped := true } } }

def bodyTimeStep (m : Msg) (s : State) : Done :=
  let before := s.time.raw
  let frac := m.f 2 2 * 65536
  let step : Int :=
    if m.p 0 = 1 then (((m.f 8 8 * 1000000000 + m.f 4 4) * 2 ^ 32 + frac : Nat) : Int) - (before : Int)
    else signed 64 (m.f 8 8) * 2 ^ 32 + (frac : Int)
  let after := (before : Int) + step
  if 1 < m.p 0 then badParam s 0
  else needZero s m (1 :: if m.p 0 = 0 then [4, 5, 6, 7] else []) <|
    if m.p 0 = 1 && 1000000000 ≤ m.f 4 4 then outOfRange s 4
    else if after < 0 || (2 : Int) ^ 64 * 1000000000 * 2 ^ 32 ≤ after then refuse s Status.range 24
    else if s.inService && s.time.jumpLimit * 2 ^ 32 < step.natAbs then refuse (s.jumpRefused step) Status.range 24
    else ok (s.stepTo after.toNat) (counterBytes before ++ counterBytes after.toNat)

/-- R373, R374: TIME_STEP. -/
def cmdTimeStep : Cmd := { op := 0x0C02, legal := legalRun, len := lenIs 16, changes := fun _ => true, body := bodyTimeStep }
def execTimeStep (m : Msg) (s : State) : Host.Outcome State Fault Refusal := runCommand cmdTimeStep m s

def bodyTimeIncSet (m : Msg) (s : State) : Done :=
  let d := signed 32 (m.f 4 4)
  let reply (s : State) : Bytes := le 4 (unsigned 32 ((s.time.inc.toNat : Int) - 2 ^ 32)) ++ zeros 4
  if 1 < m.p 0 then badParam s 0
  else needZero s m ([1, 2, 3] ++ if m.p 0 = 0 then [4, 5, 6, 7] else []) <|
    if m.p 0 = 0 then ok s (reply s)
    else if !incOk (2 ^ 32 + d).toNat then outOfRange s 4
    else
      let s1 := s.onTime fun t => t.setInc (2 ^ 32 + d).toNat
      ok s1 (reply s1)

/-- R391: TIME_INC_SET. -/
def cmdTimeIncSet : Cmd := { op := 0x0C03, legal := legalAll, len := lenIs 8, changes := fun m => m.p 0 != 0, body := bodyTimeIncSet }
def execTimeIncSet (m : Msg) (s : State) : Host.Outcome State Fault Refusal := runCommand cmdTimeIncSet m s

def bodyTimeJumpLimit (m : Msg) (s : State) : Done :=
  let reply (n : Nat) : Bytes := le 4 (m.p 0) ++ le 4 n
  if 1 < m.p 0 then badParam s 0
  else needZero s m ([1, 2, 3] ++ if m.p 0 = 0 then [4, 5, 6, 7] else []) <|
    if m.p 0 = 0 then ok s (reply s.time.jumpLimit)
    else if m.f 4 4 = 0 || 1000000 < m.f 4 4 then outOfRange s 4
    else ok (s.onTime fun t => { t with jumpLimit := m.f 4 4 }) (reply (m.f 4 4))

/-- R391: TIME_JUMP_LIMIT. -/
def cmdTimeJumpLimit : Cmd :=
  { op := 0x0C04, legal := legalRead fun m => m.p 0 == 0, len := lenIs 8, locks := fun m => m.p 0 == 1, changes := fun m => m.p 0 != 0,
    body := bodyTimeJumpLimit }
def execTimeJumpLimit (m : Msg) (s : State) : Host.Outcome State Fault Refusal := runCommand cmdTimeJumpLimit m s

def ppsRecord (op : Nat) (t : Time) : Bytes :=
  le 1 op ++ le 1 (flagByte [t.ppsInEn, t.ppsInFalling, t.ppsOutEn]) ++ zeros 2 ++ le 4 (unsigned 32 t.ppsDelay) ++
    le 4 (unsigned 32 t.ppsOffset) ++ le 4 t.ppsWidth

def bodyTimePpsConfig (m : Msg) (s : State) : Done :=
  let d := signed 32 (m.f 4 4)
  if 1 < m.p 0 then badParam s 0
  else if m.p 0 = 0 then needZero s m (span 1 15) (ok s (ppsRecord 0 s.time))
  else if 7 < m.p 1 then badParam s 1
  else needZero s m [2, 3] <|
    if 64000 < d.natAbs then outOfRange s 4
    else if m.f 12 4 = 0 || 500000 < m.f 12 4 then outOfRange s 12
    else
      let on := bitAt m.params 1 2
      let s1 := s.onTime fun t => { t with ppsInEn := bitAt m.params 1 0, ppsInFalling := bitAt m.params 1 1, ppsOutEn := on, ppsDelay := d,
                                           ppsOffset := signed 32 (m.f 8 4), ppsWidth := m.f 12 4, ppsOut := t.ppsOut && on }
      ok s1 (ppsRecord 1 s1.time)

/-- R391: TIME_PPS_CONFIG. -/
def cmdTimePpsConfig : Cmd :=
  { op := 0x0C05, legal := legalRead fun m => m.p 0 == 0, len := lenIs 16, locks := fun m => m.p 0 == 1, changes := fun m => m.p 0 != 0,
    body := bodyTimePpsConfig }
def execTimePpsConfig (m : Msg) (s : State) : Host.Outcome State Fault Refusal := runCommand cmdTimePpsConfig m s

def ptpDeviceRecord (op : Nat) (d : PtpDevice) : Bytes :=
  [1] ++ le 1 op ++ le 1 d.domain ++ [0] ++ fit 8 d.clockId ++ fit 6 d.mac ++ zeros 2 ++ fit 4 d.ip4 ++ fit 16 d.ip6 ++ zeros 8
def ptpPortRecord (op p : Nat) (x : PtpPort) : Bytes :=
  [2] ++ le 1 op ++ le 1 p ++ le 1 x.mode ++ le 1 x.rxTs.toNat ++ le 1 x.transport ++ le 1 (unsigned 8 x.logInt) ++ zeros 41

def DelayState.code : DelayState → Nat | .none => 0 | .valid => 1 | .invalid => 2

def ptpDeviceStatus (s : State) : Bytes := (ptpDeviceRecord 2 s.cur.ptp.device).take 8 ++ bankBytes s.time.counters
def ptpPortStatus (s : State) (p : Nat) : Bytes :=
  let x := s.ptp p
  [2, 2] ++ le 1 p ++ le 1 x.delayState.code ++ le 8 (unsigned 64 x.delay) ++ zeros 4 ++ bankBytes x.counters

def State.stagePtp (s : State) (f : PtpCfg → PtpCfg) : State := s.stageWith fun v => { v with ptp := f v.ptp }

def recPtpDevice (m : Msg) (s : State) (b : Bytes) (base : Nat) : RecAns :=
  match byteAt b 1 with
  | 0 => recZero b base (span 2 47) (.ok s (ptpDeviceRecord 0 (s.view m).ptp.device))
  | 1 =>
    if !m.stage then noStage
    else recZero b base ([3, 18, 19] ++ span 40 47) <|
      let d : PtpDevice := { domain := byteAt b 2, clockId := slice b 4 8, mac := slice b 12 6, ip4 := slice b 20 4, ip6 := slice b 24 16 }
      .ok (s.stagePtp fun c => { c with device := d }) []
  | 2 => recZero b base (span 2 47) (.ok s (ptpDeviceStatus s))
  | _ => .refuse Status.badParam (base + 1)

def recPtpPort (m : Msg) (s : State) (b : Bytes) (base : Nat) : RecAns :=
  let p := byteAt b 2
  let n := signed 8 (byteAt b 6)
  if 2 < byteAt b 1 then .refuse Status.badParam (base + 1)
  else if 25 < p then .refuse (portStatus p) (base + 2)
  else if byteAt b 1 = 0 then recZero b base (span 3 47) (.ok s (ptpPortRecord 0 p (s.ptpPort (s.view m) p)))
  else if byteAt b 1 = 2 then recZero b base (span 3 47) (.ok s (ptpPortStatus s p))
  else if !m.stage then noStage
  else if 2 < byteAt b 3 then .refuse Status.badParam (base + 3)
  else if 1 < byteAt b 4 then .refuse Status.badParam (base + 4)
  else if 2 < byteAt b 5 then .refuse Status.badParam (base + 5)
  else if n < -4 || 4 < n then .refuse Status.range (base + 6)
  else recZero b base (span 7 47) <|
    let x : PtpPort := { mode := byteAt b 3, rxTs := byteAt b 4 == 1, transport := byteAt b 5, logInt := n }
    .ok (s.stagePtp fun c => { c with ports := c.ports.set p x }) []

def recTimePtpConfig (m : Msg) (s : State) (b : Bytes) (base : Nat) : RecAns :=
  if byteAt b 0 = 1 then recPtpDevice m s b base else if byteAt b 0 = 2 then recPtpPort m s b base else .refuse Status.badParam base

/-- Some record of a message has operation 0x01, SET. -/
def anySet (m : Msg) (k i : Nat) : Bool := (m.recs k).any fun b => byteAt b i == 1

/-- R391: TIME_PTP_CONFIG. -/
def cmdTimePtpConfig : Cmd :=
  { op := 0x0C06, flags := fun m => flagsIn 5 m && !(m.stage && (m.recs 48).any (byteAt · 1 == 2)), legal := legalRead fun m => !anySet m 48 1, len := lenRec 48 85, locks := fun m => anySet m 48 1,
    changes := fun m => anySet m 48 1, body := fun m s => records m 48 (recTimePtpConfig m) s }
def execTimePtpConfig (m : Msg) (s : State) : Host.Outcome State Fault Refusal := runCommand cmdTimePtpConfig m s

def calRecord (s : State) (p : Nat) : Bytes :=
  let x := s.ptp p
  le 1 p ++ [0] ++ le 1 x.calibrated.toNat ++ [0] ++ le 4 (unsigned 32 x.rxBoard) ++ le 4 (unsigned 32 x.txBoard) ++ le 2 x.rxLatency ++
    le 2 x.txLatency

def recTimeCal (s : State) (b : Bytes) (base : Nat) : RecAns :=
  let p := byteAt b 0
  let rx := signed 32 (fieldLe b 4 4)
  let tx := signed 32 (fieldLe b 8 4)
  if 25 < p then .refuse (portStatus p) base
  else if 1 < byteAt b 1 then .refuse Status.badParam (base + 1)
  else if byteAt b 1 = 0 then recZero b base (span 2 15) (.ok s (calRecord s p))
  else recZero b base [2, 3] <|
    if 64000 < rx.natAbs then .refuse Status.range (base + 4)
    else if 64000 < tx.natAbs then .refuse Status.range (base + 8)
    else recZero b base (span 12 15) (.ok (s.setPtp p { s.ptp p with rxBoard := rx, txBoard := tx }) [])

/-- R391: TIME_CAL; it accepts no flag, so one record. -/
def cmdTimeCal : Cmd :=
  { op := 0x0C07, legal := legalAll, len := lenRec 16 255, changes := fun m => m.p 1 != 0, body := fun m s => records m 16 recTimeCal s }
def execTimeCal (m : Msg) (s : State) : Host.Outcome State Fault Refusal := runCommand cmdTimeCal m s

/-- Configured rate of a lane in kb/s; 0 where its port has no mode. -/
def State.laneRate (s : State) (lane : Nat) : Nat :=
  if 24 ≤ lane then 106250000
  else match (List.range 24).find? (fun p => p ≤ lane && lane < p + modeLanes (s.portCfg p).mode) with
    | some p => (match (s.portCfg p).mode with | 1 => 25781250 | 2 => 53125000 | _ => 106250000)
    | none => 0

def rclkRecord (op : Nat) (t : Time) : Bytes :=
  le 1 op ++ le 1 t.rclkLane ++ le 2 t.rclkDiv ++ le 1 t.rclkOn.toNat ++ le 1 t.rclkRun.toNat ++ zeros 2

def bodyTimeRclkConfig (m : Msg) (s : State) : Done :=
  let lane := m.p 1
  let d := m.f 2 2
  let rate := s.laneRate lane
  if 1 < m.p 0 then badParam s 0
  else if m.p 0 = 0 then needZero s m (span 1 7) (ok s (rclkRecord 0 s.time))
  else if 25 < lane then outOfRange s 1
  else if d < 16 || 4096 < d || (rate != 0 && (rate < 10000 * d || 400000 * d < rate)) then outOfRange s 2
  else if 1 < m.p 4 then badParam s 4
  else needZero s m (span 5 7) <|
    let on := m.p 4 == 1
    let same := lane == s.time.rclkLane
    let s1 := s.onTime fun t => { t with rclkLane := lane, rclkDiv := d, rclkOn := on, rclkRun := t.rclkRun && on && same }
    ok s1 (rclkRecord 1 s1.time)

/-- R391: TIME_RCLK_CONFIG. -/
def cmdTimeRclkConfig : Cmd :=
  { op := 0x0C08, legal := legalRead fun m => m.p 0 == 0, len := lenIs 8, locks := fun m => m.p 0 == 1, changes := fun m => m.p 0 != 0,
    body := bodyTimeRclkConfig }
def execTimeRclkConfig (m : Msg) (s : State) : Host.Outcome State Fault Refusal := runCommand cmdTimeRclkConfig m s

end Sys2Proof.Machine
end

