-- ==== Sys2Proof/Machine/Egress.lean ====
section
/-!
DEFINITION. The MACs and the egress path: frames received, the end of a cut-through frame, the port schedulers, rewrites, egress rules
and transmission (spec 03 R80-R83, 08 R251, 09 R280-R281, 10 R302-R311).
-/
namespace Sys2Proof.Machine

/-! Rewrites of a frame (Table 10.1, step 5). -/

/-- R251: the address and port of the source or the destination of a header are replaced, checksums updated. -/
def rewriteEndpoint (f : Bytes) (l3 : Nat) (src : Bool) (addr port : Bytes) : Bytes :=
  let l4 := l3 + byteAt f l3 % 16 * 4
  let a := l3 + (if src then 12 else 16)
  let q := l4 + (if src then 0 else 2)
  let oldA := slice f a 4
  let oldP := slice f q 2
  let f1 := updateAt (splice f a addr) (l3 + 10) false oldA addr
  let f2 := splice f1 q port
  match byteAt f (l3 + 9) with
  | 6 => updateAt f2 (l4 + 16) false (oldA ++ oldP) (addr ++ port)
  | 17 => updateAt f2 (l4 + 6) true (oldA ++ oldP) (addr ++ port)
  | _ => f2

/-- R251: for ICMP echo the address and the identifier are replaced. -/
def rewriteIdent (f : Bytes) (l3 : Nat) (src : Bool) (addr ident : Bytes) : Bytes :=
  let l4 := l3 + byteAt f l3 % 16 * 4
  let a := l3 + (if src then 12 else 16)
  let f1 := updateAt (splice f a addr) (l3 + 10) false (slice f a 4) addr
  updateAt (splice f1 (l4 + 4) ident) (l4 + 2) false (slice f (l4 + 4) 2) ident

def Rewrite.apply (l3 : Nat) (f : Bytes) : Rewrite → Bytes
  | .source a q => rewriteEndpoint f l3 true a q
  | .dest a q => rewriteEndpoint f l3 false a q
  | .ident up a q => rewriteIdent f l3 up a q

/-- Offset of the classifying layer's IP header (R111). -/
def Pkt.classOffset (p : Pkt) : Option Nat := if byteAt p.kv 7 = 1 then p.l3.2 else p.l3.1

def isV6 (f : Bytes) (off : Nat) : Bool := byteAt f off / 16 == 6

/-- Length of the IP packet at an offset, from its header. -/
def ipLength (f : Bytes) (off : Nat) : Nat := if isV6 f off then fieldBe f (off + 4) 2 + 40 else fieldBe f (off + 2) 2

/-- R281: the TTL or hop limit is decremented. -/
def decTtl (f : Bytes) (off : Nat) : Bytes :=
  if isV6 f off then splice f (off + 7) (le 1 (byteAt f (off + 7) - 1))
  else
    let old := slice f (off + 8) 2
    let new := le 1 (byteAt f (off + 8) - 1) ++ slice f (off + 9) 1
    updateAt (splice f (off + 8) new) (off + 10) false old new

/-- R280: what a next hop places in front of an IP packet. -/
def encapsulation (r : Bytes) (v6 : Bool) (len : Nat) : Bytes :=
  let n := hopEncap r
  let tags := (if 1 ≤ n && n ≤ 3 then be 2 (hopTpid r) ++ be 2 (hopOuter r) else []) ++
    (if n = 2 || n = 3 then be 2 0x8100 ++ be 2 (hopInner r) else [])
  let last := if 3 ≤ n then be 2 0x8864 ++ [0x11, 0x00] ++ be 2 (hopSession r) ++ be 2 (len + 2) ++ be 2 (if v6 then 0x0057 else 0x0021)
    else be 2 (if v6 then 0x86DD else 0x0800)
  hopDst r ++ hopSrc r ++ tags ++ last

/-- R140: a DSCP written to the IP header at an offset. -/
def putDscp (f : Bytes) (off dscp : Nat) : Bytes :=
  let w := fieldBe f off 2
  if isV6 f off then splice f off (be 2 (w / 4096 * 4096 + dscp * 64 + w % 64))
  else
    let new := be 2 (w / 256 * 256 + dscp * 4 + w % 4)
    updateAt (splice f off new) (off + 10) false (slice f off 2) new

/-- The frame a packet leaves as: translation, next-hop encapsulation and TTL by the next hop's record, DSCP (Table 10.1, step 5). -/
def rewrittenBy (hop : Option Bytes) (p : Pkt) (dscp : Option Nat) : Bytes :=
  let f1 := match p.classOffset with | some o => p.rewrites.foldl (Rewrite.apply o) p.bytes | none => p.bytes
  let outer := p.outer
  let (f2, at_) : Bytes × Option Nat := match hop with
    | none => (f1, outer)
    | some r =>
      let f := if hopDecTtl r then decTtl f1 p.routeOff else f1
      let head := encapsulation r (isV6 f p.routeOff) (ipLength f p.routeOff)
      (head ++ f.drop p.routeOff, some head.length)
  match dscp, at_ with
  | some d, some o => putDscp f2 o d
  | _, _ => f2

/-- The record of a packet's next hop in a version. -/
def Staged.hopOf (v : Staged) (p : Pkt) : Option Bytes := p.nexthop.bind (tget? v.fwd.nexthops ·)
def rewritten (v : Staged) (p : Pkt) (dscp : Option Nat) : Bytes := rewrittenBy (v.hopOf p) p dscp

/-! The scheduler (R302, R303). -/

/-- One that takes part in a deficit round robin: what it is, its deficit and quantum, and the length it would send. -/
structure Contender where
  id : Nat
  deficit : Int
  quantum : Nat
  len : Nat

/-- Visits, each adding the quantum, until its deficit allows its head. -/
def Contender.visits (c : Contender) : Nat := max 1 (((c.len : Int) - c.deficit + c.quantum - 1) / c.quantum).toNat

/-- Deficit round robin: the one served last is served on while its deficit lasts; else the round goes on after it. Answers who is served
and the deficits that result. -/
def drr (last : Nat) (cs : List Contender) : Option (Nat × List (Nat × Int)) :=
  match cs.find? (fun c => c.id == last && (c.len : Int) ≤ c.deficit) with
  | some c => some (c.id, [(c.id, c.deficit - c.len)])
  | none =>
    let order := cs.filter (last < ·.id) ++ cs.filter (·.id ≤ last)
    let best := order.foldl (fun (b : Option Contender) c =>
      match b with | some x => if c.visits < x.visits then some c else b | none => some c) none
    best.map fun w =>
      let pos := order.findIdx (·.id == w.id)
      (w.id, order.zipIdx.map fun x =>
        (x.1.id, x.1.deficit + ((if x.2 ≤ pos then w.visits else w.visits - 1) * x.1.quantum : Nat) - (if x.1.id = w.id then x.1.len else 0 : Nat)))

/-- The egress port of a cut-through frame lets it start before its end has arrived (R81): front ports of modes of no higher rate. -/
def State.cutOk (s : State) (port inPort : Nat) : Bool := decide (port < 24) && (s.portCfg port).mode ≤ (s.portCfg inPort).mode

/-- The head of a queue that can be sent at once. -/
def State.headOf (s : State) (port q : Nat) : Option Queued :=
  match (s.queue q).items with
  | e :: rest => if e.pkt.arriving && !(rest.isEmpty && s.cutOk port e.pkt.inPort) then none else some e
  | [] => none

/-- The length an entry is transmitted with. -/
def State.txLength (s : State) (e : Queued) : Nat := (rewritten (s.version e.pkt.stamp) e.pkt none).length + 4

def State.schedCfg (s : State) (port : Nat) : SchedCfg := s.cur.buf.sched.getD port SchedCfg.reset
def State.schedLive (s : State) (port : Nat) : SchedLive := s.buf.sched.getD (portIndex port) SchedLive.reset
def State.setSched (s : State) (port : Nat) (x : SchedLive) : State :=
  { s with buf := { s.buf with sched := s.buf.sched.set (portIndex port) x } }

/-- Quantum of a member of a class, in bytes (R302, R306). -/
def State.memberQuantum (s : State) (port cls q : Nat) : Nat :=
  256 * max 1 (if isNodeQueue q then (match s.nodeNow ((q - 1024) / 4) with | some r => nodeWeight r | none => 1)
    else (s.schedCfg port).quanta.getD cls 1)

/-- A node queue is attached to a class of a port, and its node has tokens (R305, R306). -/
def State.attached (s : State) (port cls q : Nat) : Bool :=
  let n := (q - 1024) / 4
  isNodeQueue q && decide (port < 26) &&
    (match s.nodeNow n with | some r => nodePort r == port && nodeClass r ((q - 1024) % 4) == cls | none => false) && decide (0 ≤ s.bucketNow n)

/-- The members of a class that can send, with their heads. -/
def State.contenders (s : State) (port cls : Nat) : List Contender :=
  (classQueue port cls :: (s.buf.queues.filter fun e => s.attached port cls e.1).map (·.1)).filterMap fun q =>
    (s.headOf port q).map fun e => { id := q, deficit := (s.queue q).deficit, quantum := s.memberQuantum port cls q, len := s.txLength e }

/-- The member a class would serve: its queue, the deficits, and the length. -/
def State.classPick (s : State) (port cls : Nat) : Option (Nat × List (Nat × Int) × Nat) :=
  let cs := s.contenders port cls
  (drr ((s.schedLive port).lastMember.getD cls 0) cs).map fun r =>
    (r.1, r.2, match cs.find? (fun c => c.id == r.1) with | some c => c.len | none => 0)

/-- The class a port serves, with the deficits of the DRR classes (R302). -/
def State.portPick (s : State) (port : Nat) : Option (Nat × List (Nat × Int)) :=
  let cfg := s.schedCfg port
  let ready := (List.range 8).filterMap fun c => (s.classPick port c).map fun r => (c, r.2.2)
  match (ready.filter fun c => cfg.spMask.getLsbD c.1).getLast? with
  | some c => some (c.1, [])
  | none => drr (s.schedLive port).lastClass (ready.map fun c =>
      { id := c.1, deficit := (s.schedLive port).deficits.getD c.1 0, quantum := 256 * max 1 (cfg.quanta.getD c.1 1), len := c.2 })

/-- Time a frame holds its port under its ceiling, in fs (R159, R303); 0 where there is none. -/
def State.holdTime (s : State) (port len : Nat) : Nat :=
  if port < 26 then (let c := (s.schedCfg port).ceiling; if c = 0 then 0 else ((len + 20) * 8 * 1000000000 + c - 1) / c)
  else (let c := max 1 (if port = 32 then s.cur.rule.recirc.ceil32 else s.cur.rule.recirc.ceil33); (len * 8 * 1000000 + c - 1) / c)

/-- A port can accept its next frame: the ceiling lets it start, and no cut-through frame is still leaving (R302, R303). -/
def State.portFree (s : State) (port : Nat) : Bool :=
  (s.schedLive port).nextStart ≤ s.now * 1000000 && !s.buf.sending.any fun x => x.port == port

/-- The next start moves on for a frame sent. -/
def State.pace (s : State) (port len : Nat) : State :=
  let x := s.schedLive port
  s.setSched port { x with nextStart := max x.nextStart (s.now * 1000000) + s.holdTime port len }

/-- Take the entry the scheduler chooses, with the queue and the DRR class that are charged: the member is charged and the node's bucket
debited (Table 10.1, step 1). A member that falls empty keeps no deficit. -/
def State.schedule (s : State) (port : Nat) : Option ((Nat × Option Nat) × Queued × State) :=
  (s.portPick port).bind fun c =>
    (s.classPick port c.1).bind fun m =>
      match (s.queue m.1).items with
      | [] => none
      | e :: rest =>
        let s1 := m.2.1.foldl (fun s d => s.setQueue d.1 { s.queue d.1 with deficit := d.2 }) s
        let q := s1.queue m.1
        let s2 := s1.setQueue m.1 { q with items := rest, deficit := if rest.isEmpty then 0 else q.deficit }
        let x := s2.schedLive port
        let x1 := { x with deficits := c.2.foldl (fun (l : List Int) (d : Nat × Int) => l.set d.1 d.2) x.deficits, lastClass := if c.2.isEmpty then x.lastClass else c.1,
                           lastMember := x.lastMember.set c.1 m.1 }
        let s3 := s2.setSched port { x1 with deficits := if (s2.contenders port c.1).isEmpty then x1.deficits.set c.1 0 else x1.deficits }
        some ((m.1, if c.2.isEmpty then none else some c.1), e, if isNodeQueue m.1 then s3.debit ((m.1 - 1024) / 4) m.2.2 else s3)

/-! The egress path (R309-R311). -/

/-- The rewrites applied; what the packet carries from here on is the frame. -/
def Pkt.sentAs (p : Pkt) (frame : Bytes) : Pkt :=
  { p with bytes := frame, rewrites := [], nexthop := none, translated := p.translated || !p.rewrites.isEmpty }

/-- Copies made of an egress result; none of a packet that is a copy already (R310, R313). -/
def State.egressCopies (s : State) (v : Staged) (p : Pkt) (r : RuleResult) : State :=
  if p.copy then s
  else
    let s1 := match r.copy with | some k => s.copyTo v k 9 p | none => s
    match r.mirror with | some k => s1.mirror v k p | none => s1

/-- A packet leaves for a recirculation queue (R156, R158). It takes cells of its own, which earlier copies do not share (R294, R296). -/
def State.toRecirc (s : State) (pipe : Bool) (p : Pkt) : State :=
  let s := (s.pipeEvent pipe 7).pipeEvent pipe 8 p.frameLen
  if 2048 ≤ (s.recircQ pipe).length then (s.rulePipeCount pipe 3).countDiscard p
  else match s.chargeIngress pipe p.cells with
    | none => (s.bufCount BufCounter.ingressNoCell).countDiscard p
    | some s1 =>
      let s2 := { s1 with buf := { s1.buf with nextId := s1.buf.nextId + 1 } }
      s2.setRecircQ pipe (s2.recircQ pipe ++ [{ p with pipe := pipe, id := s1.buf.nextId }])

/-- The lane a port's frames leave by: those of a peer lane that is down move to the other while that one is up (R88). -/
def State.laneFor (s : State) (port : Nat) : Nat :=
  let twin := 49 - port
  if (port = 24 || port = 25) && !s.portUp port && s.portUp twin then twin else port

/-- A frame is passed to its MAC: whole, aborted for a faulty cell (R293), or begun while it still arrives (R81). `by_` is the queue and the
DRR class that are charged for it. -/
def State.transmit (s : State) (v : Staged) (port : Nat) (p : Pkt) (by_ : Nat × Option Nat) (bad : Bool) : State :=
  let frame := rewritten v p p.rule.setDscp
  let lane := s.laneFor port
  let modes := s.ptpModes v lane p.inPort
  let s0 := s.pace port (frame.length + 4)
  let tx := s0.txPlane lane s0.time.residence64
  let s1 := (s0.txStamp lane).2
  if bad then s1.abortFrame lane frame s1.time.flow.toNat
  else if p.arriving then
    let x : Sending := { pkt := p, port := port, lane := lane, tx := tx, began := s1.time.flow.toNat, queue := by_.1, cls := by_.2, sent := frame.length + 4, hop := v.hopOf p,
                         ptp := modes }
    let s2 := s1.onWindow lane id
    { s2 with buf := { s2.buf with sending := s2.buf.sending ++ [x] } }
  else
    let (f, s2) := s1.correctPtp modes lane p frame tx
    s2.sendFrame lane f

/-- The egress path of ports 0-25, after the lookups. -/
def State.egressResult (s : State) (v : Staged) (port : Nat) (p0 : Pkt) (r : RuleResult) (by_ : Nat × Option Nat) (bad : Bool) : State :=
  let dscp := if p0.copy then none else r.setDscp.orElse fun _ => p0.rule.setDscp
  let p : Pkt := { p0 with rule := { p0.rule with setDscp := dscp } }
  let out := p.sentAs (rewritten v p dscp)
  let s1 := s.egressCopies v out r
  match r.verdict with
  | 4 => (s1.bufCount BufCounter.egressDrop).countDiscard p0
  | 6 => s1.toHost v out r.ring 9
  | _ => s1.transmit v port p by_ bad

/-- The rule counters of an egress lookup take a cut-through frame's bytes at its end: with its transmission, if it was begun (R144). -/
def State.countAtEnd (s old : State) (id : Nat) (keys : List Nat) : State :=
  if s.buf.sending.length = old.buf.sending.length then s.noteCounts id keys
  else { s with buf := { s.buf with sending := s.buf.sending.modify (s.buf.sending.length - 1) fun x => { x with counts := keys } } }

/-- One packet through the egress path of its port (Table 10.1). -/
def State.egress (s : State) (port : Nat) (e : Queued) (by_ : Nat × Option Nat) (hurt : Upsets) : State :=
  let p := e.pkt
  let v := s.version p.stamp
  if port < 26 && !(s.portUp (s.laneFor port) && s.portOn port) then (s.portCount port 13).countDiscard p
  else
    let s1 := hurt.buffer.foldl (State.cellFault · (portPipe port).toNat) s
    let bad := !hurt.buffer.isEmpty
    if hurt.buffer.any (·.1 == 2) then (s1.bufCount BufCounter.ecc).countDiscard p
    else if port < 26 then
      let tables := v.rule.tables.filter fun t => 16 ≤ t.1
      let (len, s2) := if p.arriving then (let (w, s2) := s1.draw; (w.toNat % 65536, s2)) else (s1.txLength e, s1)
      let mv := matchVector p.kv p.pass p.inPort len p.metadata.toNat (some (port, p.qclass, p.sub, p.copy, p.translated || !p.rewrites.isEmpty))
      let (as, s3) := runLookups mv (if p.arriving then 0 else len) tables s2
      let s4 := s3.egressResult v port p (mergeActions as) by_ bad
      if p.arriving then s4.countAtEnd s3 p.id (s2.countKeys mv tables) else s4
    else
      let frame := rewritten v p p.rule.setDscp
      let s2 := s1.pace port (frame.length + 4)
      if bad then s2.countDiscard p else s2.toRecirc (port = 33) (p.sentAs frame)

/-- R302: a port's scheduler chooses a packet, and it passes the egress path. -/
def execPacketDequeue (port : Nat) (hurt : Upsets) (s : State) : Host.Outcome State Fault Refusal :=
  if !isBufPort port || !s.portFree port then .next s
  else match s.schedule port with
    | some (by_, e, s1) =>
      let s2 := hurt.store.foldl (fun s i => s.storeFault i .pipeline) s1
      done s (s2.egress port e by_ hurt).notePeak
    | none => .next s

/-! Reception (R80-R82, R296, R508). -/

def State.maxFrame (s : State) (p : Nat) : Nat := if p < 24 then (s.portCfg p).maxFrame else 9600
/-- A port of FEC NONE has no codewords. -/
def State.hasFec (s : State) (p : Nat) : Bool := decide (24 ≤ p) || (s.portCfg p).fec != 0

/-- The counter of the first condition of R80 and R82 that discards a frame, under the MAX_FRAME of its first byte (R85). -/
def State.rxError (s : State) (p maxFrame : Nat) (f : FrameIn) : Option Nat :=
  let len := f.bytes.length + 4
  if !f.whole then some 7
  else if s.hasFec p && f.uncorrected != 0 then some 6
  else if len < 64 then some 3
  else if maxFrame < len then some 4
  else if !f.fcsOk then some 2
  else if fieldBe f.bytes 12 2 = 0x8808 then some 5
  else none

/-- What a frame counts when its end arrives, good or bad: FEC codewords, and the port's window. -/
def State.rxLine (s : State) (p : Nat) (f : FrameIn) : State :=
  let s1 := s.windowAdd p false (f.bytes.length + 4)
  if s.hasFec p then (s1.portCount p 8 f.corrected).portCount p 9 f.uncorrected else s1

def State.rxGood (s : State) (p : Nat) (f : FrameIn) : State := (s.portCount p 0).portCount p 1 (f.bytes.length + 4)

/-- Pass a frame to its pipeline: it takes cells and a place in the admission queue. -/
def State.passOn (s : State) (port : Nat) (bytes : Bytes) (arriving : Bool) : State :=
  let pipe := portPipe port
  let (stamp, s1) := s.rxStamp port
  let p : Pkt := { Pkt.blank with id := s.buf.nextId, bytes := bytes, len := bytes.length + 4, inPort := port, pipe := pipe, ingress := stamp, arrived := s.rxPlane port s.time.residence64,
                                  arriving := arriving }
  let s2 := { s1 with buf := { s1.buf with nextId := s1.buf.nextId + 1 } }
  match s2.chargeIngress pipe p.cells with
  | none => s2.bufCount BufCounter.ingressNoCell
  | some s3 =>
    if 4096 ≤ (s3.laneQ pipe).length then
      let s4 := s3.dropIngress pipe p.cells
      { s4 with power := if pipe then { s4.power with overflow1 := s4.power.overflow1 + 1 } else { s4.power with overflow0 := s4.power.overflow0 + 1 } }
    else s3.setLaneQ pipe (s3.laneQ pipe ++ [p])

/-- A peer-delay message that the engine of its port consumes (R381). -/
def State.pdelayAt (s : State) (port : Nat) (bytes : Bytes) : Option (Nat × PtpAt) := if s.runsPdelay port then pdelayIn bytes else none

/-- A frame that starts to arrive on a cut-through port is passed on before its end (R81); what the MAC knows it will discard is not. -/
def State.beginFrame (s : State) (port : Nat) (f : FrameIn) : State :=
  let hold := fieldBe f.bytes 12 2 = 0x8808 || s.maxFrame port < f.bytes.length + 4 || (s.pdelayAt port f.bytes).isSome
  let a : Arriving :=
    { id := s.buf.nextId, port := port, got := f.bytes.length, passed := !hold, maxFrame := s.maxFrame port, cut := false, claims := [] }
  let s1 := { s with buf := { s.buf with arriving := s.buf.arriving ++ [a] } }
  if hold then { s1 with buf := { s1.buf with nextId := s1.buf.nextId + 1 } } else s1.passOn port f.bytes true

/-- What a port in loopback receives (R101): in PMA_NEAR and PCS_NEAR the oldest frame it sent, with what the SerDes did to it, and nothing
of its partner; in PMA_FAR its partner's frame, which goes back to the partner. -/
def State.throughLoop (s : State) (port : Nat) (f : FrameIn) : Option (FrameIn × State) :=
  match (s.port port).loopback with
  | 0 => some (f, s)
  | 3 => some (f, if f.ended then s.send (.frame port f.bytes (!f.fcsOk)) else s)
  | _ => (s.buf.looped.find? fun x => x.1 == port).map fun x =>
      ({ f with bytes := x.2.1, fcsOk := f.fcsOk && !x.2.2, ended := true },
       { s with buf := { s.buf with looped := s.buf.looped.eraseP fun x => x.1 == port } })

/-- A whole frame at the MAC of a port. -/
def State.receive (s : State) (port : Nat) (f : FrameIn) : State :=
  let s1 := s.rxLine port f
  match s1.rxError port (s1.maxFrame port) f with
  | some k => s1.portCount port k
  | none =>
    match s1.pdelayAt port f.bytes with
    | some (t, m) => s1.consumePdelay port t f.bytes m
    | none => (s1.rxGood port f).passOn port f.bytes false

/-- R80: a MAC receives a frame. -/
def execLaneFrameReceive (port : Nat) (frame : FrameIn) (s : State) : Host.Outcome State Fault Refusal :=
  if !(decide (port < 26) && s.portUp port) then .next s
  else match s.throughLoop port frame with
    | none => .next s
    | some (f, s1) =>
      if f.ended then done s (s1.receive port f)
      else if decide (port < 24) && (s.portCfg port).cutThrough then done s (s1.beginFrame port f)
      else .next s

/-! The end of a cut-through frame (R81, R121, R298). -/

/-- The packet of the frame: still arriving under its number. -/
def Pkt.isArriving (p : Pkt) (id : Nat) : Bool := p.arriving && p.id == id

/-- Change a frame's packet wherever it lies in the pipelines. -/
def State.eachWaiting (s : State) (id : Nat) (f : Pkt → Pkt) : State :=
  let g (p : Pkt) : Pkt := if p.isArriving id then f p else p
  let h (x : Parked) : Parked := { x with pkt := g x.pkt }
  let w (t : Task) : Task := match t.work with | .setup p k => { t with work := .setup (g p) k } | _ => t
  { s with
      buf := { s.buf with lane0 := s.buf.lane0.map g, lane1 := s.buf.lane1.map g,
                          reinject0 := s.buf.reinject0.map (fun x => (g x.1, x.2)), reinject1 := s.buf.reinject1.map (fun x => (g x.1, x.2)) },
      flow := { s.flow with held0 := s.flow.held0.map h, held1 := s.flow.held1.map h },
      miners := { s.miners with tasks := tmap s.miners.tasks fun _ t => w t } }

/-- A frame found bad, or without a cell: its packet and every copy are discarded, and one whose transmission has begun is aborted. -/
def State.loseFrame (s : State) (id : Nat) : State :=
  let keep (p : Pkt) : Bool := !p.isArriving id
  let s1 := (s.waitingPkts.filter fun p => !keep p).foldl State.discard s
  let keys := (s.parked.filter fun x => !keep x.pkt).map (·.key)
  let s2 := { s1 with
    buf := { s1.buf with lane0 := s1.buf.lane0.filter keep, lane1 := s1.buf.lane1.filter keep,
                         reinject0 := s1.buf.reinject0.filter (keep ·.1), reinject1 := s1.buf.reinject1.filter (keep ·.1),
                         queues := tmap s1.buf.queues (fun _ q => { q with items := q.items.filter fun e => keep e.pkt }),
                         sending := s1.buf.sending.filter fun x => keep x.pkt },
    flow := { s1.flow with held0 := s1.flow.held0.filter (fun x => keep x.pkt), held1 := s1.flow.held1.filter (fun x => keep x.pkt) } }
  let s3 := (keys.foldl State.unhold s2).panicLevel
  (s.buf.sending.filter fun x => !keep x.pkt).foldl (fun s x =>
    (s.addOctets x.counts x.sent).abortFrame x.lane (rewrittenBy x.hop x.pkt x.pkt.rule.setDscp) x.began) s3

/-- A queued entry of the frame is whole: a mirror copy stays cut, and the cells it did not use are returned (R298). -/
def State.wholeEntry (s : State) (q : Nat) (tail : Bytes) (e : Queued) : Queued :=
  let all := e.pkt.bytes ++ tail
  let cut := match e.pkt.session.bind (s.version e.pkt.stamp).session with | some r => truncated all (fieldLe r 6 2) | none => all
  let p : Pkt := { e.pkt with arriving := false, bytes := if isRingQueue q then all else cut }
  { e with pkt := p, len := p.frameLen, cells := p.cells }

/-- The rest of a cut-through frame is charged as its beginning was: to the member, to the DRR class and to the node (R302, R305). -/
def State.chargeRest (s : State) (x : Sending) (more : Nat) : State :=
  let q := s.queue x.queue
  let s1 := s.setQueue x.queue { q with deficit := q.deficit - more }
  let y := s1.schedLive x.port
  let s2 := match x.cls with
    | some c => s1.setSched x.port { y with deficits := alter y.deficits c fun d => d - (more : Int) }
    | none => s1
  if !isNodeQueue x.queue then s2
  else
    let n := (x.queue - 1024) / 4
    match s2.nodeNow n with
    | some r => { s2 with buf := { s2.buf with buckets := tset s2.buf.buckets n (s2.bucketUnder r n - (more * 65536 : Nat), s2.now) } }
    | none => s2

/-- A frame whose transmission had begun ends: it is counted, charged and paced by its whole length, and rewritten as it began (R309). -/
def State.endSending (s : State) (tail : Bytes) (x : Sending) : State :=
  let p : Pkt := { x.pkt with arriving := false, bytes := x.pkt.bytes ++ tail }
  let frame := rewrittenBy x.hop p p.rule.setDscp
  let s1 := (s.addOctets x.counts (frame.length + 4)).chargeRest x (frame.length + 4 - x.sent)
  let s2 := if s1.holdTime x.port (frame.length + 4 - x.sent) = 0 then s1 else
      s1.setSched x.port { s1.schedLive x.port with nextStart := (s1.schedLive x.port).nextStart + (s1.holdTime x.port (frame.length + 4) - s1.holdTime x.port x.sent) }
  let (f, s3) := s2.correctPtp x.ptp x.lane p frame x.tx
  s3.sentFrame x.lane f x.began

/-- The cells that the rest of a frame takes (R296): charged to its ingress account while it waits there; taken and freed again where its
transmission has begun and no queue holds cells for it; none more where a queue does (R298). -/
def State.restCells (s : State) (id : Nat) (tail : Bytes) : Option State :=
  let more (p : Pkt) : Nat := ({ p with bytes := p.bytes ++ tail } : Pkt).cells - p.cells
  match s.waitingPkts.find? (·.isArriving id) with
  | some p => s.chargeIngress p.pipe (more p)
  | none =>
    if s.buf.queues.any fun q => q.2.items.any fun e => e.pkt.isArriving id then some s
    else match s.buf.sending.find? fun x => x.pkt.isArriving id with
      | some x => (s.chargeIngress x.pkt.pipe (more x.pkt)).map fun s1 => s1.dropIngress x.pkt.pipe (more x.pkt)
      | none => some s

/-- The whole frame has arrived, and is good. -/
def State.wholeFrame (s : State) (id : Nat) (tail : Bytes) : State :=
  let grow (p : Pkt) : Pkt := { p with arriving := false, bytes := p.bytes ++ tail }
  match s.restCells id tail with
  | none => (s.bufCount BufCounter.ingressNoCell).loseFrame id
  | some s1 =>
    let s2 := s1.eachWaiting id grow
    let s3 := { s2 with buf := { s2.buf with
      queues := tmap s2.buf.queues (fun k q => { q with items := q.items.map fun e => if e.pkt.isArriving id then s.wholeEntry k tail e else e }),
      sending := s2.buf.sending.filter fun x => !x.pkt.isArriving id } }
    (s.buf.sending.filter fun x => x.pkt.isArriving id).foldl (fun s x => s.endSending tail x) s3

/-- A cut-through frame at its end. -/
def State.endFrame (s : State) (a : Arriving) (f : FrameIn) : State :=
  let s1 := s.rxLine a.port f
  match s1.rxError a.port a.maxFrame f with
  | some k => (s1.portCount a.port k).loseFrame a.id
  | none =>
    if a.passed then
      let (lost, s2) := (s1.rxGood a.port f).lateClaims (portPipe a.port) a.claims f.bytes.length
      if lost then s2.loseFrame a.id else s2.wholeFrame a.id (f.bytes.drop a.got)
    else match s1.pdelayAt a.port f.bytes with
      | some (t, m) => s1.consumePdelay a.port t f.bytes m
      | none => (s1.rxGood a.port f).passOn a.port f.bytes false

/-- R81: the end of a cut-through frame arrives. One whose port has gone down since is a partial frame (R80, R85); one on a port in PMA_FAR
goes back to the partner too (R101). -/
def execCutThroughFrameEnd (id : Nat) (frame : FrameIn) (s : State) : Host.Outcome State Fault Refusal :=
  match s.buf.arriving.find? (fun a => a.id == id) with
  | none => .next s
  | some a =>
    let s1 := { s with buf := { s.buf with arriving := s.buf.arriving.filter fun x => x.id != id } }.addOctets a.counts (frame.bytes.length + 4)
    if a.cut || !s.portUp a.port then done s ((s1.portCount a.port 7).loseFrame id)
    else
      let s2 := if (s.port a.port).loopback = 3 then s1.send (.frame a.port frame.bytes (!frame.fcsOk)) else s1
      done s (s2.endFrame a frame)

end Sys2Proof.Machine
end

