-- ==== Sys2Proof/Machine/Telemetry.lean ====
section
/-!
DEFINITION. Telemetry: the records and templates, the two export paths, counter dumps, bandwidth windows and the commands (spec 14).
-/
namespace Sys2Proof.Machine

/-! Templates (Tables 14.1-14.5). -/

/-- An information element: its number, whether it is the enterprise's own, and its length. -/
abbrev Element := Nat × Bool × Nat

def iana (l : List (Nat × Nat)) : List Element := l.map fun e => (e.1, false, e.2)
def clw (l : List (Nat × Nat)) : List Element := l.map fun e => (e.1, true, e.2)

def templateFields : Nat → List Element
  | 256 => iana [(152, 8), (153, 8), (27, 16), (28, 16), (7, 2), (11, 2), (4, 1), (136, 1), (6, 2), (86, 8), (85, 8), (225, 4), (227, 2)] ++
      clw [(5, 2), (6, 1), (3, 1), (8, 1), (2, 1), (1, 4), (9, 4), (7, 4), (10, 1), (4, 2)]
  | 257 => iana [(323, 8), (152, 8), (27, 16), (28, 16), (7, 2), (11, 2), (4, 1), (6, 2), (86, 8), (85, 8), (225, 4), (227, 2)] ++
      clw [(5, 2), (6, 1), (2, 1), (1, 4), (7, 4), (10, 1)]
  | 258 => iana [(323, 8), (230, 1), (8, 4), (225, 4), (361, 2), (362, 2), (363, 2), (364, 2)] ++ clw [(5, 2), (1, 4), (11, 1), (12, 4), (13, 1)]
  | _ => iana [(152, 8), (153, 8)] ++ clw [(1, 4), (5, 2)] ++ iana [(8, 4), (170, 16), (29, 1)] ++ clw [(23, 2)] ++
      clw ((List.range 4).flatMap fun _ => [(14, 8), (15, 8)]) ++ clw ((List.range 4).flatMap fun _ => [(16, 8), (17, 8)]) ++
      clw [(18, 4), (19, 4), (20, 4), (21, 4), (22, 1)]

/-- A template record. -/
def templateRecord (t : Nat) : Bytes :=
  be 2 t ++ be 2 (templateFields t).length ++ (templateFields t).flatMap fun e =>
    be 2 (e.1 + if e.2.1 then 0x8000 else 0) ++ be 2 e.2.2 ++ (if e.2.1 then be 4 Config.enterprise.toNat else [])

/-! Records of flows (R397-R400). -/

/-- What an action entry says of a flow: its public address and port, and its subscriber. -/
def State.flowFacts (s : State) (action : Nat) (key : Bytes) : (Bytes × Bytes × Nat) × State :=
  if action = 0xFFFFFF || s.regionSize 1 ≤ action then ((zeros 4, zeros 2, 0xFFFFFFFF), s)
  else
    let (e, s1) := s.entryRead s.cur action .miner
    match e with
    | none => ((zeros 4, zeros 2, 0xFFFFFFFF), s1)
    | some b =>
      let (a, p) := if isBinding b then bindPublic b else (zeros 4, zeros 2)
      ((a, p, (subscriberOf s.cur b key).getD 0xFFFFFFFF), s1)

/-- tcpControlBits from the flags seen (Table 6.6). -/
def tcpControl (tcp : Byte) : Nat :=
  (if tcp.getLsbD 3 || tcp.getLsbD 2 then 1 else 0) + (if tcp.getLsbD 1 || tcp.getLsbD 0 then 2 else 0) + (if tcp.getLsbD 4 then 4 else 0)

/-- flowEndReason of a departure (R397). -/
def endReason (reason : Nat) (tcp : Byte) : Nat :=
  if reason = 1 then (if tcp.toNat / 32 = 4 then 3 else 1)
  else if reason = 2 || reason = 0x11 || reason = 0x12 then 4 else 5

/-- Addresses, ports and protocol of a key. -/
def keyFields (key : Bytes) : Bytes := slice key 0 37

/-- A record of template 256 (Table 14.2). -/
def State.flowEndRecord (s : State) (key : Bytes) (action packets octets last first : Nat) (tcp control : Byte) (w home reason flags : Nat)
    (epoch : W16) : Bytes × State :=
  let ((addr, port, sub), s1) := s.flowFacts action key
  (be 8 (s.timeMs first) ++ be 8 (s.timeMs last) ++ keyFields key ++ be 1 (endReason reason tcp) ++ be 2 (tcpControl tcp) ++ be 8 packets ++
    be 8 octets ++ addr ++ port ++ be 2 (fieldBe key 38 2) ++ slice key 37 1 ++ be 1 reason ++ be 1 flags ++ be 1 w ++ be 4 sub ++ be 4 action ++
    be 4 home ++ be 1 (ctlClass control) ++ be 2 epoch.toNat, s1)

/-- A record of template 257 (Table 14.3). -/
def State.sampleRecord (s : State) (key : Bytes) (action packets octets first : Nat) (tcp control : Byte) (w home time : Nat) : Bytes × State :=
  let ((addr, port, sub), s1) := s.flowFacts action key
  (be 8 (s.timeMs time) ++ be 8 (s.timeMs first) ++ keyFields key ++ be 2 (tcpControl tcp) ++ be 8 packets ++ be 8 octets ++ addr ++ port ++
    be 2 (fieldBe key 38 2) ++ slice key 37 1 ++ be 1 w ++ be 4 sub ++ be 4 home ++ be 1 (ctlClass control), s1)

/-- Totals of a counter tile in the record's order: packets and bytes of four classes. -/
def tileTotals (t : Bytes) : Bytes := (List.range 4).flatMap fun c => be 8 (fieldLe t (14 * c) 6) ++ be 8 (fieldLe t (14 * c + 6) 8)

/-- A record of template 259 (Table 14.5) of a subscriber whose tile 0 is given. -/
def State.intervalRecord (s : State) (sub : Nat) (t : Bytes) : Bytes × State :=
  let (up, down, s1) := s.mergedCounts sub .miner
  let (one, s2) := s1.readTile1 s1.cur sub .miner
  let v4 := bitAt t 0 0
  let v6 := bitAt t 0 1
  let (stateless, limited) := (tget? s.telem.subInterval sub).getD (0, 0)
  let start := (tget? s.telem.subStart sub).getD s.flowNow
  (be 8 (s.timeMs start) ++ be 8 (s.timeMs s.flowNow) ++ be 4 sub ++ be 2 (fieldLe t 2 2) ++ (if v4 then slice t 4 4 else zeros 4) ++
    (if v6 then slice t 8 8 ++ zeros 8 else zeros 16) ++ be 1 (if v6 then s.cur.nat.v6Len else 0) ++ be 2 (fieldLe t 16 2) ++
    tileTotals up ++ tileTotals down ++ be 4 (fieldLe up 56 4) ++ be 4 (fieldLe down 56 4) ++ be 4 stateless ++ be 4 limited ++ be 1 (descsOf one).length,
   { s2 with telem := { s2.telem with subStart := tset s2.telem.subStart sub s.flowNow, subInterval := tdel s2.telem.subInterval sub } })

/-! Messages (R403-R406). -/

def State.path (s : State) (ring : Bool) : Path := if ring then s.telem.ringPath else s.telem.collectorPath
def State.setPath (s : State) (ring : Bool) (x : Path) : State :=
  { s with telem := if ring then { s.telem with ringPath := x } else { s.telem with collectorPath := x } }

def State.collectorOn (s : State) : Bool := bitAt s.telem.collector 2 0
def State.maxMsg (s : State) : Nat := fieldLe s.telem.collector 46 2
def State.flushNs (s : State) : Nat := fieldLe s.telem.collector 56 4 * 1000

/-- R407: the observation domain, one more on a secondary. -/
def State.obsDomain (s : State) : Nat := fieldLe s.telem.collector 48 4 + (if s.pair.role == .secondary then 1 else 0)

/-- An IPFIX message of one set (R403). -/
def State.ipfix (s : State) (ring : Bool) (set_ : Nat) (body : Bytes) : Bytes :=
  be 2 10 ++ be 2 (20 + body.length) ++ be 4 (unsigned 32 ((s.time.sec.toNat : Int) - s.utcOffset)) ++ be 4 (s.path ring).sequence.toNat ++
    be 4 s.obsDomain ++ be 2 set_ ++ be 2 (4 + body.length) ++ body

/-- The IP datagram that carries a message to the collector (R405). -/
def State.datagram (s : State) (msg : Bytes) : Bytes :=
  let c := s.telem.collector
  let len := 8 + msg.length
  let head := be 2 (fieldLe c 40 2) ++ be 2 (fieldLe c 42 2) ++ be 2 len
  let udp (pseudo : Bytes) : Bytes :=
    let k := checksum16 (pseudo ++ head ++ zeros 2 ++ msg)
    head ++ be 2 (if k = 0 then 0xFFFF else k) ++ msg
  if byteAt c 1 = 6 then
    let src := slice c 8 16
    let dst := slice c 24 16
    be 4 (0x60000000 + byteAt c 44 * 2 ^ 22) ++ be 2 len ++ [17, 64] ++ src ++ dst ++ udp (src ++ dst ++ be 4 len ++ zeros 3 ++ [17])
  else
    let src := slice c 8 4
    let dst := slice c 24 4
    let a := [0x45] ++ be 1 (byteAt c 44 * 4) ++ be 2 (20 + len) ++ be 2 s.telem.ipId.toNat ++ [0x40, 0, 64, 17]
    a ++ be 2 (checksum16 (a ++ zeros 2 ++ src ++ dst)) ++ src ++ dst ++ udp (src ++ dst ++ [0, 17] ++ be 2 len)

/-- R405: a message enters the class queue of the collector's next hop, if its three conditions hold. -/
def State.toCollector (s : State) (msg : Bytes) : Option State :=
  (s.nexthop s.cur (fieldLe s.telem.collector 4 4)).bind fun r =>
    let port := hopPort r
    let cls := byteAt s.telem.collector 3 % 8
    let ip := s.datagram msg
    let head := encapsulation r (isV6 ip 0) ip.length
    let p : Pkt := { Pkt.blank with id := s.buf.nextId, bytes := head ++ ip, len := head.length + ip.length + 4, inPort := 0xFF, pipe := portPipe port,
                                    stamp := s.epoch.current, admitted := s.now, qclass := cls, l3 := (some head.length, none), outer := some head.length,
                                    ingress := s.time.residence64 }
    let q := classQueue port cls
    if hopKind r = 1 && s.portUp (s.laneFor port) && s.portOn port && s.descriptors < 262144 && s.admits q (s.cur.queueCfg q) p.cells then
      let s1 := (s.enqueue q (s.entryFor p none p.cells)).notePeak
      some { s1 with buf := { s1.buf with nextId := s1.buf.nextId + 1 },
                     telem := { s1.telem with ipId := if byteAt s.telem.collector 1 = 6 then s1.telem.ipId else s1.telem.ipId + 1 } }
    else none

/-- R406: a message becomes the telemetry ring's next record, if the ring takes one; its channel writes it in its turn (R436). -/
def State.toTelemRing (s : State) (msg : Bytes) : Option State :=
  if s.ringTakes 8 && msg.length + 32 ≤ s.telem.ring.slotBytes then
    some (s.takeSlot 8 ([0, 3, 0, 0] ++ le 2 msg.length ++ zeros 2 ++ le 2 s.epoch.current.toNat ++ zeros 10 ++ le 4 (s.time.sec.toNat % 2 ^ 32) ++
      le 4 s.time.ns ++ zeros 4 ++ msg))
  else none

def State.sendMessage (s : State) (ring : Bool) (msg : Bytes) : Option State :=
  if ring then s.toTelemRing msg else (s.toCollector msg).map fun s1 => s1.telemCount TelemCount.messagesCollector

/-- The path carries a template's records. -/
def State.carries (s : State) (ring : Bool) (t : Nat) : Bool := if ring then (s.destOf t).1 else (s.destOf t).2

def Record.taken (r : Record) (ring : Bool) : Bool := if ring then r.onRing else r.onCollector

/-- The records of a template that a path has yet to take, oldest first. -/
def State.awaiting (s : State) (ring : Bool) (t : Nat) : List Record := s.telem.staging.filter fun r => r.template == t && !r.taken ring

/-- Records of a template that one message holds (R403). -/
def State.perMessage (s : State) (t : Nat) : Nat := (s.maxMsg - 20) / templateBytes t

/-- A path's message of a template is due: the next record would take it past MAX_MSG, or its oldest has waited FLUSH (R403). -/
def State.messageDue (s : State) (ring : Bool) (t : Nat) : Bool :=
  let l := s.awaiting ring t
  s.carries ring t && (decide (s.perMessage t < l.length) || (match l with | r :: _ => decide (r.staged + s.flushNs ≤ s.now) | [] => false))

/-- The template whose message is due, the one of the oldest record first. -/
def State.dueTemplate (s : State) (ring : Bool) : Option Nat :=
  if !ring && !s.collectorOn then none
  else (s.telem.staging.find? fun r => !r.taken ring && s.messageDue ring r.template).map (·.template)

/-- A record has somewhere to go, or waits for a destination (R392, R394). -/
def State.wanted (s : State) (r : Record) : Bool :=
  if s.hasDest r.template then (s.carries true r.template && !r.onRing) || (s.carries false r.template && !r.onCollector)
  else r.template == 258 && !r.onRing && !r.onCollector

/-- Records that every destination has taken leave staging. -/
def State.settleStaging (s : State) : State := { s with telem := { s.telem with staging := s.telem.staging.filter s.wanted } }

/-- Mark the first `n` records of a template as taken by a path. -/
def takeRecords (ring : Bool) (t : Nat) : Nat → List Record → List Record
  | _, [] => []
  | 0, l => l
  | n + 1, r :: rs =>
    if r.template = t && !r.taken ring then (if ring then { r with onRing := true } else { r with onCollector := true }) :: takeRecords ring t n rs
    else r :: takeRecords ring t (n + 1) rs

/-- Send the template set of a template on a path (R404). -/
def State.sendTemplate (s : State) (ring : Bool) (t : Nat) : Option State :=
  (s.sendMessage ring (s.ipfix ring 2 (templateRecord t))).map fun s1 =>
    let x := s1.path ring
    (s1.setPath ring { x with sentTemplates := x.sentTemplates ++ [t], known := x.known.filter (· != t) ++ [t] }).telemCount TelemCount.templateSets

/-- Send the data message of a template that is due. -/
def State.sendData (s : State) (ring : Bool) (t : Nat) : Option State :=
  let l := (s.awaiting ring t).take (s.perMessage t)
  (s.sendMessage ring (s.ipfix ring t (l.flatMap (·.bytes)))).map fun s1 =>
    let x := s1.path ring
    let s2 := s1.setPath ring { x with sequence := x.sequence + BitVec.ofNat 32 l.length }
    State.settleStaging { s2 with telem := { s2.telem with staging := takeRecords ring t l.length s2.telem.staging } }

/-- Withdraw a template on the ring path (R404). -/
def State.sendWithdrawal (s : State) (ring : Bool) (t : Nat) : Option State :=
  (s.sendMessage ring (s.ipfix ring 2 (be 2 t ++ zeros 2))).map fun s1 =>
    let x := s1.path ring
    (s1.setPath ring { x with withdraw := x.withdraw.filter (· != t), known := x.known.filter (· != t) }).telemCount TelemCount.templateSets

/-- A path holds: its templates go again when it resumes, and a failed try to the collector is counted (R404, R405). -/
def State.holdPath (s : State) (ring : Bool) : State :=
  let s1 := s.setPath ring { s.path ring with held := true, lastTry := s.now, sentTemplates := [] }
  if ring then s1 else s1.telemCount TelemCount.retries

/-- Send what is due on a path, until nothing is, the path must hold, or the ring has a record in progress. -/
def State.sendDue (ring : Bool) : Nat → State → State
  | 0, s => s
  | fuel + 1, s =>
    let free (s : State) : State := s.setPath ring { s.path ring with held := false }
    let go (r : Option State) : State := match r with | some s1 => State.sendDue ring fuel s1 | none => s.holdPath ring
    if ring && s.telem.ring.slot.isSome then s
    else match (s.path ring).withdraw, s.dueTemplate ring with
    | t :: _, _ => go (s.sendWithdrawal ring t)
    | [], none => free s
    | [], some t => if (s.path ring).sentTemplates.contains t then go (s.sendData ring t) else go (s.sendTemplate ring t)

def State.sendFuel (s : State) : Nat := 2 * s.telem.staging.length + 8

/-- Both paths send what is due; a collector path that holds waits for its retry. -/
def State.sendAll (s : State) : State :=
  let s1 := State.sendDue true s.sendFuel s
  if s1.telem.collectorPath.held then s1 else State.sendDue false s1.sendFuel s1

/-- R403: a message's oldest record has waited FLUSH. -/
def execTelemFlushExpire (ringPath : Bool) (s : State) : Host.Outcome State Fault Refusal :=
  if ((s.dueTemplate ringPath).isSome || !(s.path ringPath).withdraw.isEmpty) && (ringPath || !s.telem.collectorPath.held) then done s (State.sendDue ringPath s.sendFuel s) else .next s

/-- R405: a held collector path tries again after 1 us. -/
def execCollectorRetry (s : State) : Host.Outcome State Fault Refusal :=
  if s.telem.collectorPath.held && decide (s.telem.collectorPath.lastTry + 1000 ≤ s.now) then done s (State.sendDue false s.sendFuel s) else .next s

/-- R404: template sets go again on the collector path. -/
def execTemplateIntervalExpire (s : State) : Host.Outcome State Fault Refusal :=
  let x := s.telem.collectorPath
  if !(s.booted && s.collectorOn && decide (x.lastTemplates + fieldLe s.telem.collector 52 2 * 1000000000 ≤ s.now)) then .next s
  else
    let s1 := s.setPath false { x with lastTemplates := s.now }
    if x.held then done s s1
    else
      let send (a : Option State) (t : Nat) : Option State := a.bind fun s => s.sendTemplate false t
      match ([256, 257, 258, 259].filter (s.carries false)).foldl send (some (s1.setPath false { x with lastTemplates := s.now, sentTemplates := [] })) with
      | some s2 => done s s2
      | none => done s (s1.holdPath false)

/-! Assembly (R393, R394, R397, R400, R402). -/

/-- The record a request asks for; none of a subscriber that is no longer defined. -/
def State.assemble (s : State) : Assembly → Option (Nat × Bytes) × State
  | .flowEnd key action packets octets last first tcp control w home reason flags epoch =>
    let (b, s1) := s.flowEndRecord key action packets octets last first tcp control w home reason flags epoch
    (some (256, b), s1)
  | .sample key action packets octets first tcp control w home time =>
    let (b, s1) := s.sampleRecord key action packets octets first tcp control w home time
    (some (257, b), s1)
  | .interval sub =>
    let s0 := s.meetSub s.cur sub .miner
    match s.subRecord s.cur sub with
    | none => (none, s0)
    | some t =>
      let (b, s1) := s0.intervalRecord sub t
      (some (259, b), s1)

/-- R397: a TELEMETRY task assembles the oldest request; assembly holds while a clearing runs (R363). -/
def execTelemetryAssemble (s : State) : Host.Outcome State Fault Refusal :=
  if s.refreshing || !(s.serves TaskType.telemetry && s.life.clearing == .none) then .next s
  else match s.telem.assembly with
  | [] => .next s
  | a :: rest =>
    let s1 := { s with telem := { s.telem with assembly := rest } }
    match s1.assemble a with
    | (none, s2) => done s s2
    | (some (t, b), s2) =>
      if !s2.hasDest t then done s (s2.telemCount (if t = 256 then TelemCount.unexported256 else if t = 257 then TelemCount.unexported257 else TelemCount.unexported259))
      else if t != 256 && s2.lossyFull then done s (s2.telemCount (if t = 257 then TelemCount.dropped257 else TelemCount.dropped259))
      else done s (s2.stageRecord t b).sendAll

/-- The oldest tailings record read back from its two tiles with assay, and the queue without it (R17, R225). A record one of whose tiles
fails assay is absent (R18; DEDUCED). -/
def State.takeTailing (s : State) : Option Tailing × State :=
  let k := s.flow.tailHead % 32768
  let s1 := { s with flow := { s.flow with tailings := s.flow.tailings.drop 1, tailHead := (k + 1) % 32768 } }
  match s1.readTile (s.regionTile 3 (2 * k)) .miner with
  | (a, s2) => match s2.readTile (s.regionTile 3 (2 * k + 1)) .miner with
    | (b, s3) => match a, b with
      | some x, some y => (some ⟨x, y⟩, s3)
      | _, _ => (none, s3)

/-- R397: the TAILINGS task takes a tailings record, unless it must wait for staging. -/
def execTailingsDrain (s : State) : Host.Outcome State Fault Refusal :=
  if s.refreshing || !s.serves TaskType.tailings || s.flow.tailings.isEmpty || (s.hasDest 256 && !s.stagingRoom 256) then .next s
  else match s.takeTailing with
    | (none, s1) => done s s1
    | (some x, s1) =>
      if !s.hasDest 256 then done s (s1.telemCount TelemCount.unexported256)
      else
        let p := x.flow
        let now := fieldLe x.info 8 8
        let (b, s2) := s1.flowEndRecord (tileKey p) (tileAction p) (tilePackets p) (tileOctets p) (tileLast p now) (tileFirst p now) (tileTcp p)
          (tileControl p) (tileW p) (fieldLe x.info 4 4) (byteAt x.info 0) (byteAt x.info 1 % 4 + 8 + if tileSaturated p then 4 else 0) (BitVec.ofNat 16 (fieldLe x.info 16 2))
        done s (s2.stageRecord 256 b).sendAll

/-- Subscribers defined in the current version, ascending. -/
def State.definedSubs (s : State) : List Nat := (s.cur.nat.subs.filter fun e => bitAt e.2 0 7).map (·.1)

/-- The next subscriber of the interval, the instant its record falls, and the start of its interval: evenly paced over the interval (R402). -/
def State.nextInterval (s : State) : Option (Nat × Nat × Nat) :=
  let l := s.definedSubs
  let len := s.telem.interval * 1000000000
  match l.findIdx? (s.telem.nextSub ≤ ·), l with
  | some i, _ => (l[i]?).map fun n => (n, s.telem.intervalStart + len * i / l.length, s.telem.intervalStart)
  | none, n :: _ => some (n, s.telem.intervalStart + len, s.telem.intervalStart + len)
  | none, [] => none

/-- R402: the record of the next subscriber of the interval is asked for. -/
def execSubIntervalRecord (s : State) : Host.Outcome State Fault Refusal :=
  match s.nextInterval with
  | some (n, at_, start) =>
    if s.telem.interval = 0 || s.now < at_ then .next s
    else
      let s1 := { s with telem := { s.telem with nextSub := n + 1, intervalStart := start } }
      if !s1.hasDest 259 then done s (s1.telemCount TelemCount.unexported259)
      else if s1.lossyFull then done s (s1.telemCount TelemCount.dropped259)
      else done s { s1 with telem := { s1.telem with assembly := s1.telem.assembly ++ [.interval n] } }
  | none => .next s

/-- R402: a subscriber first defined by a commit starts its record there; so does the round of records, if there was no subscriber before it. -/
def State.applyIntervals (old s : State) : State :=
  let fresh := s.definedSubs.filter fun n => !old.definedSubs.contains n
  let first := old.definedSubs.isEmpty
  { s with telem := { s.telem with
      nextSub := if first then 0 else s.telem.nextSub, intervalStart := if first then s.now else s.telem.intervalStart,
      subStart := fresh.foldl (fun t n => tset t n s.flowNow) (s.telem.subStart.filter fun e => s.definedSubs.contains e.1),
      subInterval := s.telem.subInterval.filter fun e => s.definedSubs.contains e.1 && !fresh.contains e.1 } }

/-! Bandwidth windows (R411). -/

def State.window (s : State) (p : Nat) : BwWindow := s.telem.windows.getD p BwWindow.reset
/-- A port's window as a read or a dump latches it. -/
def State.windowRead (s : State) (p : Nat) : BwWindow := s.windowNow p (s.window p)
def State.setWindow (s : State) (p : Nat) (w : BwWindow) : State := { s with telem := { s.telem with windows := s.telem.windows.set p w } }

/-- R411: a port's window ends. -/
def execBwwinEnd (port : Nat) (s : State) : Host.Outcome State Fault Refusal :=
  if 26 ≤ port || s.flowNow < (s.window port).endedAt + windowNs (s.window port).k || !s.booted then .next s
  else done s (s.onWindow port id)

/-! Counter dumps (R412). -/

def State.perf (s : State) (i : Nat) : PerfCounter := (tget? s.telem.perf i).getD PerfCounter.reset

/-- A dump slot (Table 14.7), PHASE aside. -/
def State.dumpSlot (s : State) : Bytes :=
  let bw := s.telem.dumpBw
  le 1 bw.toNat ++ [0] ++ le 2 256 ++ le 4 s.telem.dumpSeq.toNat ++ le 8 s.flowNow ++ le 8 s.time.sec.toNat ++ le 4 s.time.ns ++
    le 2 s.epoch.current.toNat ++ zeros 2 ++ le 8 s.power.coreCycles.toNat ++ le 4 (satur 32 s.telem.dumpSkipped) ++ zeros 20 ++
    ((List.range 256).flatMap fun i => le 6 (s.perf i).value.toNat ++ le 1 (flagByte [(s.perf i).ovf, (s.perf i).lostOvf]) ++ [0]) ++
    (if bw then (List.range 26).flatMap fun p => le 8 (s.windowRead p).rxLast ++ le 8 (s.windowRead p).txLast else zeros 416)

/-- R412: a dump is due. One that finds the ring full, or the one before it still unwritten, is skipped, its sequence number used; else it is
latched, and its channel writes it in its turn (R319, R426, R436). -/
def execCounterDump (s : State) : Host.Outcome State Fault Refusal :=
  let t := s.telem
  if !(t.dumpRing.enabled && t.dumpPeriod != 0 && decide (t.dumpNext ≤ s.flowNow)) then .next s
  else
    let s1 := if t.dumpRing.full || t.dumpRing.slot.isSome then { s with telem := { t with dumpSkipped := t.dumpSkipped + 1 } }
      else s.takeSlot 9 s.dumpSlot
    done s { s1 with telem := { s1.telem with dumpSeq := s1.telem.dumpSeq + 1, dumpNext := t.dumpNext + t.dumpPeriod * 1000000 } }

/-! Commands (R413, R414). -/

/-- What a SET of the collector is refused for: a field out of range, an encoding, a next hop that is not defined (R414), or the telemetry
ring's slots (Table 14.8). -/
def collectorFault (m : Msg) (s : State) : Option (Nat × Nat) :=
  if m.p 1 != 4 && m.p 1 != 6 then some (Status.badParam, 17)
  else if 1 < m.p 2 then some (Status.badParam, 18)
  else if 7 < m.p 3 then some (Status.range, 19)
  else if 65535 < m.f 4 4 then some (Status.range, 20)
  else if (s.nexthop s.cur (m.f 4 4)).isNone then some (Status.badParam, 20)
  else if 63 < m.p 44 then some (Status.badParam, 60)
  else if m.p 45 != 0 then some (Status.badParam, 61)
  else if m.f 46 2 < 512 || 8960 < m.f 46 2 then some (Status.range, 62)
  else if m.f 52 2 = 0 || 3600 < m.f 52 2 then some (Status.range, 68)
  else if m.f 56 4 < 10 || 100000 < m.f 56 4 then some (Status.range, 72)
  else match firstNonZeroAt m.params (span 60 63) with
    | some i => some (Status.badParam, 16 + i)
    | none => if s.telem.ring.enabled && s.telem.ring.slotBytes < m.f 46 2 + 32 then some (Status.badParam, 46) else none

def bodyTelemCollectorSet (m : Msg) (s : State) : Done :=
  if 1 < m.p 0 then badParam s 0
  else if m.p 0 = 0 then needZero s m (span 1 63) (ok s (splice s.telem.collector 0 [0]))
  else match collectorFault m s with
    | some (st, d) => refuse s st d
    | none =>
      let s1 := { s with telem := { s.telem with collector := splice (fit 64 m.params) 0 [0] } }
      ok s1 (splice s1.telem.collector 0 [1])

/-- R414: TELEM_COLLECTOR_SET. -/
def cmdTelemCollectorSet : Cmd :=
  { op := 0x0D01, legal := legalAll, len := lenIs 64, locks := fun m => m.p 0 == 1, changes := fun m => m.p 0 != 0,
    body := bodyTelemCollectorSet }
def execTelemCollectorSet (m : Msg) (s : State) : Host.Outcome State Fault Refusal := runCommand cmdTelemCollectorSet m s

/-- A template's destinations change: what reaches the ring path no longer is withdrawn there, at once if the ring takes it (R404). -/
def State.setDest (s : State) (t : Nat) (ring collector : Bool) : State :=
  let x := s.telem.ringPath
  let gone := (s.destOf t).1 && !ring && x.known.contains t && !x.withdraw.contains t
  let x1 := if gone then { x with sentTemplates := x.sentTemplates.filter (· != t), withdraw := x.withdraw ++ [t] } else x
  let none := !ring && !collector
  let kept := s.telem.staging.map fun r => if r.template = t then { r with held := r.held || none } else r
  let s1 := State.settleStaging { s with telem := { s.telem with
    dests := s.telem.dests.set (t - 256) (ring, collector), ringPath := x1, staging := kept } }
  if gone then State.sendDue true s1.sendFuel s1 else s1

def telemRingRecord (op : Nat) (x : HostRing) : Bytes :=
  [4] ++ le 1 op ++ le 1 x.channel ++ le 1 x.irq.toNat ++ le 1 x.j ++ le 1 x.k ++ le 2 x.holdoff ++ le 8 x.base ++ le 8 x.consumerAddr ++ zeros 16

def recTelemTemplate (s : State) (b : Bytes) (base : Nat) : RecAns :=
  let t := fieldLe b 2 2
  let (r, c) := s.destOf t
  if 1 < byteAt b 1 then .refuse Status.badParam (base + 1)
  else if t < 256 || 259 < t then .refuse Status.range (base + 2)
  else match byteAt b 1 with
    | 0 => recZero b base (span 4 39) (.ok s ([1, 0] ++ le 2 t ++ le 1 (flagByte [c, r]) ++ zeros 35))
    | 1 =>
      if 3 < byteAt b 4 then .refuse Status.badParam (base + 4)
      else recZero b base (span 5 39) (.ok (s.setDest t (bitAt b 4 1) (bitAt b 4 0)) [])
    | _ => .refuse Status.badParam (base + 1)

def recTelemSampling (s : State) (b : Bytes) (base : Nat) : RecAns :=
  let k := byteAt b 2
  let (rate, period) := s.telem.sampling.getD k (0, 56)
  if 1 < byteAt b 1 then .refuse Status.badParam (base + 1)
  else if 7 < k then .refuse Status.range (base + 2)
  else match byteAt b 1 with
    | 0 => recZero b base (span 3 39) (.ok s ([2, 0] ++ le 1 k ++ le 1 period ++ le 4 rate ++ zeros 32))
    | 1 =>
      if byteAt b 3 = 0 || 127 < byteAt b 3 then .refuse Status.range (base + 3)
      else if 65536 < fieldLe b 4 4 then .refuse Status.range (base + 4)
      else recZero b base (span 8 39)
        (.ok { s with telem := { s.telem with sampling := s.telem.sampling.set k (fieldLe b 4 4, byteAt b 3) } } [])
    | _ => .refuse Status.badParam (base + 1)

/-- A new SUB_INTERVAL starts every subscriber's record at the change, its interval counts at zero (R402). -/
def State.setInterval (s : State) (n : Nat) : State :=
  if n = s.telem.interval then s
  else { s with telem := { s.telem with
    interval := n, nextSub := 0, intervalStart := s.now, subStart := s.definedSubs.map fun k => (k, s.flowNow), subInterval := [], stateless := [] } }

def recTelemInterval (s : State) (b : Bytes) (base : Nat) : RecAns :=
  let n := fieldLe b 4 4
  match byteAt b 1 with
  | 0 => recZero b base (span 2 39) (.ok s ([3, 0, 0, 0] ++ le 4 s.telem.interval ++ zeros 32))
  | 1 => recZero b base [2, 3] (if n != 0 && (n < 10 || 3600 < n) then .refuse Status.range (base + 4) else
      recZero b base (span 8 39) (.ok (s.setInterval n) []))
  | _ => .refuse Status.badParam (base + 1)

def recTelemRing (m : Msg) (s : State) (b : Bytes) (base : Nat) : RecAns :=
  let x := s.telem.ring
  let set_ (y : HostRing) : State := { s with telem := { s.telem with ring := y } }
  match byteAt b 1 with
  | 0 => recZero b base (span 2 39) (.ok s (telemRingRecord 0 x))
  | 1 =>
    if s.channelBad m (byteAt b 2) then .refuse Status.badParam (base + 2)
    else if 1 < byteAt b 3 then .refuse Status.badParam (base + 3)
    else match firstFault [(decide (byteAt b 4 < 8 || 14 < byteAt b 4) || decide (2 ^ byteAt b 4 < s.maxMsg + 32), 4),
        (decide (byteAt b 5 < 6 || 16 < byteAt b 5), 5), (decide (1000 < fieldLe b 6 2), 6), (decide (fieldLe b 8 8 % 4096 != 0), 8),
        (decide (fieldLe b 16 8 % 4 != 0), 16)] with
      | some i => .refuse Status.range (base + i)
      | none => recZero b base (span 24 39) <|
        if x.enabled then .refuse Status.state s.life.state.code
        else .ok (set_ { x with channel := byteAt b 2, irq := byteAt b 3 == 1, j := byteAt b 4, k := byteAt b 5, holdoff := fieldLe b 6 2,
                                base := fieldLe b 8 8, consumerAddr := fieldLe b 16 8 }) []
  | 2 => recZero b base (span 2 39) (if x.slotBytes < s.maxMsg + 32 then .refuse Status.badParam (base + 1) else .ok (set_ x.start) [])
  | 3 => recZero b base (span 2 39) (.ok (set_ x.stop) [])
  | _ => .refuse Status.badParam (base + 1)

def recTelemEnable (m : Msg) (s : State) (b : Bytes) (base : Nat) : RecAns :=
  match byteAt b 0 with
  | 1 => recTelemTemplate s b base
  | 2 => recTelemSampling s b base
  | 3 => recTelemInterval s b base
  | 4 => recTelemRing m s b base
  | _ => .refuse Status.badParam base

/-- R414: TELEM_ENABLE; Table 14.8 gives it up to 102 records, so it accepts BATCH (R45, R46; DEDUCED, log 169: R413 names two others only). -/
def cmdTelemEnable : Cmd :=
  { op := 0x0D02, flags := flagsIn 4, legal := legalAll, len := lenRec 40 102,
    locks := fun m => (m.recs 40).any fun b => byteAt b 0 != 4 && byteAt b 1 == 1, changes := fun m => anyRec m 40 1,
    body := fun m s => records m 40 (recTelemEnable m) s }
def execTelemEnable (m : Msg) (s : State) : Host.Outcome State Fault Refusal := runCommand cmdTelemEnable m s

/-- RECORDS_258_HELD: port-block records that came to wait in staging for want of a destination and that none has taken yet (R394, Table 14.8). -/
def State.held258 (s : State) : Nat := (s.telem.staging.filter fun r => r.held && !r.onRing && !r.onCollector).length

def telemStatus (s : State) : Bytes :=
  let t := s.telem
  le 4 Config.enterprise.toNat ++ le 4 s.stagingTiles ++ le 4 s.stagedTiles ++ le 4 t.peak ++
    le 1 (flagByte [t.collectorPath.held, t.ring.enabled && (t.ring.full || t.ring.code s.host.halted == 2), s.lossyFull]) ++
    le 1 (t.ring.code s.host.halted) ++ zeros 2 ++ le 4 t.collectorPath.sequence.toNat ++ le 4 t.ringPath.sequence.toNat ++ zeros 4 ++
    bankBytes t.counters ++ le 8 s.held258

def bodyTelemStatus (m : Msg) (s : State) : Done :=
  if 1 < m.p 0 then badParam s 0
  else needZero s m [1, 2, 3] <|
    ok (if m.p 0 = 1 then { s with telem := { s.telem with counters := zeroBank s.telem.counters, peak := s.stagedTiles } } else s) (telemStatus s)

/-- R414: TELEM_STATUS. -/
def cmdTelemStatus : Cmd := { op := 0x0D03, legal := legalAll, len := lenIs 4, changes := fun m => m.p 0 == 1, body := bodyTelemStatus }
def execTelemStatus (m : Msg) (s : State) : Host.Outcome State Fault Refusal := runCommand cmdTelemStatus m s

def State.setPerf (s : State) (i : Nat) (c : PerfCounter) : State := { s with telem := { s.telem with perf := tset s.telem.perf i c } }

def recCounterProgram (s : State) (b : Bytes) (base : Nat) : RecAns :=
  let i := byteAt b 0
  let e := fieldLe b 2 2
  match byteAt b 1 with
  | 1 =>
    if !isEvent e then .refuse Status.badParam (base + 2)
    else if 1 < byteAt b 4 || (byteAt b 4 = 1 && !isOccupancy e) then .refuse Status.badParam (base + 4)
    else recZero b base [5, 6, 7]
      (.ok (s.setPerf i { s.perf i with event := e, threshold := byteAt b 4 == 1, n := fieldLe b 8 4, value := 0 }) [])
  | 2 => recZero b base (span 2 11) (.ok (s.setPerf i { s.perf i with value := 0 }) [])
  | _ => .refuse Status.badParam (base + 1)

/-- Number of the first record that names a counter an earlier one names. -/
def repeated (l : List Nat) : Option Nat := (List.range l.length).find? fun i => (l.take i).contains (l.getD i 0)

def bodyCounterProgram (m : Msg) (s : State) : Done :=
  match repeated ((m.recs 12).map (byteAt · 0)) with
  | some r => badParam s (12 * r)
  | none => records m 12 recCounterProgram s

/-- R410, R414: COUNTER_PROGRAM. -/
def cmdCounterProgram : Cmd :=
  { op := 0x0D04, flags := flagsIn 4, legal := legalAll, len := lenRec 12 256, changes := fun _ => true, body := bodyCounterProgram }
def execCounterProgram (m : Msg) (s : State) : Host.Outcome State Fault Refusal := runCommand cmdCounterProgram m s

def counterEntry (c : PerfCounter) : Bytes :=
  le 6 c.value.toNat ++ le 1 (flagByte [c.ovf, c.lostOvf, c.threshold, c.event != 0]) ++ [0] ++ le 2 c.event ++ zeros 2 ++ le 4 c.n

def bodyCounterRead (m : Msg) (s : State) : Done :=
  let first := m.p 0
  let n := m.p 1
  if n = 0 || 254 < n || 256 < first + n then outOfRange s 1
  else if 1 < m.p 2 then badParam s 2
  else needZero s m [3] <|
    let l := span first (first + n - 1)
    let s1 := if m.p 2 = 1 then
        { s with telem := { s.telem with perf := tmap s.telem.perf fun k c => if l.contains k then { c with ovf := false, lostOvf := false } else c } }
      else s
    ok s1 (le 8 s.flowNow ++ l.flatMap fun i => counterEntry (s.perf i))

/-- R409, R414: COUNTER_READ. -/
def cmdCounterRead : Cmd := { op := 0x0D05, legal := legalAll, len := lenIs 4, changes := fun m => m.p 2 == 1, body := bodyCounterRead }
def execCounterRead (m : Msg) (s : State) : Host.Outcome State Fault Refusal := runCommand cmdCounterRead m s

def dumpConfigBytes (op : Nat) (t : Telemetry) : Bytes :=
  let x := t.dumpRing
  le 1 op ++ le 1 x.channel ++ le 1 (flagByte [x.irq, t.dumpBw]) ++ le 1 x.k ++ le 4 t.dumpPeriod ++ le 2 x.holdoff ++ zeros 6 ++ le 8 x.base ++
    le 8 x.consumerAddr ++ zeros 8

def bodyCounterDumpConfig (m : Msg) (s : State) : Done :=
  let t := s.telem
  let x := t.dumpRing
  match m.p 0 with
  | 0 => needZero s m (span 1 39) (ok s (dumpConfigBytes 0 t))
  | 1 =>
    if s.channelBad m (m.p 1) then badParam s 1
    else if 3 < m.p 2 then badParam s 2
    else match firstFault [(decide (m.p 3 = 0 || 12 < m.p 3), 3), (decide (m.f 4 4 = 0 || 10000 < m.f 4 4), 4), (decide (1000 < m.f 8 2), 8),
        (decide (m.f 16 8 % 4096 != 0), 16), (decide (m.f 24 8 % 4 != 0), 24)] with
      | some i => outOfRange s i
      | none => needZero s m (span 10 15 ++ span 32 39) <|
        if x.enabled then refuse s Status.state s.life.state.code
        else
          let y : HostRing := { x with channel := m.p 1, irq := bitAt m.params 2 0, j := 12, k := m.p 3, holdoff := m.f 8 2, base := m.f 16 8,
                                       consumerAddr := m.f 24 8 }
          let s1 := { s with telem := { t with dumpRing := y, dumpBw := bitAt m.params 2 1, dumpPeriod := m.f 4 4 } }
          ok s1 (dumpConfigBytes 1 s1.telem)
  | 2 => needZero s m (span 1 39) (ok { s with telem := { t with dumpRing := x.start, dumpNext := s.flowNow + t.dumpPeriod * 1000000 } })
  | 3 => needZero s m (span 1 39) (ok { s with telem := { t with dumpRing := x.stop } })
  | 4 => needZero s m (span 1 39) <|
      ok s (le 1 (x.code s.host.halted) ++ zeros 3 ++ le 4 x.produced.toNat ++ le 4 x.consumed.toNat ++ le 4 t.dumpsWritten.toNat ++
        le 4 (satur 32 t.dumpSkipped) ++ zeros 4)
  | _ => badParam s 0

/-- R412, R414: COUNTER_DUMP_CONFIG. -/
def cmdCounterDumpConfig : Cmd :=
  { op := 0x0D06, legal := legalAll, len := lenIs 40, changes := fun m => m.p 0 != 0 && m.p 0 != 4, body := bodyCounterDumpConfig }
def execCounterDumpConfig (m : Msg) (s : State) : Host.Outcome State Fault Refusal := runCommand cmdCounterDumpConfig m s

def recBwwinConfig (s : State) (b : Bytes) (base : Nat) : RecAns :=
  let p := byteAt b 0
  let k := byteAt b 2
  if 25 < p then .refuse (portStatus p) base
  else if 1 < byteAt b 1 then .refuse Status.badParam (base + 1)
  else if byteAt b 1 = 0 then recZero b base [2, 3] (.ok s (le 1 p ++ [0] ++ le 1 (s.window p).k ++ [0]))
  else if 20 < k then .refuse Status.range (base + 2)
  else recZero b base [3] <|
    let len := windowNs k
    .ok (s.setWindow p { BwWindow.reset with k := k, endedAt := (s.flowNow + len - 1) / len * len }) []

/-- R411, R414: BWWIN_CONFIG. -/
def cmdBwwinConfig : Cmd :=
  { op := 0x0D07, flags := flagsIn 4, legal := legalAll, len := lenRec 4 26, changes := fun m => anySet m 4 1,
    body := fun m s => records m 4 recBwwinConfig s }
def execBwwinConfig (m : Msg) (s : State) : Host.Outcome State Fault Refusal := runCommand cmdBwwinConfig m s

def windowEntry (s : State) (p : Nat) : Bytes :=
  let w := s.windowRead p
  le 1 p ++ le 1 w.k ++ zeros 6 ++ le 8 (if w.endedAt ≤ s.flowNow then w.endedAt else 0) ++ le 8 w.rxLast ++ le 8 w.rxPeak ++ le 8 w.txLast ++
    le 8 w.txPeak

def bodyBwwinRead (m : Msg) (s : State) : Done :=
  let first := m.p 0
  let n := m.p 1
  if 25 < first then refuse s (portStatus first) 16
  else if n = 0 || 26 < first + n then outOfRange s 1
  else if 1 < m.p 2 then badParam s 2
  else needZero s m [3] <|
    let l := span first (first + n - 1)
    let s1 := if m.p 2 = 1 then l.foldl (fun s p => s.onWindow p fun w => { w with rxPeak := 0, txPeak := 0 }) s else s
    ok s1 (l.flatMap (windowEntry s))

/-- R411, R414: BWWIN_READ. -/
def cmdBwwinRead : Cmd := { op := 0x0D08, legal := legalAll, len := lenIs 4, changes := fun m => m.p 2 == 1, body := bodyBwwinRead }
def execBwwinRead (m : Msg) (s : State) : Host.Outcome State Fault Refusal := runCommand cmdBwwinRead m s

end Sys2Proof.Machine
end

