-- ==== Sys2Proof/Machine/Dma.lean ====
section
/-!
DEFINITION. The DMA engine: channels, descriptors, bursts, confirmation and completion, snapshot holds, and the halt on a bus error
(spec 15 R426-R448).
-/
namespace Sys2Proof.Machine

/-! Channels (R427, R428, R436). -/

def State.requesterMask (s : State) (c : Nat) : Nat := flagByte ((List.range 10).map fun r => (s.ringsOn c).contains r)

/-- STATE of a channel (Table 15.8): a REQUEST channel runs while a requester of it has work. -/
def State.channelState (s : State) (c : Nat) : ChannelState :=
  let x := s.dma c
  if x.request && x.enable && x.state == .idle && !s.host.halted && (s.ringsOn c).any s.ringWork then .running else x.state

def ChannelState.code : ChannelState → Nat | .idle => 0 | .running => 1 | .stopped => 2 | .halted => 3

def DmaChannel.size (x : DmaChannel) : Nat := 2 ^ x.log2
/-- A DESCRIPTOR channel has descriptors to run (R428). -/
def DmaChannel.behind (x : DmaChannel) : Bool := x.head % x.size != x.tail % x.size

/-- A DESCRIPTOR channel starts with work to do, and idles without it or with ENABLE 0; not while the engine is halted (R428, R440). -/
def DmaChannel.wake (x : DmaChannel) : DmaChannel :=
  let work := x.enable && !x.request && x.behind
  match x.state with
  | .idle => if work then { x with state := .running } else x
  | .running => if x.transfer.isNone && !work then { x with state := .idle } else x
  | _ => x

/-- A channel that comes to run fetches its descriptor from then on. -/
def DmaChannel.wakeAt (now : Nat) (x : DmaChannel) : DmaChannel :=
  let y := x.wake
  if y.state == x.state then y else { y with fetchAt := now }

def State.wakeChannels (s : State) : State :=
  if s.host.halted then s else { s with host := { s.host with channels := s.host.channels.map (DmaChannel.wakeAt s.now) } }

/-- Rings of a channel stop, or run again, and write an interrupted record again whole; those of an abandoned channel stay halted (R319). -/
def State.haltRings (s : State) (c : Nat) (stop : Bool) : State :=
  (s.ringsOn c).foldl (fun s r => s.setHostRing r { s.hostRing r with halted := stop || (s.hostRing r).abandoned, sent := 0 }) s

/-- Rings of a channel that is abandoned (R319, R443). -/
def State.abandonRings (s : State) (c : Nat) : State :=
  (s.ringsOn c).foldl (fun s r => s.setHostRing r { s.hostRing r with halted := true, abandoned := true, sent := 0 }) s

/-- Bits of DMA_IRQ_STATUS (R435). -/
def State.setIrq (s : State) (c : Nat) (done err : Bool) : State :=
  let bit : BitVec 16 := 1#16 <<< c
  { s with host := { s.host with irqDone := if done then s.host.irqDone ||| bit else s.host.irqDone,
                                 irqErr := if err then s.host.irqErr ||| bit else s.host.irqErr } }

/-! Registers of a channel that act (Table 15.8). -/

/-- The host's writes of a function reach its window while the link is up and configuration space is ready (R459). -/
def State.windowOpen (s : State) : Bool := s.host.linkUp

/-- DMA_CH_CTL: interrupt enables, MODE while IDLE, ENABLE and RESTART. A STOPPED channel whose ENABLE is cleared becomes IDLE. -/
def State.writeDmaCtl (s : State) (c : Nat) (v : Nat) : State :=
  let x := s.dma c
  let enable := Nat.testBit v 0
  let st : ChannelState :=
    if x.state == .stopped && !s.host.halted && ((enable && Nat.testBit v 2) || !enable) then .idle else x.state
  (s.setDma c { x with
      errIE := Nat.testBit v 9, doneIE := Nat.testBit v 8, enable := enable, state := st,
      request := if s.channelState c == .idle then Nat.testBit v 4 else x.request }).wakeChannels

/-- The bits of DMA_CH_CTL as they read. -/
def DmaChannel.ctl (x : DmaChannel) : Nat :=
  x.errIE.toNat * 512 + x.doneIE.toNat * 256 + x.request.toNat * 16 + x.enable.toNat

def State.writeDmaTail (s : State) (c : Nat) (v : Nat) : State :=
  (s.setDma c { s.dma c with tail := v % (s.dma c).size }).wakeChannels

/-- The writer owns the channel (R427). -/
def State.mayWriteChannel (s : State) (pf1 : Bool) (c : Nat) : Bool := s.windowOpen && decide (c < 16) && s.ownedByPf1 c == pf1

/-- R428: a write of DMA_CH_TAIL. -/
def execDmaChTailWrite (pf1 : Bool) (c : Nat) (v : W32) (s : State) : Host.Outcome State Fault Refusal :=
  if s.mayWriteChannel pf1 c then done s (s.writeDmaTail c (v.toNat % 65536)) else .next s

/-- R428: a write of DMA_CH_CTL that carries ENABLE. -/
def execDmaChEnable (pf1 : Bool) (c : Nat) (v : W32) (s : State) : Host.Outcome State Fault Refusal :=
  if s.mayWriteChannel pf1 c then done s (s.writeDmaCtl c v.toNat) else .next s

/-- R434: RESTART, with the other bits of DMA_CH_CTL as they stand. -/
def execDmaChRestart (pf1 : Bool) (c : Nat) (s : State) : Host.Outcome State Fault Refusal :=
  if s.mayWriteChannel pf1 c then done s (s.writeDmaCtl c ((s.dma c).ctl + 4)) else .next s

/-- A bit of SEC_DMA_OWNER changes only while its channel is IDLE, disabled and unattached (R427). -/
def State.writeOwner (s : State) (v : Nat) : State :=
  let bit (c : Nat) : Bool :=
    if s.channelState c == .idle && !(s.dma c).enable && (s.ringsOn c).isEmpty then Nat.testBit v c else s.host.owner.getLsbD c
  { s with host := { s.host with owner := BitVec.ofNat 16 (flagByte ((List.range 16).map bit)) } }

/-- R427: a write of SEC_DMA_OWNER, which exists in PF1 only. -/
def execSecDmaOwnerWrite (pf1 : Bool) (v : W32) (s : State) : Host.Outcome State Fault Refusal :=
  if s.windowOpen && pf1 then done s (s.writeOwner v.toNat) else .next s

/-! Descriptors (R429, R430). -/

def Transfer.op (t : Transfer) : Nat := byteAt t.desc 19
def Transfer.count (t : Transfer) : Nat := fieldLe t.desc 16 3
def Transfer.snap (t : Transfer) : Bool := bitAt t.desc 20 1
def Transfer.irq (t : Transfer) : Bool := bitAt t.desc 20 0
def Transfer.usesPattern (t : Transfer) : Bool := t.op == 0x01 || (t.op == 0x02 && bitAt t.desc 20 2)
def Transfer.classB (t : Transfer) : Bool := t.op == 0x10 || t.op == 0x11
def Transfer.completion (t : Transfer) : Nat := fieldLe t.desc 24 8

def Transfer.start (desc : Bytes) : Transfer :=
  { desc := fit 32 desc, issued := 0, arrived := 0, confirmed := 0, crc := 0xFFFFFFFF, faults := 0,
    last := { units := 0, crc := 0xFFFFFFFF, faults := 0 }, marks := [], pattern := none, asked := false, mismatches := 0, firstBad := none }

/-- CRC of the confirmed units, as it would be stored if the transfer ended there (R432). -/
def Transfer.crcNow (t : Transfer) : Nat := if t.classB then (t.crc ^^^ 0xFFFFFFFF).toNat else 0

/-- Seam of device memory that a handle names (R430). -/
def State.deviceSeam (s : State) (h : Nat) : Option Nat :=
  (s.dram.dir.find h).filter fun i => (s.dram.dir.storeTiles i).isEmpty

/-- Host references of a descriptor (Table 15.11): byte offset and length in bytes. -/
def hostRefs (d : Bytes) : List (Nat × Nat) :=
  let n := fieldLe d 16 3 * 64
  match byteAt d 19 with
  | 0x01 => [(0, 64)]
  | 0x02 => if bitAt d 20 2 then [(8, 64)] else []
  | 0x10 => [(0, n)]
  | 0x11 => [(8, n)]
  | _ => []

/-- Check 1 of R430. -/
def descriptorForm (d : Bytes) : Bool :=
  [0x01, 0x02, 0x10, 0x11].contains (byteAt d 19) && decide (byteAt d 20 < 8) && (!bitAt d 20 2 || byteAt d 19 == 0x02) &&
    (slice d 21 3).all (· == 0) && decide (fieldLe d 24 8 % 32 = 0) &&
    (hostRefs d).all fun r => fieldLe d r.1 8 % 64 == 0 && decide (fieldLe d r.1 8 + r.2 ≤ 2 ^ 64)

/-- Checks of R430 in order: the status at the first that fails. -/
def State.descriptorCheck (s : State) (d : Bytes) : Option Nat :=
  if !descriptorForm d then some 0x04
  else
    let refs := (deviceRefs d).map fun r => (r, s.deviceSeam (fieldLe d r.1 4))
    let bad (x : (Nat × Bool) × Option Nat) : Bool :=
      match x.2 with
      | none => true
      | some i => x.1.2 && !s.dram.dir.isHost i
    let long (x : (Nat × Bool) × Option Nat) : Bool :=
      decide (s.seamLength (x.2.getD 0) < fieldLe d (x.1.1 + 4) 4 + fieldLe d 16 3)
    let exporting (i : Nat) : Bool := s.flow.exporter.state == .running && s.seamsShare i s.flow.exporter.dest
    let busy (x : (Nat × Bool) × Option Nat) : Bool :=
      let i := x.2.getD 0
      if x.1.2 then s.seamsAtWork.any fun u => s.seamsShare i u else x.1.1 == 0 && exporting i
    if refs.any bad then some 0x04
    else if refs.any long then some 0x03
    else if refs.any busy || s.life.clearing == .plan then some 0x05
    else none

/-! Completion (R433-R435). -/

/-- The completion record (Table 15.13). -/
def State.completionRecord (s : State) (c : Nat) (t : Transfer) (status : Nat) : Bytes :=
  let held := (s.dma c).holds
  let first := match t.firstBad with
    | some k => le 4 k ++ le 4 (s.seamTile ((s.dram.dir.find (fieldLe t.desc 0 4)).getD 0) k)
    | none => List.replicate 8 0xFF
  le 1 status ++ le 1 t.op ++ le 1 c ++ le 1 held.isSome.toNat ++ le 3 t.confirmed ++ zeros 1 ++
    le 4 (if status = 1 then t.crcNow else 0) ++ le 4 t.faults ++ le 4 t.mismatches ++ first ++
    le 2 (match held with | some e => e.toNat | none => 0) ++ zeros 2

/-- Snapshot hold of a seam put back with a fresh 100 ms (R438, R439). -/
def State.holdSeam (s : State) (desc : Nat) (e : W16) : State :=
  { s with host := { s.host with holds := s.host.holds ++ [{ desc := desc, epoch := e, until_ := s.now + 100000000 }] } }

/-- What a seam still holds ends once a SNAP transfer has read it to DONE (R438). -/
def State.endSeamHolds (s : State) (desc : Nat) : State :=
  { s with host := { s.host with holds := s.host.holds.filter fun h => h.desc != desc } }

/-- A SNAP descriptor is started on a seam: it takes the newest hold, and older ones have 100 ms again (R438, R439; DESIGN CHOICE, log 165). -/
def State.takeHold (s : State) (h : SeamHold) : State :=
  { s with host := { s.host with
      holds := (s.host.holds.erase h).map fun k => if k.desc = h.desc then { k with until_ := s.now + 100000000 } else k } }

/-- A channel's hold ends with its descriptor: for good with DONE or ABANDONED, else back to the seam (R438, R439). -/
def State.endHold (s : State) (c : Nat) (t : Transfer) (status : Nat) : State :=
  match (s.dma c).holds with
  | none => s
  | some e =>
    let s1 := s.setDma c { s.dma c with holds := none }
    match s.dram.dir.find (fieldLe t.desc 0 4) with
    | some i => if status = 1 then s1.endSeamHolds i else if status = 6 then s1 else s1.holdSeam i e
    | none => s1

/-- A descriptor ends: HEAD passes it, its status and count are kept, its IRQ bit is set and the channel stops unless it was DONE
(R428, R434, R435). -/
def State.endDescriptor (s : State) (c : Nat) (t : Transfer) (status : Nat) : State :=
  let s1 := s.endHold c t status
  let x := s1.dma c
  let s2 := s1.setDma c { x with
    transfer := none, ending := none, reads := [], fetchAt := s.now, head := (x.head + 1) % x.size, lastStatus := status, doneCount := x.doneCount + 1,
    state := if status = 1 then .running else .stopped }
  (s2.setIrq c (status == 1 && t.irq) (status != 1)).wakeChannels

/-- The record is written to host memory, bytes 4-31 first (R434), and the descriptor ends. -/
def State.completeDescriptor (s : State) (c : Nat) (t : Transfer) (status : Nat) : State :=
  let rec_ := s.completionRecord c t status
  let pf1 := s.ownedByPf1 c
  let s1 := s.send (.hostWrite pf1 (t.completion + 4) (rec_.drop 4))
  (s1.send (.hostWrite pf1 t.completion (rec_.take 4))).endDescriptor c t status

/-- A DESCRIPTOR channel may issue requests (R426, R440). -/
def State.channelIssues (s : State) (c : Nat) : Bool :=
  s.booted && decide (c < 16) && (s.dma c).state == .running && !(s.dma c).request && !s.host.halted && s.mayRequest c

/-- The seam's newest hold, which a SNAP descriptor names. -/
def State.snapHold (s : State) (t : Transfer) : Option SeamHold :=
  if t.snap && t.op == 0x11 then
    (s.dram.dir.find (fieldLe t.desc 0 4)).bind fun i => s.host.holds.reverse.find? fun h => h.desc == i
  else none

/-- R429, R430, R439: the channel fetches the descriptor at HEAD, checks it, and starts it or ends it with a refusal status. -/
def execDmaDescriptorStart (c : Nat) (desc : Bytes) (s : State) : Host.Outcome State Fault Refusal :=
  let x := s.dma c
  if !(s.channelIssues c && x.transfer.isNone && x.enable && x.behind && s.readsOut < 256) then .next s
  else
    let t := Transfer.start desc
    let s1 := s.send (.hostRead (s.ownedByPf1 c) 1 (x.base + x.head * 32) 32)
    match s.descriptorCheck t.desc with
    | some status =>
      let s2 := match s.snapHold t with | some h => (s1.takeHold h).holdSeam h.desc h.epoch | none => s1
      if t.completion % 32 != 0 then done s (s2.endDescriptor c t status)
      else done s (s2.setDma c { x with transfer := some t, ending := some status })
    | none =>
      let s2 := match s.snapHold t with
        | some h => s1.takeHold h
        | none => s1
      let held := (s.snapHold t).map (·.epoch)
      let ended := if t.count = 0 then some 1 else none
      let s3 := s2.setDma c { x with transfer := some t, ending := ended, holds := held }
      done s s3

/-- R434, R435: a descriptor's completion record is written, HEAD advances and the IRQ bits are set. -/
def execDmaDescriptorEnd (c : Nat) (s : State) : Host.Outcome State Fault Refusal :=
  let x := s.dma c
  match x.transfer, x.ending with
  | some t, some status => if s.channelIssues c then done s (s.completeDescriptor c t status) else .next s
  | _, _ => .next s

/-! Moving data (R431, R432, R444). -/

/-- The tile of a descriptor's device reference at a unit. -/
def State.unitTile (s : State) (t : Transfer) (off k : Nat) : Nat :=
  s.seamTile ((s.dram.dir.find (fieldLe t.desc off 4)).getD 0) (fieldLe t.desc (off + 4) 4 + k)

def Mark.feed (m : Mark) (bytes : Bytes) (bad : Bool) : Mark :=
  { units := m.units + 1, crc := BitVec.ofNat 32 (crcFeed m.crc.toNat (bytes.take 60)), faults := m.faults + bad.toNat }

/-- D2H: units read with assay and delivered with their checks (R20, R432). -/
def deliverUnits (v : Staged) (tile : Nat → Nat) : Nat → Nat → State → Mark → Bytes → Bytes × Mark × State
  | 0, _, s, m, out => (out, m, s)
  | n + 1, k, s, m, out =>
    let (p, s1) := s.readTileIn v (tile k) .dma
    let bytes := delivered (false, tile k) p
    deliverUnits v tile n (k + 1) s1 (m.feed bytes p.isNone) (out ++ bytes)

/-- COMPARE: tiles compared over bytes 0-59; a tile that fails assay counts as a fault and as a mismatch. -/
def compareUnits (a : Nat → Nat) (b : Option (Nat → Nat)) (first : Nat) : Nat → Nat → State → Transfer → Transfer × State
  | 0, _, s, t => (t, s)
  | n + 1, k, s, t =>
    let (p, s1) := s.readTile (a k) .dma
    let (q, s2) := match b with
      | some f => s1.readTile (f k) .dma
      | none => (some (fit 60 (t.pattern.getD [])), s1)
    let bad := p.isNone || q.isNone || p.map (fit 60) != q.map (fit 60)
    let t1 := { t with
      faults := t.faults + p.isNone.toNat + (b.isSome && q.isNone).toNat, mismatches := t.mismatches + bad.toNat,
      firstBad := if bad then some (t.firstBad.getD (first + k)) else t.firstBad }
    compareUnits a b first n (k + 1) s2 t1

/-- FILL: the pattern is written to every tile, with the check for its own index. -/
def fillUnits (tile : Nat → Nat) (pattern : Bytes) : Nat → Nat → State → State
  | 0, _, s => s
  | n + 1, k, s => fillUnits tile pattern n (k + 1) (s.putTile (tile k) (pattern.take 60))

/-- H2D: received units are written as tiles; the check is computed. -/
def storeUnits (tile : Nat → Nat) : Nat → Nat → Bytes → State → Mark → List Mark → List Mark × Mark × State
  | 0, _, _, s, m, ms => (ms, m, s)
  | n + 1, k, data, s, m, ms =>
    let m1 := m.feed (fit 64 data) false
    storeUnits tile n (k + 1) (data.drop 64) (s.putTile (tile k) (fit 60 data)) m1 (ms ++ [m1])

/-- Outstanding reads of a descriptor: the pattern's, the data's that have not come, the flush reads'. -/
def Transfer.readsDue (t : Transfer) (f : PciFunction) : Nat :=
  (t.asked && t.pattern.isNone).toNat +
    (if t.op = 0x10 then f.requests (64 * (t.issued - t.arrived)) else if t.op = 0x11 then t.marks.length else 0)

/-- A channel's reads after its transfer moved on: new ones are issued now, and those that have returned were the oldest (R417). -/
def State.timeReads (s : State) (c : Nat) : State :=
  let x := s.dma c
  let k := match x.transfer with | some t => t.readsDue (s.fn (s.ownedByPf1 c)) | none => 0
  s.setDma c { x with reads := x.reads.drop (x.reads.length - k) ++ List.replicate (k - x.reads.length) s.now }

/-- Reads that the next burst issues. -/
def State.burstReads (s : State) (c : Nat) (t : Transfer) : Nat :=
  if t.usesPattern && t.pattern.isNone then 1
  else if t.op = 0x10 then (s.fn (s.ownedByPf1 c)).requests (64 * min 8 (t.count - t.issued)) else (t.op == 0x11).toNat

/-- Device memory can take the next burst (R355, R357). -/
def State.burstFits (s : State) (t : Transfer) : Bool :=
  t.op == 0x10 || (t.usesPattern && t.pattern.isNone) ||
    (if t.op = 0x01 then s.writeRoom (min 8 (t.count - t.issued)) else !s.refreshing)

/-- A channel has a burst to issue; of class A, once its SEAM_ASSIST task runs. -/
def State.burstDue (s : State) (c : Nat) : Bool :=
  match (s.dma c).transfer with
  | some t =>
    s.channelIssues c && (s.dma c).ending.isNone && decide (t.issued < t.count) && (!t.usesPattern || t.pattern.isSome || !t.asked) &&
      decide (s.readsOut + s.burstReads c t ≤ 256) && s.burstFits t &&
      (t.classB || (t.usesPattern && t.pattern.isNone) || s.atWork (.dma c))
  | none => false

/-- Units confirmed: counted in bytes, and the descriptor is over when all are (R433); one that a halt found whole issued and not whole
confirmed stays open for its ERROR (R442; DEDUCED, log 158). -/
def DmaChannel.confirm (x : DmaChannel) (t : Transfer) (n : Nat) : DmaChannel :=
  let t1 := { t with confirmed := t.confirmed + n }
  { x with transfer := some t1, bytes := x.bytes + BitVec.ofNat 64 (64 * n),
           ending := if t1.confirmed = t1.count && x.state != .halted then some 1 else x.ending }

/-- One burst of a descriptor: the pattern unit's read, made once; else at most eight units, and the flush read after every 16,384 and after the last (R433, R444). -/
def State.burst (s : State) (c : Nat) (t : Transfer) : State :=
  let pf1 := s.ownedByPf1 c
  let n := min 8 (t.count - t.issued)
  if t.usesPattern && t.pattern.isNone then
    (s.send (.hostRead pf1 5 (fieldLe t.desc (if t.op = 1 then 0 else 8) 8) 64)).setDma c
      { s.dma c with transfer := some { t with asked := true } }
  else if t.op = 0x01 then
    let s1 := fillUnits (s.unitTile t 8) (t.pattern.getD []) n t.issued s
    s1.setDma c { s1.dma c with transfer := some { t with issued := t.issued + n, arrived := t.issued + n } }
  else if t.op = 0x02 then
    let b := if bitAt t.desc 20 2 then none else some (s.unitTile t 8)
    let (t1, s1) := compareUnits (s.unitTile t 0) b (fieldLe t.desc 4 4) n t.issued s t
    s1.setDma c ((s1.dma c).confirm { t1 with issued := t.issued + n, arrived := t.issued + n } n)
  else if t.op = 0x10 then
    let s1 := State.readParts pf1 2 s 8 (fieldLe t.desc 0 8 + 64 * t.issued) (64 * n)
    s1.setDma c { s1.dma c with transfer := some { t with issued := t.issued + n } }
  else
    let k := min n (16384 - t.issued % 16384)
    let v := match (s.dma c).holds with | some e => s.version e | none => s.cur
    let (data, m, s1) := deliverUnits v (s.unitTile t 0) k t.issued s t.last []
    let dest := fieldLe t.desc 8 8
    let s2 := s1.hostWrites pf1 (dest + 64 * t.issued) data
    let flush := decide (m.units % 16384 = 0) || m.units == t.count
    let s3 := if flush then s2.send (.hostRead pf1 3 (dest + 64 * (m.units - 1)) 0) else s2
    s3.setDma c { s3.dma c with
      transfer := some { t with issued := m.units, arrived := m.units, last := m, marks := if flush then t.marks ++ [m] else t.marks } }

/-- R444: the next channel in turn that has a burst to issue, of either mode. -/
def State.nextServed (s : State) : Option Nat :=
  ((List.range 16).map fun k => (s.host.served + 1 + k) % 16).find? fun c => s.burstDue c || (s.nextRing c).isSome

/-- Serve a channel's next requester; the telemetry ring takes what is due once its record is whole (R403, R436). -/
def State.serveRequester (s : State) (c : Nat) (hurt : Upsets) : State :=
  match s.nextRing c with
  | some r =>
    let s1 := s.serveRing r hurt
    if r = 8 && s1.telem.ring.slot.isNone then State.sendDue true s1.sendFuel s1 else s1
  | none => s

/-- R444: the engine serves the next channel in turn: a burst of its descriptor, or of a requester's record (R436). -/
def execDmaBurst (hurt : Upsets) (s : State) : Host.Outcome State Fault Refusal :=
  match s.nextServed with
  | none => .next s
  | some c =>
    let s1 := match (s.dma c).transfer with
      | some t => if s.burstDue c then ((s.upset hurt).burst c t).timeReads c else s.serveRequester c hurt
      | none => s.serveRequester c hurt
    done s { s1 with host := { s1.host with served := c } }

/-- R316: at its turn a copy-to-host ring's channel writes a burst of the record at the head of the ring's queue, the header last. -/
def execRingRecordWrite (ring : RingRead) (s : State) : Host.Outcome State Fault Refusal :=
  let c := (s.hostRing ring.ring).channel
  if 8 ≤ ring.ring || s.nextServed != some c || s.nextRing c != some ring.ring || s.burstDue c then .next s
  else
    let s1 := s.serveRing ring.ring ring.hurt
    done s { s1 with host := { s1.host with served := c } }

/-- Bounds of a completion timeout, ns, by the value of Device Control 2: the default, ranges A and B (R417; PRESUMED, log 166). -/
def timeoutRange : Nat → Nat × Nat
  | 1 => (50000, 100000)
  | 2 => (1000000, 10000000)
  | 5 => (16000000, 55000000)
  | 6 => (65000000, 210000000)
  | _ => (40000000, 50000000)

def State.timeoutOf (s : State) (c : Nat) : Nat × Nat := timeoutRange (s.fn (s.ownedByPf1 c)).cplTimeout

/-- The oldest read of the channel's descriptor has not been out too long for its completion (R417, R440). -/
def State.inTime (s : State) (c : Nat) : Bool :=
  match (s.dma c).reads with
  | t :: _ => decide (s.now < t + (s.timeoutOf c).2)
  | [] => true

/-- Instant from which a full ring's consumer read is out (R317). -/
def HostRing.pollAt (x : HostRing) : Nat := match x.polled with | some t => t + 2000 | none => x.fullAt

/-- A transfer that can still take completions and confirmations: running, or halted (R440). -/
def State.transferOf (s : State) (c : Nat) : Option Transfer :=
  let x := s.dma c
  if decide (c < 16) && s.booted && x.ending.isNone && (x.state == .running || x.state == .halted) then x.transfer else none

/-- R429, R432: a good completion of a data or pattern read; data units are written as tiles in order. -/
def execDmaReadCompletion (c : Nat) (pattern : Bool) (data : Bytes) (s : State) : Host.Outcome State Fault Refusal :=
  match s.transferOf c with
  | none => .next s
  | some t =>
    if !s.inTime c then .next s
    else if pattern then
      (if t.asked && t.pattern.isNone then
        done s ((s.setDma c { s.dma c with transfer := some { t with pattern := some (fit 64 data) } }).timeReads c)
       else .next s)
    else
      let n := min (data.length / 64) (t.issued - t.arrived)
      if t.op != 0x10 || n = 0 || !s.writeRoom n then .next s
      else
        let (ms, m, s1) := storeUnits (s.unitTile t 8) n t.arrived data s t.last t.marks
        done s ((s1.setDma c { s1.dma c with transfer := some { t with arrived := t.arrived + n, last := m, marks := ms } }).timeReads c)

/-- R433: the memory controller acknowledges tile writes, or the flush read of a boundary returns. -/
def execDmaUnitConfirm (c units : Nat) (s : State) : Host.Outcome State Fault Refusal :=
  match s.transferOf c with
  | none => .next s
  | some t =>
    if t.op = 0x01 then
      let n := min units (t.arrived - t.confirmed)
      if n = 0 then .next s else done s (s.setDma c ((s.dma c).confirm t n))
    else
      let n := if t.op = 0x11 then min (s.inTime c).toNat t.marks.length else min units t.marks.length
      match (t.marks.take n).getLast? with
      | none => .next s
      | some m =>
        let t1 := { t with crc := m.crc, faults := m.faults, marks := t.marks.drop n }
        done s ((s.setDma c ((s.dma c).confirm t1 (m.units - t.confirmed))).timeReads c)

/-! Snapshot holds (R438). -/

/-- R438: 100 ms have passed with no SNAP descriptor started on a seam. -/
def execSnapshotHoldExpire (desc : Nat) (s : State) : Host.Outcome State Fault Refusal :=
  if s.host.holds.any fun h => h.desc == desc && decide (h.until_ ≤ s.now) then
    done s { s with host := { s.host with holds := s.host.holds.filter fun h => !(h.desc == desc && decide (h.until_ ≤ s.now)) } }
  else .next s

/-! The halt (R440-R443). -/

/-- Kind of the request a channel has outstanding (Table 15.9). -/
def State.requestKind (s : State) (c : Nat) : Nat :=
  let x := s.dma c
  if x.request then 4
  else match x.transfer with
    | none => 1
    | some t => if t.usesPattern then 5 else if t.op = 0x10 then 2 else 3

/-- A request of the channel has been out for at least its function's completion timeout (R417, R426). -/
def State.timedOut (s : State) (c : Nat) : Bool :=
  let x := s.dma c
  let past (t : Nat) : Bool := decide (t + (s.timeoutOf c).1 ≤ s.now)
  match s.requestKind c with
  | 4 => (s.ringsOn c).any fun r => (s.hostRing r).full && past (s.hostRing r).pollAt
  | 1 => x.state == .running && past x.fetchAt
  | _ => x.reads.head?.any past

/-- R440: a UR, CA, poisoned completion or completion timeout of a request halts the whole engine; later ones are discarded. -/
def execDmaBusError (cause c : Nat) (address : W64) (s : State) : Host.Outcome State Fault Refusal :=
  if s.host.halted || !s.booted || 15 < c || cause = 0 || 4 < cause || (cause = 4 && !s.timedOut c) then .next s
  else
    let kind := s.requestKind c
    let stop := (List.range 16).filter fun k => s.channelState k == .running
    let s1 := stop.foldl (fun (s : State) k =>
      (s.haltRings k true |>.setDma k { s.dma k with state := .halted }).setIrq k false true) s
    let s2 := { s1 with host := { s1.host with
      halted := !stop.isEmpty, cause := cause, haltReq := kind, haltAddr := address, haltCount := satur 32 (s.host.haltCount + 1) } }
    let s3 := (s2.alert AlertBit.dmaHalted).logError ErrCode.dmaHalted (kind * 16 + cause) (le 8 address.toNat)
    done s (if s3.life.lostInService then s3.raiseCause 0 else s3)

def State.anyHalted (s : State) : Bool := s.host.channels.any fun x => x.state == .halted

/-- The engine leaves the halt once no channel is HALTED (R440, R443). -/
def State.unhalt (s : State) : State :=
  if s.host.halted && !s.anyHalted then State.wakeChannels { s with host := { s.host with halted := false } } else s

/-- All units were issued and not all are confirmed: the descriptor does not resume (R442). -/
def DmaChannel.doubtful (x : DmaChannel) : Bool :=
  match x.transfer with
  | some t => x.ending.isNone && t.issued == t.count
  | none => false

/-- A HALTED channel runs again from its confirmed units, or ends its descriptor ERROR (R441, R442). -/
def State.resumeChannel (s : State) (c : Nat) : State :=
  let x := s.dma c
  if x.request then (s.haltRings c false).setDma c { x with state := .running }
  else if x.doubtful then s.setDma c { x with state := .running, ending := some 2 }
  else match x.transfer with
    | some t =>
      let t1 := { t with issued := t.confirmed, arrived := t.confirmed, marks := [], asked := t.pattern.isSome,
                         last := { units := t.confirmed, crc := t.crc, faults := t.faults } }
      s.setDma c { x with state := .running, reads := [], transfer := some (if x.ending.isSome then t else t1) }
    | none => s.setDma c { x with state := .running, fetchAt := s.now }

/-- A descriptor that DMA_RESUME ends ERROR has its record written, once the engine may issue (R442). -/
def State.closeChannel (s : State) (c : Nat) : State :=
  let x := s.dma c
  match x.transfer with
  | some t => if s.channelIssues c && x.ending == some 2 then s.completeDescriptor c t 2 else s
  | none => s

/-- R443: a channel is abandoned. Its descriptor ends ABANDONED with no record, HEAD passes it, its hold ends, and its rings stay halted
until DISABLE. -/
def State.abandonChannel (s : State) (c : Nat) : State :=
  let x := s.dma c
  if x.request then (s.abandonRings c).setDma c { x with state := .stopped }
  else if x.state == .running || x.state == .halted then
    s.endDescriptor c (x.transfer.getD (Transfer.start [])) 6
  else s

/-! Commands (R445-R448). -/

/-- Channels of a mask. -/
def maskChannels (v : Nat) : List Nat := (List.range 16).filter fun c => Nat.testBit v c

/-- On HOST_NS a command may not name a channel owned by PF1 (R445). -/
def namesSecure (m : Msg) (s : State) : Bool := m.ch == 0 && (maskChannels (m.f 0 2)).any s.ownedByPf1

def haltedMask (s : State) : Nat := flagByte (s.host.channels.map fun x => x.state == .halted)

def bodyDmaResume (m : Msg) (s : State) : Done :=
  let cs := maskChannels (m.f 0 2)
  if namesSecure m s then refuse s Status.secureOnly 1
  else if cs.any fun c => (s.dma c).state != .halted then badParam s 0
  else needZero s m [2, 3] <|
    let err := cs.filter fun c => (s.dma c).doubtful
    let s1 := (cs.foldl State.resumeChannel s).unhalt
    let s2 := cs.foldl State.closeChannel s1
    ok s2 (le 2 (flagByte ((List.range 16).map err.contains)) ++ le 2 (haltedMask s2))

/-- R447: DMA_RESUME. -/
def cmdDmaResume : Cmd :=
  { op := 0x0E01, legal := legalAll, len := lenIs 4, changes := fun _ => true, perDevice := true, onPeer := false, body := bodyDmaResume }
def execDmaResume (m : Msg) (s : State) : Host.Outcome State Fault Refusal := runCommand cmdDmaResume m s

def bodyDmaAbandon (m : Msg) (s : State) : Done :=
  let cs := maskChannels (m.f 0 2)
  if namesSecure m s then refuse s Status.secureOnly 1
  else if cs.any fun c => s.channelState c == .idle then badParam s 0
  else needZero s m [2, 3] <| ok (cs.foldl State.abandonChannel s).unhalt

/-- R448: DMA_ABANDON. -/
def cmdDmaAbandon : Cmd :=
  { op := 0x0E02, legal := legalAll, len := lenIs 4, changes := fun _ => true, perDevice := true, onPeer := false, body := bodyDmaAbandon }
def execDmaAbandon (m : Msg) (s : State) : Host.Outcome State Fault Refusal := runCommand cmdDmaAbandon m s

/-- A channel entry (Table 15.16). -/
def State.channelEntry (s : State) (c : Nat) : Bytes :=
  let x := s.dma c
  let t := x.transfer
  let n (f : Transfer → Nat) : Nat := match t with | some t => f t | none => 0
  le 1 (s.channelState c).code ++ le 1 (flagByte [x.request, s.ownedByPf1 c]) ++ le 1 x.lastStatus ++ le 1 x.holds.isSome.toNat ++
    le 2 x.head ++ le 2 x.tail ++ le 3 (n (·.issued)) ++ zeros 1 ++ le 3 (n (·.confirmed)) ++ zeros 1 ++ le 4 (n Transfer.crcNow) ++
    le 2 (s.requesterMask c) ++ le 2 (match x.holds with | some e => e.toNat | none => 0) ++ le 8 x.bytes.toNat

def bodyDmaStatus (m : Msg) (s : State) : Done :=
  needZero s m (span 0 3) <|
    let h := s.host
    ok s (le 1 h.halted.toNat ++ le 1 h.cause ++ le 1 h.haltReq ++ zeros 1 ++ le 2 (haltedMask s) ++ le 2 (satur 16 h.haltCount) ++
      le 8 h.haltAddr.toNat ++ (List.range 16).flatMap s.channelEntry)

/-- R446: DMA_STATUS. -/
def cmdDmaStatus : Cmd :=
  { op := 0x0E03, legal := legalAll, len := lenIs 4, changes := fun _ => false, perDevice := true, onPeer := false, body := bodyDmaStatus }
def execDmaStatus (m : Msg) (s : State) : Host.Outcome State Fault Refusal := runCommand cmdDmaStatus m s

end Sys2Proof.Machine
end

