-- ==== Sys2Proof/Machine/Mailbox.lean ====
section
/-!
DEFINITION. The mailboxes: buffers, doorbells, releases, timeouts, the BMC's SMBus transactions, and the commands that belong to them
(spec 02).
-/
namespace Sys2Proof.Machine

/-- The sender of a channel reaches it: the host over a trained link, the BMC from INIT on (SMB_DAT is Released until then, Table 19.5), the
peer outside RESET. -/
def State.reachable (s : State) (ch : Nat) : Bool :=
  if ch < 2 then s.host.linkUp
  else if ch = 3 then s.booted
  else match s.life.state with
    | .off | .reset => false
    | _ => true

/-- One byte of a buffer; a byte not listed reads zero. -/
def bufRead (b : Memory) (a : Nat) : Byte := (b.lookup a).getD 0
/-- Write one byte of a buffer, keeping the canonical form. -/
def bufWrite (b : Memory) (a : Nat) (v : Byte) : Memory := if v = 0 then tdel b a else tset b a v
/-- Write bytes from an offset; those past the end of the 4,096-byte buffer are discarded. -/
def bufWriteAll : Memory → Nat → Bytes → Memory
  | b, _, [] => b
  | b, a, v :: vs => bufWriteAll (if a < 4096 then bufWrite b a v else b) (a + 1) vs

/-- Bytes of a buffer from an offset. -/
def bufSlice (b : Memory) (a n : Nat) : Bytes := (List.range n).map fun k => bufRead b (a + k)

/-! R54: writes to the inbound buffer, and RING. -/

/-- A write into an inbound buffer: discarded with WRITE_LOST while PENDING is 1 (R54). -/
def Channel.write (c : Channel) (off : Nat) (data : Bytes) : Channel :=
  if c.pending then { c with writeLost := true }
  else { c with inbound := bufWriteAll c.inbound off data, writeLost := c.writeLost || decide (4096 < off + data.length) }

/-- R54, R418: a 32-bit write to the inbound buffer of a channel; one of another alignment is discarded. -/
def execMbxInboundWrite (ch off : Nat) (v : W32) (s : State) : Host.Outcome State Fault Refusal :=
  if s.reachable ch && decide (ch < 3) && decide (off < 4096) && off % 4 == 0 then
    done s (s.setChan ch ((s.chan ch).write off (le 4 v.toNat)))
  else .next s

/-- RING: the message is submitted and its timeout starts in SERVICE and DEGRADED; while PENDING it only sets DOORBELL_LOST
(R54, R57, R58, Table 2.8). -/
def Channel.ring (c : Channel) (now : Nat) (run : Bool) : Channel :=
  if c.pending then { c with doorbellLost := true }
  else { c with pending := true, taken := false, timeout := false, rungMs := c.timeoutMs,
                timer := if run then some (now, c.timeoutMs * 1000000) else none }

def State.ringChan (s : State) (ch : Nat) : State := s.setChan ch ((s.chan ch).ring s.now s.inService)

/-! R56: RELEASE. -/

/-- The outbound buffer is freed and reads zero. -/
def Channel.free (c : Channel) : Channel := { c with outbound := [], outStatus := false }
/-- The oldest queued reply is placed. -/
def Channel.place (c : Channel) : Channel :=
  match c.replies with
  | [] => c
  | r :: rs => { c with outbound := r, outStatus := true, replies := rs }

/-- The buffer of a channel freed: OUT_STATUS is 0, and on PEER the other device is told (R63). -/
def State.freed (s : State) (ch : Nat) : State :=
  let s1 := s.setChan ch (s.chan ch).free
  if ch = 2 then s1.peerWord else s1

/-- The oldest queued reply of a channel placed. -/
def State.placed (s : State) (ch : Nat) : State :=
  let s1 := s.setChan ch (s.chan ch).place
  if ch = 2 then s1.peerPlaced s.peer.outStatus else s1

/-- R56: the outbound buffer is released, and the oldest queued reply placed; without effect while OUT_STATUS is 0. OUT_STATUS is 0 in
between, so a reply that is placed sets it anew. -/
def State.releaseChan (s : State) (ch : Nat) : Host.Outcome State Fault Refusal :=
  if (s.chan ch).outStatus then done (s.freed ch) ((s.freed ch).placed ch) else .next s

/-- R64, Table 2.9 code 0x21: 0x01 rings and 0x02 releases; another byte, or one without a correct PEC, is not acknowledged. -/
def State.bmcControl (s : State) (byte : Byte) (pec : Bool) : Host.Outcome State Fault Refusal :=
  if pec && byte == 1 then done s (s.ringChan 3)
  else if pec && byte == 2 then s.releaseChan 3
  else done s (s.send .smbusNack)

/-- R54: a doorbell of a channel: the byte written to MBX_IN_DOORBELL (Table 2.8), or on BMC the byte of code 0x21 with its PEC. PEER rings
by a link control word, which has neither. -/
def execRingDoorbell (ask : ChannelAsk) (s : State) : Host.Outcome State Fault Refusal :=
  if !(s.reachable ask.ch && decide (ask.ch < 4)) then .next s
  else if ask.ch = 3 then s.bmcControl ask.byte ask.pec
  else if ask.ch = 2 || ask.byte.getLsbD 0 then done s (s.ringChan ask.ch)
  else .next s

/-- R56: a release of a channel's outbound buffer, by the byte written to MBX_OUT_RELEASE, or on BMC by code 0x21. -/
def execReleaseReply (ask : ChannelAsk) (s : State) : Host.Outcome State Fault Refusal :=
  if !(s.reachable ask.ch && decide (ask.ch < 4)) then .next s
  else if ask.ch = 3 then s.bmcControl ask.byte ask.pec
  else if ask.ch = 2 || ask.byte.getLsbD 0 then s.releaseChan ask.ch
  else .next s

/-! R57: timeout. -/

/-- A pending message that was not taken within its timeout is withdrawn (R57). -/
def Channel.expire (c : Channel) : Channel := { c with pending := false, timeout := true, timer := none }

/-- A pending message withdrawn and counted; on PEER its sender is told (R57, R63). -/
def State.withdraw (s : State) (ch : Nat) : State :=
  let s0 := s.setChan ch (s.chan ch).expire
  let s1 := { s0 with epoch := { s0.epoch with withdrawn := s0.epoch.withdrawn + 1 } }
  if ch = 2 then s1.peerWord else s1

/-! R64: the BMC channel. -/

/-- R64, Table 2.9 code 0x20: a block write of 1-253 bytes; without a correct PEC it is not acknowledged. -/
def execBmcBufferWrite (off : Nat) (data : Bytes) (pec : Bool) (s : State) : Host.Outcome State Fault Refusal :=
  if !s.reachable 3 then .next s
  else if pec && decide (1 ≤ data.length) && decide (data.length ≤ 253) then done s (s.setChan 3 (s.bmc.write off data))
  else done s (s.send .smbusNack)

/-- The flags byte of code 0x22. -/
def Channel.flagsByte (c : Channel) : Nat :=
  flagByte [c.pending, c.taken, c.timeout, c.outStatus, c.writeLost, c.replies.length == 16]

/-- R64, code 0x22: the flags are returned and WRITE_LOST is cleared. The PEC byte of a Read Byte is the device's own: it is missing where the
BMC ends the transaction before it, and the read then has no effect. -/
def execBmcFlagsRead (s : State) (pec : Bool := true) : Host.Outcome State Fault Refusal :=
  if !s.reachable 3 then .next s
  else if !pec then done s (s.send (.smbus (le 1 s.bmc.flagsByte)))
  else done s ((s.setChan 3 { s.bmc with writeLost := false }).send (.smbus (le 1 s.bmc.flagsByte)))

/-- R64, code 0x23: up to 255 bytes of the outbound buffer from an offset; a transaction without a correct PEC is not acknowledged. -/
def execBmcReplyRead (ask : BufferAsk) (s : State) : Host.Outcome State Fault Refusal :=
  if !s.reachable 3 then .next s
  else if ask.pec then done s (s.send (.smbus (slice s.bmc.outbound ask.off (min 255 (4096 - ask.off)))))
  else done s (s.send .smbusNack)

/-- R64: the SMBus address, 0x5A or 0x5B by CFG1. -/
def State.smbAddress (s : State) : Nat := if s.life.straps.cfg1 then 0x5B else 0x5A

/-- R64: the device answers the Alert Response Address while SMB_ALERT_N is asserted. -/
def execSmbusAlertResponse (s : State) : Host.Outcome State Fault Refusal :=
  if s.smbAlertN then done s (s.send (.smbus (le 1 (s.smbAddress * 2)))) else .next s

/-! Commands of the group. -/

/-- R60: DEVICE_NOP replies with its own parameter bytes. -/
def cmdDeviceNop : Cmd :=
  { op := 0x0101, legal := legalAll, len := lenIn 0 4080, changes := fun _ => false, onBmc := true,
    body := fun m s => ok s m.params }

def execDeviceNop (m : Msg) (s : State) : Host.Outcome State Fault Refusal := runCommand cmdDeviceNop m s

/-- R59: the channel a DEVICE_MBX_TIMEOUT names. -/
def mbxNamed (m : Msg) : Nat := if m.p 0 == 0xFF then m.ch else m.p 0

/-- R59: reads or sets a channel's mailbox timeout. -/
def bodyDeviceMbxTimeout (m : Msg) (s : State) : Done :=
  let c := mbxNamed m
  let t := m.f 2 2
  if !(m.p 0 ≤ 3 || m.p 0 == 0xFF) then badParam s 0
  else if m.p 1 != 0 then badParam s 1
  else if m.ch == 3 && (c != 3 || t != 0) then refuse s Status.secureOnly 2
  else if (m.ch == 0 || m.ch == 2) && c != m.ch then refuse s Status.secureOnly 1
  else if 10000 < t then refuse s Status.range 18
  else
    let s1 := if t = 0 then s else s.setChan c { s.chan c with timeoutMs := t }
    ok s1 (le 2 (s1.chan c).timeoutMs ++ zeros 2)

def cmdDeviceMbxTimeout : Cmd :=
  { op := 0x0108, legal := legalAll, len := lenIs 4, changes := fun m => m.f 2 2 != 0, perDevice := true, onBmc := true,
    body := bodyDeviceMbxTimeout }

def execDeviceMbxTimeout (m : Msg) (s : State) : Host.Outcome State Fault Refusal := runCommand cmdDeviceMbxTimeout m s

end Sys2Proof.Machine
end

