-- ==== Sys2Proof/Machine/Registers.lean ====
section
/-!
DEFINITION. The register windows of the two PCI Express functions, their MSI-X tables, and the resets and power states of a function
(spec 00 R7-R9, 02 Table 2.8, 13 Table 13.6, 15 R415-R426).
-/
namespace Sys2Proof.Machine

/-! Reading a register (Tables 2.8, 13.6, 15.3-15.9). -/

/-- DEV_FLAGS and byte 6 of DEVICE_IDENTIFY, from bit 0: PAIR_JOINED, PAIR_SECONDARY, PAIR_SOLO (Table 15.3, R485). -/
def State.pairFlags (s : State) : Nat :=
  flagByte [s.pair.state != .none, s.pair.role == .secondary && s.pair.state != .none, s.life.faults.getLsbD FaultBit.pairSolo]

/-- CFG0-CFG3 as sampled, CFG0 in bit 0. -/
def State.strapBits (s : State) : Nat :=
  flagByte [s.life.straps.cfg0, s.life.straps.cfg1, s.life.straps.cfg2, s.life.straps.cfg3]

/-- STACK_CLASS: 1 HA, 2 HB, 0 until the stacks are identified. -/
def State.stackClass (s : State) : Nat := match s.life.fitted with | none => 0 | some hb => if hb then 2 else 1

/-- Every port that is UP is CALIBRATED (CAL_DONE). -/
def State.calDone (s : State) : Bool := (List.range 26).all fun p => (s.port p).link != .up || (s.ptp p).calibrated

/-- Records written on a ring of the function that the consumer count last read does not cover (Table 15.5, vectors 4-13). -/
def State.ringSource (s : State) (pf1 : Bool) (r : Nat) : Bool :=
  let x := s.hostRing r
  x.enabled && s.ownedByPf1 x.channel == pf1 && x.unread != 0

/-- INT_SOURCE (Table 15.4). -/
def State.intSource (s : State) (pf1 : Bool) : Nat :=
  flagByte ((List.range 16).map fun v => if 4 ≤ v && v ≤ 13 then s.ringSource pf1 (v - 4) else s.source pf1 v)

/-- Mailbox control block of a channel (Table 2.8). -/
def mailboxReg (c : Channel) (o : Nat) : Nat :=
  match o with
  | 0x04 => flagByte [c.pending, c.taken, c.timeout, c.timer.isSome, c.writeLost, c.doorbellLost]
  | 0x08 => flagByte [c.outStatus, c.replies.length == 16] + c.replies.length * 256
  | 0x10 => flagByte [c.replyIE, c.takenIE]
  | 0x14 => c.timeoutMs
  | _ => 0

/-- A DMA channel's register (Table 15.8). -/
def State.channelReg (s : State) (c o : Nat) : Nat :=
  let x := s.dma c
  let n (f : Transfer → Nat) : Nat := match x.transfer with | some t => f t | none => 0
  match o with
  | 0x00 => x.ctl
  | 0x04 => (s.channelState c).code * 2 ^ 28 + x.lastStatus * 65536 + x.doneCount.toNat
  | 0x08 => x.base % 2 ^ 32
  | 0x0C => x.base / 2 ^ 32
  | 0x10 => x.log2
  | 0x14 => x.tail
  | 0x18 => x.head
  | 0x1C => n (·.issued)
  | 0x20 => n (·.confirmed)
  | 0x24 => n Transfer.crcNow
  | 0x28 => s.requesterMask c
  | 0x2C => x.bytes.toNat % 2 ^ 32
  | 0x30 => x.bytes.toNat / 2 ^ 32
  | _ => 0

/-- The time block (Table 13.6). -/
def State.timeReg (s : State) (f : PciFunction) (o : Nat) : Nat :=
  match o with
  | 0x00 => f.ppsIE.toNat * 2
  | 0x04 => flagByte [false, s.calDone, f.snapDone, f.stepped, f.jumpRefused, f.incRefused, f.ppsOverrun]
  | 0x08 => f.snapNs
  | 0x0C => f.snapFrac
  | 0x10 => f.snapSec.toNat % 2 ^ 32
  | 0x14 => f.snapSec.toNat / 2 ^ 32
  | 0x18 => f.snapFlow.toNat % 2 ^ 32
  | 0x1C => f.snapFlow.toNat / 2 ^ 32
  | 0x20 => s.time.inc.toNat % 2 ^ 32
  | 0x24 => s.time.incHi.toNat
  | 0x28 => s.time.ppsNs
  | 0x2C => s.time.ppsSec.toNat % 2 ^ 32
  | 0x30 => s.time.ppsSec.toNat / 2 ^ 32
  | 0x34 => s.time.ppsCount.toNat
  | _ => 0

/-- The DMA engine's registers (Table 15.9). -/
def State.engineReg (s : State) (pf1 : Bool) (o : Nat) : Nat :=
  let h := s.host
  match o with
  | 0x00 => haltedMask s * 65536 + h.halted.toNat
  | 0x04 => h.haltReq * 16 + h.cause
  | 0x08 => h.haltAddr.toNat % 2 ^ 32
  | 0x0C => h.haltAddr.toNat / 2 ^ 32
  | 0x10 => (h.irqErr &&& s.ownMask pf1).toNat * 65536 + (h.irqDone &&& s.ownMask pf1).toNat
  | 0x14 => h.haltCount
  | _ => 0

/-- The error-log block (Table 15.6). -/
def State.errlogReg (s : State) (f : PciFunction) (o : Nat) : Nat :=
  if o = 0 then (decide (s.err.entries.length = 1024)).toNat * 2 ^ 31 + s.err.entries.length
  else if o = 4 then s.err.oldest
  else if o = 8 then f.select.toNat
  else if 0x10 ≤ o then fieldLe f.latched (o - 0x10) 4
  else 0

/-- The secure block (Table 15.7). -/
def State.secureReg (s : State) (o : Nat) : Nat :=
  match o with
  | 0x0 => s.power.profile * 256 + flagByte [s.life.lock, s.canary.armed, s.canary.toggling]
  | 0x4 => s.host.owner.toNat
  | 0x8 => s.host.alertPin.toNat
  | _ => 0

/-- Identity, state and alert registers (Tables 15.3 and 15.4). -/
def State.identityReg (s : State) (pf1 : Bool) (o : Nat) : Nat :=
  let f := s.fn pf1
  match o with
  | 0x000 => 0x2427B000 + pf1.toNat
  | 0x004 => s.strapBits * 16 + s.life.mismatch.toNat * 4 + s.stackClass
  | 0x008 => Config.serial.toNat % 2 ^ 32
  | 0x00C => Config.serial.toNat / 2 ^ 32
  | 0x010 => s.epoch.current.toNat * 65536 + s.life.state.code
  | 0x014 => s.drain.isSome.toNat + s.pairFlags * 2
  | 0x100 => f.alert.toNat
  | 0x104 => f.alertIE.toNat
  | 0x108 => s.intSource pf1
  | _ => 0

/-- A vector's entry in the MSI-X table, or the pending-bit array, which the window of BAR2 shows at 0x1_0000 on. -/
def vectorReg (f : PciFunction) (o : Nat) : Nat :=
  if o = 0x1000 then flagByte (f.vectors.map (·.pending))
  else match f.vectors[o / 16]? with
    | none => 0
    | some e =>
      match o % 16 with
      | 0 => e.address % 2 ^ 32
      | 4 => e.address / 2 ^ 32
      | 8 => e.data.toNat
      | _ => e.masked.toNat

/-- A function's configuration space (Table 15.1), 4 bytes at an offset, which the model shows at 0x2_0000 on. The header's offsets and the
capability layouts are PCI Express's own, and where each capability stands is the model's choice (PRESUMED, log 167). -/
def State.configReg (s : State) (pf1 : Bool) (o : Nat) : Nat :=
  let f := s.fn pf1
  match o with
  | 0x00 => 0x1F6C + 2 ^ 16 * (0x2427 + pf1.toNat)
  | 0x04 => 2 + 4 * f.busMaster.toNat + 2 ^ 20
  | 0x08 => 0xB0 + 2 ^ 8 * 0x028000
  | 0x0C => 2 ^ 23
  | 0x10 => f.bar0 % 2 ^ 32 + 4
  | 0x14 => f.bar0 / 2 ^ 32
  | 0x18 => f.bar2 % 2 ^ 32 + 4
  | 0x1C => f.bar2 / 2 ^ 32
  | 0x34 => 0x40
  | 0x40 => 0x5001
  | 0x44 => 3 * f.d3hot.toNat
  | 0x50 => 0x7011 + 2 ^ 16 * 31 + 2 ^ 30 * f.functionMask.toNat + 2 ^ 31 * f.msixEnable.toNat
  | 0x54 => 2
  | 0x58 => 0x1002
  | 0x70 => 0x20010
  | 0x74 => 2 + 2 ^ 5 + 2 ^ 28
  | 0x78 => 2 ^ 5 * (f.payload / 256) + 2 ^ 8 + 2 ^ 12 * (f.readMax / 256)
  | 0x7C => 4 + 2 ^ 4 * 4 + 2 ^ 11
  | 0x94 => 3
  | 0x98 => f.cplTimeout
  | 0x100 => 3 + 2 ^ 16 + 2 ^ 20 * 0x110
  | 0x104 => Config.serial.toNat % 2 ^ 32
  | 0x108 => Config.serial.toNat / 2 ^ 32
  | 0x110 => 1 + 2 ^ 17
  | _ => 0

/-- The value a register holds (Table 15.2). Offsets not listed read zero (R419), and so does the secure block in PF0. -/
def State.regValue (s : State) (pf1 : Bool) (off : Nat) : Nat :=
  let f := s.fn pf1
  let c := s.chan (fnChan pf1)
  if off < 0x1000 then s.identityReg pf1 off
  else if off < 0x2000 then ofLe (bufSlice c.inbound (off - 0x1000) 4)
  else if off < 0x3000 then fieldLe c.outbound (off - 0x2000) 4
  else if off < 0x4000 then mailboxReg c (off - 0x3000)
  else if off < 0x4400 then s.channelReg ((off - 0x4000) / 64) (off % 64)
  else if 0x4800 ≤ off && off < 0x4818 then s.engineReg pf1 (off - 0x4800)
  else if 0x5000 ≤ off && off < 0x5030 then s.errlogReg f (off - 0x5000)
  else if 0x6000 ≤ off && off < 0x6038 then s.timeReg f (off - 0x6000)
  else if 0x7000 ≤ off && off < 0x700C && pf1 then s.secureReg (off - 0x7000)
  else if 0x10000 ≤ off && off < 0x12000 then vectorReg f (off - 0x10000)
  else if 0x20000 ≤ off && off < 0x21000 then s.configReg pf1 (off - 0x20000)
  else 0

/-- The _HI partner of a _LO register (R7). -/
def hiOf (off : Nat) : Option Nat :=
  if [0x008, 0x4808, 0x6010, 0x6018, 0x6020, 0x602C].contains off then some (off + 4)
  else if 0x4000 ≤ off && off < 0x4400 && (off % 64 = 0x08 || off % 64 = 0x2C) then some (off + 4)
  else none

/-- R7, R418: a read of a register; a _LO latches its _HI, and TIME_PPS_NS marks the capture as read. -/
def State.readReg (s : State) (pf1 : Bool) (off : Nat) : W32 × State :=
  if off % 4 != 0 then (0, s)
  else
    let f := s.fn pf1
    let v := match tget? f.latch off with | some w => w | none => BitVec.ofNat 32 (s.regValue pf1 off)
    let f1 := match hiOf off with
      | some hi => { f with latch := tset f.latch hi (BitVec.ofNat 32 (s.regValue pf1 hi)) }
      | none => f
    (v, s.setFn pf1 (if off = 0x6028 then { f1 with ppsUnread := false } else f1))

/-- R7: a read of a function's window; one of another size than 32 bits, or not aligned, returns zero and does nothing else (R418). -/
def execRegisterRead (pf1 : Bool) (off : Nat) (s : State) (size : Nat := 4) : Host.Outcome State Fault Refusal :=
  if s.windowOpen then
    let (v, s1) := if size = 4 then s.readReg pf1 off else (0, s)
    done s (s1.send (.register pf1 v))
  else .next s

/-! Writing a register (R8, Table 0.4). -/

/-- Clear the bits that a W1C write names. -/
def w1c {n : Nat} (old : BitVec n) (v : Nat) : BitVec n := old &&& ~~~ BitVec.ofNat n v

/-- R423: a write of ERRLOG_SELECT latches the entry at that ring index; an index that holds none latches zeros. -/
def State.selectEntry (s : State) (pf1 : Bool) (v : Nat) : State :=
  let i := v % 1024
  s.setFn pf1 { s.fn pf1 with select := BitVec.ofNat 10 i,
                              latched := fit 32 (s.err.entries.getD ((i + 1024 - s.err.oldest) % 1024) []) }

def execErrlogSelectWrite (pf1 : Bool) (v : W32) (s : State) : Host.Outcome State Fault Refusal :=
  if s.windowOpen then done s (s.selectEntry pf1 v.toNat) else .next s

/-- Mailbox control block (Table 2.8). -/
def State.writeMailbox (s : State) (pf1 : Bool) (o v : Nat) : State :=
  let ch := fnChan pf1
  let c := s.chan ch
  match o with
  | 0x00 => if v % 2 = 1 then s.setChan ch (c.ring s.now s.inService) else s
  | 0x04 => s.setChan ch { c with writeLost := c.writeLost && !Nat.testBit v 4, doorbellLost := c.doorbellLost && !Nat.testBit v 5 }
  | 0x0C => if v % 2 = 1 && c.outStatus then (s.freed ch).placed ch else s
  | 0x10 => s.setChan ch { c with replyIE := Nat.testBit v 0, takenIE := Nat.testBit v 1 }
  | _ => s

/-- A DMA channel's registers, written by its owner (R427, Table 15.8). -/
def State.writeChannel (s : State) (c o v : Nat) : State :=
  let x := s.dma c
  match o with
  | 0x00 => s.writeDmaCtl c v
  | 0x08 => if x.enable then s else s.setDma c { x with base := x.base / 2 ^ 32 * 2 ^ 32 + v / 4096 * 4096 }
  | 0x0C => if x.enable then s else s.setDma c { x with base := v * 2 ^ 32 + x.base % 2 ^ 32 }
  | 0x10 => if 4 ≤ v % 32 && v % 32 ≤ 16 then s.setDma c { x with log2 := v % 32 } else s
  | 0x14 => s.writeDmaTail c (v % 65536)
  | _ => s

/-- The time block (Table 13.6). -/
def State.writeTime (s : State) (pf1 : Bool) (o v : Nat) : State :=
  let f := s.fn pf1
  match o with
  | 0x00 =>
    let s1 := s.setFn pf1 { f with ppsIE := Nat.testBit v 1 }
    if v % 2 = 1 then s1.takeSnap pf1 else s1
  | 0x04 => s.setFn pf1 { f with stepped := f.stepped && !Nat.testBit v 3, jumpRefused := f.jumpRefused && !Nat.testBit v 4,
                                 incRefused := f.incRefused && !Nat.testBit v 5, ppsOverrun := f.ppsOverrun && !Nat.testBit v 6 }
  | 0x20 => if s.booted then s.writeInc (BitVec.ofNat 32 v) else s
  | 0x24 => if s.booted then s.onTime fun t => { t with incHi := BitVec.ofNat 8 v, incWritten := BitVec.ofNat 8 v } else s
  | _ => s

/-- A pending vector that neither its own mask nor the function's holds back is sent (R422). -/
def State.sendPending (s : State) (pf1 : Bool) (i : Nat) : State :=
  let f := s.fn pf1
  match f.vectors[i]? with
  | some e =>
    if e.pending && !e.masked && !f.functionMask && f.msixEnable && f.able then
      (s.setFn pf1 { f with vectors := f.vectors.set i { e with pending := false } }).send (.vector pf1 i)
    else s
  | none => s

/-- A write to the MSI-X table; a pending vector is sent when it is unmasked (R422). -/
def State.writeVector (s : State) (pf1 : Bool) (o v : Nat) : State :=
  let f := s.fn pf1
  match f.vectors[o / 16]? with
  | none => s
  | some e =>
    let set (e1 : Vector) : State := s.setFn pf1 { f with vectors := f.vectors.set (o / 16) e1 }
    match o % 16 with
    | 0 => set { e with address := e.address / 2 ^ 32 * 2 ^ 32 + v }
    | 4 => set { e with address := v * 2 ^ 32 + e.address % 2 ^ 32 }
    | 8 => set { e with data := BitVec.ofNat 32 v }
    | _ => (set { e with masked := v % 2 == 1 }).sendPending pf1 (o / 16)

/-- A write to a register, by its access code (R8, R418, R419). -/
def State.writeReg (s : State) (pf1 : Bool) (off v : Nat) : State :=
  let f := s.fn pf1
  if off % 4 != 0 then s
  else if off = 0x100 then s.setFn pf1 { f with alert := w1c f.alert v }
  else if off = 0x104 then s.setFn pf1 { f with alertIE := BitVec.ofNat 9 v }
  else if 0x1000 ≤ off && off < 0x2000 then s.setChan (fnChan pf1) ((s.chan (fnChan pf1)).write (off - 0x1000) (le 4 v))
  else if 0x3000 ≤ off && off < 0x4000 then s.writeMailbox pf1 (off - 0x3000) v
  else if 0x4000 ≤ off && off < 0x4400 then
    (if s.mayWriteChannel pf1 ((off - 0x4000) / 64) then s.writeChannel ((off - 0x4000) / 64) (off % 64) v else s)
  else if off = 0x4810 then
    let own := s.ownMask pf1
    { s with host := { s.host with irqDone := s.host.irqDone &&& ~~~ (BitVec.ofNat 16 v &&& own),
                                   irqErr := s.host.irqErr &&& ~~~ (BitVec.ofNat 16 (v / 65536) &&& own) } }
  else if off = 0x5008 then s.selectEntry pf1 v
  else if 0x6000 ≤ off && off < 0x6038 then s.writeTime pf1 (off - 0x6000) v
  else if off = 0x7004 && pf1 then s.writeOwner v
  else if off = 0x7008 && pf1 then { s with host := { s.host with alertPin := BitVec.ofNat 9 v } }
  else if 0x10000 ≤ off && off < 0x10200 then s.writeVector pf1 (off - 0x10000) v
  else s

/-- A write that changed its register leaves no older latch on the pair (R7); one without effect leaves the latch as it was (R8). -/
def State.unlatch (old s : State) (pf1 : Bool) (off : Nat) : State :=
  if s.regValue pf1 off == old.regValue pf1 off then s
  else s.setFn pf1 { s.fn pf1 with latch := tdel (tdel (s.fn pf1).latch off) (off + 4) }

/-- What the interrupts of a register write are judged against: at a release OUT_STATUS is 0 before the next reply is placed (R53, R56). -/
def State.beforeWrite (s : State) (pf1 : Bool) (off v : Nat) : State :=
  if off = 0x300C && v % 2 = 1 && (s.chan (fnChan pf1)).outStatus then s.freed (fnChan pf1) else s

/-- R8: a write to a function's window; one of another size than 32 bits is discarded (R418). -/
def execRegisterWrite (pf1 : Bool) (off : Nat) (v : W32) (s : State) (size : Nat := 4) : Host.Outcome State Fault Refusal :=
  if s.windowOpen && size = 4 then done (s.beforeWrite pf1 off v.toNat) (State.unlatch s (s.writeReg pf1 off v.toNat) pf1 off) else .next s

/-! Configuration space (R417, R426). -/

/-- A function's configuration registers as written. -/
def PciFunction.configured (f : PciFunction) (control : PciControl) (d3hot : Bool) (timeout : Nat) : PciFunction :=
  { f with busMaster := control.busMaster, msixEnable := control.msixEnable, functionMask := control.functionMask, d3hot := d3hot,
           cplTimeout := timeout % 16, payload := 128 * 2 ^ min 2 (control.payload % 8), readMax := 128 * 2 ^ min 2 (control.readMax % 8),
           bar0 := control.bar0 % 2 ^ 64 / 65536 * 65536, bar2 := control.bar2 % 2 ^ 64 / 8192 * 8192 }

/-- R426: Bus Master Enable, the MSI-X control, power state and completion timeout of a function; its channels and vectors stop and resume
with them, and a pending vector that is no longer held back is sent. -/
def execConfigSpaceWrite (pf1 : Bool) (control : PciControl) (d3hot : Bool) (timeout : Nat) (s : State) : Host.Outcome State Fault Refusal :=
  if s.windowOpen then
    let s1 := s.setFn pf1 ((s.fn pf1).configured control d3hot timeout)
    done s ((List.range 32).foldl (State.sendPending · pf1) s1)
  else .next s

/-! Resets of a function (R425). -/

/-- Registers of a function that its reset resets; captures, pair events and the sticky time flags are none of them. -/
def PciFunction.flr (f : PciFunction) : PciFunction :=
  { PciFunction.reset with
    ppsOverrun := f.ppsOverrun, incRefused := f.incRefused, jumpRefused := f.jumpRefused, stepped := f.stepped,
    ppsUnread := f.ppsUnread, pairUnread := f.pairUnread }

/-- A mailbox channel reset: the reply of a command that executes is to be discarded. -/
def Channel.flr (c : Channel) : Channel :=
  { Channel.reset with waiting := c.waiting, discard := c.waiting.isSome }

/-- A DMA channel whose function was reset: abandoned, with ENABLE, MODE and the ring registers reset. -/
def State.flrChannel (s : State) (c : Nat) : State :=
  let s1 := s.abandonChannel c
  s1.setDma c { s1.dma c with state := .idle, enable := false, request := false, base := 0, log2 := 4, tail := 0, head := 0 }

/-- R425: what a function level reset has done when it completes. -/
def State.resetFunction (s : State) (pf1 : Bool) : State :=
  let s1 := ((List.range 16).filter fun c => s.ownedByPf1 c == pf1).foldl State.flrChannel s
  let s2 := s1.setFn pf1 (s1.fn pf1).flr
  (s2.setChan (fnChan pf1) (s2.chan (fnChan pf1)).flr).unhalt

def execFunctionLevelReset (pf1 : Bool) (s : State) : Host.Outcome State Fault Refusal :=
  if s.windowOpen then done s (s.resetFunction pf1) else .next s

/-- R425: a hot reset, a link down, or the assertion of PERST_N resets both functions; under PERST_N the link stays down. -/
def execLinkReset (perst : Bool) (s : State) : Host.Outcome State Fault Refusal :=
  let s1 := if perst then { s with pins := { s.pins with perstN := false } } else s
  if !s.windowOpen then .next s1
  else
    let s2 := (s1.resetFunction false).resetFunction true
    done s (if perst then { s2 with host := { s2.host with linkUp := false } } else s2)

/-- R459: PERST_N rises; with RESET_N high the link trains and configuration space becomes ready. -/
def execPerstNRise (s : State) (pcieRef : Bool := true) : Host.Outcome State Fault Refusal :=
  let s1 := { s with pins := { s.pins with perstN := true }, power := { s.power with pcieRef := pcieRef } }
  let up := s.pins.resetN && pcieRef && s.life.state != .off && s.life.state != .reset
  done s (if up then { s1 with host := { s1.host with linkUp := true } } else s1)

end Sys2Proof.Machine
end

