-- ==== Sys2Proof/Machine/Power.lean ====
section
/-!
DEFINITION. The droop response, the power-cap profiles, the thermal limits, and the commands of spec 18.
-/
namespace Sys2Proof.Machine

/-! Droop stages (R505, R506). -/

/-- Monitors and DROOP_N are looked at from INIT on (Table 19.5). -/
def State.underMargin (s : State) (margin : Nat) : Bool := s.power.monitors.any fun mv => decide (mv + margin < Config.vcoreSetPoint)

/-- DROOP_N has been low for DROOPN_DELAY. -/
def State.lowLong (s : State) : Bool :=
  match s.power.droopLow with
  | some t => decide (t + s.power.delayUs * 1000 ≤ s.now)
  | none => false

/-- Causes of stage 1 and of stage 2, by the monitors and by DROOP_N; a disabled source causes none. -/
def State.stageCause (s : State) (stage : Nat) : Bool × Bool :=
  let monitor := s.power.monitorEn && s.underMargin (if stage = 1 then s.power.margin1 else s.power.margin2)
  let pin := s.power.droopEn && (if stage = 1 then s.power.droopLow.isSome else s.lowLong)
  (monitor, pin)

def State.caused (s : State) (stage : Nat) : Bool := (s.stageCause stage).1 || (s.stageCause stage).2

/-- The causes of the stage in force, for the hysteresis. -/
def State.restartAbsent (s : State) : Option Nat :=
  if s.power.stage = 0 || s.caused s.power.stage then none else some s.now

/-- The stage changes; time spent is counted by stage. -/
def State.setStage (s : State) (stage : Nat) : State :=
  let p := s.power
  let spent := s.now - p.stageSince
  let s1 := { s with power := { p with
    stage := stage, stageSince := s.now, time1 := if p.stage = 1 then p.time1 + spent else p.time1,
    time2 := if p.stage = 2 then p.time2 + spent else p.time2 } }
  { s1 with power := { s1.power with absent := s1.restartAbsent } }

/-- A stage is entered: counted, alerted and logged with its source, the monitor where both cause it. -/
def State.enterStage (s : State) (stage : Nat) : State :=
  let source := if (s.stageCause stage).1 then 1 else 2
  let s1 := s.setStage stage
  let s2 := { s1 with power := { s1.power with
    entries1 := if stage = 1 then s1.power.entries1 + 1 else s1.power.entries1,
    entries2 := if stage = 2 then s1.power.entries2 + 1 else s1.power.entries2 } }
  (s2.alert AlertBit.droop).logError ErrCode.droop stage (le 1 source)

/-- After a source changed: a cause of a higher stage raises it at once, and the hysteresis of the stage in force follows its causes
(R505, R506). -/
def State.judgeDroop (s : State) : State :=
  if !s.booted then s
  else if s.power.stage < 2 && s.caused 2 then s.enterStage 2
  else if s.power.stage < 1 && s.caused 1 then s.enterStage 1
  else if s.power.stage = 0 then s
  else
    let absent := if s.caused s.power.stage then none else some (s.power.absent.getD s.now)
    { s with power := { s.power with absent := absent } }

/-- DROOP_N is low from now. -/
def State.droopFalls (s : State) : State := State.judgeDroop { s with power := { s.power with droopLow := some s.now } }

/-- R505: DROOP_N falls; before INIT it is ignored. -/
def execDroopNFall (s : State) : Host.Outcome State Fault Refusal :=
  let s1 := { s with pins := { s.pins with droopN := false } }
  if s.booted && s.pins.droopN then done s s1.droopFalls else .next s1

/-- R506: DROOP_N is released. -/
def execDroopNRise (s : State) : Host.Outcome State Fault Refusal :=
  let s1 := { s with pins := { s.pins with droopN := true }, power := { s.power with droopLow := none } }
  done s s1.judgeDroop

/-- R505: DROOP_N has been low for DROOPN_DELAY. -/
def execDroopnDelayExpire (s : State) : Host.Outcome State Fault Refusal :=
  if s.booted && s.power.droopEn && s.lowLong then done s s.judgeDroop else .next s

/-- R505: a monitor's reading; below a margin it causes a stage, at or above it its cause is absent. -/
def execMonitorUndervoltage (monitor mv : Nat) (s : State) : Host.Outcome State Fault Refusal :=
  if !s.booted || s.power.monitors.length ≤ monitor then .next s
  else
    let p := s.power
    done s (State.judgeDroop { s with power := { p with
      monitors := p.monitors.set monitor mv, lowest := alter p.lowest monitor fun low => min low mv } })

/-- R506: the causes of the stage have been absent for 10 us, and it falls by one. -/
def execDroopStageFall (s : State) : Host.Outcome State Fault Refusal :=
  match s.power.absent with
  | some t => if s.power.stage != 0 && decide (t + 10000 ≤ s.now) then done s (s.setStage (s.power.stage - 1)) else .next s
  | none => .next s

/-! Thermal limits (R514-R516). -/

/-- Limits of Table 18.5 by code, in 1/4 degree C: raised above, cleared at or below. -/
def thermalLimit (warn : Nat) : Nat → Int × Int
  | 1 => (4 * (warn : Int), 4 * (warn : Int) - 12)
  | 2 => (432, 420)
  | 3 => (480, 460)
  | 4 => (380, 368)
  | _ => (420, 400)

/-- One limit judged against a temperature: raised or cleared, with its alert, its log entry and the standing fault THERMAL (R515). -/
def State.judgeLimit (sensor : Nat) (t : Int) (s : State) (code : Nat) : State :=
  let was := s.power.limits.getLsbD (code - 1)
  let (hi, lo) := thermalLimit s.power.warn code
  let bit : BitVec 5 := 1#5 <<< (code - 1)
  let detail := le 1 (unsigned 8 (t / 4)) ++ le 1 code
  if !was && decide (hi < t) then
    let s1 := { s with power := { s.power with limits := s.power.limits ||| bit, limitSince := some (s.power.limitSince.getD s.now) } }
    ((s1.alert AlertBit.thermal).logError ErrCode.thermal sensor detail).setFault FaultBit.thermal true
  else if was && decide (t ≤ lo) then
    let left := s.power.limits &&& ~~~ bit
    let spent := match s.power.limitSince with | some u => s.now - u | none => 0
    let p := { s.power with limits := left }
    let s1 := { s with power := if left = 0 then { p with limitSince := none, limitNs := p.limitNs + spent } else p }
    (s1.logError ErrCode.thermal sensor detail true).setFault FaultBit.thermal (left != 0)
  else s

/-- R514: the die temperature is that of the hottest of the eight sensors. -/
def hottest (sensors : DieSensors) : Int := sensors.toList.foldl max sensors[0]

/-- R514, R515: the on-die sensors are read, and the limits of the die are judged against the hottest. -/
def execDieSensorRead (readings : DieSensors) (s : State) : Host.Outcome State Fault Refusal :=
  if !s.booted then .next s
  else
    let t := hottest readings
    let peak := match s.power.diePeak with | some p => max p t | none => t
    let s1 := { s with power := { s.power with sensors := readings, diePeak := some peak } }
    done s ([1, 2, 3].foldl (State.judgeLimit 0 t) s1)

/-- R358, R515: the stacks' temperature reports are read; above 85.0 C of either, refresh mode HOT applies from the next instant. Refresh runs
from the end of stack training on; the limits are judged from INIT on. -/
def execStackTempRead (t0 t1 : Int) (s : State) : Host.Outcome State Fault Refusal :=
  if !s.trained then .next s
  else
    let s1 := { s with dram := { s.dram with temp0 := t0, temp1 := t1, hotNext := decide (340 < t0) || decide (340 < t1) } }
    let sensor := if t0 < t1 then 2 else 1
    done s (if s.booted then [4, 5].foldl (State.judgeLimit sensor (max t0 t1)) s1 else s1)

/-! Power profiles (R510-R512). -/

/-- A profile acts at once: ports that lose a lane go down, and ports that are released start again in SERVICE and DEGRADED. -/
def State.setProfile (s : State) (n : Nat) : State :=
  let s1 := { s with power := { s.power with profile := n } }
  State.noteLinks s (((List.range 24).filter fun p => s.capHolds p != s1.capHolds p).foldl State.retrain s1)

def bodySecurePowerProfile (m : Msg) (s : State) : Done :=
  if 1 < m.p 0 then badParam s 0
  else if 2 < m.p 1 || (m.p 0 = 0 && m.p 1 != 0) then badParam s 1
  else needZero s m [2, 3] <|
    let s1 := if m.p 0 = 1 then s.setProfile (m.p 1) else s
    ok s1 (le 1 s1.power.profile ++ zeros 3)

/-- R512: SECURE_POWER_PROFILE. -/
def cmdSecurePowerProfile : Cmd :=
  { op := 0x1203, legal := legalAll, len := lenIs 4, changes := fun m => m.p 0 == 1, body := bodySecurePowerProfile }
def execSecurePowerProfile (m : Msg) (s : State) : Host.Outcome State Fault Refusal := runCommand cmdSecurePowerProfile m s

/-! Commands (R517, R518). -/

def lowestOf (l : List Nat) : Nat := l.foldl min 65535

/-- Time in a stage so far, in us. -/
def State.stageUs (s : State) (stage : Nat) : Nat :=
  ((if stage = 1 then s.power.time1 else s.power.time2) + (if s.power.stage = stage then s.now - s.power.stageSince else 0)) / 1000

/-- POWER_STATUS's reply; the estimated power is a free value. -/
def State.powerBytes (s : State) (mw : W32) : Bytes :=
  let p := s.power
  let heat := s.power.limits.getLsbD 1 || s.power.limits.getLsbD 2
  le 1 p.profile ++ le 1 p.stage ++ le 1 (flagByte [s.underMargin p.margin1, p.droopLow.isSome, heat]) ++ zeros 1 ++ le 2 s.ceiling ++
    le 2 Config.vcoreSetPoint ++ le 2 (lowestOf p.monitors) ++ le 2 (lowestOf p.lowest) ++ le 4 mw.toNat ++ le 8 p.entries1 ++
    le 8 p.entries2 ++ le 8 (s.stageUs 1) ++ le 8 (s.stageUs 2) ++ le 8 p.overflow0.toNat ++ le 8 p.overflow1.toNat

def State.clearPower (s : State) : State :=
  { s with power := { s.power with lowest := s.power.monitors, entries1 := 0, entries2 := 0, time1 := 0, time2 := 0, stageSince := s.now,
                                   overflow0 := 0, overflow1 := 0 } }

def bodyPowerStatus (m : Msg) (s : State) : Done :=
  if 1 < m.p 0 then badParam s 0
  else needZero s m [1, 2, 3] <|
    let (mw, s1) := s.draw
    ok (if m.p 0 = 1 then s1.clearPower else s1) (s1.powerBytes mw)

/-- R518: POWER_STATUS. -/
def cmdPowerStatus : Cmd :=
  { op := 0x1001, legal := legalAll, len := lenIs 4, changes := fun m => m.p 0 == 1, perDevice := true, onBmc := true,
    body := bodyPowerStatus }
def execPowerStatus (m : Msg) (s : State) : Host.Outcome State Fault Refusal := runCommand cmdPowerStatus m s

def State.clockBytes (s : State) : Bytes :=
  let p := s.power
  le 1 (flagByte [p.rootLock, p.refOk, p.pcieRef]) ++ zeros 1 ++ le 2 s.ceiling ++ le 4 p.laneLock.toNat ++ le 8 p.coreCycles.toNat ++
    le 8 p.timeCycles.toNat ++ zeros 8

/-- R518: CLOCK_STATUS. -/
def cmdClockStatus : Cmd :=
  { op := 0x1002, legal := legalAll, len := lenIs 0, changes := fun _ => false, onBmc := true, body := fun _ s => ok s s.clockBytes }
def execClockStatus (m : Msg) (s : State) : Host.Outcome State Fault Refusal := runCommand cmdClockStatus m s

def State.thermalBytes (s : State) : Bytes :=
  let p := s.power
  let spent := p.limitNs + (match p.limitSince with | some t => s.now - t | none => 0)
  le 2 (unsigned 16 (hottest p.sensors)) ++ le 2 (unsigned 16 (p.diePeak.getD (hottest p.sensors))) ++ le 2 (unsigned 16 s.dram.temp0) ++
    le 2 (unsigned 16 s.dram.temp1) ++ le 1 p.limits.toNat ++ le 1 (flagByte [s.thermN, s.dram.hot.isSome]) ++ le 1 p.warn ++ zeros 1 ++
    le 4 (satur 32 (spent / 1000000000)) ++ zeros 16

/-- R518: THERMAL_READ. -/
def cmdThermalRead : Cmd :=
  { op := 0x1003, legal := legalAll, len := lenIs 0, changes := fun _ => false, onBmc := true, body := fun _ s => ok s s.thermalBytes }
def execThermalRead (m : Msg) (s : State) : Host.Outcome State Fault Refusal := runCommand cmdThermalRead m s

def droopInForce (op : Nat) (p : Power) : Bytes :=
  le 1 op ++ le 1 (flagByte [p.droopEn, p.monitorEn]) ++ le 2 p.margin1 ++ le 2 p.margin2 ++ le 2 p.delayUs ++ le 1 p.warn ++ zeros 7

/-- R505, R518: the droop sources, margins, delay and WARN. -/
def bodyDroopConfig (m : Msg) (s : State) : Done :=
  match m.p 0 with
  | 0 => needZero s m (span 1 15) (ok s (droopInForce 0 s.power))
  | 1 =>
    let m1 := m.f 2 2
    let m2 := m.f 4 2
    if 3 < m.p 1 then badParam s 1
    else if m1 < 20 || 100 < m1 then outOfRange s 2
    else if m2 < 40 || 150 < m2 || m2 ≤ m1 then outOfRange s 4
    else if 1000 < m.f 6 2 then outOfRange s 6
    else if m.p 8 < 85 || 107 < m.p 8 then outOfRange s 8
    else needZero s m (span 9 15) <|
      let p := { s.power with droopEn := Nat.testBit (m.p 1) 0, monitorEn := Nat.testBit (m.p 1) 1, margin1 := m1, margin2 := m2,
                              delayUs := m.f 6 2, warn := m.p 8 }
      ok (State.judgeDroop { s with power := p }) (droopInForce 1 p)
  | _ => badParam s 0

/-- R518: DROOP_CONFIG. -/
def cmdDroopConfig : Cmd :=
  { op := 0x1004, legal := legalRead fun m => m.p 0 == 0, len := lenIs 16, locks := fun m => m.p 0 == 1, changes := fun m => m.p 0 == 1,
    body := bodyDroopConfig }
def execDroopConfig (m : Msg) (s : State) : Host.Outcome State Fault Refusal := runCommand cmdDroopConfig m s

end Sys2Proof.Machine
end

