-- ==== Sys2Proof/Machine/Lifecycle.lean ====
section
/-!
DEFINITION. Power, reset, BOOT, the device states and the commands that move between them, and the secure life-cycle commands (spec 16).
-/
namespace Sys2Proof.Machine

/-! RESET (R449-R453). -/

/-- The device in RESET: everything at its reset value (R453), but for the levels the board holds on its balls, the TAP, and what is the
model's own: its clock runs on, so before a first change a port's time since its last link-state change counts from instant 0 of that clock
(R99, DESIGN CHOICE, log 135). -/
def State.intoReset (s : State) : State :=
  { State.reset with now := s.now, free := s.free, out := s.out, pending := s.pending,
                     pins := { s.pins with gpio3 := false, gpio3At := 0 } }

/-- R460: rails are applied with RESET_N low; the device passes from OFF to RESET. -/
def execPowerOn (s : State) : Host.Outcome State Fault Refusal :=
  if s.life.state == .off || s.life.state == .reset then
    .next ({ s with pins := { s.pins with resetN := false, boundary := 0, tapInstr := 1 } } : State).intoReset
  else .next s

/-- R527: a low pulse of RESET_N or PWR_OK, with the board's levels as it leaves them: one shorter than 100 ns is ignored, and one of 1 us or
more resets; between the two the spec says nothing, and whether it resets is free (DESIGN CHOICE, log 170). -/
def State.lowPulse (s : State) (ns : Nat) (pins : Pins) : State :=
  if s.life.state == .off || ns < 100 then s
  else if 1000 ≤ ns then ({ s with pins := pins } : State).intoReset
  else if s.draw.1.getLsbD 0 then ({ s.draw.2 with pins := pins } : State).intoReset
  else s.draw.2

/-- R453, R527: RESET_N falls, and stays low for `low` ns, at least 1 us unless it is a glitch. -/
def execResetNFall (s : State) (low : Nat := 1000) : Host.Outcome State Fault Refusal :=
  .next (s.lowPulse low { s.pins with resetN := false })

/-- R451, R527: PWR_OK falls, and stays low for `low` ns, at least 1 us unless it is a glitch. -/
def execPwrOkFall (s : State) (low : Nat := 1000) : Host.Outcome State Fault Refusal :=
  .next (s.lowPulse low { s.pins with pwrOk := false })

/-- R504: the root PLL loses lock, which is watched from the end of BOOT step 1 on; only a rise of RESET_N leaves RESET again. -/
def execRootPllLockLost (s : State) : Host.Outcome State Fault Refusal :=
  if s.power.rootLock then .next s.intoReset else .next s

/-! BOOT (R454-R459). -/

/-- A failing step leaves the device in BOOT for good (R457). -/
def State.bootFails (s : State) (code : Nat) : State :=
  State.logError { s with life := { s.life with bootFail := some code } } ErrCode.bootFail 0 (le 1 code)

/-- Retire an index, or a row of 16 tiles (kind 2), found bad at BOOT: withdrawn, logged and counted (R222, R360, R361). -/
def State.bootRetires (s : State) (kind space i : Nat) : State :=
  let r : Retired := { kind := kind, source := 1, space := space, stack := if space = 0 then i / 16 % 2 else 0, index := i, clock := 0 }
  let s1 : State :=
    { s with
        dram := { s.dram with retired := s.dram.retired ++ [r] },
        life := if space = 0 then { s.life with bootRetired := s.life.bootRetired + 16 } else s.life,
        rule := if space = 1 then s.rule.retire i else s.rule,
        flow := if space = 2 then { s.flow with hotRetired := s.flow.hotRetired ++ [i] }
                else if space = 3 then { s.flow with cacheRetired := s.flow.cacheRetired ++ [i] } else s.flow }
  (s1.lifeCount 10 (if space = 0 then 16 else 1)).logError ErrCode.tileRetired space (le 4 i)

/-- Step 1: the PLLs lock (R456, R504). -/
def State.bootClocks (s : State) : State :=
  { s with power := { s.power with rootLock := true, laneLock := BitVec.allOnes 26 } }

/-- Step 3: BIST of the on-die SRAM retires ways and rule-store tiles it cannot repair (R456, R222). -/
def State.bootBist (s : State) (b : BootFacts) : State :=
  let s1 := { s with life := { s.life with sramRepaired := b.sramRepaired } }
  let s2 := b.storeRetired.foldl (fun s i => s.bootRetires 1 1 i) s1
  let s3 := b.hotRetired.foldl (fun s i => s.bootRetires 1 2 i) s2
  b.cacheRetired.foldl (fun s i => s.bootRetires 1 3 i) s3

/-- Step 4: the stacks' class is known, and CFG2 and CFG3 are checked (R455). -/
def State.bootClass (s : State) (hb : Bool) : State :=
  let mismatch := s.life.straps.cfg2 == hb
  let s1 := { s with life := { s.life with fitted := some hb, mismatch := mismatch, strapFault := mismatch || s.life.straps.cfg3 } }
  if s1.life.strapFault then s1.logError ErrCode.strapFault 0 (le 1 s1.strapBits ++ le 1 s1.stackClass) else s1

/-- A channel lost at BOOT: all its tiles are retired (R361, R222). -/
def State.bootLoses (s : State) (c cause : Nat) : State :=
  let s1 := (s.loseChannel c 1 cause).lifeCount 10 s.channelTiles
  { s1 with life := { s1.life with bootRetired := s1.life.bootRetired + s1.channelTiles, faults := s1.life.faults ||| 1#5 } }

/-- The rows that could not be repaired, each by its first tile (R360). -/
def bootRows (b : BootFacts) : List Nat := b.badRows.flatMap fun r => (List.range ((r.2 + 15) / 16)).map fun k => r.1 + 16 * k

/-- Channels that train but hold more than 64 rows that could not be repaired (R361). -/
def bootWorn (b : BootFacts) : List Nat :=
  (List.range 32).filter fun c => !b.untrained.contains c && decide (64 < ((bootRows b).filter fun i => tileChannel i == c).length)

/-- Steps 5 and 6: channels are trained and the first refresh falls (R357), rows are tested and repaired, and every tile is left holding the
invalid pattern (R360). A channel that fails is lost whole; elsewhere each bad row is retired (R361). -/
def State.bootStacks (s : State) (b : BootFacts) : State :=
  let s0 := { s.memCount 9 with dram := { (s.memCount 9).dram with lastRefresh := s.now } }
  let s1 := (b.untrained.filter (· < 32)).foldl (fun s c => s.bootLoses c 1) s0
  let s2 := (bootWorn b).foldl (fun s c => s.bootLoses c 2) s1
  let s3 := b.repaired.foldl (fun s e => { s with dram := { s.dram with channels := alter s.dram.channels e.1 fun x => { x with repaired := e.2 } } }) s2
  ((bootRows b).filter fun i => !(b.untrained ++ (bootWorn b)).contains (tileChannel i)).foldl (fun s i => s.bootRetires 2 0 i) s3

/-- The steps of BOOT in order, to the first that fails (Table 16.2). -/
def State.boot (s : State) (b : BootFacts) : State :=
  if !b.pllOk then s.bootFails 1
  else if !b.romOk then s.bootClocks.bootFails 2
  else
    let s3 := s.bootClocks.bootBist b
    if !b.bistOk then s3.bootFails 3
    else if b.stack0HB != b.stack1HB then s3.bootFails 4
    else (s3.bootClass b.stack0HB).bootStacks b

/-- R450, R451, R456, R527: a rising edge of RESET_N with PWR_OK high for at least 1 us (`highFor`, in ns) samples the straps, resets the TAP
and begins BOOT; any other is ignored. -/
def execResetNRise (pwrOk : Bool) (cfg : Nat) (b : BootFacts) (s : State) (highFor : Nat := 1000) : Host.Outcome State Fault Refusal :=
  if s.pins.resetN || s.life.state == .off then .next s
  else
    let straps : Straps := { cfg0 := Nat.testBit cfg 0, cfg1 := Nat.testBit cfg 1, cfg2 := Nat.testBit cfg 2, cfg3 := Nat.testBit cfg 3 }
    let s1 := { s with pins := { s.pins with resetN := true, pwrOk := pwrOk, cfg := straps, tapInstr := 1 } }
    if !pwrOk || highFor < 1000 then .next s1
    else
      let s2 := { s1 with life := { s1.life with straps := straps }, power := { s1.power with pcieRef := b.pcieRef },
                          host := { s1.host with linkUp := s1.pins.perstN && b.pcieRef } }
      done s ((s2.enter .boot).boot b)

/-- Instants from which what is paced starts to count at INIT (R183, R370, R461). -/
def State.startClocks (s : State) : State :=
  { s with flow := { s.flow with sweepStart := s.now, scrubStart := s.now, sweepFrom := s.now, sweepFromPos := 0, scrubFrom := s.now,
                                 scrubFromPos := 0 },
           fwd := { s.fwd with ageStart0 := s.flowNow, ageStart1 := s.flowNow },
           telem := { s.telem with intervalStart := s.now },
           canary := { s.canary with level := .low, alive0 := s.now, alive1 := s.now, halfAt := s.now, windowAt := s.now } }

/-- Step 7: the seeds are drawn (R204, R266). -/
def State.drawSeeds (s : State) : State :=
  let (a, s1) := s.draw
  let (b, s2) := s1.draw
  let (c, s3) := s2.draw
  { s3 with flow := { s3.flow with seed0 := a, seed1 := if b = a then a + 1 else b }, fwd := { s3.fwd with seed := c } }

/-- R458: BOOT ends in INIT, or in RECOVER with STACKS_LOST where no channel is trained; from then on the monitors and DROOP_N are judged
(R505, Table 19.5). -/
def execBootComplete (ms : Nat) (s : State) : Host.Outcome State Fault Refusal :=
  if s.life.state != .boot || s.life.bootFail.isSome then .next s
  else
    let s1 := { s with life := { s.life with bootMs := ms % 65536 } }
    let s2 := ((s1.buildRegions (defaultPlan s1.hb)).drawSeeds).startClocks.standingTasks
    let s3 :=
      if s2.dram.channels.all (·.lost) then State.enter { s2 with life := { s2.life with causes := 2 } } .recover else s2.enter .init
    done s (State.judgeDroop (if s3.pins.droopN then s3 else { s3 with power := { s3.power with droopLow := some s3.now } }))

/-! Commands of the device (R466-R470). -/

/-- DEVICE_IDENTIFY's reply (Table 16.6). -/
def State.identify (s : State) : Bytes :=
  le 2 0x2427 ++ le 1 0xB0 ++ le 1 s.stackClass ++ le 1 s.strapBits ++ le 1 s.life.state.code ++ le 1 s.pairFlags ++ zeros 1 ++
    le 8 Config.serial.toNat ++ le 2 s.epoch.current.toNat ++ zeros 2 ++ le 4 (satur 32 (s.time.flow.toNat / 1000000000)) ++ zeros 8

/-- R466: DEVICE_IDENTIFY. -/
def cmdDeviceIdentify : Cmd :=
  { op := 0x0102, legal := legalAll, len := lenIs 0, changes := fun _ => false, onBmc := true, body := fun _ s => ok s s.identify }
def execDeviceIdentify (m : Msg) (s : State) : Host.Outcome State Fault Refusal := runCommand cmdDeviceIdentify m s

/-- Start readiness (Table 16.8). -/
def State.readiness (s : State) : Nat :=
  flagByte [s.life.strapFault, !s.life.committed, s.host.halted, s.life.clearing != .none]

/-- The recover causes that stand: DMA_STACK is cleared once no channel is HALTED (R470, R484). -/
def State.causesLeft (s : State) : BitVec 3 := if s.anyHalted then s.life.causes else s.life.causes &&& 6

/-- DEVICE_STATUS's reply (Table 16.7). -/
def State.deviceStatus (s : State) : Bytes :=
  le 1 s.life.state.code ++ le 1 s.life.prev.code ++ le 2 s.epoch.current.toNat ++ le 4 s.life.faults.toNat ++
    le 1 s.causesLeft.toNat ++ le 1 s.readiness ++ le 1 (flagByte [s.life.lock, s.life.clearing != .none]) ++ zeros 1 ++
    le 4 (satur 32 ((s.now - s.life.since) / 1000000)) ++ le 2 s.life.bootMs ++ le 2 (s.dram.channels.filter (·.lost)).length ++
    le 4 s.life.bootRetired ++ le 4 s.life.sramRepaired ++ le 2 (flagByte (s.miners.miners.map (·.withdrawn))) ++ zeros 18

/-- R467: DEVICE_STATUS. -/
def cmdDeviceStatus : Cmd :=
  { op := 0x0103, legal := legalAll, len := lenIs 0, changes := fun _ => false, onBmc := true, body := fun _ s => ok s s.deviceStatus }
def execDeviceStatus (m : Msg) (s : State) : Host.Outcome State Fault Refusal := runCommand cmdDeviceStatus m s

/-- The reply of a command that enters SERVICE or DEGRADED. -/
def enterService (s : State) : Done :=
  { state := s, params := le 1 s.serviceState.code ++ zeros 3, enters := some s.serviceState }

def bodyDeviceStart (m : Msg) (s : State) : Done :=
  needZero s m (span 0 3) <| if s.readiness != 0 then refuse s Status.badParam s.readiness else enterService s

/-- R468: DEVICE_START. -/
def cmdDeviceStart : Cmd :=
  { op := 0x0104, legal := legalIn [.init], len := lenIs 4, changes := fun _ => true, body := bodyDeviceStart }
def execDeviceStart (m : Msg) (s : State) : Host.Outcome State Fault Refusal := runCommand cmdDeviceStart m s

/-- R469: DEVICE_TEST_ENTER. -/
def cmdDeviceTestEnter : Cmd :=
  { op := 0x0105, legal := legalIn [.init], len := lenIs 4, changes := fun _ => true,
    body := fun m s => needZero s m (span 0 3) { state := s, enters := some .test } }
def execDeviceTestEnter (m : Msg) (s : State) : Host.Outcome State Fault Refusal := runCommand cmdDeviceTestEnter m s

/-- R469: leaving TEST, at once, or with CLEAR_LIVE after every live table is back at its INIT condition. -/
def bodyDeviceTestExit (m : Msg) (s : State) : Done :=
  if 1 < m.p 0 then badParam s 0
  else needZero s m [1, 2, 3] <|
    let s1 := s.endLoopbacks
    if m.p 0 = 0 then { state := s1, enters := some .init }
    else
      let runs := (List.range 4).flatMap s1.regionRuns
      let s2 := s1.clearLive runs
      ok { s2 with life := { s2.life with clearing := .testExit } }

def cmdDeviceTestExit : Cmd :=
  { op := 0x0106, legal := legalIn [.test], len := lenIs 4, changes := fun _ => true, body := bodyDeviceTestExit }
def execDeviceTestExit (m : Msg) (s : State) : Host.Outcome State Fault Refusal := runCommand cmdDeviceTestExit m s

/-- R363, R469: a clearing completes; after a test exit the device enters INIT. -/
def execClearingComplete (s : State) : Host.Outcome State Fault Refusal :=
  let s1 := { s with life := { s.life with clearing := .none } }
  match s.life.clearing with
  | .none => .next s
  | .testExit => done s (if s.life.state == .test then s1.enter .init else s1)
  | .plan => done s s1.remakeCopies

def bodyDeviceResume (m : Msg) (s : State) : Done :=
  needZero s m (span 0 3) <|
    if s.causesLeft != 0 then refuse s Status.badParam s.causesLeft.toNat
    else enterService { s with life := { s.life with causes := 0 } }

/-- R470: DEVICE_RESUME. -/
def cmdDeviceResume : Cmd :=
  { op := 0x0107, legal := legalIn [.recover], len := lenIs 4, changes := fun _ => true, body := bodyDeviceResume }
def execDeviceResume (m : Msg) (s : State) : Host.Outcome State Fault Refusal := runCommand cmdDeviceResume m s

/-! Secure life-cycle commands (R471-R473). -/

/-- R471: SECURE_CONFIG_LOCK. -/
def bodySecureConfigLock (m : Msg) (s : State) : Done :=
  if 3 < m.p 0 then badParam s 0
  else needZero s m [1, 2, 3] <|
    if m.p 0 = 2 && s.life.sticky then refuse s Status.locked 0
    else
      let life := match m.p 0 with
        | 1 => { s.life with lock := true }
        | 2 => { s.life with lock := false }
        | 3 => { s.life with lock := true, sticky := true }
        | _ => s.life
      ok { s with life := life } (le 1 (flagByte [life.lock, life.sticky]) ++ zeros 3)

def cmdSecureConfigLock : Cmd :=
  { op := 0x1201, legal := legalAll, len := lenIs 4, changes := fun m => m.p 0 != 0, body := bodySecureConfigLock }
def execSecureConfigLock (m : Msg) (s : State) : Host.Outcome State Fault Refusal := runCommand cmdSecureConfigLock m s

/-- Bytes of the fused digest and key. -/
def romDigest : Bytes := (List.range 48).map Config.romDigestByte
def attestKey : Bytes := (List.range 97).map Config.attestKeyByte

/-- SECURE_IDENTITY READ's reply (Table 16.9). -/
def State.identity (s : State) : Bytes :=
  le 2 0x2427 ++ le 1 0xB0 ++ le 1 s.stackClass ++ le 1 s.strapBits ++ zeros 3 ++ le 8 Config.serial.toNat ++ romDigest ++ attestKey ++
    zeros 7 ++ fit 32 s.life.label

def bodySecureIdentity (m : Msg) (s : State) : Done :=
  if 1 < m.p 0 then badParam s 0
  else needZero s m [1, 2, 3] <|
    if m.p 0 = 0 then ok s s.identity else ok { s with life := { s.life with label := slice m.params 4 32 } }

/-- R472: SECURE_IDENTITY; READ takes 4 bytes, SET_LABEL 36. -/
def cmdSecureIdentity : Cmd :=
  { op := 0x1204, legal := legalAll,
    len := fun m => if m.p 0 = 0 then (m.len.toNat == 4, 36) else if m.p 0 = 1 then (m.len.toNat == 36, 36) else lenOneOf [4, 36] m, most := fun _ => 36,
    locks := fun m => m.p 0 == 1, changes := fun m => m.p 0 == 1, body := bodySecureIdentity }
def execSecureIdentity (m : Msg) (s : State) : Host.Outcome State Fault Refusal := runCommand cmdSecureIdentity m s

/-- The statement that SECURE_ATTEST signs (Table 16.10). -/
def State.statement (s : State) (nonce : Bytes) : Bytes :=
  fit 32 nonce ++ le 8 Config.serial.toNat ++ le 2 0x2427 ++ le 1 0xB0 ++ le 1 s.stackClass ++ le 1 s.strapBits ++ le 1 s.life.state.code ++
    le 1 (flagByte [s.life.lock, s.life.sticky]) ++ zeros 1 ++ le 2 s.epoch.current.toNat ++ zeros 2 ++ le 4 s.epoch.sequence.toNat ++
    le 4 s.epoch.changes.toNat ++ zeros 4 ++ le 8 s.time.flow.toNat ++ zeros 8 ++ romDigest

def bodySecureAttest (m : Msg) (s : State) : Done :=
  needZero s m (span 32 35) <|
    let st := s.statement (m.params.take 32)
    ok s (st ++ (List.range 96).map (Config.signatureByte st))

/-- R473: SECURE_ATTEST. -/
def cmdSecureAttest : Cmd :=
  { op := 0x1205, legal := legalAll, len := lenIs 36, changes := fun _ => false, body := bodySecureAttest }
def execSecureAttest (m : Msg) (s : State) : Host.Outcome State Fault Refusal := runCommand cmdSecureAttest m s

end Sys2Proof.Machine
end

