-- ==== Sys2Proof/Machine/Epochs.lean ====
section
/-!
DEFINITION. Epochs: the boundary of a commit, the drain, and the epoch commands (spec 01 R29-R40, 02 R69-R74, 17 R491).
-/
namespace Sys2Proof.Machine

/-! Holders of an epoch (R32, R37, R439). -/

/-- A packet, packet-driven miner task or snapshot read holds the stamp. A packet that has started transmission holds it no longer. -/
def State.epochHeld (s : State) (e : W16) : Bool :=
  (s.buf.queues.any fun q => q.2.items.any fun x => x.pkt.stamp == e) ||
  ((s.buf.recirc0 ++ s.buf.recirc1).any fun p => p.stamp == e) ||
  ((s.buf.lane0 ++ s.buf.lane1).any fun p => p.waited.isSome && p.stamp == e) ||
  ((s.buf.reinject0 ++ s.buf.reinject1).any fun x => x.1.stamp == e) ||
  ((s.flow.held0 ++ s.flow.held1).any fun x => x.pkt.stamp == e) ||
  (s.miners.tasks.any fun t => t.2.type == TaskType.flowSetup && t.2.stamp == e) ||
  (s.flow.exporter.state == .running && s.flow.exporter.holds == some e) ||
  (s.host.holds.any fun h => h.epoch == e) || (s.host.channels.any fun c => c.holds == some e)

/-- DMA channels that hold an epoch, as a mask (R439). -/
def State.dmaMask (s : State) (e : W16) : Nat := flagByte (s.host.channels.map fun c => c.holds == some e)

/-! The boundary (R34, Table 1.8). -/

/-- Subscribers that either version of a commit defines and that have drawn no token yet: their buckets are full at the old depth. -/
def State.untouched (old s : State) : List Nat :=
  ((s.cur.nat.subs.map (·.1) ++ old.cur.nat.subs.map (·.1)).eraseDups.filter fun n => (tget? s.flow.tokens n).isNone)

/-- A new-flow bucket is carried over a boundary with the tokens it holds, cut to its new depth; a deeper one fills at its rate alone
(R213). -/
def State.applyTokens (old s : State) : State :=
  let level (n : Nat) : Nat := min ((s.newLimit s.cur n).depth * 1000000000) (old.tokensOf n (old.newLimit old.cur n))
  let moved := (State.untouched old s).filter fun n => (old.newLimit old.cur n).depth < (s.newLimit s.cur n).depth
  let kept := s.flow.tokens.map fun t => (t.1, level t.1, s.now)
  { s with flow := { s.flow with tokens := moved.foldl (fun t n => tset t n (level n, s.now)) kept } }

/-- What follows from the switch of the staged tables, table by table. -/
def State.applyTables (old s : State) : State :=
  let s1 := (State.applyTaskPlan old (State.applyPorts old s)).applyGrowth.applyBuilds
  let s2 := State.applyPeriods old (State.applyForwarding old (State.applyNodes old (State.applyTokens old s1.applyMended)))
  (State.settleGroups old (State.applyIntervals old (State.applyPtp old s2)).settleRules).settleCopies.notePeak

/-- Boundary B: both pipelines and egress switch to the shadow's tables under the new number, the old epoch starts to drain, and a new
shadow equal to the new version opens (R32, R34, R69, R73). -/
def State.boundary (s : State) (new : W16) : State :=
  let s1 : State :=
    { s with
        drain := some { epoch := s.epoch.current, since := s.now, tables := s.cur },
        cur := s.shadow,
        epoch := { s.epoch with current := new, changes := 0, sequence := s.epoch.sequence + 1,
                                lastSec := BitVec.ofNat 32 s.time.sec.toNat, lastNs := BitVec.ofNat 32 s.time.ns },
        life := { s.life with committed := true } }
  s.applyTables s1

/-- The EPOCH_COMMIT reply (Table 2.11): new and previous epoch, changes applied, boundary time and commit sequence. -/
def commitBytes (old s : State) : Bytes :=
  le 2 s.epoch.current.toNat ++ le 2 old.epoch.current.toNat ++ le 4 old.epoch.changes.toNat ++ le 4 s.epoch.lastSec.toNat ++
    le 4 s.epoch.lastNs.toNat ++ le 4 s.epoch.sequence.toNat

/-- R32, R33: the last holder of the draining epoch has left; its table versions are released. -/
def execEpochDrained (s : State) : Host.Outcome State Fault Refusal :=
  match s.drain with
  | some d => if s.epochHeld d.epoch then .next s else done s (State.settleGroups s { s with drain := none }.settleRules).settleCopies
  | none => .next s

/-! Commands (R69-R74). -/

/-- Builds into shadow seams in progress. -/
def State.buildsRunning (s : State) : Nat :=
  (s.rule.builds.filter fun b => b.state == .running).length + (s.fwd.build.state == .running).toNat

/-- DISCARD: the shadow becomes the current version again, builds are abandoned and reservations released (R70, R153, R279, R364). -/
def State.discardShadow (s : State) : State :=
  let s1 := s.abandonBuilds.abandonRoutes.dropGrowth.dropMended
  let s2 := { s1 with shadow := s1.cur, epoch := { s1.epoch with changes := 0 } }
  State.settleGroups s s2.settleRules

def bodyEpochStage (m : Msg) (s : State) : Done :=
  if 1 < m.p 0 then badParam s 0
  else needZero s m [1, 2, 3] <|
    let s1 := if m.p 0 = 1 then s.discardShadow else s
    ok s1 (le 4 s1.epoch.changes.toNat ++ le 4 s1.cowTiles ++ le 2 s1.buildsRunning ++ zeros 2)

/-- R70: EPOCH_STAGE. -/
def cmdEpochStage : Cmd :=
  { op := 0x0201, legal := legalAll, len := lenIs 4, changes := fun m => m.p 0 == 1, body := bodyEpochStage }
def execEpochStage (m : Msg) (s : State) : Host.Outcome State Fault Refusal := runCommand cmdEpochStage m s

/-- The epoch that drains here or on the joined peer (R71 step 2). -/
def State.drainingEpoch (s : State) : Option W16 :=
  match s.drain with
  | some d => some d.epoch
  | none => if s.pair.state == .joined && s.pair.peerDraining then some (s.epoch.current - 1) else none

/-- R71, R72, R491: the checks; a primary of a joined pair then sends PREPARE and waits, any other device sets its boundary. A primary
that brings a peer back puts the commit in the journal (R497). -/
def bodyEpochCommit (m : Msg) (s : State) : Done :=
  needZero s m (span 4 7) <|
    match s.drainingEpoch with
    | some e =>
      let n := satur 32 (s.epoch.refused + 1)
      refuse { s with epoch := { s.epoch with refused := n } } Status.busyEpoch e.toNat
    | none =>
      let new := s.epoch.current + 1
      if m.f 0 4 != 0xFFFFFFFF && m.f 0 4 != s.epoch.changes.toNat then badParam s 0
      else if s.forwards then
        let s1 := { s with pair := { s.pair with commitMsg := some m, commitSent := false } }
        let s2 := s1.setChan m.ch { s1.chan m.ch with waiting := some (.commit m none) }
        { state := s2.onEach (.prepare new), holds := true }
      else
        let s1 := s.boundary new
        let s2 := if s.journals then s1.journalAdd 2 0 (le 2 new.toNat) else s1
        { state := s2, params := commitBytes s s1, epoch := some new }

/-- R71: EPOCH_COMMIT; it follows R491 in a pair and is never forwarded. -/
def cmdEpochCommit : Cmd :=
  { op := 0x0202, legal := legalRun, len := lenIs 8, changes := fun _ => true, perDevice := true, body := bodyEpochCommit }
def execEpochCommit (m : Msg) (s : State) : Host.Outcome State Fault Refusal := runCommand cmdEpochCommit m s

/-- The EPOCH_STATUS reply (Table 2.12). SNAPSHOT_HOLD is set for an export's or a seam's hold; a DMA channel's hold shows in DMA_HOLD and
the mask (DESIGN CHOICE, log 134). -/
def State.epochStatus (s : State) : Bytes :=
  let e := match s.drain with | some d => d.epoch.toNat | none => 0
  let mask := match s.drain with | some d => s.dmaMask d.epoch | none => 0
  let read := match s.drain with
    | some d => (s.flow.exporter.state == .running && s.flow.exporter.holds == some d.epoch) || s.host.holds.any fun h => h.epoch == d.epoch
    | none => false
  let age := match s.drain with | some d => (s.now - d.since) / 1000 | none => 0
  le 2 s.epoch.current.toNat ++ le 2 e ++
    le 1 (flagByte [s.drain.isSome, s.pair.state == .joined && s.pair.peerDraining, read, mask != 0]) ++ zeros 1 ++ le 2 mask ++
    le 4 (satur 32 age) ++ le 4 s.epoch.changes.toNat ++ le 4 s.epoch.sequence.toNat ++ le 4 s.epoch.lastSec.toNat ++
    le 4 s.epoch.lastNs.toNat ++ le 4 s.epoch.refused

/-- R74: EPOCH_STATUS. -/
def cmdEpochStatus : Cmd :=
  { op := 0x0203, legal := legalAll, len := lenIs 0, changes := fun _ => false, onBmc := true, body := fun _ s => ok s s.epochStatus }
def execEpochStatus (m : Msg) (s : State) : Host.Outcome State Fault Refusal := runCommand cmdEpochStatus m s

end Sys2Proof.Machine
end

