-- ==== Sys2Proof/Machine/Errors.lean ====
section
/-!
DEFINITION. The commands of the error log (spec 17 R475-R482, R500, R501).
-/
namespace Sys2Proof.Machine

/-- Entries held, index of the oldest, OVERFLOW. -/
def State.logHeader (s : State) : Bytes :=
  le 2 s.err.entries.length ++ le 2 s.err.oldest ++ le 1 (decide (s.err.entries.length = 1024)).toNat ++ zeros 3

def bodyErrlogRead (m : Msg) (s : State) : Done :=
  if s.err.entries.length ≤ m.f 0 2 then outOfRange s 0
  else if m.p 2 = 0 || 126 < m.p 2 then outOfRange s 2
  else needZero s m (span 3 7) <| ok s (s.logHeader ++ ((s.err.entries.drop (m.f 0 2)).take (m.p 2)).flatMap (fit 32))

/-- R501: ERRLOG_READ. -/
def cmdErrlogRead : Cmd :=
  { op := 0x1101, legal := legalAll, len := lenIs 8, changes := fun _ => false, perDevice := true, onPeer := false, body := bodyErrlogRead }
def execErrlogRead (m : Msg) (s : State) : Host.Outcome State Fault Refusal := runCommand cmdErrlogRead m s

/-- R481: the oldest entries are removed; the indices of those that remain do not change. -/
def State.dropEntries (s : State) (n : Nat) : State :=
  let k := min n s.err.entries.length
  { s with err := { s.err with entries := s.err.entries.drop k, oldest := (s.err.oldest + k) % 1024 } }

/-- R481: a class's counts are zeroed and its records emptied; its spacing runs on. -/
def ErrClass.clear (c : ErrClass) : ErrClass := { c with occ := 0, unrec := 0, first := none, last := none }

def bodyErrlogClear (m : Msg) (s : State) : Done :=
  let held (x : State) : Done := ok x (le 2 x.err.entries.length ++ zeros 2)
  if 3 < m.p 0 then badParam s 0
  else needZero s m [1] <|
    match m.p 0 with
    | 0 => if m.f 2 2 = 0 || 1024 < m.f 2 2 then outOfRange s 2 else held (s.dropEntries (m.f 2 2))
    | 1 => needZero s m [2, 3] (held (s.dropEntries 1024))
    | 2 =>
      if m.f 2 2 = 0 || 0x14 < m.f 2 2 then outOfRange s 2
      else held { s with err := { s.err with classes := alter s.err.classes (m.f 2 2 - 1) ErrClass.clear } }
    | _ => needZero s m [2, 3] (held { s with err := { s.err with classes := s.err.classes.map ErrClass.clear } })

/-- R481, R501: ERRLOG_CLEAR. -/
def cmdErrlogClear : Cmd :=
  { op := 0x1102, legal := legalAll, len := lenIs 4, changes := fun _ => true, perDevice := true, onPeer := false, body := bodyErrlogClear }
def execErrlogClear (m : Msg) (s : State) : Host.Outcome State Fault Refusal := runCommand cmdErrlogClear m s

/-- One class of ERRLOG_CLASS_READ's reply; a code that names no class has zeros after it. -/
def State.classBytes (s : State) (code : Nat) : Bytes :=
  le 2 code ++ (match (if code = 0 then none else s.err.classes[code - 1]?) with
    | some c => zeros 2 ++ le 4 c.occ ++ le 4 c.unrec ++ zeros 4 ++ fit 32 (c.first.getD []) ++ fit 32 (c.last.getD [])
    | none => zeros 78)

def bodyErrlogClassRead (m : Msg) (s : State) : Done :=
  if m.p 2 = 0 || 50 < m.p 2 then outOfRange s 2
  else needZero s m [3] <| ok s ((List.range (m.p 2)).flatMap fun k => s.classBytes ((m.f 0 2 + k) % 65536))

/-- R501: ERRLOG_CLASS_READ. -/
def cmdErrlogClassRead : Cmd :=
  { op := 0x1103, legal := legalAll, len := lenIs 4, changes := fun _ => false, perDevice := true, onPeer := false,
    body := bodyErrlogClassRead }
def execErrlogClassRead (m : Msg) (s : State) : Host.Outcome State Fault Refusal := runCommand cmdErrlogClassRead m s

/-- R501: ERRLOG_STATUS. -/
def cmdErrlogStatus : Cmd :=
  { op := 0x1104, legal := legalAll, len := lenIs 0, changes := fun _ => false, perDevice := true, onBmc := true, onPeer := false,
    body := fun _ s => ok s (s.logHeader ++ le 4 s.err.written.toNat ++
      le 4 (satur 32 ((s.err.classes.map (·.unrec)).foldl (· + ·) 0))) }
def execErrlogStatus (m : Msg) (s : State) : Host.Outcome State Fault Refusal := runCommand cmdErrlogStatus m s

end Sys2Proof.Machine
end

