-- ==== Sys2Proof/Machine/Miners.lean ====
section
/-!
DEFINITION. The miners' own events, and their commands (spec 11).
-/
namespace Sys2Proof.Machine

/-! Completion, parking and faults (R327, R329, R331). -/

/-- R329: an event task whose work is done completes, and frees its miner and its slot. -/
def execTaskComplete (miner : Nat) (trail : List MicroOp) (wait rom : Nat) (s : State) : Host.Outcome State Fault Refusal :=
  match s.onMiner miner with
  | some (k, t) =>
    if s.workOver t.work then
      let s0 := s.minerCount 1 rom
      match runTrail trail t.address t.stack with
      | .fault c a => done s (s0.failMiner miner k t c a wait)
      | .at a _ =>
        let s1 := s0.release miner t
        let s2 := { s1 with miners := { s1.miners with
            tasks := tdel s1.miners.tasks k,
            types := alter s1.miners.types (t.type - 1) fun y => { y with completed := y.completed + 1 } } }
        done s (s2.trace 3 miner k t a wait)
    else .next s
  | none => .next s

/-- R329, R331: a standing task with no work parks on wait code 0x09. -/
def execTaskPark (miner : Nat) (trail : List MicroOp) (rom : Nat) (s : State) : Host.Outcome State Fault Refusal :=
  match s.onMiner miner with
  | some (k, t) =>
    if s.workless t then
      let s0 := s.minerCount 1 rom
      match runTrail trail t.address t.stack with
      | .fault c a => done s (s0.failMiner miner k t c a 9)
      | .at a st => done s (s0.parkTask miner k t a st)
    else .next s
  | none => .next s

/-- R327: a miner meets an uncorrectable ROM word, cause 0x01, where `trail` leads, or a fault of the return stack on the way; `rom` words
were corrected before it. -/
def execMinerFault (miner rom : Nat) (trail : List MicroOp) (wait : Nat) (s : State) : Host.Outcome State Fault Refusal :=
  match s.onMiner miner with
  | some (k, t) =>
    match runTrail trail t.address t.stack with
    | .fault c a => done s ((s.minerCount 1 rom).failMiner miner k t c a wait)
    | .at a _ => done s ((s.minerCount 1 rom).failMiner miner k t 1 a wait)
  | none => .next s

/-! Commands (R345-R349). -/

/-- A miner entry (Table 11.8); the microcode address of a running miner is a value the spec leaves open. -/
def State.minerEntry (s : State) (m : Nat) : Bytes :=
  if (s.miner m).withdrawn then le 1 3 ++ zeros 7
  else match s.onMiner m with
    | none => zeros 8
    | some (k, t) =>
      le 1 (if (s.miner m).yield.isSome then 2 else 1) ++ le 1 t.type ++
        le 1 ((if s.promoted t.type then 8 else 0) + s.level t.type) ++ [0] ++ le 2 k ++
        le 2 ((Config.freeWord (s.free + m)).toNat % 0x8000)

/-- A type entry (Table 11.9). -/
def State.typeEntry (s : State) (t : Nat) : Bytes :=
  let x := s.miners.types.getD (t - 1) ⟨0, 0, 0⟩
  le 1 t ++ le 1 (s.level t) ++ le 1 (s.typeCfg t).maxMiners ++ le 1 (s.minersOf t) ++
    le 2 (s.miners.tasks.filter fun e => e.2.type == t && e.2.state == .ready).length ++ le 2 (s.slotsOf t) ++
    le 8 x.completed.toNat ++ le 8 x.preempted.toNat ++
    le 8 ((x.timeNs + ((s.running.filter fun r => r.2.2.type == t).map fun r => s.unbilled r.2.2).foldl (· + ·) 0) / 1000)

/-- CLEAR zeroes the figures of every type, the time of running tasks among them (R346). -/
def State.clearMinerFigures (s : State) : State :=
  { s with miners := { s.miners with
      types := s.miners.types.map (fun _ => ⟨0, 0, 0⟩), counters := zeroBank s.miners.counters,
      tasks := s.miners.tasks.map fun e => (e.1, { e.2 with billed := s.now }) } }

def bodyMinerStatus (m : Msg) (s : State) : Done :=
  if 2 ≤ m.p 0 then badParam s 0
  else needZero s m [1, 2, 3] <|
    let out := (s.miners.ready.flatMap fun l => le 2 l.length) ++ ((List.range 16).flatMap s.minerEntry) ++
      ((List.range 11).flatMap fun i => s.typeEntry (i + 1)) ++ bankBytes s.miners.counters
    let s1 := { s with free := s.free + 16 }
    ok (if m.p 0 = 1 then s1.clearMinerFigures else s1) out

/-- R346: MINER_STATUS. -/
def cmdMinerStatus : Cmd :=
  { op := 0x0A01, legal := legalAll, len := lenIs 4, changes := fun m => m.p 0 == 1, body := bodyMinerStatus }
def execMinerStatus (m : Msg) (s : State) : Host.Outcome State Fault Refusal := runCommand cmdMinerStatus m s

/-- The record of a type as MINER_TASK_LEVEL READ replies it. -/
def taskLevelRecord (c : TaskCfg) (t : Nat) : Bytes :=
  let x := c.types.getD (t - 1) ⟨0, 1⟩
  le 1 t ++ [0] ++ le 1 x.level ++ le 1 x.maxMiners ++ le 2 (if t = 1 then c.flowSlots else 0) ++ [0, 0]

/-- Largest MAX_MINERS of a type. -/
def maxMinersOf (t : Nat) : Nat := if t = 1 then 14 else if t = 5 then 8 else 16

def recMinerTaskLevel (m : Msg) (s : State) (b : Bytes) (base : Nat) : RecAns :=
  let t := byteAt b 0
  if !(1 ≤ t && t ≤ 11) then .refuse Status.badParam base
  else if byteAt b 1 = 0 then
    recZero b base (span 2 7) (.ok s (taskLevelRecord (s.view m).task t))
  else if byteAt b 1 = 1 then
    if !m.stage then noStage
    else if 7 < byteAt b 2 then .refuse Status.range (base + 2)
    else if byteAt b 3 = 0 || maxMinersOf t < byteAt b 3 then .refuse Status.range (base + 3)
    else if (if t = 1 then fieldLe b 4 2 < 1024 || 3840 < fieldLe b 4 2 else fieldLe b 4 2 != 0) then .refuse Status.range (base + 4)
    else recZero b base [6, 7] <|
      .ok (s.stageWith fun v => { v with task :=
        { types := v.task.types.set (t - 1) ⟨byteAt b 2, byteAt b 3⟩, flowSlots := if t = 1 then fieldLe b 4 2 else v.task.flowSlots } }) []
  else .refuse Status.badParam (base + 1)

/-- R347: MINER_TASK_LEVEL. -/
def cmdMinerTaskLevel : Cmd :=
  { op := 0x0A02, flags := flagsIn 5, legal := legalRead fun m => !anyRec m 8 1, len := lenRec 8 11, locks := fun m => anyRec m 8 1,
    changes := fun m => anyRec m 8 1, body := fun m s => records m 8 (recMinerTaskLevel m) s }
def execMinerTaskLevel (m : Msg) (s : State) : Host.Outcome State Fault Refusal := runCommand cmdMinerTaskLevel m s

def bodyMinerTraceRead (m : Msg) (s : State) : Done :=
  let take := m.p 0 == 1
  if 1 < m.p 0 then badParam s 0
  else needZero s m [1] <|
    if m.f 2 2 = 0 || 254 < m.f 2 2 then outOfRange s 2
    else needZero s m (span 4 7) <|
      let es := s.miners.trace.take (m.f 2 2)
      let first := match es with | e :: _ => fieldLe e 14 2 | [] => s.miners.traceSeq.toNat
      let out := le 2 s.miners.trace.length ++ le 2 first ++ le 4 s.miners.traceLost ++ es.flatten
      ok (if take then { s with miners := { s.miners with trace := s.miners.trace.drop es.length, traceLost := 0 } } else s) out

/-- R349: MINER_TRACE_READ. -/
def cmdMinerTraceRead : Cmd :=
  { op := 0x0A03, legal := legalAll, len := lenIs 8, changes := fun m => m.p 0 == 1, body := bodyMinerTraceRead }
def execMinerTraceRead (m : Msg) (s : State) : Host.Outcome State Fault Refusal := runCommand cmdMinerTraceRead m s

def bodyMinerTraceConfig (m : Msg) (s : State) : Done :=
  if m.p 0 = 0 then
    needZero s m (span 1 7) <|
      ok s ([0] ++ le 1 (flagByte [s.miners.traceOn, s.miners.traceStop]) ++ le 2 s.miners.traceTypes.toNat ++
        le 1 s.miners.traceReasons.toNat ++ [0] ++ le 2 s.miners.traceMiners.toNat)
  else if m.p 0 = 1 then
    if 4 ≤ m.p 1 then badParam s 1
    else if m.p 2 % 2 = 1 then badParam s 2
    else if 16 ≤ m.p 3 then badParam s 3
    else if m.p 4 % 2 = 1 then badParam s 4
    else needZero s m [5] <|
      ok { s with miners := { s.miners with
        traceOn := bitAt m.params 1 0, traceStop := bitAt m.params 1 1, traceTypes := BitVec.ofNat 16 (m.f 2 2),
        traceReasons := BitVec.ofNat 8 (m.p 4), traceMiners := BitVec.ofNat 16 (m.f 6 2), trace := [], traceLost := 0 } }
  else badParam s 0

/-- R348: MINER_TRACE_CONFIG. -/
def cmdMinerTraceConfig : Cmd :=
  { op := 0x0A04, legal := legalAll, len := lenIs 8, changes := fun m => m.p 0 != 0, body := bodyMinerTraceConfig }
def execMinerTraceConfig (m : Msg) (s : State) : Host.Outcome State Fault Refusal := runCommand cmdMinerTraceConfig m s


end Sys2Proof.Machine
end

