-- ==== Sys2Proof/Machine/Pair.lean ====
section
/-!
DEFINITION. The redundant pair: joining, heartbeats sent, forwarding's answers, the two-phase commit, and the pair commands
(spec 17 R485-R501).
-/
namespace Sys2Proof.Machine

/-! What a member tells (R487, R488). -/

/-- The device's facts for a join or rejoin. -/
def State.facts (s : State) (thisPrimary : Bool) : JoinFacts :=
  { devState := s.life.state.code, committed := s.life.committed, changes := s.epoch.changes.toNat, stepping := 0xB0, classHB := s.hb,
    digest := romDigest, strapFault := s.life.strapFault, hostSeams := s.dram.dir.used.any fun e => e.2.host, cfg0 := s.life.straps.cfg0,
    thisPrimary := thisPrimary, inconsistent := s.life.causes.getLsbD 2, serial := Config.serial, plan := s.plan, seed0 := s.flow.seed0,
    seed1 := s.flow.seed1, bridgeSeed := s.fwd.seed }

/-- The heartbeat a member sends on a lane (R487). -/
def State.heartbeat (s : State) (west : Bool) : Heartbeat :=
  { west := west, role := s.pair.role.code, pairState := s.pair.state.code, devState := s.life.state.code, epoch := s.epoch.current,
    commitSeq := s.epoch.sequence, journal := if s.pair.role == .primary then s.pair.jSeq else s.pair.jApplied, alive0 := s.canary.live0,
    alive1 := s.canary.live1, relinquish := s.pair.relinquish, cause := s.pair.cause, draining := s.drain.isSome, leaving := false, facts := s.facts false }

/-- Age of the oldest journal record that is not acknowledged, in ns (R492). -/
def State.journalLag (s : State) : Nat := match s.pair.journal with | r :: _ => s.now - r.time | [] => 0

/-- R487: a heartbeat on each peer lane that is UP, every 100 us; a journal lag above LAG_ALARM sets PAIR_EVENT (Table 17.9). -/
def execHeartbeatSend (s : State) : Host.Outcome State Fault Refusal :=
  if !s.booted || s.now < s.pair.beat + 100000 then .next s
  else
    let s1 := { s with pair := { s.pair with beat := s.now } }
    let s3 := s.lanesUp.foldl (fun x p => x.sendBeat p (s.heartbeat (p == 25))) s1
    let late := s.pair.role == .primary && s.pair.state != .none && decide (s.pair.lagAlarm * 1000 < s.journalLag)
    done s (if late then s3.alert AlertBit.pairEvent else s3)

/-- A heartbeat has been received within 300 us (R487, R488). -/
def State.peerHeard (s : State) : Bool := match s.pair.heard with | some t => decide (s.now < t + 300000) | none => false

/-! Commands that wait for the peer (R42, R489, R491). -/

/-- The detail of a reply whose change landed on this device alone. -/
def Reply.alone (r : Reply) : Reply := if r.status = 0 then { r with detail := 9 } else r

/-- A channel's waiting command ends with its reply, and then its transition takes effect (R464). -/
def State.endWait (s : State) (ch : Nat) (r : Reply) (d : Option DevState := none) : State :=
  ((s.setChan ch { s.chan ch with waiting := none }).reply ch r).enters d

/-- A commit lands here alone (R39, R72): its boundary is set, if it has not been, and its reply says so. -/
def State.commitAlone (s : State) (ch : Nat) (m : Msg) (r : Option Reply) : State :=
  let s0 := { s with pair := { s.pair with commitMsg := none, commitSent := false } }
  match r with
  | some r => s0.endWait ch r.alone
  | none =>
    let s1 := s0.boundary (s0.epoch.current + 1)
    s1.endWait ch (replyOf 0x0202 m s1.epoch.current 0 9 (commitBytes s0 s1))

/-- Every command that waits for the peer ends without it. -/
def State.releaseWaiting (s : State) : State :=
  [0, 1, 3].foldl (fun s ch =>
    match (s.chan ch).waiting with
    | some (.peer _ r d) => s.endWait ch r.alone d
    | some (.commit m r) => s.commitAlone ch m r
    | _ => s) s

/-! Divergence (R494). -/

/-- PEER_INCONSISTENT: the yielding member raises the recover cause, enters RECOVER and becomes DIVERGED; the other becomes SOLO. -/
def State.diverge (s : State) (yields : Bool) (cause : Nat) : State :=
  let s1 := s.pairEvent ErrCode.peerInconsistent s.pair.role.code (le 1 cause ++ zeros 1 ++ le 2 s.pair.peerEpoch.toNat)
  if yields then
    let s2 := { s1 with pair := { s1.pair with prepared := none, relinquish := false, holding := false, cause := cause } }
    ((s2.setPair .diverged .secondary).raiseCause 2).releaseWaiting
  else
    let s2 := (s1.setPair .solo s1.pair.role).dropCopy
    State.releaseWaiting { s2 with pair := { s2.pair with cause := cause } }

/-- R489: the secondary's reply to a forwarded command arrives; only OK matches what the primary executed. -/
def execPeerReplyArrival (ch : Nat) (status _detail : W16) (_params : Bytes) (s : State) : Host.Outcome State Fault Refusal :=
  match (s.chan ch).waiting with
  | some (.peer _ r d) =>
    if 3 < ch then .next s
    else
      let s1 := { s with pair := { s.pair with out := { s.pair.out with pending := false, outStatus := false } } }
      if status = 0 then done s (s1.endWait ch r d) else done s ((s1.endWait ch r.alone d).diverge false 2)
  | _ => .next s

/-- A forwarded command waits for the peer. -/
def State.waitsForPeer (s : State) : Bool :=
  [0, 1, 3].any fun ch => match (s.chan ch).waiting with | some (.peer _ _ _) => true | _ => false

/-- R63: the peer's flags for the PEER channel arrive; a withdrawn forwarded command is a divergence (R489). -/
def execPeerMailboxFlags (taken timeout outStatus : Bool) (s : State) : Host.Outcome State Fault Refusal :=
  let out : PeerChannel :=
    { pending := s.pair.out.pending && !taken && !timeout, taken := taken, timeout := timeout, outStatus := outStatus }
  let s1 := { s with pair := { s.pair with out := out } }
  done s (if timeout && s.waitsForPeer then s1.diverge false 3 else s1)

/-! The two-phase commit (R491). -/

/-- R491: the secondary receives PREPARE, seals its shadow and answers ready. -/
def execPairPrepare (epoch : W16) (s : State) : Host.Outcome State Fault Refusal :=
  if s.pair.role == .secondary && s.pair.state == .joined && s.booted then
    done s ({ s with pair := { s.pair with prepared := some epoch } }.onEach .ready)
  else .next s

/-- R491: the secondary receives COMMIT and applies it at its own boundary. -/
def execPairCommit (epoch : W16) (s : State) : Host.Outcome State Fault Refusal :=
  match s.pair.prepared with
  | some _ => done s ((State.boundary { s with pair := { s.pair with prepared := none } } epoch).onEach .applied)
  | none => .next s

/-- R491: the secondary is ready; the primary sends COMMIT naming the new epoch and sets its own boundary. -/
def execPairReady (s : State) : Host.Outcome State Fault Refusal :=
  match s.pair.commitMsg with
  | some m =>
    if s.pair.commitSent then .next s
    else
      let s1 := { s with pair := { s.pair with commitSent := true } }.onEach (.commit (s.epoch.current + 1))
      let s2 := s1.boundary (s1.epoch.current + 1)
      let r := replyOf 0x0202 m s2.epoch.current 0 0 (commitBytes s1 s2)
      done s (s2.setChan m.ch { s2.chan m.ch with waiting := some (.commit m (some r)) })
  | none => .next s

/-- R491: the secondary has applied; the primary places the EPOCH_COMMIT reply. -/
def execPairApplyConfirm (s : State) : Host.Outcome State Fault Refusal :=
  match s.pair.commitMsg with
  | some m =>
    match (s.chan m.ch).waiting with
    | some (.commit _ (some r)) =>
      done s ({ s with pair := { s.pair with commitMsg := none, commitSent := false } }.endWait m.ch r)
    | _ => .next s
  | none => .next s

/-! Joining (R488). -/

/-- Whether the device that asks becomes primary: named by its command, or told by CFG0; none where neither decides. -/
def joinRole (asker other : JoinFacts) : Option Bool :=
  if asker.thisPrimary then some true else if asker.cfg0 == other.cfg0 then none else some (!asker.cfg0)

/-- Both are of one build, and neither has STRAP_FAULT (item 3). -/
def sameBuild (a b : JoinFacts) : Bool :=
  a.stepping == b.stepping && a.classHB == b.classHB && a.digest == b.digest && !a.strapFault && !b.strapFault

def freshInit (f : JoinFacts) : Bool := f.devState == 3 && !f.committed && f.changes == 0

/-- The first of items 2 to 5 that fails for a device that asks and its peer. -/
def joinFails (asker peer : JoinFacts) : Option Nat :=
  if !(freshInit asker && freshInit peer) then some 2
  else if !sameBuild asker peer then some 3
  else if peer.hostSeams then some 4
  else if (joinRole asker peer).isNone then some 5
  else none

/-- The secondary takes the primary's plan and seeds. -/
def State.adopt (s : State) (f : JoinFacts) : State :=
  let s1 := (s.setPlan f.plan).remakeCopies
  { s1 with flow := { s1.flow with seed0 := f.seed0, seed1 := f.seed1 }, fwd := { s1.fwd with seed := f.bridgeSeed } }

/-- The journal starts anew: at a join, and at the start of a rejoin (R488, R497). -/
def Pair.freshJournal (p : Pair) : Pair := { p with journal := [], jSeq := 0, jApplied := 0, copied := false, tilesCopied := 0 }

/-- A member enters JOINED in a role (R488, R497). -/
def State.becomeJoined (s : State) (r : Role) : State :=
  let p := { s.pair with joinedAs := r, prepared := none, relinquish := false, cause := 0,
                         stale := false, holding := false, resync := false, copied := false, portsHeld := false }
  State.noteLinks s (State.setPair { s with pair := p } .joined r)

/-- The same by a join. -/
def State.joins (s : State) (r : Role) : State := State.becomeJoined { s with pair := s.pair.freshJournal } r

def pairRole (primary : Bool) : Role := if primary then .primary else .secondary

def bodyPairJoin (m : Msg) (s : State) : Done :=
  if 1 < m.p 0 then badParam s 0
  else needZero s m [1, 2, 3] <|
    let f := s.facts (m.p 0 == 1)
    let g := s.pair.peerFacts
    if !s.peerHeard then refuse s Status.peerFail 4
    else match joinFails f g with
      | some n => refuse s Status.peerFail 3 (le 2 (2 ^ (n - 1)))
      | none =>
        let primary := (joinRole f g).getD false
        let s1 := s.onEach (.joinRequest f)
        let s2 := if primary then s1 else s1.adopt g
        ok ((s2.joins (pairRole primary)).pairChange 0x01) (le 1 (pairRole primary).code ++ zeros 7 ++ le 8 g.serial.toNat)

/-- R488, R501: PAIR_JOIN. -/
def cmdPairJoin : Cmd :=
  { op := 0x0F01, legal := legalIn [.init], len := lenIs 4, locks := fun _ => true, changes := fun _ => true, perDevice := true,
    body := bodyPairJoin }
def execPairJoin (m : Msg) (s : State) : Host.Outcome State Fault Refusal := runCommand cmdPairJoin m s

/-- R488: a join request from a peer that has found every item met. -/
def execJoinRequest (j : JoinFacts) (s : State) : Host.Outcome State Fault Refusal :=
  match joinRole j (s.facts false) with
  | some primary =>
    if s.life.state != .init || (joinFails j (s.facts false)).isSome then .next s
    else
      let s1 := if primary then s.adopt j else s
      let s2 := { s1 with pair := { s1.pair with peerFacts := j, peerSerial := j.serial, heard := some (s1.pair.heard.getD s1.now) } }
      done s ((s2.joins (pairRole !primary)).pairChange 0x01)
  | none => .next s

/-! PAIR_LEAVE (R498). -/

/-- The pair ends on this device; a former secondary keeps its front ports DISABLED until its next commit. -/
def State.leavePair (s : State) : State :=
  let s1 := (s.pairChange 0x04).releaseWaiting.dropCopy
  let p := { s1.pair with portsHeld := s1.pair.portsHeld || s1.pair.role == .secondary, joinedAs := .none, journal := [], prepared := none,
                          relinquish := false, cause := 0, holding := false, stale := false }
  State.noteLinks s (State.setPair { s1 with pair := p, life := { s1.life with causes := s1.life.causes &&& 3 } } .none .none)

def bodyPairLeave (m : Msg) (s : State) : Done :=
  needZero s m (span 0 3) <|
    let s1 := if s.peerHeard then s.onEach .leave else s
    ok s1.leavePair (le 1 s.peerHeard.toNat ++ zeros 3)

/-- R498: PAIR_LEAVE. -/
def cmdPairLeave : Cmd :=
  { op := 0x0F02, legal := legalIn [.init, .service, .degraded, .recover], len := lenIs 4, locks := fun _ => true, changes := fun _ => true,
    perDevice := true, body := bodyPairLeave }
def execPairLeave (m : Msg) (s : State) : Host.Outcome State Fault Refusal := runCommand cmdPairLeave m s

/-! PAIR_STATUS, PAIR_CONFIG (R501). -/

/-- Tiles of the live regions that a rejoin copies. -/
def State.copyTiles (s : State) : Nat := s.regionSize 0 + s.regionSize 1 + s.regionSize 2

/-- A copy of the live regions is being made or awaited (R497). -/
def State.copying (s : State) : Bool := (s.pair.state == .syncing || s.pair.holding) && !s.pair.copied

/-- The PAIR_STATUS reply (Table 17.9); how far a copy in progress has come is a free value up to its size. -/
def State.pairStatus (s : State) (w : W32) : Bytes :=
  let p := s.pair
  let age := match p.heard with | some t => (s.now - t) / 1000 | none => 65535
  le 1 p.state.code ++ le 1 p.role.code ++ le 1 p.peerState ++ le 1 (flagByte [(s.port 24).link == .up, (s.port 25).link == .up]) ++
    le 8 p.peerSerial.toNat ++ le 2 p.peerEpoch.toNat ++ le 2 (satur 16 age) ++ le 4 (satur 32 (s.journalLag / 1000)) ++
    le 4 p.journal.length ++
    le 4 (if s.copying then w.toNat % (s.copyTiles + 1) else p.tilesCopied) ++ le 4 p.events.toNat ++
    le 8 (if p.role == .secondary then p.jApplied else p.jSeq) ++ le 8 p.discarded ++ le 4 p.failovers ++ le 4 p.rejoins ++ zeros 8

/-- The pair event count was returned through a channel: vector 15's condition of its function ends (R499). -/
def State.pairSeen (s : State) (ch : Nat) : State :=
  let s1 := { s with pair := { s.pair with seen := s.pair.seen.set ch s.pair.events } }
  if ch < 2 then s1.setFn (ch == 1) { s1.fn (ch == 1) with pairUnread := false } else s1

def bodyPairStatus (m : Msg) (s : State) : Done :=
  if 1 < m.p 0 then badParam s 0
  else needZero s m [1, 2, 3] <|
    let (w, s1) := s.draw
    let s2 := s1.pairSeen m.ch
    ok (if m.p 0 = 1 then { s2 with pair := { s2.pair with discarded := 0 } } else s2) (s.pairStatus w)

/-- R501: PAIR_STATUS. -/
def cmdPairStatus : Cmd :=
  { op := 0x0F03, legal := legalAll, len := lenIs 4, changes := fun m => m.p 0 == 1, perDevice := true, onBmc := true,
    body := bodyPairStatus }
def execPairStatus (m : Msg) (s : State) : Host.Outcome State Fault Refusal := runCommand cmdPairStatus m s

def pairInForce (op : Nat) (p : Pair) : Bytes :=
  le 1 op ++ le 1 (flagByte [p.autoTakeover, p.autoResync]) ++ le 2 p.lagAlarm ++ zeros 4

def bodyPairConfig (m : Msg) (s : State) : Done :=
  match m.p 0 with
  | 0 => needZero s m (span 1 7) (ok s (pairInForce 0 s.pair))
  | 1 =>
    if 3 < m.p 1 then badParam s 1
    else if m.f 2 2 = 0 || 10000 < m.f 2 2 then outOfRange s 2
    else needZero s m (span 4 7) <|
      let p := { s.pair with autoTakeover := Nat.testBit (m.p 1) 0, autoResync := Nat.testBit (m.p 1) 1, lagAlarm := m.f 2 2 }
      ok { s with pair := p } (pairInForce 1 p)
  | _ => badParam s 0

/-- R501: PAIR_CONFIG. -/
def cmdPairConfig : Cmd :=
  { op := 0x0F05, legal := legalRead fun m => m.p 0 == 0, len := lenIs 8, locks := fun m => m.p 0 == 1, changes := fun m => m.p 0 == 1,
    body := bodyPairConfig }
def execPairConfig (m : Msg) (s : State) : Host.Outcome State Fault Refusal := runCommand cmdPairConfig m s

/-! Rejoining (R497). -/

/-- The first item that a peer does not meet for a rejoin: INIT, or RECOVER with PEER_INCONSISTENT; items 3 and 4 of R488. -/
def rejoinFails (own peer : JoinFacts) : Option Nat :=
  if !(peer.devState == 3 || (peer.devState == 6 && peer.inconsistent)) then some 2
  else if !sameBuild own peer then some 3
  else if peer.hostSeams then some 4
  else none

/-- The HOST entries of a version in its synchronised domains, which the pair mirrors; those of ordinary domains are each member's own
(R274). -/
def Staged.mirrored (v : Staged) : Staged :=
  let keep (e : Nat × HostEntry) : Bool := v.fwd.synced (e.1 / 2 ^ 48)
  { v with fwd := { v.fwd with hosts0 := v.fwd.hosts0.filter keep, hosts1 := v.fwd.hosts1.filter keep } }

/-- The configuration to copy (R497 step 2). -/
def State.copyOf (s : State) : PairCopy :=
  { cur := s.cur.mirrored, shadow := s.shadow.mirrored, dir := s.dram.dir, regions := s.dram.regions, free := s.dram.free, growth := s.dram.growth,
    blocks := s.nat.blocks, live := [], copies := s.fwd.copies.filter fun c => c.1.heldBy s.cur.mirrored, epoch := s.epoch.current,
    sequence := s.epoch.sequence, changes := s.epoch.changes }

def bodyPairRejoin (m : Msg) (s : State) : Done :=
  needZero s m (span 0 3) <|
    if !(s.pair.state == .solo && s.pair.role == .primary) then refuse s Status.state s.life.state.code
    else if !s.peerHeard then refuse s Status.peerFail 4
    else match rejoinFails (s.facts false) s.pair.peerFacts with
      | some n => refuse s Status.peerFail 3 (le 2 (2 ^ (n - 1)))
      | none => match State.newTasks TaskType.command .liveCopy 8 s with
      | none => refuse s Status.noRoom 0x10
      | some s0 =>
        let n := s0.pair.rejoinSeq + 1
        let s1 := { s0 with pair := { s0.pair.freshJournal with rejoinSeq := n, resync := false } }
        let s2 := (s1.onEach (.rejoinRequest (s.facts false))).onPeer (.pairCopy s.copyOf)
        ok ((s2.setPair .syncing .primary).pairChange 0x02) (le 4 n.toNat)

/-- R497: PAIR_REJOIN. -/
def cmdPairRejoin : Cmd :=
  { op := 0x0F04, legal := legalIn [.service, .degraded], len := lenIs 4, locks := fun _ => true, changes := fun _ => true, perDevice := true,
    body := bodyPairRejoin }
def execPairRejoin (m : Msg) (s : State) : Host.Outcome State Fault Refusal := runCommand cmdPairRejoin m s

/-- R497: a rejoin of a SOLO primary arrives: the peer adopts plan and seeds if it is in INIT, and holds journal records from now on. -/
def execRejoinRequest (j : JoinFacts) (s : State) : Host.Outcome State Fault Refusal :=
  if !s.booted || (rejoinFails j (s.facts false)).isSome then .next s
  else
    let s1 := if s.life.state == .init then s.adopt j else s
    let p := { s1.pair.freshJournal with holding := true, peerFacts := j, peerSerial := j.serial }
    done s (State.pairChange { s1 with pair := p } 0x02)

end Sys2Proof.Machine
end

