-- ==== Sys2Proof/Machine/Interpreter.lean ====
section
/-!
DEFINITION. The interpreter: the command index, and taking the next pending message (spec 02 R42, R52, R55).
-/
namespace Sys2Proof.Machine

/-- The command index, part 1. -/
def commands1 : List Cmd :=
  [cmdDeviceNop, cmdDeviceMbxTimeout, cmdDeviceIdentify, cmdDeviceStatus, cmdDeviceStart, cmdDeviceTestEnter, cmdDeviceTestExit,
   cmdDeviceResume, cmdEpochStage, cmdEpochCommit, cmdEpochStatus, cmdPortConfig, cmdPortEnable, cmdPortStatus, cmdPortCounters,
   cmdLaneTune, cmdPortLoopback, cmdRingConfig, cmdCanaryStatus, cmdSecureCanaryArm, cmdSecureCanaryDisarm, cmdParseNodeWrite,
   cmdParseNodeRead, cmdParseLimits]

/-- The command index, part 2. -/
def commands2 : List Cmd :=
  [cmdParseGraphLoad, cmdParseCounters, cmdRuleLoad, cmdRuleBuild, cmdRuleBuildStatus, cmdRuleRead, cmdRuleDefault,
   cmdRuleCounters, cmdRecircConfig, cmdFlowRead, cmdFlowWrite, cmdFlowExport, cmdFlowStats, cmdFlowDelete, cmdFlowPin,
   cmdFlowClassSet, cmdFlowAgeConfig, cmdFlowNewLimit, cmdFlowHashSeed, cmdNatPoolSet, cmdNatPoolRead, cmdNatBlockConfig,
   cmdNatBindingRead, cmdNatBindingRelease]

/-- The command index, part 3. -/
def commands3 : List Cmd :=
  [cmdBalGroupSet, cmdBalMemberSet, cmdBalMemberDrain, cmdBalGroupRead, cmdSubWrite, cmdSubRead, cmdSubPolicySet,
   cmdActionWrite, cmdActionRead, cmdBridgeEntrySet, cmdBridgeEntryDelete, cmdBridgeRead, cmdBridgeDomainSet, cmdLearnLimitSet,
   cmdLearnConfig, cmdRouteLoad, cmdRouteRead, cmdNexthopSet, cmdNexthopRead, cmdQueueConfig, cmdShaperNodeSet,
   cmdShaperNodeRead, cmdSchedConfig, cmdMirrorSet]

/-- The command index, part 4. -/
def commands4 : List Cmd :=
  [cmdHostringSet, cmdBufferStatus, cmdBufferThreshold, cmdMinerStatus, cmdMinerTaskLevel, cmdMinerTraceRead,
   cmdMinerTraceConfig, cmdMemPlanRead, cmdMemRegionGrow, cmdMemStatus, cmdMemRetiredRead, cmdSeamCreate, cmdSeamGroup,
   cmdSeamRead, cmdSeamFill, cmdSeamCompare, cmdSeamCheck, cmdSeamRetire, cmdSeamSwapRoot, cmdSeamInfo, cmdSecureMemPlan,
   cmdTimeRead, cmdTimeStep, cmdTimeIncSet]

/-- The command index, part 5. -/
def commands5 : List Cmd :=
  [cmdTimeJumpLimit, cmdTimePpsConfig, cmdTimePtpConfig, cmdTimeCal, cmdTimeRclkConfig, cmdTelemCollectorSet, cmdTelemEnable,
   cmdTelemStatus, cmdCounterProgram, cmdCounterRead, cmdCounterDumpConfig, cmdBwwinConfig, cmdBwwinRead, cmdDmaResume,
   cmdDmaAbandon, cmdDmaStatus, cmdPairJoin, cmdPairLeave, cmdPairStatus, cmdPairRejoin, cmdPairConfig, cmdErrlogRead,
   cmdErrlogClear, cmdErrlogClassRead]

/-- The command index, part 6. -/
def commands6 : List Cmd :=
  [cmdErrlogStatus, cmdSecurePowerProfile, cmdPowerStatus, cmdClockStatus, cmdThermalRead, cmdDroopConfig, cmdSecureConfigLock,
   cmdSecureIdentity, cmdSecureAttest]

/-- Every command of the index (R52, step 2). -/
def commands : List Cmd := commands1 ++ commands2 ++ commands3 ++ commands4 ++ commands5 ++ commands6

/-- The command an opcode names. -/
def cmdOf (op : Nat) : Option Cmd := commands.find? fun c => c.op == op

/-- The packet that lies in a channel's inbound buffer (R44, R55). -/
def Channel.packet (c : Channel) (ch : Nat) : Nat × Msg := parsePacket ch (bufSlice c.inbound 0 4096)

/-- Taking from the channel would give a command that may execute now: not one held while the shadow is sealed (R72). -/
def State.mayTake (s : State) (ch : Nat) : Bool :=
  let (op, m) := (s.chan ch).packet ch
  (s.chan ch).pending && s.canTake ch && !(match cmdOf op with | some c => c.held m s | none => false)

/-- The channels in the order of the round, from the one after the channel taken from last (R42). -/
def roundFrom (last : Nat) : List Nat :=
  match last with
  | 1 => [0, 2, 3, 1]
  | 0 => [2, 3, 1, 0]
  | 2 => [3, 1, 0, 2]
  | _ => [1, 0, 2, 3]

/-- TAKEN is set and PENDING cleared (R55); the sender of a PEER message sees it (R63). -/
def State.taken (s : State) (ch : Nat) : State :=
  let s1 := s.setChan ch { s.chan ch with pending := false, taken := true, timer := none }
  let s2 := { s1 with epoch := { s1.epoch with lastTaken := ch } }
  if ch = 2 then s2.peerWord else s2

/-- Execute a packet: one whose opcode is not in the index is refused at steps 1 and 2 of R52. -/
def State.runPacket (s : State) (op : Nat) (m : Msg) : State :=
  match cmdOf op with
  | some c => interpret c m s
  | none =>
    s.reply m.ch (if m.len.toNat > 4080 then replyOf op m s.epoch.current Status.badLength 4080 []
      else replyOf op m s.epoch.current Status.badOpcode 0 [])

/-- The channel whose message the interpreter takes next (R42). -/
def State.nextTaken (s : State) : Option Nat := (roundFrom s.epoch.lastTaken).find? s.mayTake

/-- The pending message of a channel taken and executed (R52, R55). -/
def State.takeFrom (s : State) (ch : Nat) : State :=
  let (op, m) := (s.chan ch).packet ch
  (s.taken ch).runPacket op m

/-- R52: the interpreter takes the next pending message in channel order and executes it or refuses it with one reply. -/
def execMessageTake (s : State) : Host.Outcome State Fault Refusal :=
  match s.nextTaken with
  | none => .next s
  | some ch => done s (s.takeFrom ch)

/-- CTL cycle of an instant in ns (750 MHz, Table 1.3). -/
def ctlCycle (t : Nat) : Nat := t * 3 / 4

/-- R57: the timeout of a channel's pending message expires. In the CTL cycle of the expiry a message that the interpreter takes next is
taken; otherwise it is withdrawn. -/
def execMbxTimeoutExpire (ch : Nat) (s : State) : Host.Outcome State Fault Refusal :=
  match (s.chan ch).timer with
  | some (t, len) =>
    if (s.chan ch).pending && decide (t + len ≤ s.now) && decide (ch < 4) then
      (if ctlCycle s.now = ctlCycle (t + len) && s.nextTaken == some ch then done s (s.takeFrom ch) else done s (s.withdraw ch))
    else .next s
  | none => .next s

end Sys2Proof.Machine
end

