-- ==== Sys2Proof/Machine/Pins.lean ====
section
/-!
DEFINITION. The balls: boundary scan and GPIO3 (spec 19 R528-R534).
-/
namespace Sys2Proof.Machine

/-! Boundary scan (R532-R534). A scan is 294 bits, bit k of its data the k-th bit shifted. -/

/-- IDCODE (R532). -/
def idcode : BitVec 294 := 0xB2427A6B#294

/-- The codes that take control of the balls (R533): EXTEST, CLAMP, HIGHZ, EXTEST_PULSE and EXTEST_TRAIN. -/
def tapDrives (code : Byte) : Bool := code == 0 || code == 4 || code == 5 || code == 6 || code == 7

/-- Set one bit of a register. -/
def withBit (w : BitVec 294) (e : Nat × Bool) : BitVec 294 := if e.2 then w ||| (1#294 <<< e.1) else w &&& ~~~(1#294 <<< e.1)

/-- Order of shifting against order of cells: A1 lies nearest TDI, so the first bit shifted is the last cell (R534). -/
def reversed (w : BitVec 294) : BitVec 294 :=
  BitVec.ofNat 294 ((List.range 294).foldl (fun acc k => acc * 2 + (w.getLsbD k).toNat) 0)

/-- A ball the device drives: its level, and its drive enable set. -/
def driven (ball : Nat) (level : Bool) : List (Nat × Bool) := [(2 * ball, level), (2 * ball + 1, true)]
/-- An open-drain ball: low while asserted, released otherwise. -/
def openDrain (ball : Nat) (asserted : Bool) : List (Nat × Bool) :=
  if asserted then driven ball false else [(2 * ball + 1, false)]

/-- CANARY: driven, or released (R92). -/
def canaryCells : Level → List (Nat × Bool)
  | .low => driven 63 false
  | .high => driven 63 true
  | .hiZ => [(127, false)]

/-- RCLK_OUT: held low and high while squelched (R537). -/
def rclkCells (run : Bool) : List (Nat × Bool) := if run then [(129, true), (131, true)] else driven 64 false ++ driven 65 true

/-- The balls whose level the board holds, as far as an event told it: PWR_OK and the straps are known from a rise of RESET_N with PWR_OK high
to their fall, and are the board's otherwise (log 11). -/
def State.inputCells (s : State) : List (Nat × Bool) :=
  let cfg := s.pins.cfg
  [(112, s.pins.resetN), (120, s.pins.droopN), (142, s.pins.perstN)] ++ (if s.pins.resetN && s.pins.pwrOk then [(114, true)] else []) ++
    (if s.pins.resetN then [(154, cfg.cfg0), (156, cfg.cfg1), (162, cfg.cfg2), (164, cfg.cfg3)] else [])

/-- The CMOS outputs and RCLK_OUT as the core drives them; SMB_DAT, ball 67, is Released but within a transaction (Table 19.5). -/
def State.coreCells (s : State) : List (Nat × Bool) :=
  openDrain 61 s.thermN ++ openDrain 62 s.alertN ++ openDrain 67 false ++ openDrain 70 s.smbAlertN ++ openDrain 72 true ++
  canaryCells s.canary.level ++ rclkCells s.time.rclkRun ++ driven 69 s.time.ppsOut ++ driven 85 s.gpio0 ++ driven 86 s.gpio1 ++
  driven 89 s.gpio2 ++ driven 90 s.pins.gpio3

/-- The balls that the device never drives, where the drive enable has no effect (Table 19.5, R534). -/
def inputOnly (ball : Nat) : Bool :=
  (decide (28 ≤ ball) && decide (ball ≤ 60)) || [66, 68, 71, 73, 74, 77, 78, 81, 82, 83, 84, 87, 88].contains ball ||
    (decide (91 ≤ ball) && decide (ball ≤ 118))

/-- The balls are under the TAP's control: a driving instruction while RESET_N is low (R533). -/
def State.tapControls (s : State) : Bool := tapDrives s.pins.tapInstr && !s.pins.resetN && s.life.state != .off

/-- A ball under the TAP's control: Released in HIGHZ and where its drive enable is clear, else at the level of its data bit in the boundary
register (R532-R534; IEEE 1149.1, PRESUMED, log 13). -/
def State.tapBall (s : State) (ball : Nat) : List (Nat × Bool) :=
  if inputOnly ball then []
  else if s.pins.tapInstr == 5 || !s.pins.boundary.getLsbD (2 * ball + 1) then [(2 * ball + 1, false)]
  else driven ball (s.pins.boundary.getLsbD (2 * ball))

/-- What the balls show that the device drives or releases: two cells of each, its data where it is driven and its drive enable. -/
def State.outputCells (s : State) : List (Nat × Bool) := if s.tapControls then (List.range 147).flatMap s.tapBall else s.coreCells

/-- The level at which the device drives a ball; none where the ball is Released, or the state does not tell it. -/
def State.ballLevel (s : State) (ball : Nat) : Option Bool :=
  if s.outputCells.contains (2 * ball + 1, true) then (s.outputCells.find? (·.1 == 2 * ball)).map (·.2) else none

/-- The cells whose content the state tells, balls counted from A1 in the order of Table 19.2 (R525, R534). -/
def State.cells (s : State) : List (Nat × Bool) := s.inputCells ++ s.outputCells

/-- What the boundary register captures; a cell the state does not tell is free. -/
def State.captured (s : State) : BitVec 294 := s.cells.foldl withBit (Config.ballBits s.free)

/-- A scan through the boundary register: the captured cells go out, and the data comes in. -/
def State.boundaryScan (s : State) (data : BitVec 294) : State :=
  let s1 := s.send (.tdo (reversed s.captured))
  { s1 with free := s.free + 1, pins := { s1.pins with boundary := reversed data } }

/-- R533: an instruction is shifted in and a scan of its register follows. -/
def execTapInstruction (code : Byte) (data : BitVec 294) (s : State) : Host.Outcome State Fault Refusal :=
  if s.life.state == .off then .next s
  else
    let s1 := { s with pins := { s.pins with tapInstr := code } }
    let boundary := code == 2 || (!s.pins.resetN && (code == 0 || code == 6 || code == 7))
    if boundary then done s (s1.boundaryScan data)
    else if code == 1 then done s (s1.send (.tdo ((data <<< 32) ||| idcode)))
    else done s (s1.send (.tdo (data <<< 1)))

/-! GPIO3 (R528). -/

/-- R528: GPIO3 toggles every 500 ms of flow clock from INIT onward. -/
def execGpio3Toggle (s : State) : Host.Outcome State Fault Refusal :=
  if s.booted && decide (s.pins.gpio3At + 500000000 ≤ s.time.flow.toNat) then
    done s { s with pins := { s.pins with gpio3 := !s.pins.gpio3, gpio3At := s.pins.gpio3At + 500000000 } }
  else .next s

end Sys2Proof.Machine
end

