-- ==== Sys2Proof/Machine/Takeover.lean ====
section
/-!
DEFINITION. The pair when its peer speaks, falls silent or comes back: heartbeats received, the journal applied, failover, and the end
of a rejoin (spec 17 R487-R497).
-/
namespace Sys2Proof.Machine

/-! The journal applied (R492). -/

/-- A journalled command's body runs as the primary's did, and assembles no telemetry record of its own (R407). -/
def State.applyCommand (s : State) (payload : Bytes) : State :=
  let (op, m) := parsePacket 2 payload
  match cmdOf op with
  | some c =>
    let d0 := c.body m.norm s
    -- a LOAD_SEAM replayed from the journal loads within its record
    let d := if op = 0x0404 && d0.waits.isSome then loadNodes m.norm (d0.state.finishWork (· == .loadSeam 2)) else d0
    let s1 := d.state.enters d.enters
    { s1 with telem := { s1.telem with assembly := s.telem.assembly, staging := s.telem.staging } }
  | none => s

/-- A journal record takes effect: a tile, a command, a commit or a block map entry. -/
def State.applyRecord (s : State) (kind tile : Nat) (payload : Bytes) : State :=
  let s1 := { s with pair := { s.pair with jApplied := s.pair.jApplied + 1 } }
  match kind with
  | 0 => s1.taskWrite tile (fit 60 payload)
  | 1 => s1.applyCommand payload
  | 2 => s1.boundary (BitVec.ofNat 16 (fieldLe payload 0 2))
  | _ => s1.setBlock tile (blockOfWord (fieldLe payload 0 8))

/-- The records held are applied in order (R492, R497 step 4). -/
def State.applyJournal (s : State) : State :=
  s.pair.journal.foldl (fun x r => x.applyRecord r.kind r.tile r.payload) { s with pair := { s.pair with journal := [] } }

/-- R492, R497: a record of the journal arrives and is held. A JOURNAL_APPLY task that runs applies what is held; without one it waits for
the task, and on a peer without its copy for the copy (R329, R497 step 1). -/
def execJournalApply (kind tile : Nat) (payload : Bytes) (s : State) : Host.Outcome State Fault Refusal :=
  if !s.takesJournal then .next s
  else
    let r : JournalRec := { seq := s.pair.journal.length + 1, kind := kind, tile := tile, payload := payload, time := s.now }
    let s1 := { s with pair := { s.pair with journal := s.pair.journal ++ [r] } }
    done s (if s.awaitsCopy || !s.serves TaskType.journal then s1 else s1.applyJournal)

/-! Failover (R487, R495, R496). -/

/-- The peer is declared failed, with cause HEARTBEAT 0x01 or RELINQUISH 0x02: a secondary with AUTO_TAKEOVER completes the journal records
it holds and becomes primary, and the member becomes SOLO. -/
def State.declareLost (s : State) (cause : Nat) : State :=
  let takes := s.pair.role == .secondary && s.pair.autoTakeover
  let stale := takes && s.pair.state == .syncing
  let s0 := if takes then s.applyJournal else s
  let s1 := s0.pairEvent ErrCode.peerLost s0.pair.role.code
    (le 1 cause ++ le 1 (flagByte [takes, stale]) ++ zeros 2 ++ le 4 s0.pair.jApplied)
  let s2 := { s1 with pair := { s1.pair with prepared := none, stale := s1.pair.stale || stale } }
  if s.pair.role == .primary then (s2.setPair .solo .primary).dropCopy.releaseWaiting
  else if takes then
    let s3 := { s2 with pair := { s2.pair with failovers := satur 32 (s2.pair.failovers + 1) } }
    (s3.setPair .solo .primary).retrainFront
  else s2.setPair .solo .secondary

/-- Joined to a peer, or being brought up to date with it. -/
def State.paired (s : State) : Bool := s.pair.state == .joined || s.pair.state == .syncing

/-- R487: 300 us have passed without a heartbeat on either lane; a rejoin in progress ends (R497). -/
def execPeerLost (s : State) : Host.Outcome State Fault Refusal :=
  if !s.booted || s.now < s.pair.heard.getD 0 + 300000 then .next s
  else if s.paired then done s (s.declareLost 1)
  else if s.pair.holding then done s { s with pair := { s.pair.freshJournal with holding := false } }
  else .next s

/-! Heartbeats received (R487, R494, R496). -/

/-- What a heartbeat tells is kept; a primary drops the journal records the secondary has acknowledged. -/
def State.hear (s : State) (h : Heartbeat) : State :=
  let journal := if s.pair.role == .primary && (h.role == 2 || s.journals) then s.pair.journal.filter fun r => decide (h.journal < r.seq) else s.pair.journal
  { s with pair := { s.pair with
      heard := some s.now, peerState := h.devState, peerEpoch := h.epoch, peerSeq := h.commitSeq, peerSerial := h.facts.serial,
      peerFacts := h.facts, peerDraining := h.draining, peerPair := h.pairState, journal := journal } }

/-- No commit of the pair is in progress on this device. -/
def State.noCommit (s : State) : Bool := s.pair.commitMsg.isNone && s.pair.prepared.isNone

/-- The judgement of a heartbeat, in order: the peer leaves (R498); it relinquishes; it has taken over; it has yielded to a divergence; as
primary it has judged one; its epoch differs; both are SOLO; it resynchronises this secondary. -/
def State.judge (s : State) (h : Heartbeat) : State :=
  let p := s.pair
  let differs := h.epoch != s.epoch.current || h.commitSeq != s.epoch.sequence
  let resyncing := p.state == .syncing && p.resync
  if h.leaving && p.state != .none then s.leavePair
  else if p.role == .secondary && s.paired && h.relinquish then s.declareLost 2
  else if p.role == .primary && p.relinquish && p.state != .none && h.role == 1 then s.diverge true 5
  else if h.pairState == 4 && h.cause != 0 && (p.state == .joined || resyncing || (p.state == .solo && p.cause == 0)) then
    s.diverge false h.cause
  else if p.role == .secondary && s.paired && h.pairState == 2 && h.cause != 0 then s.diverge true h.cause
  else if p.state == .joined && h.pairState == 1 && s.noCommit && differs then s.diverge (p.role == .secondary) 1
  else if p.state == .solo && h.pairState == 2 && s.inService && (h.devState == 4 || h.devState == 5) then
    s.diverge (p.joinedAs == .secondary) (if differs then 1 else 4)
  else if p.state == .joined && p.role == .secondary && h.role == 1 && h.pairState == 3 then
    State.setPair { s with pair := { s.pair with resync := true, copied := false, tilesCopied := 0, journal := [] } } .syncing .secondary
  else s

/-- R487, R494: a heartbeat is received and judged. -/
def execHeartbeatReceive (h : Heartbeat) (s : State) : Host.Outcome State Fault Refusal :=
  let p := 24 + h.west.toNat
  if !s.booted then .next s
  else if (s.port p).loopback = 0 || (s.port p).loopback = 3 then done s ((s.hear h).judge h)
  else match (if h.west then s.pair.own1 else s.pair.own0) with
    | some w =>
      let s1 := { s with pair := if h.west then { s.pair with own1 := none } else { s.pair with own0 := none } }
      done s ((s1.hear w).judge w)
    | none => .next s

/-! The copy and the end of a rejoin (R497 steps 2 to 5). -/

/-- A tile of a live region as it is copied: merged from the hot tier or the write queue, and nothing of one that fails assay. -/
def State.copyTile (s : State) (i : Nat) : Option Bytes × State :=
  match s.hotByHome i with
  | some (_, e) => (some (e.tile s.flowNow e.nextW), s)
  | none => s.readTile i .miner

/-- The given tiles as they are copied. -/
def copyLive : List Nat → State → List (Nat × Bytes) × State
  | [], s => ([], s)
  | i :: is, s =>
    let (p, s1) := s.copyTile i
    let (ps, s2) := copyLive is s1
    ((p.map fun x => (i, x)).toList ++ ps, s2)

/-- Tiles of the live regions that may hold something. -/
def State.liveTiles (s : State) : List Nat :=
  let listed : List Nat := s.dram.mem.map (·.1 / 64) ++ s.dram.wq.map (·.1) ++ s.flow.hot.map (·.2.home)
  (listed.filter s.journalled).eraseDups

/-- The primary copies the live regions to its peer (R497 step 3). -/
def State.sendLive (s : State) : State :=
  let (live, s1) := copyLive s.liveTiles s
  let s2 := s1.onPeer (.liveCopy live s1.nat.blocks)
  State.finishWork { s2 with pair := { s2.pair with copied := true, tilesCopied := s2.copyTiles } } (· == .liveCopy)

/-- The peer takes the copied live regions: what the copy does not name holds the invalid pattern. -/
def State.takeLive (s : State) (c : PairCopy) : State :=
  let s1 := (s.regionRuns 0 ++ s.regionRuns 1 ++ s.regionRuns 2).foldl (fun s r => s.clearRun r.1 r.2) s
  c.live.foldl (fun s x => s.putTile x.1 x.2) { s1 with nat := { s1.nat with blocks := c.blocks } }

/-- A version as it was copied, with this member's own HOST entries: those of ordinary domains whose key and way the copy leaves free
(R274; DESIGN CHOICE, log 144). -/
def Staged.withOwn (v own : Staged) : Staged :=
  let add (pipe : Bool) (t : Table HostEntry) : Table HostEntry :=
    (own.fwd.hosts pipe).foldl (fun t e =>
      if v.fwd.synced (e.1 / 2 ^ 48) || t.any (fun x => x.1 == e.1 || x.2.way == e.2.way) then t else tset t e.1 e.2) t
  { v with fwd := { v.fwd with hosts0 := add false v.fwd.hosts0, hosts1 := add true v.fwd.hosts1 } }

/-- The peer takes the copied configuration (R497 step 2). -/
def State.takeConfig (s : State) (c : PairCopy) : State :=
  let s1 : State :=
    { s with
        cur := c.cur.withOwn s.cur, shadow := c.shadow.withOwn s.shadow, drain := none,
        dram := { s.dram with dir := c.dir, regions := c.regions, free := c.free, growth := c.growth },
        fwd := { s.fwd with copies := c.copies }, nat := { s.nat with lost := [] },
        epoch := { s.epoch with current := c.epoch, sequence := c.sequence, changes := c.changes },
        life := { s.life with committed := s.life.committed || c.sequence != 0 } }
  let s2 := c.copies.foldl (fun s x => s.putTile x.2 x.1.payload) s1
  State.boundaryLearned s (State.boundaryLearned s s2.settleCopies false) true

/-- The copy has been taken: what was held is applied. -/
def State.copyTaken (s : State) : State :=
  State.applyJournal { s with pair := { s.pair with copied := true, tilesCopied := s.copyTiles } }

/-- The primary starts a peer in INIT, or resumes one in RECOVER, over PEER. -/
def State.startPeer (s : State) : State :=
  let m : Msg := { ch := 2, tag := 0, len := 4, flags := 0, origin := 0, guard := 0xFFFF, resv := zeros 6, params := zeros 4 }
  s.onPeer (.peerMessage (if s.pair.peerState = 6 then 0x0107 else 0x0104) m)

/-- A resync ends on the primary: JOURNAL_OVERRUN is cleared. -/
def State.resyncDone (s : State) : State :=
  (s.pairEvent ErrCode.journalOverrun 0 (zeros 4 ++ le 4 s.pair.discarded) true).pairChange 0x06

/-- On the primary: the copy is made by its COMMAND_ASSIST tasks, which a resync creates here; once it is made and the lag has fallen to
10 us, the primary is JOINED, and starts or resumes the peer of a rejoin. -/
def State.primaryRejoins (s : State) : State :=
  if !s.pair.copied then
    if s.atWork .liveCopy then s.sendLive
    else if s.tasked .liveCopy then s
    else (State.newTasks TaskType.command .liveCopy 8 s).getD s
  else if 10000 < s.journalLag then s
  else
    let s1 := { s with pair := { s.pair with rejoins := satur 32 (s.pair.rejoins + 1) } }.becomeJoined .primary
    if s.pair.resync then s1.resyncDone else (s1.pairChange 0x03).startPeer

/-- On a peer in a rejoin: it takes the copy and applies what it held; the next time it is JOINED, and PEER_INCONSISTENT clears (R484). -/
def State.peerRejoins (s : State) (copy : Option PairCopy) : State :=
  match s.pair.copied, copy with
  | false, some c => ((s.takeConfig c).takeLive c).copyTaken
  | false, none => s
  | true, _ =>
    let s1 := s.becomeJoined .secondary
    State.pairChange { s1 with life := { s1.life with causes := s1.life.causes &&& 3 } } 0x03

/-- On a secondary in a resync: the same, with no copy of the configuration (R493). -/
def State.secondaryResyncs (s : State) (copy : Option PairCopy) : State :=
  match s.pair.copied, copy with
  | false, some c => (s.takeLive c).copyTaken
  | false, none => s
  | true, _ => (s.becomeJoined .secondary).pairChange 0x06

/-- R497: a rejoin or resync comes to its end: the copy is made and taken, and when the lag has fallen to 10 us both members become
JOINED. -/
def execRejoinComplete (copy : Option PairCopy) (s : State) : Host.Outcome State Fault Refusal :=
  if !s.booted || s.refreshing then .next s
  else if s.journals then done s s.primaryRejoins
  else if s.pair.holding then done s (s.peerRejoins copy)
  else if s.pair.state == .syncing && s.pair.role == .secondary then done s (s.secondaryResyncs copy)
  else .next s

end Sys2Proof.Machine
end

