-- ==== Sys2Proof/Machine/Standing.lean ====
section
/-!
DEFINITION. Dispatch and preemption of tasks, with the work that waits for a standing task to reach a miner (spec 11 R329-R336).
-/
namespace Sys2Proof.Machine

/-- The work that has waited for a task of a type is done once the task runs: stateless packets are counted (R212, R402), learn records go to
their ring (R273), and held journal records are applied (R492). -/
def State.standingWork (s : State) (type : Nat) : State :=
  if type = TaskType.stateless then
    s.telem.stateless.foldl (fun x e => x.countInterval e.1 e.2.1 e.2.2) { s with telem := { s.telem with stateless := [] } }
  else if type = TaskType.learn then
    s.fwd.records.foldl (fun x e => x.sendLearn e.1 e.2.1 e.2.2) { s with fwd := { s.fwd with records := [] } }
  else if type = TaskType.journal && s.takesJournal && !s.awaitsCopy then s.applyJournal
  else s

/-- Every standing task that runs does the work that waited for it. -/
def State.servedNow (s : State) : State :=
  [TaskType.stateless, TaskType.learn, TaskType.journal].foldl (fun x t => if x.serves t then x.standingWork t else x) s

/-- R333: an idle miner receives the next task. -/
def execTaskDispatch (s : State) : Host.Outcome State Fault Refusal :=
  match s.idleMiner, s.nextTask with
  | some m, some k => done s (s.dispatchTo m k).servedNow
  | _, _ => .next s

/-- R335, R336: an asked miner reaches a preemption point (Table 11.1) by the microwords of `trail`, `rom` of them corrected (R327). -/
def execTaskPreempt (miner : Nat) (trail : List MicroOp) (wait rom : Nat) (s : State) : Host.Outcome State Fault Refusal :=
  match (s.miner miner).yield, s.onMiner miner with
  | some _, some (k, t) =>
    if !preemptionPoint wait then .next s
    else
      let s0 := s.minerCount 1 rom
      match runTrail trail t.address t.stack with
      | .fault c a => done s (s0.failMiner miner k t c a wait)
      | .at a st =>
        if s0.withdraws miner t then
          done s (((s0.setMiner miner { s0.miner miner with yield := none, answered := false }).minerCount 3).trace 7 miner k t a wait)
        else if wait = 9 && s0.workless t then done s (s0.parkTask miner k t a st)
        else done s (s0.preempt miner k t a wait st).servedNow
  | _, _ => .next s

end Sys2Proof.Machine
end

