-- ==== Sys2Proof/Machine/Dispatch.lean ====
section
/-!
DEFINITION. What each row of the opcode table does: one arm per constructor, each a call of its meaning.
-/
namespace Sys2Proof.Machine

def exec (i : Instr) (s : State) : Host.Outcome State Fault Refusal :=
  match i with
  | .powerOn => Sys2Proof.Machine.execPowerOn s
  | .resetNFall low => Sys2Proof.Machine.execResetNFall s low
  | .pwrOkFall low => Sys2Proof.Machine.execPwrOkFall s low
  | .resetNRise pwrOk cfg b highFor => Sys2Proof.Machine.execResetNRise pwrOk cfg b s highFor
  | .bootComplete ms => Sys2Proof.Machine.execBootComplete ms s
  | .rootPllLockLost => Sys2Proof.Machine.execRootPllLockLost s
  | .perstNRise pcieRef => Sys2Proof.Machine.execPerstNRise s pcieRef
  | .linkReset perst => Sys2Proof.Machine.execLinkReset perst s
  | .functionLevelReset pf1 => Sys2Proof.Machine.execFunctionLevelReset pf1 s
  | .tapInstruction code data => Sys2Proof.Machine.execTapInstruction code data s
  | .registerWrite pf1 off v size => Sys2Proof.Machine.execRegisterWrite pf1 off v s size
  | .mbxInboundWrite ch off v => Sys2Proof.Machine.execMbxInboundWrite ch off v s
  | .ringDoorbell ask => Sys2Proof.Machine.execRingDoorbell ask s
  | .releaseReply ask => Sys2Proof.Machine.execReleaseReply ask s
  | .bmcBufferWrite off data pec => Sys2Proof.Machine.execBmcBufferWrite off data pec s
  | .bmcFlagsRead pec => Sys2Proof.Machine.execBmcFlagsRead s pec
  | .bmcReplyRead ask => Sys2Proof.Machine.execBmcReplyRead ask s
  | .smbusAlertResponse => Sys2Proof.Machine.execSmbusAlertResponse s
  | .messageTake => Sys2Proof.Machine.execMessageTake s
  | .mbxTimeoutExpire ch => Sys2Proof.Machine.execMbxTimeoutExpire ch s
  | .peerReplyArrival ch status detail params => Sys2Proof.Machine.execPeerReplyArrival ch status detail params s
  | .flowCommandResume ch => Sys2Proof.Machine.execFlowCommandResume ch s
  | .deviceNop m => Sys2Proof.Machine.execDeviceNop m s
  | .deviceMbxTimeout m => Sys2Proof.Machine.execDeviceMbxTimeout m s
  | .deviceIdentify m => Sys2Proof.Machine.execDeviceIdentify m s
  | .deviceStatus m => Sys2Proof.Machine.execDeviceStatus m s
  | .deviceStart m => Sys2Proof.Machine.execDeviceStart m s
  | .deviceTestEnter m => Sys2Proof.Machine.execDeviceTestEnter m s
  | .deviceTestExit m => Sys2Proof.Machine.execDeviceTestExit m s
  | .clearingComplete => Sys2Proof.Machine.execClearingComplete s
  | .deviceResume m => Sys2Proof.Machine.execDeviceResume m s
  | .epochStage m => Sys2Proof.Machine.execEpochStage m s
  | .epochCommit m => Sys2Proof.Machine.execEpochCommit m s
  | .epochDrained => Sys2Proof.Machine.execEpochDrained s
  | .epochStatus m => Sys2Proof.Machine.execEpochStatus m s
  | .portConfig m => Sys2Proof.Machine.execPortConfig m s
  | .portEnable m => Sys2Proof.Machine.execPortEnable m s
  | .portStatus m => Sys2Proof.Machine.execPortStatus m s
  | .portCounters m => Sys2Proof.Machine.execPortCounters m s
  | .laneTune m => Sys2Proof.Machine.execLaneTune m s
  | .portLoopback m => Sys2Proof.Machine.execPortLoopback m s
  | .ringConfig m => Sys2Proof.Machine.execRingConfig m s
  | .canaryStatus m => Sys2Proof.Machine.execCanaryStatus m s
  | .secureCanaryArm m => Sys2Proof.Machine.execSecureCanaryArm m s
  | .secureCanaryDisarm m => Sys2Proof.Machine.execSecureCanaryDisarm m s
  | .canaryHalfPeriod => Sys2Proof.Machine.execCanaryHalfPeriod s
  | .canaryHeartbeatWindow ran held => Sys2Proof.Machine.execCanaryHeartbeatWindow ran held s
  | .linkStateChange port link cdr sd => Sys2Proof.Machine.execLinkStateChange port link cdr sd s
  | .anRetry port common => Sys2Proof.Machine.execAnRetry port common s
  | .portCalibrationDone port rx tx => Sys2Proof.Machine.execPortCalibrationDone port rx tx s
  | .peerLaneFail west => Sys2Proof.Machine.execPeerLaneFail west s
  | .peerLaneRestore west => Sys2Proof.Machine.execPeerLaneRestore west s
  | .laneFrameReceive port frame => Sys2Proof.Machine.execLaneFrameReceive port frame s
  | .pdelayReceive port frame => Sys2Proof.Machine.execPdelayReceive port frame s
  | .pdelayReqSend port => Sys2Proof.Machine.execPdelayReqSend port s
  | .laneFrameAdmit pipe hurt => Sys2Proof.Machine.execLaneFrameAdmit pipe hurt s
  | .missResume pipe hurt => Sys2Proof.Machine.execMissResume pipe hurt s
  | .recircAdmit pipe hurt => Sys2Proof.Machine.execRecircAdmit pipe hurt s
  | .reinjectAdmit pipe hurt => Sys2Proof.Machine.execReinjectAdmit pipe hurt s
  | .cutThroughFrameEnd id frame => Sys2Proof.Machine.execCutThroughFrameEnd id frame s
  | .bucketReadReturn key hurt => Sys2Proof.Machine.execBucketReadReturn key hurt s
  | .actionEntryReadReturn key hurt => Sys2Proof.Machine.execActionEntryReadReturn key hurt s
  | .pendingWriteBack way => Sys2Proof.Machine.execPendingWriteBack way s
  | .hotIdleDemote set => Sys2Proof.Machine.execHotIdleDemote set s
  | .packetDequeue port hurt => Sys2Proof.Machine.execPacketDequeue port hurt s
  | .residenceExpire queue index => Sys2Proof.Machine.execResidenceExpire queue index s
  | .ringRecordWrite ring => Sys2Proof.Machine.execRingRecordWrite ring s
  | .ringConsumerPoll ring consumed => Sys2Proof.Machine.execRingConsumerPoll ring consumed s
  | .ringHoldoffExpire ring => Sys2Proof.Machine.execRingHoldoffExpire ring s
  | .learnEventApply pipe => Sys2Proof.Machine.execLearnEventApply pipe s
  | .bridgeAgeVisit pipe => Sys2Proof.Machine.execBridgeAgeVisit pipe s
  | .forwardingRepair => Sys2Proof.Machine.execForwardingRepair s
  | .parseNodeWrite m => Sys2Proof.Machine.execParseNodeWrite m s
  | .parseNodeRead m => Sys2Proof.Machine.execParseNodeRead m s
  | .parseLimits m => Sys2Proof.Machine.execParseLimits m s
  | .parseGraphLoad m => Sys2Proof.Machine.execParseGraphLoad m s
  | .parseCounters m => Sys2Proof.Machine.execParseCounters m s
  | .ruleLoad m => Sys2Proof.Machine.execRuleLoad m s
  | .ruleBuild m => Sys2Proof.Machine.execRuleBuild m s
  | .ruleBuildComplete table hurt => Sys2Proof.Machine.execRuleBuildComplete table hurt s
  | .ruleStoreRepair tile => Sys2Proof.Machine.execRuleStoreRepair tile s
  | .ruleBuildStatus m => Sys2Proof.Machine.execRuleBuildStatus m s
  | .ruleRead m => Sys2Proof.Machine.execRuleRead m s
  | .ruleDefault m => Sys2Proof.Machine.execRuleDefault m s
  | .ruleCounters m => Sys2Proof.Machine.execRuleCounters m s
  | .recircConfig m => Sys2Proof.Machine.execRecircConfig m s
  | .flowRead m => Sys2Proof.Machine.execFlowRead m s
  | .flowWrite m => Sys2Proof.Machine.execFlowWrite m s
  | .flowExport m => Sys2Proof.Machine.execFlowExport m s
  | .flowExportDone hurt => Sys2Proof.Machine.execFlowExportDone hurt s
  | .flowStats m => Sys2Proof.Machine.execFlowStats m s
  | .flowDelete m => Sys2Proof.Machine.execFlowDelete m s
  | .flowPin m => Sys2Proof.Machine.execFlowPin m s
  | .flowClassSet m => Sys2Proof.Machine.execFlowClassSet m s
  | .flowAgeConfig m => Sys2Proof.Machine.execFlowAgeConfig m s
  | .flowNewLimit m => Sys2Proof.Machine.execFlowNewLimit m s
  | .flowHashSeed m => Sys2Proof.Machine.execFlowHashSeed m s
  | .sweepBucketVisit hurt => Sys2Proof.Machine.execSweepBucketVisit hurt s
  | .bindingVisit => Sys2Proof.Machine.execBindingVisit s
  | .deferredBlockRelease => Sys2Proof.Machine.execDeferredBlockRelease s
  | .scrubRead hurt => Sys2Proof.Machine.execScrubRead hurt s
  | .faultHistoryExpire => Sys2Proof.Machine.execFaultHistoryExpire s
  | .flowSetup slot hurt => Sys2Proof.Machine.execFlowSetup slot hurt s
  | .bindingRepair hurt => Sys2Proof.Machine.execBindingRepair hurt s
  | .natPoolSet m => Sys2Proof.Machine.execNatPoolSet m s
  | .natPoolRead m => Sys2Proof.Machine.execNatPoolRead m s
  | .natBlockConfig m => Sys2Proof.Machine.execNatBlockConfig m s
  | .natBindingRead m => Sys2Proof.Machine.execNatBindingRead m s
  | .natBindingRelease m => Sys2Proof.Machine.execNatBindingRelease m s
  | .balGroupSet m => Sys2Proof.Machine.execBalGroupSet m s
  | .balMemberSet m => Sys2Proof.Machine.execBalMemberSet m s
  | .balMemberDrain m => Sys2Proof.Machine.execBalMemberDrain m s
  | .balGroupRead m => Sys2Proof.Machine.execBalGroupRead m s
  | .subWrite m => Sys2Proof.Machine.execSubWrite m s
  | .subRead m => Sys2Proof.Machine.execSubRead m s
  | .subPolicySet m => Sys2Proof.Machine.execSubPolicySet m s
  | .actionWrite m => Sys2Proof.Machine.execActionWrite m s
  | .actionRead m => Sys2Proof.Machine.execActionRead m s
  | .subCounterFlush hurt => Sys2Proof.Machine.execSubCounterFlush hurt s
  | .bridgeEntrySet m => Sys2Proof.Machine.execBridgeEntrySet m s
  | .bridgeEntryDelete m => Sys2Proof.Machine.execBridgeEntryDelete m s
  | .bulkLearnedRemoval => Sys2Proof.Machine.execBulkLearnedRemoval s
  | .bridgeRead m => Sys2Proof.Machine.execBridgeRead m s
  | .bridgeDomainSet m => Sys2Proof.Machine.execBridgeDomainSet m s
  | .learnLimitSet m => Sys2Proof.Machine.execLearnLimitSet m s
  | .learnConfig m => Sys2Proof.Machine.execLearnConfig m s
  | .routeLoad m => Sys2Proof.Machine.execRouteLoad m s
  | .routeBuildComplete hurt => Sys2Proof.Machine.execRouteBuildComplete hurt s
  | .routeRead m => Sys2Proof.Machine.execRouteRead m s
  | .nexthopSet m => Sys2Proof.Machine.execNexthopSet m s
  | .nexthopRead m => Sys2Proof.Machine.execNexthopRead m s
  | .queueConfig m => Sys2Proof.Machine.execQueueConfig m s
  | .shaperNodeSet m => Sys2Proof.Machine.execShaperNodeSet m s
  | .shaperNodeRead m => Sys2Proof.Machine.execShaperNodeRead m s
  | .schedConfig m => Sys2Proof.Machine.execSchedConfig m s
  | .mirrorSet m => Sys2Proof.Machine.execMirrorSet m s
  | .hostringSet m => Sys2Proof.Machine.execHostringSet m s
  | .bufferStatus m => Sys2Proof.Machine.execBufferStatus m s
  | .bufferThreshold m => Sys2Proof.Machine.execBufferThreshold m s
  | .taskDispatch => Sys2Proof.Machine.execTaskDispatch s
  | .taskPreempt miner trail wait rom => Sys2Proof.Machine.execTaskPreempt miner trail wait rom s
  | .taskComplete miner trail wait rom => Sys2Proof.Machine.execTaskComplete miner trail wait rom s
  | .taskPark miner trail rom => Sys2Proof.Machine.execTaskPark miner trail rom s
  | .taskPromote => Sys2Proof.Machine.execTaskPromote s
  | .minerFault miner rom trail wait => Sys2Proof.Machine.execMinerFault miner rom trail wait s
  | .minerStatus m => Sys2Proof.Machine.execMinerStatus m s
  | .minerTaskLevel m => Sys2Proof.Machine.execMinerTaskLevel m s
  | .minerTraceRead m => Sys2Proof.Machine.execMinerTraceRead m s
  | .minerTraceConfig m => Sys2Proof.Machine.execMinerTraceConfig m s
  | .writeBatchIssue channel => Sys2Proof.Machine.execWriteBatchIssue channel s
  | .refreshBanks => Sys2Proof.Machine.execRefreshBanks s
  | .stackTempRead t0 t1 => Sys2Proof.Machine.execStackTempRead t0 t1 s
  | .channelLost channel => Sys2Proof.Machine.execChannelLost channel s
  | .freeTileClear => Sys2Proof.Machine.execFreeTileClear s
  | .memPlanRead m => Sys2Proof.Machine.execMemPlanRead m s
  | .memRegionGrow m => Sys2Proof.Machine.execMemRegionGrow m s
  | .memStatus m => Sys2Proof.Machine.execMemStatus m s
  | .memRetiredRead m => Sys2Proof.Machine.execMemRetiredRead m s
  | .seamCreate m => Sys2Proof.Machine.execSeamCreate m s
  | .seamGroup m => Sys2Proof.Machine.execSeamGroup m s
  | .seamRead m => Sys2Proof.Machine.execSeamRead m s
  | .seamFill m => Sys2Proof.Machine.execSeamFill m s
  | .seamCompare m => Sys2Proof.Machine.execSeamCompare m s
  | .seamCheck m => Sys2Proof.Machine.execSeamCheck m s
  | .seamJobComplete job hurt => Sys2Proof.Machine.execSeamJobComplete job hurt s
  | .seamRetire m => Sys2Proof.Machine.execSeamRetire m s
  | .seamSwapRoot m => Sys2Proof.Machine.execSeamSwapRoot m s
  | .seamInfo m => Sys2Proof.Machine.execSeamInfo m s
  | .secureMemPlan m => Sys2Proof.Machine.execSecureMemPlan m s
  | .timeRead m => Sys2Proof.Machine.execTimeRead m s
  | .timeStep m => Sys2Proof.Machine.execTimeStep m s
  | .timeIncSet m => Sys2Proof.Machine.execTimeIncSet m s
  | .timeJumpLimit m => Sys2Proof.Machine.execTimeJumpLimit m s
  | .timePpsConfig m => Sys2Proof.Machine.execTimePpsConfig m s
  | .timePtpConfig m => Sys2Proof.Machine.execTimePtpConfig m s
  | .timeCal m => Sys2Proof.Machine.execTimeCal m s
  | .timeRclkConfig m => Sys2Proof.Machine.execTimeRclkConfig m s
  | .timeSnap pf1 => Sys2Proof.Machine.execTimeSnap pf1 s
  | .timeIncLoWrite v => Sys2Proof.Machine.execTimeIncLoWrite v s
  | .ppsInCapture rising => Sys2Proof.Machine.execPpsInCapture rising s
  | .ppsOutEdge => Sys2Proof.Machine.execPpsOutEdge s
  | .rclkResume => Sys2Proof.Machine.execRclkResume s
  | .telemetryAssemble => Sys2Proof.Machine.execTelemetryAssemble s
  | .tailingsDrain => Sys2Proof.Machine.execTailingsDrain s
  | .subIntervalRecord => Sys2Proof.Machine.execSubIntervalRecord s
  | .telemFlushExpire ringPath => Sys2Proof.Machine.execTelemFlushExpire ringPath s
  | .templateIntervalExpire => Sys2Proof.Machine.execTemplateIntervalExpire s
  | .collectorRetry => Sys2Proof.Machine.execCollectorRetry s
  | .counterDump => Sys2Proof.Machine.execCounterDump s
  | .bwwinEnd port => Sys2Proof.Machine.execBwwinEnd port s
  | .telemCollectorSet m => Sys2Proof.Machine.execTelemCollectorSet m s
  | .telemEnable m => Sys2Proof.Machine.execTelemEnable m s
  | .telemStatus m => Sys2Proof.Machine.execTelemStatus m s
  | .counterProgram m => Sys2Proof.Machine.execCounterProgram m s
  | .counterRead m => Sys2Proof.Machine.execCounterRead m s
  | .counterDumpConfig m => Sys2Proof.Machine.execCounterDumpConfig m s
  | .bwwinConfig m => Sys2Proof.Machine.execBwwinConfig m s
  | .bwwinRead m => Sys2Proof.Machine.execBwwinRead m s
  | .dmaChTailWrite pf1 channel v => Sys2Proof.Machine.execDmaChTailWrite pf1 channel v s
  | .dmaChEnable pf1 channel v => Sys2Proof.Machine.execDmaChEnable pf1 channel v s
  | .dmaChRestart pf1 channel => Sys2Proof.Machine.execDmaChRestart pf1 channel s
  | .secDmaOwnerWrite pf1 v => Sys2Proof.Machine.execSecDmaOwnerWrite pf1 v s
  | .errlogSelectWrite pf1 v => Sys2Proof.Machine.execErrlogSelectWrite pf1 v s
  | .dmaDescriptorStart channel desc => Sys2Proof.Machine.execDmaDescriptorStart channel desc s
  | .dmaUnitConfirm channel units => Sys2Proof.Machine.execDmaUnitConfirm channel units s
  | .dmaDescriptorEnd channel => Sys2Proof.Machine.execDmaDescriptorEnd channel s
  | .dmaBusError cause channel address => Sys2Proof.Machine.execDmaBusError cause channel address s
  | .snapshotHoldExpire desc => Sys2Proof.Machine.execSnapshotHoldExpire desc s
  | .dmaResume m => Sys2Proof.Machine.execDmaResume m s
  | .dmaAbandon m => Sys2Proof.Machine.execDmaAbandon m s
  | .dmaStatus m => Sys2Proof.Machine.execDmaStatus m s
  | .heartbeatSend => Sys2Proof.Machine.execHeartbeatSend s
  | .heartbeatReceive h => Sys2Proof.Machine.execHeartbeatReceive h s
  | .peerLost => Sys2Proof.Machine.execPeerLost s
  | .joinRequest j => Sys2Proof.Machine.execJoinRequest j s
  | .pairPrepare epoch => Sys2Proof.Machine.execPairPrepare epoch s
  | .pairCommit epoch => Sys2Proof.Machine.execPairCommit epoch s
  | .journalApply kind tile payload => Sys2Proof.Machine.execJournalApply kind tile payload s
  | .rejoinComplete copy => Sys2Proof.Machine.execRejoinComplete copy s
  | .pairJoin m => Sys2Proof.Machine.execPairJoin m s
  | .pairLeave m => Sys2Proof.Machine.execPairLeave m s
  | .pairStatus m => Sys2Proof.Machine.execPairStatus m s
  | .pairRejoin m => Sys2Proof.Machine.execPairRejoin m s
  | .pairConfig m => Sys2Proof.Machine.execPairConfig m s
  | .errlogRead m => Sys2Proof.Machine.execErrlogRead m s
  | .errlogClear m => Sys2Proof.Machine.execErrlogClear m s
  | .errlogClassRead m => Sys2Proof.Machine.execErrlogClassRead m s
  | .errlogStatus m => Sys2Proof.Machine.execErrlogStatus m s
  | .droopNFall => Sys2Proof.Machine.execDroopNFall s
  | .droopNRise => Sys2Proof.Machine.execDroopNRise s
  | .droopnDelayExpire => Sys2Proof.Machine.execDroopnDelayExpire s
  | .monitorUndervoltage monitor mv => Sys2Proof.Machine.execMonitorUndervoltage monitor mv s
  | .droopStageFall => Sys2Proof.Machine.execDroopStageFall s
  | .dieSensorRead readings => Sys2Proof.Machine.execDieSensorRead readings s
  | .securePowerProfile m => Sys2Proof.Machine.execSecurePowerProfile m s
  | .powerStatus m => Sys2Proof.Machine.execPowerStatus m s
  | .clockStatus m => Sys2Proof.Machine.execClockStatus m s
  | .thermalRead m => Sys2Proof.Machine.execThermalRead m s
  | .droopConfig m => Sys2Proof.Machine.execDroopConfig m s
  | .secureConfigLock m => Sys2Proof.Machine.execSecureConfigLock m s
  | .secureIdentity m => Sys2Proof.Machine.execSecureIdentity m s
  | .secureAttest m => Sys2Proof.Machine.execSecureAttest m s
  | .gpio3Toggle => Sys2Proof.Machine.execGpio3Toggle s
  | .registerRead pf1 off size => Sys2Proof.Machine.execRegisterRead pf1 off s size
  | .configSpaceWrite pf1 control d3hot timeout => Sys2Proof.Machine.execConfigSpaceWrite pf1 control d3hot timeout s
  | .dmaBurst hurt => Sys2Proof.Machine.execDmaBurst hurt s
  | .dmaReadCompletion channel pattern data => Sys2Proof.Machine.execDmaReadCompletion channel pattern data s
  | .ppsOutFall => Sys2Proof.Machine.execPpsOutFall s
  | .peerMailboxFlags taken timeout outStatus => Sys2Proof.Machine.execPeerMailboxFlags taken timeout outStatus s
  | .pairReady => Sys2Proof.Machine.execPairReady s
  | .pairApplyConfirm => Sys2Proof.Machine.execPairApplyConfirm s
  | .rejoinRequest j => Sys2Proof.Machine.execRejoinRequest j s

end Sys2Proof.Machine
end

