-- ==== Sys2Proof/Machine/Tick.lean ====
section
/-!
DEFINITION. One cycle of the TIME clock with no command: the clocks, the time counters, and the performance counters that count cycles
and occupancies (spec 01 R15, 13 R370, 14 R408, 18 R511).
-/
namespace Sys2Proof.Machine

/-! Cycles of the other clocks within one TIME cycle of 1 ns, which has the number `t`. -/

def memEdges (t : Nat) : Nat := (t + 1) * 3 / 2 - t * 3 / 2
def ctlEdges (t : Nat) : Nat := (t + 1) * 3 / 4 - t * 3 / 4
/-- CORE runs at its ceiling (R511). -/
def State.coreEdges (s : State) (t : Nat) : Nat := (t + 1) * s.ceiling / 1000 - t * s.ceiling / 1000

/-! Occupancies (Table 14.6). -/

def State.queueCells (s : State) (q : Nat) : Nat := match tget? s.buf.queues q with | some x => x.held | none => 0
def State.ringQueued (s : State) (r : Nat) : Nat := match tget? s.buf.queues (512 + r) with | some x => x.items.length | none => 0

/-- Occupancy of a pipeline's miss-hold buffer and its recirculation, reinjection and learn queues. -/
def State.pipeOccupancy (s : State) (pipe : Bool) (k : Nat) : Nat :=
  match k with
  | 0x80 => if pipe then s.flow.held1.length else s.flow.held0.length
  | 0x81 => if pipe then s.buf.recirc1.length else s.buf.recirc0.length
  | 0x82 => if pipe then s.buf.reinject1.length else s.buf.reinject0.length
  | _ => if pipe then s.fwd.queue1.length else s.fwd.queue0.length

/-- Miners that run tasks of a type. -/
def State.typeMiners (s : State) (t : Nat) : Nat :=
  (s.miners.tasks.filter fun x => x.2.type == t && (match x.2.state with | .running _ => true | _ => false)).length

def State.occupancy (s : State) (e : Nat) : Nat :=
  if e < 0x3000 then s.pipeOccupancy (0x2100 ≤ e) (e % 256)
  else if e < 0x3C00 then s.queueCells (eventQueue e)
  else if e < 0x3D00 then s.ringQueued (e % 256)
  else if e = 0x3D00 then s.sharedUse
  else if e = 0x3D01 then s.descriptors
  else if e = 0x4080 then s.dram.wq.length
  else if e < 0x5200 then s.typeMiners (e - 0x5180)
  else if e < 0x5208 then (s.miners.ready.getD (e - 0x5200) []).length
  else if e = 0x7080 then s.stagedTiles
  else s.flow.tailings.length

/-- Cycles of an occupancy event's clock. -/
def State.occupancyCycles (s : State) (e t : Nat) : Nat := if e < 0x4000 then s.coreEdges t else memEdges t

/-! Cycle events (Table 14.6). -/

def State.minerBusy (s : State) (m : Nat) : Bool := (s.miners.miners.getD m Miner.reset).slot.isSome

/-- Cycles that a cycle event counts; how many of a busy miner's cycles it waits is a free value up to all of them. -/
def State.cycleCount (s : State) (e t : Nat) (w : W32) : Nat :=
  if e = 1 then s.coreEdges t
  else if e = 2 then memEdges t
  else if e = 3 then ctlEdges t
  else if e = 4 then 1
  else if e = 0x10 then (if s.power.stage = 1 then ctlEdges t else 0)
  else if e = 0x11 then (if s.power.stage = 2 then ctlEdges t else 0)
  else if e = 0x2004 then s.coreEdges t - s.buf.slots0
  else if e = 0x2104 then s.coreEdges t - s.buf.slots1
  else if e = 0x4005 then (if s.dram.panic.isSome then memEdges t else 0)
  else if e = 0x6002 then (if s.drain.isSome then ctlEdges t else 0)
  else if s.minerBusy (e / 16 % 16) then (if e % 16 = 0 then memEdges t else w.toNat % (memEdges t + 1))
  else 0

/-- One counter over one TIME cycle (R408). -/
def State.countCycle (s : State) (t k : Nat) (c : PerfCounter) : PerfCounter :=
  if isOccupancy c.event then
    let n := s.occupancyCycles c.event t
    c.add (if c.threshold then (if c.n < s.occupancy c.event then n else 0) else n * s.occupancy c.event)
  else if isCycleEvent c.event then c.add (s.cycleCount c.event t (Config.freeWord (s.free + k)))
  else c

/-- One TIME cycle: the model's own time moves on; from INIT on the clocks, the time counters and the performance counters run. -/
def State.tick (s : State) : State :=
  let s1 := { s with now := s.now + 1 }
  if s.booted then
    { s1 with
        free := s.free + 256,
        buf := { s.buf with slots0 := 0, slots1 := 0 },
        time := s.time.tick,
        power := { s.power with coreCycles := s.power.coreCycles + BitVec.ofNat 64 (s.coreEdges s.now),
                                timeCycles := s.power.timeCycles + 1 },
        telem := { s.telem with perf := tmap s.telem.perf (s.countCycle s.now) } }
  else s1

end Sys2Proof.Machine
end

