-- ==== Sys2Proof/Safety.lean ====
section
/-!
DEFINITION. Safe runs, and the words in which the claims speak: the state a meaning ends in, a packet that passes the checks of R52, the
state a command ends in with a given answer, and zero parameter bytes.
-/
namespace Sys2Proof

/-- A step that neither faults nor is refused. -/
def Safe (s : Machine.State) : Prop := ∃ t, Machine.step s = .next t

namespace Claims
open Machine

/-- The state in which a meaning ends that takes `old` to `new`: the error log stands in its order, the work that came is with the scheduler,
the programmed counters have counted what occurred, and the vectors whose sources became true are raised (R329, R408, R422, R478). -/
def settled (old new : State) : State := settle old (countStep old { new.wakeAll with err := old.err.inOrder new.wakeAll.err })

/-- The packet may be taken from its channel, the command is not held, and it passes checks 1 to 9 of R52. -/
def passes (c : Cmd) (m : Msg) (s : State) : Bool := s.canTake m.ch && !c.held m s && (c.check m.norm s).isNone

/-- The state in which a command ends whose execution gives the answer `d`: the reply is placed or waits for the peer, the transition takes
effect, and the command is counted (R55, R464, R489). -/
def ran (c : Cmd) (m : Msg) (s : State) (d : Done) : State :=
  let t := finish c m.norm s d (c.recSize m.norm)
  settled s { t with epoch := { t.epoch with executed := t.epoch.executed + 1 } }

/-- Parameter bytes that are zero. -/
def zeroAt (m : Msg) (l : List Nat) : Bool := (firstNonZeroAt m.params l).isNone

/-- The device back in RESET, with the levels `p` on its balls (R453): all but the balls, the model's own clock and counter, what was sent,
and the queue is at its reset value. -/
def inReset (s : State) (p : Pins) : State :=
  { State.reset with now := s.now, free := s.free, out := s.out, pending := s.pending, pins := { p with gpio3 := false, gpio3At := 0 } }

/-- Packet rows, part 1. -/
def packetRows1 : List ((Msg → Instr) × Cmd) :=
  [(.deviceNop, cmdDeviceNop), (.deviceMbxTimeout, cmdDeviceMbxTimeout), (.deviceIdentify, cmdDeviceIdentify),
   (.deviceStatus, cmdDeviceStatus), (.deviceStart, cmdDeviceStart), (.deviceTestEnter, cmdDeviceTestEnter),
   (.deviceTestExit, cmdDeviceTestExit), (.deviceResume, cmdDeviceResume), (.epochStage, cmdEpochStage),
   (.epochCommit, cmdEpochCommit), (.epochStatus, cmdEpochStatus), (.portConfig, cmdPortConfig), (.portEnable, cmdPortEnable),
   (.portStatus, cmdPortStatus), (.portCounters, cmdPortCounters), (.laneTune, cmdLaneTune), (.portLoopback, cmdPortLoopback),
   (.ringConfig, cmdRingConfig), (.canaryStatus, cmdCanaryStatus), (.secureCanaryArm, cmdSecureCanaryArm),
   (.secureCanaryDisarm, cmdSecureCanaryDisarm), (.parseNodeWrite, cmdParseNodeWrite)]

/-- Packet rows, part 2. -/
def packetRows2 : List ((Msg → Instr) × Cmd) :=
  [(.parseNodeRead, cmdParseNodeRead), (.parseLimits, cmdParseLimits), (.parseGraphLoad, cmdParseGraphLoad),
   (.parseCounters, cmdParseCounters), (.ruleLoad, cmdRuleLoad), (.ruleBuild, cmdRuleBuild),
   (.ruleBuildStatus, cmdRuleBuildStatus), (.ruleRead, cmdRuleRead), (.ruleDefault, cmdRuleDefault),
   (.ruleCounters, cmdRuleCounters), (.recircConfig, cmdRecircConfig), (.flowRead, cmdFlowRead), (.flowWrite, cmdFlowWrite),
   (.flowExport, cmdFlowExport), (.flowStats, cmdFlowStats), (.flowDelete, cmdFlowDelete), (.flowPin, cmdFlowPin),
   (.flowClassSet, cmdFlowClassSet), (.flowAgeConfig, cmdFlowAgeConfig), (.flowNewLimit, cmdFlowNewLimit),
   (.flowHashSeed, cmdFlowHashSeed), (.natPoolSet, cmdNatPoolSet)]

/-- Packet rows, part 3. -/
def packetRows3 : List ((Msg → Instr) × Cmd) :=
  [(.natPoolRead, cmdNatPoolRead), (.natBlockConfig, cmdNatBlockConfig), (.natBindingRead, cmdNatBindingRead),
   (.natBindingRelease, cmdNatBindingRelease), (.balGroupSet, cmdBalGroupSet), (.balMemberSet, cmdBalMemberSet),
   (.balMemberDrain, cmdBalMemberDrain), (.balGroupRead, cmdBalGroupRead), (.subWrite, cmdSubWrite), (.subRead, cmdSubRead),
   (.subPolicySet, cmdSubPolicySet), (.actionWrite, cmdActionWrite), (.actionRead, cmdActionRead),
   (.bridgeEntrySet, cmdBridgeEntrySet), (.bridgeEntryDelete, cmdBridgeEntryDelete), (.bridgeRead, cmdBridgeRead),
   (.bridgeDomainSet, cmdBridgeDomainSet), (.learnLimitSet, cmdLearnLimitSet), (.learnConfig, cmdLearnConfig),
   (.routeLoad, cmdRouteLoad), (.routeRead, cmdRouteRead), (.nexthopSet, cmdNexthopSet)]

/-- Packet rows, part 4. -/
def packetRows4 : List ((Msg → Instr) × Cmd) :=
  [(.nexthopRead, cmdNexthopRead), (.queueConfig, cmdQueueConfig), (.shaperNodeSet, cmdShaperNodeSet),
   (.shaperNodeRead, cmdShaperNodeRead), (.schedConfig, cmdSchedConfig), (.mirrorSet, cmdMirrorSet),
   (.hostringSet, cmdHostringSet), (.bufferStatus, cmdBufferStatus), (.bufferThreshold, cmdBufferThreshold),
   (.minerStatus, cmdMinerStatus), (.minerTaskLevel, cmdMinerTaskLevel), (.minerTraceRead, cmdMinerTraceRead),
   (.minerTraceConfig, cmdMinerTraceConfig), (.memPlanRead, cmdMemPlanRead), (.memRegionGrow, cmdMemRegionGrow),
   (.memStatus, cmdMemStatus), (.memRetiredRead, cmdMemRetiredRead), (.seamCreate, cmdSeamCreate), (.seamGroup, cmdSeamGroup),
   (.seamRead, cmdSeamRead), (.seamFill, cmdSeamFill), (.seamCompare, cmdSeamCompare)]

/-- Packet rows, part 5. -/
def packetRows5 : List ((Msg → Instr) × Cmd) :=
  [(.seamCheck, cmdSeamCheck), (.seamRetire, cmdSeamRetire), (.seamSwapRoot, cmdSeamSwapRoot), (.seamInfo, cmdSeamInfo),
   (.secureMemPlan, cmdSecureMemPlan), (.timeRead, cmdTimeRead), (.timeStep, cmdTimeStep), (.timeIncSet, cmdTimeIncSet),
   (.timeJumpLimit, cmdTimeJumpLimit), (.timePpsConfig, cmdTimePpsConfig), (.timePtpConfig, cmdTimePtpConfig),
   (.timeCal, cmdTimeCal), (.timeRclkConfig, cmdTimeRclkConfig), (.telemCollectorSet, cmdTelemCollectorSet),
   (.telemEnable, cmdTelemEnable), (.telemStatus, cmdTelemStatus), (.counterProgram, cmdCounterProgram),
   (.counterRead, cmdCounterRead), (.counterDumpConfig, cmdCounterDumpConfig), (.bwwinConfig, cmdBwwinConfig),
   (.bwwinRead, cmdBwwinRead), (.dmaResume, cmdDmaResume)]

/-- Packet rows, part 6. -/
def packetRows6 : List ((Msg → Instr) × Cmd) :=
  [(.dmaAbandon, cmdDmaAbandon), (.dmaStatus, cmdDmaStatus), (.pairJoin, cmdPairJoin), (.pairLeave, cmdPairLeave),
   (.pairStatus, cmdPairStatus), (.pairRejoin, cmdPairRejoin), (.pairConfig, cmdPairConfig), (.errlogRead, cmdErrlogRead),
   (.errlogClear, cmdErrlogClear), (.errlogClassRead, cmdErrlogClassRead), (.errlogStatus, cmdErrlogStatus),
   (.securePowerProfile, cmdSecurePowerProfile), (.powerStatus, cmdPowerStatus), (.clockStatus, cmdClockStatus),
   (.thermalRead, cmdThermalRead), (.droopConfig, cmdDroopConfig), (.secureConfigLock, cmdSecureConfigLock),
   (.secureIdentity, cmdSecureIdentity), (.secureAttest, cmdSecureAttest)]

/-- Every row of the command table that is a command packet, with what the index says of it. -/
def packetRows : List ((Msg → Instr) × Cmd) :=
  packetRows1 ++ packetRows2 ++ packetRows3 ++ packetRows4 ++ packetRows5 ++ packetRows6

/-- The state in which a packet ends that the interpreter refuses at one of checks 1 to 9 of R52: a reply of no parameters (R46, R48). -/
def refused (c : Cmd) (m : Msg) (s : State) (status detail : Nat) : State :=
  settled s (s.reply m.ch (replyOf c.op m.norm s.epoch.current status detail []))

/-- The first `n` of the checks a packet of a known command passes in the order of R52: 1 the length field, 2 the channel (step 3), 3 the
header, 4 the flags, 5 the state, 6 the guard, 7 the length, 8 the configuration lock. -/
def checksHold (c : Cmd) (m : Msg) (s : State) (n : Nat) : Bool :=
  (n < 1 || decide (m.len.toNat ≤ 4080)) && (n < 2 || (c.accept m s).isNone) && (n < 3 || m.badHeader.isNone) && (n < 4 || c.flags m) &&
    (n < 5 || (c.legal m s && c.clearingOk m s)) && (n < 6 || (m.guard == 0xFFFF || m.guard == s.epoch.current)) && (n < 7 || (c.len m).1) &&
    (n < 8 || !(s.life.lock && c.locks m))

/-- Two states agree on the clock, the queue, the lifecycle, the balls, power, the three table versions, the memory stacks and all live state of
the data path and of time. -/
def sameTables (t s : State) : Prop :=
  t.now = s.now ∧ t.pending = s.pending ∧ t.life = s.life ∧ t.pins = s.pins ∧ t.power = s.power ∧
  t.cur = s.cur ∧ t.shadow = s.shadow ∧ t.drain = s.drain ∧ t.dram = s.dram ∧ t.ports = s.ports ∧ t.canary = s.canary ∧
  t.parse = s.parse ∧ t.rule = s.rule ∧ t.flow = s.flow ∧ t.nat = s.nat ∧ t.fwd = s.fwd ∧ t.buf = s.buf ∧
  t.time = s.time

/-- What every step keeps: device memory in its canonical form, so that equal memories are equal data. -/
def Kept (s : State) : Prop := Memory.wf s.dram.mem = true

end Claims
end Sys2Proof
end

