-- ==== Sys2Proof/Certificates/Slice0/Obligations.lean ====
section
/-!
DEFINITION. What is claimed of the model: the block's queue and its reset, and, family by family, where a command completes, what it
answers and what it leaves unchanged. `passes c m s` says that a packet is taken and passes checks 1 to 9 of R52; `ran c m s d` is the state
in which it then ends with the answer `d`; `settled s t` is the state in which a meaning ends that takes `s` to `t` (Sys2Proof/Safety.lean).
-/
open Sys2Proof Sys2Proof.Machine Sys2Proof.Claims

/-! The block: its queue, its idle cycle, and the state after reset. -/

/-- STEP. A step takes the command at the front of the queue and runs it with the queue's rest, whatever the command and the state. -/
def Obligations.StepRunsFrontCommand : Prop :=
  ∀ (c : Instr) (rest : List Instr) (s : State), step { s with pending := c :: rest } = exec c { s with pending := rest }

/-- IDLE (model's choice, log entries 14 and 100). On an empty queue one TIME cycle passes: the uptime clock moves on by 1 ns, and from
INIT on the flow clock by 1 ns (R370), and each pipeline has used none of the next cycle's slots; no table, no channel, no memory, no port
and nothing sent changes. -/
def Obligations.IdleStepPassesOneCycle : Prop :=
  ∀ s : State, s.pending = [] → ∃ t, step s = .next t ∧ t.now = s.now + 1 ∧ t.pending = [] ∧
    t.time.flow = (if s.booted then s.time.flow + 1 else s.time.flow) ∧
    t.cur = s.cur ∧ t.shadow = s.shadow ∧ t.epoch = s.epoch ∧ t.dram = s.dram ∧ t.ns = s.ns ∧ t.sec = s.sec ∧ t.peer = s.peer ∧
    t.bmc = s.bmc ∧ t.ports = s.ports ∧ t.life = s.life ∧ t.host = s.host ∧ t.flow = s.flow ∧ t.out = s.out ∧
    t.buf = (if s.booted then { s.buf with slots0 := 0, slots1 := 0 } else s.buf)

/-- Reset values that the spec states: the device is in RESET; MBX_TIMEOUT is 10 ms on each channel (R57), no message is pending and no
reply is placed; the increment is 2^32 (R371, R387); every DMA channel is PF0's, IDLE and disabled with a ring of 16 (R427, Table 15.8);
ALERT_PIN_MASK is 0x1FF (Table 15.7); HIGH, LOW and PANIC of the write queues are 768, 256 and 6,144 (R354, R356, R369). -/
def Obligations.ResetHoldsStatedValues : Prop :=
  State.reset.life.state = .reset ∧
  (∀ ch, (State.reset.chan ch).timeoutMs = 10 ∧ (State.reset.chan ch).pending = false ∧ (State.reset.chan ch).outStatus = false) ∧
  State.reset.time.inc = 0x100000000 ∧ State.reset.host.owner = 0 ∧ State.reset.host.alertPin = 0x1FF ∧
  (∀ c, c < 16 → (State.reset.dma c).state = .idle ∧ (State.reset.dma c).enable = false ∧ (State.reset.dma c).log2 = 4) ∧
  State.reset.dram.high = 768 ∧ State.reset.dram.low = 256 ∧ State.reset.dram.panicLevel = 6144 ∧ State.reset.pending = []

/-! Power, RESET and BOOT (spec 16). -/

/-- R449-R453, R460, R504, R527: from any state but OFF, the fall of RESET_N or PWR_OK for 1 us or more puts the device into RESET, a pulse
below 100 ns does nothing, and between the two the fall resets or does nothing by a free value (model's choice, log 170); the loss of
the root PLL's lock once it is locked resets too; the application of the rails takes OFF to RESET, and in RESET resets again (model's
choice, log 48). Every register, memory and table is then at its reset value, but for the levels of the balls. That the rails reset the
TAP and that it stands through RESET_N's fall (log 13), and that the model's clock runs on (log 135), are the model's choices. -/
def Obligations.ResetEventsEnterReset : Prop :=
  (∀ s, s.life.state = .off ∨ s.life.state = .reset →
    exec .powerOn s = .next (inReset s { s.pins with resetN := false, boundary := 0, tapInstr := 1 })) ∧
  (∀ s, s.life.state ≠ .off → exec .resetNFall s = .next (inReset s { s.pins with resetN := false })) ∧
  (∀ s, s.life.state ≠ .off → exec .pwrOkFall s = .next (inReset s { s.pins with pwrOk := false })) ∧
  (∀ s, s.power.rootLock = true → exec .rootPllLockLost s = .next (inReset s s.pins)) ∧
  (∀ s low, low < 100 → exec (.resetNFall low) s = .next s ∧ exec (.pwrOkFall low) s = .next s) ∧
  (∀ s low, s.life.state ≠ .off → 100 ≤ low → low < 1000 → ∃ x, x = { s with free := s.free + 1 } ∧
    exec (.resetNFall low) s = .next (if (Config.freeWord s.free).getLsbD 0 then inReset x { s.pins with resetN := false } else x) ∧
    exec (.pwrOkFall low) s = .next (if (Config.freeWord s.free).getLsbD 0 then inReset x { s.pins with pwrOk := false } else x))

/-- R450, R456, R457, R527: a rise of RESET_N with PWR_OK low, or high for less than 1 us, only sets the levels. With PWR_OK high that long it
samples the four straps, the device enters BOOT and runs its steps; where the root PLL does not lock the device stays in BOOT with BOOT_FAIL
code 1, which ALERT_N shows. -/
def Obligations.RiseOfResetNBeginsBoot : Prop :=
  (∀ cfg b s, s.pins.resetN = false → s.life.state ≠ .off → ∃ t, exec (.resetNRise false cfg b) s = .next t ∧ t.life = s.life ∧
    t.pins.resetN = true ∧ t.pins.pwrOk = false) ∧
  (∀ cfg b s highFor, s.pins.resetN = false → s.life.state ≠ .off → highFor < 1000 →
    ∃ t, exec (.resetNRise true cfg b highFor) s = .next t ∧ t.life = s.life ∧ t.pins.resetN = true ∧ t.pins.pwrOk = true) ∧
  (∀ cfg b s, s.pins.resetN = false → s.life.state ≠ .off → ∃ t, exec (.resetNRise true cfg b) s = .next t ∧ t.life.state = .boot ∧
    t.life.prev = s.life.state ∧ t.pins.resetN = true ∧ t.life.straps.cfg0 = Nat.testBit cfg 0 ∧ t.life.straps.cfg1 = Nat.testBit cfg 1 ∧
    t.life.straps.cfg2 = Nat.testBit cfg 2 ∧ t.life.straps.cfg3 = Nat.testBit cfg 3) ∧
  (∀ cfg b s, s.pins.resetN = false → s.life.state ≠ .off → b.pllOk = false →
    ∃ t, exec (.resetNRise true cfg b) s = .next t ∧ t.life.state = .boot ∧ t.life.bootFail = some 1 ∧ t.alertN = true)

/-- R458, R459, R363, R469: BOOT that has not failed ends in INIT, or in RECOVER with cause STACKS_LOST where no channel is trained;
PERST_N's rise trains the link once RESET_N is high; a clearing completes, after which a memory plan's copies of the forwarding tables are
made again (R282; model's choice, log 143), and a test exit's enters INIT. PERST_N's rise trains the link only where the PCI Express
reference is there (R518). -/
def Obligations.BootAndClearingComplete : Prop :=
  (∀ ms s, s.life.state = .boot → s.life.bootFail = none → s.dram.channels.all (·.lost) = false →
    ∃ t, exec (.bootComplete ms) s = .next t ∧ t.life.state = .init ∧ t.life.prev = .boot ∧ t.life.bootMs = ms % 65536) ∧
  (∀ ms s, s.life.state = .boot → s.life.bootFail = none → s.dram.channels.all (·.lost) = true →
    ∃ t, exec (.bootComplete ms) s = .next t ∧ t.life.state = .recover ∧ t.life.prev = .boot ∧ t.life.causes = 2) ∧
  (∀ s, s.pins.resetN = true → s.life.state ≠ .off → s.life.state ≠ .reset →
    exec (.perstNRise true) s = .next (settled s { s with
      pins := { s.pins with perstN := true }, power := { s.power with pcieRef := true }, host := { s.host with linkUp := true } })) ∧
  (∀ s, exec (.perstNRise false) s = .next (settled s { s with
    pins := { s.pins with perstN := true }, power := { s.power with pcieRef := false } })) ∧
  (∀ s, s.life.clearing = .plan → exec .clearingComplete s = 
    .next (settled s (State.remakeCopies { s with life := { s.life with clearing := .none } }))) ∧
  (∀ s, s.life.clearing = .testExit → s.life.state = .test →
    ∃ t, exec .clearingComplete s = .next t ∧ t.life.state = .init ∧ t.life.prev = .test ∧ t.life.clearing = .none)

/-- R528, R532-R534: GPIO3 toggles when 500 ms of the flow clock have passed since its last toggle, from INIT on. A TAP instruction becomes
the current one; IDCODE shifts 0xB2427A6B out in front of the data, a bypassing instruction delays the data by one bit, and SAMPLE
shifts the captured cells out, A1's last, as the data comes into the boundary register. With RESET_N low, EXTEST drives the balls by the
boundary register, and HIGHZ drives none (their effects are those of IEEE 1149.1: model's choice, log 13). That an instruction and its
whole scan of 294 bits are one event is the model's choice (log 67), and that a cell the state does not tell reads free (log 11). -/
def Obligations.BallEventsComplete : Prop :=
  (∀ s, s.booted = true → s.pins.gpio3At + 500000000 ≤ s.time.flow.toNat →
    exec .gpio3Toggle s =
      .next (settled s { s with pins := { s.pins with gpio3 := !s.pins.gpio3, gpio3At := s.pins.gpio3At + 500000000 } })) ∧
  (∀ data s, s.life.state ≠ .off → ∃ t, exec (.tapInstruction 1 data) s = .next t ∧ t.pins.tapInstr = 1 ∧
    t.out = s.out ++ [.tdo ((data <<< 32) ||| 0xB2427A6B#294)]) ∧
  (∀ data s, s.life.state ≠ .off → ∃ t, exec (.tapInstruction 0xFF data) s = .next t ∧ t.pins = { s.pins with tapInstr := 0xFF } ∧
    t.out = s.out ++ [.tdo (data <<< 1)]) ∧
  (∀ data s, s.life.state ≠ .off → ∃ x t, x = { s with pins := { s.pins with tapInstr := 2 } } ∧
    exec (.tapInstruction 2 data) s = .next t ∧ t.pins.tapInstr = 2 ∧ t.pins.boundary = reversed data ∧
    t.out = s.out ++ [.tdo (reversed x.captured)]) ∧
  (∀ data s, s.life.state ≠ .off → s.pins.resetN = false → ∃ t, exec (.tapInstruction 0 data) s = .next t ∧
    t.pins.boundary = reversed data ∧ t.outputCells = (List.range 147).flatMap t.tapBall) ∧
  (∀ data s, s.life.state ≠ .off → s.pins.resetN = false → ∃ t, exec (.tapInstruction 5 data) s = .next t ∧
    ∀ ball, t.ballLevel ball = none)

/-! Mailboxes (spec 02). -/

/-- R54. The sender of a channel writes four bytes into a free inbound buffer, or loses the write while a message is pending; RING (a host's
byte with bit 0, the peer's ring, or the BMC's byte 0x01 with a correct PEC) submits the message, under the timeout set at that moment
(R59), and in SERVICE and DEGRADED starts it (R57, R58); rung twice, the doorbell is lost. -/
def Obligations.SenderWritesAndRings : Prop :=
  (∀ ch off v s, s.reachable ch = true → ch < 3 → off < 4096 → off % 4 = 0 → (s.chan ch).pending = false →
    exec (.mbxInboundWrite ch off v) s = .next (settled s
      (s.setChan ch { s.chan ch with inbound := bufWriteAll (s.chan ch).inbound off (le 4 v.toNat) }))) ∧
  (∀ ch off v s, s.reachable ch = true → ch < 3 → off < 4096 → off % 4 = 0 → (s.chan ch).pending = true →
    exec (.mbxInboundWrite ch off v) s = .next (settled s (s.setChan ch { s.chan ch with writeLost := true }))) ∧
  (∀ (q : ChannelAsk) s, s.reachable q.ch = true →
    (q.ch < 2 ∧ q.byte.getLsbD 0 = true) ∨ q.ch = 2 ∨ (q.ch = 3 ∧ q.byte = 1 ∧ q.pec = true) → (s.chan q.ch).pending = false →
    exec (.ringDoorbell q) s = .next (settled s (s.setChan q.ch { s.chan q.ch with
      pending := true, taken := false, timeout := false, rungMs := (s.chan q.ch).timeoutMs,
      timer := if s.inService then some (s.now, (s.chan q.ch).timeoutMs * 1000000) else none }))) ∧
  (∀ (q : ChannelAsk) s, s.reachable q.ch = true →
    (q.ch < 2 ∧ q.byte.getLsbD 0 = true) ∨ q.ch = 2 ∨ (q.ch = 3 ∧ q.byte = 1 ∧ q.pec = true) → (s.chan q.ch).pending = true →
    exec (.ringDoorbell q) s = .next (settled s (s.setChan q.ch { s.chan q.ch with doorbellLost := true })))

/-- R56, R57: RELEASE (bit 0 of a host's byte, the peer's release, or the BMC's byte 0x02 with a correct PEC) frees the outbound buffer and
places the oldest queued reply; a message whose timeout has passed is withdrawn with TIMEOUT set, but in the CTL cycle of the expiry the
interpreter takes it if it is the next to take; and the interpreter takes the first pending message of the round, setting TAKEN and clearing
PENDING (R42, R55). -/
def Obligations.ChannelIsServed : Prop :=
  (∀ (q : ChannelAsk) s, s.reachable q.ch = true →
    (q.ch < 2 ∧ q.byte.getLsbD 0 = true) ∨ q.ch = 2 ∨ (q.ch = 3 ∧ q.byte = 2 ∧ q.pec = true) → (s.chan q.ch).outStatus = true →
    (s.chan q.ch).replies = [] →
    ∃ t, exec (.releaseReply q) s = .next t ∧ (t.chan q.ch).outStatus = false ∧ (t.chan q.ch).outbound = []) ∧
  (∀ (q : ChannelAsk) r rs s, s.reachable q.ch = true →
    (q.ch < 2 ∧ q.byte.getLsbD 0 = true) ∨ q.ch = 2 ∨ (q.ch = 3 ∧ q.byte = 2 ∧ q.pec = true) → (s.chan q.ch).outStatus = true →
    (s.chan q.ch).replies = r :: rs → ∃ t, exec (.releaseReply q) s = .next t ∧ (t.chan q.ch).outStatus = true ∧
      (t.chan q.ch).outbound = r ∧ (t.chan q.ch).replies = rs) ∧
  (∀ ch s t0 len, ch < 4 → (s.chan ch).timer = some (t0, len) → (s.chan ch).pending = true → t0 + len ≤ s.now →
    ctlCycle s.now ≠ ctlCycle (t0 + len) → ∃ t, exec (.mbxTimeoutExpire ch) s = .next t ∧ (t.chan ch).pending = false ∧
      (t.chan ch).timeout = true ∧ (t.chan ch).timer = none ∧ t.epoch.withdrawn = s.epoch.withdrawn + 1) ∧
  (∀ ch s t0 len, ch < 4 → (s.chan ch).timer = some (t0, len) → (s.chan ch).pending = true → t0 + len ≤ s.now →
    ctlCycle s.now = ctlCycle (t0 + len) → (roundFrom s.epoch.lastTaken).find? s.mayTake = some ch →
    exec (.mbxTimeoutExpire ch) s = .next (settled s ((s.taken ch).runPacket ((s.chan ch).packet ch).1 ((s.chan ch).packet ch).2))) ∧
  (∀ ch s, (roundFrom s.epoch.lastTaken).find? s.mayTake = some ch →
    exec .messageTake s = .next (settled s ((s.taken ch).runPacket ((s.chan ch).packet ch).1 ((s.chan ch).packet ch).2)))

/-- R64: the BMC writes 1-253 bytes with a correct PEC into its inbound buffer; another write, a byte of code 0x21 that is neither 0x01 nor
0x02, and any write with a wrong PEC is not acknowledged; a read of the flags returns them and clears WRITE_LOST, but where its PEC is
missing it clears nothing; a read of the reply returns up to 255 bytes of the outbound buffer; and the device answers the Alert Response
Address with its own, in bits 7:1. -/
def Obligations.BmcTransactionsComplete : Prop :=
  (∀ off data s, s.reachable 3 = true → 1 ≤ data.length → data.length ≤ 253 →
    exec (.bmcBufferWrite off data true) s = .next (settled s { s with bmc := s.bmc.write off data })) ∧
  (∀ off data s, s.reachable 3 = true → exec (.bmcBufferWrite off data false) s = .next (settled s (s.send .smbusNack))) ∧
  (∀ byte pec s, s.reachable 3 = true → pec = false ∨ (byte ≠ 1 ∧ byte ≠ 2) →
    exec (.ringDoorbell (ChannelAsk.mk 3 byte pec)) s = .next (settled s (s.send .smbusNack)) ∧
    exec (.releaseReply (ChannelAsk.mk 3 byte pec)) s = .next (settled s (s.send .smbusNack))) ∧
  (∀ s, s.reachable 3 = true → ∃ t, exec .bmcFlagsRead s = .next t ∧ t.bmc = { s.bmc with writeLost := false } ∧
    t.out = s.out ++ [.smbus (le 1 s.bmc.flagsByte)]) ∧
  (∀ s, s.reachable 3 = true → exec (.bmcFlagsRead false) s = .next (settled s (s.send (.smbus (le 1 s.bmc.flagsByte))))) ∧
  (∀ off s, s.reachable 3 = true → ∃ t, exec (.bmcReplyRead (BufferAsk.mk off true)) s = .next t ∧ t.bmc = s.bmc ∧
    t.out = s.out ++ [.smbus (slice s.bmc.outbound off (min 255 (4096 - off)))]) ∧
  (∀ off s, s.reachable 3 = true → exec (.bmcReplyRead (BufferAsk.mk off false)) s = .next (settled s (s.send .smbusNack))) ∧
  (∀ s, s.smbAlertN = true → s.life.straps.cfg1 = false → ∃ t, exec .smbusAlertResponse s = .next t ∧ t.out = s.out ++ [.smbus [0xB4]])

/-- R57, R60, R466-R468: DEVICE_NOP returns its parameter bytes; DEVICE_MBX_TIMEOUT of a channel's own timeout reads it, or sets it from 1
to 10,000 ms; DEVICE_IDENTIFY and DEVICE_STATUS return their records; DEVICE_START that finds nothing unready enters SERVICE or DEGRADED
after its reply; DEVICE_TEST_ENTER enters TEST, and DEVICE_TEST_EXIT without CLEAR_LIVE ends the loopbacks and enters INIT. -/
def Obligations.DeviceCommandsComplete : Prop :=
  (∀ m s, passes cmdDeviceNop m s = true → exec (.deviceNop m) s = .next (ran cmdDeviceNop m s (ok s m.norm.params))) ∧
  (∀ m s, passes cmdDeviceMbxTimeout m s = true → m.norm.p 0 = 0xFF → m.norm.p 1 = 0 → m.ch ≠ 3 → m.norm.f 2 2 = 0 →
    exec (.deviceMbxTimeout m) s = .next (ran cmdDeviceMbxTimeout m s (ok s (le 2 (s.chan m.ch).timeoutMs ++ zeros 2)))) ∧
  (∀ m s, passes cmdDeviceMbxTimeout m s = true → m.norm.p 0 = 0xFF → m.norm.p 1 = 0 → m.ch < 3 → 1 ≤ m.norm.f 2 2 →
    m.norm.f 2 2 ≤ 10000 → exec (.deviceMbxTimeout m) s = .next (ran cmdDeviceMbxTimeout m s
      (ok (s.setChan m.ch { s.chan m.ch with timeoutMs := m.norm.f 2 2 }) (le 2 (m.norm.f 2 2) ++ zeros 2)))) ∧
  (∀ m s, passes cmdDeviceIdentify m s = true → exec (.deviceIdentify m) s = .next (ran cmdDeviceIdentify m s (ok s s.identify))) ∧
  (∀ m s, passes cmdDeviceStatus m s = true → exec (.deviceStatus m) s = .next (ran cmdDeviceStatus m s (ok s s.deviceStatus))) ∧
  (∀ m s, passes cmdDeviceStart m s = true → zeroAt m.norm (span 0 3) = true → s.readiness = 0 →
    exec (.deviceStart m) s = .next (ran cmdDeviceStart m s
      { state := s, params := le 1 s.serviceState.code ++ zeros 3, enters := some s.serviceState })) ∧
  (∀ m s, passes cmdDeviceTestEnter m s = true → zeroAt m.norm (span 0 3) = true →
    exec (.deviceTestEnter m) s = .next (ran cmdDeviceTestEnter m s { state := s, enters := some .test })) ∧
  (∀ m s, passes cmdDeviceTestExit m s = true → zeroAt m.norm (span 0 3) = true →
    exec (.deviceTestExit m) s = .next (ran cmdDeviceTestExit m s { state := s.endLoopbacks, enters := some .init }))

/-- R469-R473: DEVICE_TEST_EXIT with CLEAR_LIVE starts a clearing; DEVICE_RESUME whose causes have gone enters SERVICE or DEGRADED;
SECURE_CONFIG_LOCK reads, sets, clears and makes sticky the configuration lock, and a lock that is sticky is not cleared;
SECURE_IDENTITY reads the identity or sets the label; and SECURE_ATTEST returns the statement over the nonce with its signature, whose
bytes are free (model's choice, log 125). -/
def Obligations.SecureAndRecoveryCommandsComplete : Prop :=
  (∀ m s, passes cmdDeviceTestExit m s = true → m.norm.p 0 = 1 → zeroAt m.norm [1, 2, 3] = true →
    ∃ x, x = s.endLoopbacks.clearLive ((List.range 4).flatMap s.endLoopbacks.regionRuns) ∧
      exec (.deviceTestExit m) s = .next (ran cmdDeviceTestExit m s (ok { x with life := { x.life with clearing := .testExit } }))) ∧
  (∀ m s, passes cmdDeviceResume m s = true → zeroAt m.norm (span 0 3) = true → s.causesLeft = 0 →
    exec (.deviceResume m) s = .next (ran cmdDeviceResume m s
      { state := { s with life := { s.life with causes := 0 } }, params := le 1 s.serviceState.code ++ zeros 3,
        enters := some s.serviceState })) ∧
  (∀ m s, passes cmdSecureConfigLock m s = true → m.norm.p 0 = 1 → zeroAt m.norm [1, 2, 3] = true →
    exec (.secureConfigLock m) s = .next (ran cmdSecureConfigLock m s
      (ok { s with life := { s.life with lock := true } } (le 1 (flagByte [true, s.life.sticky]) ++ zeros 3)))) ∧
  (∀ m s, passes cmdSecureConfigLock m s = true → zeroAt m.norm (span 0 3) = true →
    exec (.secureConfigLock m) s = .next (ran cmdSecureConfigLock m s
      (ok s (le 1 (flagByte [s.life.lock, s.life.sticky]) ++ zeros 3)))) ∧
  (∀ m s, passes cmdSecureConfigLock m s = true → m.norm.p 0 = 2 → zeroAt m.norm [1, 2, 3] = true → s.life.sticky = false →
    exec (.secureConfigLock m) s = .next (ran cmdSecureConfigLock m s
      (ok { s with life := { s.life with lock := false } } (zeros 4)))) ∧
  (∀ m s, passes cmdSecureConfigLock m s = true → m.norm.p 0 = 3 → zeroAt m.norm [1, 2, 3] = true →
    exec (.secureConfigLock m) s = .next (ran cmdSecureConfigLock m s
      (ok { s with life := { s.life with lock := true, sticky := true } } [3, 0, 0, 0]))) ∧
  (∀ m s, passes cmdSecureConfigLock m s = true → m.norm.p 0 = 2 → zeroAt m.norm [1, 2, 3] = true → s.life.sticky = true →
    exec (.secureConfigLock m) s = .next (ran cmdSecureConfigLock m s (refuse s Status.locked 0))) ∧
  (∀ m s, passes cmdSecureIdentity m s = true → m.norm.p 0 = 0 → zeroAt m.norm [1, 2, 3] = true →
    exec (.secureIdentity m) s = .next (ran cmdSecureIdentity m s (ok s s.identity))) ∧
  (∀ m s, passes cmdSecureIdentity m s = true → m.norm.p 0 = 1 → zeroAt m.norm [1, 2, 3] = true →
    exec (.secureIdentity m) s = .next (ran cmdSecureIdentity m s
      (ok { s with life := { s.life with label := slice m.norm.params 4 32 } }))) ∧
  (∀ m s, passes cmdSecureAttest m s = true → zeroAt m.norm (span 32 35) = true →
    exec (.secureAttest m) s = .next (ran cmdSecureAttest m s (ok s (s.statement (m.norm.params.take 32) ++
      (List.range 96).map (Config.signatureByte (s.statement (m.norm.params.take 32)))))))

/-! Epochs (spec 01, 02). -/

/-- R70, R71, R74, R32: EPOCH_STAGE reads the shadow's change count, or discards; EPOCH_COMMIT on a device that does not forward and has no
draining epoch sets its boundary at the next number and is answered with it; while an epoch drains it answers BUSY_EPOCH and counts;
EPOCH_STATUS returns its record; and an epoch that nothing holds ends its drain. What holds an epoch and what BUSY_EPOCH tells of a peer
that still drains are read by inference (log 34). -/
def Obligations.EpochCommandsComplete : Prop :=
  (∀ m s, passes cmdEpochStage m s = true → zeroAt m.norm (span 0 3) = true →
    exec (.epochStage m) s = .next (ran cmdEpochStage m s
      (ok s (le 4 s.epoch.changes.toNat ++ le 4 s.cowTiles ++ le 2 s.buildsRunning ++ zeros 2)))) ∧
  (∀ m s, passes cmdEpochStage m s = true → m.norm.p 0 = 1 → zeroAt m.norm [1, 2, 3] = true →
    exec (.epochStage m) s = .next (ran cmdEpochStage m s (ok s.discardShadow
      (le 4 s.discardShadow.epoch.changes.toNat ++ le 4 s.discardShadow.cowTiles ++ le 2 s.discardShadow.buildsRunning ++ zeros 2)))) ∧
  (∀ m s, passes cmdEpochCommit m s = true → zeroAt m.norm (span 4 7) = true → s.drainingEpoch = none → s.forwards = false →
    s.journals = false → m.norm.f 0 4 = 0xFFFFFFFF ∨ m.norm.f 0 4 = s.epoch.changes.toNat →
    exec (.epochCommit m) s = .next (ran cmdEpochCommit m s
      { state := s.boundary (s.epoch.current + 1), params := commitBytes s (s.boundary (s.epoch.current + 1)),
        epoch := some (s.epoch.current + 1) })) ∧
  (∀ m s e, passes cmdEpochCommit m s = true → zeroAt m.norm (span 4 7) = true → s.drainingEpoch = some e →
    exec (.epochCommit m) s = .next (ran cmdEpochCommit m s
      (refuse { s with epoch := { s.epoch with refused := satur 32 (s.epoch.refused + 1) } } Status.busyEpoch e.toNat))) ∧
  (∀ m s, passes cmdEpochStatus m s = true → exec (.epochStatus m) s = .next (ran cmdEpochStatus m s (ok s s.epochStatus))) ∧
  (∀ s d, s.drain = some d → s.epochHeld d.epoch = false →
    exec .epochDrained s = .next (settled s (State.settleGroups s { s with drain := none }.settleRules).settleCopies))

/-! The error log (spec 17). -/

/-- R423, R481, R501: ERRLOG_READ returns entries; ERRLOG_CLEAR drops the oldest entries, drops all, or clears one class or all classes;
ERRLOG_CLASS_READ and ERRLOG_STATUS return their records; and a write of ERRLOG_SELECT latches the entry at its ring index. -/
def Obligations.ErrorLogCommandsComplete : Prop :=
  (∀ m s, passes cmdErrlogRead m s = true → m.norm.f 0 2 < s.err.entries.length → 1 ≤ m.norm.p 2 → m.norm.p 2 ≤ 126 →
    zeroAt m.norm (span 3 7) = true → exec (.errlogRead m) s = .next (ran cmdErrlogRead m s
      (ok s (s.logHeader ++ ((s.err.entries.drop (m.norm.f 0 2)).take (m.norm.p 2)).flatMap (fit 32))))) ∧
  (∀ m s, passes cmdErrlogClear m s = true → m.norm.p 0 = 0 → m.norm.p 1 = 0 → 1 ≤ m.norm.f 2 2 → m.norm.f 2 2 ≤ s.err.entries.length →
    s.err.entries.length ≤ 1024 → exec (.errlogClear m) s = .next (ran cmdErrlogClear m s
      (ok { s with err := { s.err with entries := s.err.entries.drop (m.norm.f 2 2), oldest := (s.err.oldest + m.norm.f 2 2) % 1024 } }
        (le 2 (s.err.entries.length - m.norm.f 2 2) ++ zeros 2)))) ∧
  (∀ m s, passes cmdErrlogClear m s = true → m.norm.p 0 = 1 → zeroAt m.norm [1, 2, 3] = true → s.err.entries.length ≤ 1024 →
    exec (.errlogClear m) s = .next (ran cmdErrlogClear m s (ok { s with err := { s.err with
      entries := [], oldest := (s.err.oldest + s.err.entries.length) % 1024 } } (zeros 4)))) ∧
  (∀ m s, passes cmdErrlogClear m s = true → m.norm.p 0 = 2 → m.norm.p 1 = 0 → 1 ≤ m.norm.f 2 2 → m.norm.f 2 2 ≤ 20 →
    exec (.errlogClear m) s = .next (ran cmdErrlogClear m s (ok { s with err := { s.err with
      classes := alter s.err.classes (m.norm.f 2 2 - 1) ErrClass.clear } } (le 2 s.err.entries.length ++ zeros 2)))) ∧
  (∀ m s, passes cmdErrlogClear m s = true → m.norm.p 0 = 3 → zeroAt m.norm [1, 2, 3] = true →
    exec (.errlogClear m) s = .next (ran cmdErrlogClear m s
      (ok { s with err := { s.err with classes := s.err.classes.map ErrClass.clear } } (le 2 s.err.entries.length ++ zeros 2)))) ∧
  (∀ m s, passes cmdErrlogClassRead m s = true → 1 ≤ m.norm.p 2 → m.norm.p 2 ≤ 50 → m.norm.p 3 = 0 →
    exec (.errlogClassRead m) s = .next (ran cmdErrlogClassRead m s
      (ok s ((List.range (m.norm.p 2)).flatMap fun k => s.classBytes ((m.norm.f 0 2 + k) % 65536))))) ∧
  (∀ m s, passes cmdErrlogStatus m s = true → exec (.errlogStatus m) s = .next (ran cmdErrlogStatus m s
    (ok s (s.logHeader ++ le 4 s.err.written.toNat ++ le 4 (satur 32 ((s.err.classes.map (·.unrec)).foldl (· + ·) 0)))))) ∧
  (∀ pf1 (v : W32) s, s.windowOpen = true → v.toNat < 1024 → s.err.oldest < 1024 →
    exec (.errlogSelectWrite pf1 v) s = .next (settled s (s.setFn pf1 { s.fn pf1 with
      select := BitVec.ofNat 10 v.toNat,
      latched := fit 32 (s.err.entries.getD ((v.toNat + 1024 - s.err.oldest) % 1024) []) })))

/-! The host interface (spec 00, 13, 15). -/

/-- R7, R8, R418, R421, R423, R426: while the link is up, a register read sends the register's value; a write of ALERT_STATUS clears the
bits it names, one of ALERT_ENABLE or ALERT_PIN_MASK sets it, one of MBX_OUT_RELEASE with bit 0 frees the outbound buffer, and a
misaligned one is without effect, as is one of another size than 32 bits, whose read returns zero; a configuration write sets Bus Master
Enable, the MSI-X control, D3hot, the completion timeout, the payload and read-request sizes and the base addresses of its function, and
the vectors that were held back for want of them are sent (Table 0.3, R422). Of these, that a write without effect leaves a latch (log
37), the reset values of MSI-X (log 38), the window at 0x1_0000 (log 39) and the sizes a function takes (log 167) are the model's
choices. -/
def Obligations.RegisterAccessesComplete : Prop :=
  (∀ pf1 off s, s.windowOpen = true → exec (.registerRead pf1 off) s =
    .next (settled s ((s.readReg pf1 off).2.send (.register pf1 (s.readReg pf1 off).1)))) ∧
  (∀ pf1 (v : W32) s, s.windowOpen = true → exec (.registerWrite pf1 0x100 v) s =
    .next (settled s (State.unlatch s (s.setFn pf1 { s.fn pf1 with alert := (s.fn pf1).alert &&& ~~~ BitVec.ofNat 9 v.toNat }) pf1 0x100))) ∧
  (∀ pf1 (v : W32) s, s.windowOpen = true → exec (.registerWrite pf1 0x104 v) s =
    .next (settled s (State.unlatch s (s.setFn pf1 { s.fn pf1 with alertIE := BitVec.ofNat 9 v.toNat }) pf1 0x104))) ∧
  (∀ (v : W32) s, s.windowOpen = true → ∃ t, exec (.registerWrite true 0x7008 v) s = .next t ∧ t.host.alertPin = BitVec.ofNat 9 v.toNat) ∧
  (∀ pf1 s, s.windowOpen = true → (s.chan (fnChan pf1)).outStatus = true → (s.chan (fnChan pf1)).replies = [] →
    ∃ t, exec (.registerWrite pf1 0x300C 1) s = .next t ∧ (t.chan (fnChan pf1)).outStatus = false ∧ (t.chan (fnChan pf1)).outbound = []) ∧
  (∀ pf1 off v s, s.windowOpen = true → off % 4 ≠ 0 → exec (.registerWrite pf1 off v) s = .next (settled s s)) ∧
  (∀ pf1 off size s, s.windowOpen = true → size ≠ 4 →
    exec (.registerRead pf1 off size) s = .next (settled s (s.send (.register pf1 0)))) ∧
  (∀ pf1 off v size s, s.windowOpen = false ∨ size ≠ 4 → exec (.registerWrite pf1 off v size) s = .next s) ∧
  (∀ pf1 (k : PciControl) d3 to_ s, s.windowOpen = true → exec (.configSpaceWrite pf1 k d3 to_) s =
    .next (settled s ((List.range 32).foldl (fun x i => x.sendPending pf1 i) (s.setFn pf1 { s.fn pf1 with
      busMaster := k.busMaster, msixEnable := k.msixEnable, functionMask := k.functionMask, d3hot := d3, cplTimeout := to_ % 16,
      payload := 128 * 2 ^ min 2 (k.payload % 8), readMax := 128 * 2 ^ min 2 (k.readMax % 8),
      bar0 := k.bar0 % 2 ^ 64 / 65536 * 65536, bar2 := k.bar2 % 2 ^ 64 / 8192 * 8192 }))))

/-- R425, R443, R459: a function level reset abandons each DMA channel that the function owns, resets its registers and its mailbox, and
leaves the halt once no channel is HALTED; a hot reset or a link down does the same to both functions, and under PERST_N the link stays
down. An owned channel that ran a descriptor ends it ABANDONED, and is IDLE, disabled and without a ring. A register of a function is at
its reset value but for the capture, the pair event and the sticky time flags, which are the device's. With the link down a reset only
sets the ball. The reply of a command that executes is discarded (model's choice, log 40). -/
def Obligations.FunctionResetsComplete : Prop :=
  (∀ pf1 s, s.windowOpen = true → ∃ x y z, x = ((List.range 16).filter fun c => s.ownedByPf1 c == pf1).foldl State.flrChannel s ∧
    y = x.setFn pf1 { PciFunction.reset with
      ppsOverrun := (x.fn pf1).ppsOverrun, incRefused := (x.fn pf1).incRefused, jumpRefused := (x.fn pf1).jumpRefused,
      stepped := (x.fn pf1).stepped, ppsUnread := (x.fn pf1).ppsUnread, pairUnread := (x.fn pf1).pairUnread } ∧
    z = y.setChan (fnChan pf1) { Channel.reset with
      waiting := (y.chan (fnChan pf1)).waiting, discard := (y.chan (fnChan pf1)).waiting.isSome } ∧
    exec (.functionLevelReset pf1) s = .next (settled s z.unhalt)) ∧
  (∀ pf1 s, s.windowOpen = false → exec (.functionLevelReset pf1) s = .next s ∧ exec (.linkReset false) s = .next s) ∧
  (∀ s, s.windowOpen = true → exec (.linkReset false) s = .next (settled s ((s.resetFunction false).resetFunction true))) ∧
  (∀ s, s.windowOpen = true → ∃ x, x = (State.resetFunction { s with pins := { s.pins with perstN := false } } false).resetFunction true ∧
    exec (.linkReset true) s = .next (settled s { x with host := { x.host with linkUp := false } })) ∧
  (∀ c (s : State), c < s.host.channels.length → ((s.flrChannel c).dma c).state = .idle ∧ ((s.flrChannel c).dma c).enable = false ∧
    ((s.flrChannel c).dma c).request = false ∧ ((s.flrChannel c).dma c).base = 0 ∧ ((s.flrChannel c).dma c).log2 = 4 ∧
    ((s.flrChannel c).dma c).tail = 0 ∧ ((s.flrChannel c).dma c).head = 0 ∧
    ((s.dma c).request = false → (s.dma c).state = .running ∨ (s.dma c).state = .halted →
      ((s.flrChannel c).dma c).transfer = none ∧ ((s.flrChannel c).dma c).lastStatus = 6)) ∧
  (∀ pf1 s, s.windowOpen = true → ∃ t, exec (.functionLevelReset pf1) s = .next t ∧
    (t.chan (fnChan pf1)).pending = false ∧ (t.chan (fnChan pf1)).timeoutMs = 10 ∧ (t.chan (fnChan pf1)).replies = [] ∧
    (t.chan (fnChan pf1)).outStatus = false) ∧
  (∀ s, s.windowOpen = true → ∃ t, exec (.linkReset false) s = .next t ∧ t.ns.pending = false ∧ t.sec.pending = false ∧
    t.ns.outStatus = false ∧ t.sec.outStatus = false ∧ t.pins = s.pins) ∧
  (∀ s, s.windowOpen = true → ∃ t, exec (.linkReset true) s = .next t ∧ t.ns.pending = false ∧ t.sec.pending = false ∧
    t.host.linkUp = false ∧ t.pins.perstN = false) ∧
  (∀ s, s.windowOpen = false → exec (.linkReset true) s = .next { s with pins := { s.pins with perstN := false } })

/-! The DMA engine (spec 15). -/

/-- R427, R428, R434: the owner of a channel writes DMA_CH_TAIL, modulo the ring's size, DMA_CH_CTL with ENABLE, and RESTART; the
channels then start or idle by their rings. A channel of the other function keeps all its registers. SEC_DMA_OWNER in PF1 gives away only
the channels that are IDLE, disabled and unattached. -/
def Obligations.DmaRegisterWritesComplete : Prop :=
  (∀ pf1 c (v : W32) s, s.windowOpen = true → c < 16 → s.ownedByPf1 c = pf1 → exec (.dmaChTailWrite pf1 c v) s =
    .next (settled s (s.setDma c { s.dma c with tail := v.toNat % 65536 % (s.dma c).size }).wakeChannels)) ∧
  (∀ pf1 c v s, s.windowOpen = true → c < 16 → s.ownedByPf1 c = pf1 →
    exec (.dmaChEnable pf1 c v) s = .next (settled s (s.writeDmaCtl c v.toNat))) ∧
  (∀ pf1 c s, s.windowOpen = true → c < 16 → s.ownedByPf1 c = pf1 →
    exec (.dmaChRestart pf1 c) s = .next (settled s (s.writeDmaCtl c ((s.dma c).ctl + 4)))) ∧
  (∀ pf1 c v s, s.ownedByPf1 c ≠ pf1 → exec (.dmaChEnable pf1 c v) s = .next s ∧ exec (.dmaChRestart pf1 c) s = .next s ∧
    exec (.dmaChTailWrite pf1 c v) s = .next s) ∧
  (∀ v s, s.windowOpen = true → ∃ t, exec (.secDmaOwnerWrite true v) s = .next t ∧ ∀ c, c < 16 →
    t.ownedByPf1 c = (if s.channelState c == .idle && !(s.dma c).enable && (s.ringsOn c).isEmpty then Nat.testBit v.toNat c
      else s.ownedByPf1 c))

/-- R428-R430, R433-R435: a running channel that is behind its tail fetches the descriptor at HEAD and starts it, or holds it to end with
the refusal's status; a descriptor of no units is over at once; the confirmed end writes the completion record, the status last. No
request is made while 256 reads are out (Table 15.1). -/
def Obligations.DmaDescriptorsStartAndEnd : Prop :=
  (∀ c desc s, s.channelIssues c = true → (s.dma c).transfer = none → (s.dma c).enable = true → (s.dma c).behind = true →
    s.readsOut < 256 → s.descriptorCheck (fit 32 desc) = none → bitAt (fit 32 desc) 20 1 = false → fieldLe (fit 32 desc) 16 3 ≠ 0 →
    exec (.dmaDescriptorStart c desc) s = .next (settled s
      ((s.send (.hostRead (s.ownedByPf1 c) 1 ((s.dma c).base + (s.dma c).head * 32) 32)).setDma c
        { s.dma c with transfer := some (Transfer.start desc), ending := none, holds := none }))) ∧
  (∀ c desc s, s.channelIssues c = true → (s.dma c).transfer = none → (s.dma c).enable = true → (s.dma c).behind = true →
    s.readsOut < 256 → s.descriptorCheck (fit 32 desc) = none → bitAt (fit 32 desc) 20 1 = false → fieldLe (fit 32 desc) 16 3 = 0 →
    exec (.dmaDescriptorStart c desc) s = .next (settled s
      ((s.send (.hostRead (s.ownedByPf1 c) 1 ((s.dma c).base + (s.dma c).head * 32) 32)).setDma c
        { s.dma c with transfer := some (Transfer.start desc), ending := some 1, holds := none }))) ∧
  (∀ c desc s status, s.channelIssues c = true → (s.dma c).transfer = none → (s.dma c).enable = true → (s.dma c).behind = true →
    s.readsOut < 256 → s.descriptorCheck (fit 32 desc) = some status → bitAt (fit 32 desc) 20 1 = false → fieldLe (fit 32 desc) 24 8 % 32 = 0 →
    exec (.dmaDescriptorStart c desc) s = .next (settled s
      ((s.send (.hostRead (s.ownedByPf1 c) 1 ((s.dma c).base + (s.dma c).head * 32) 32)).setDma c
        { s.dma c with transfer := some (Transfer.start desc), ending := some status }))) ∧
  (∀ c s t status, s.channelIssues c = true → (s.dma c).transfer = some t → (s.dma c).ending = some status →
    exec (.dmaDescriptorEnd c) s = .next (settled s
      (((s.send (.hostWrite (s.ownedByPf1 c) (t.completion + 4) ((s.completionRecord c t status).drop 4))).send
        (.hostWrite (s.ownedByPf1 c) t.completion ((s.completionRecord c t status).take 4))).endDescriptor c t status)))

/-- R417, R431-R433, R436, R438, R440, R444: the engine serves the next channel in turn: a burst of its descriptor, or of the record of the
next of its rings; a completion of a pattern read gives the pattern, and one of a data read is written as tiles in order, while it is in
time; confirmed units are counted, on FILL by acknowledgements and to the host by the flush read of a boundary; a snapshot hold whose
100 ms have passed ends; and a bus error while the engine is not halted records its cause, its request and its address, and halts every
running channel with its descriptor as it stands, while one in a halted engine is discarded. What a command tells of the bus, and the
bounds of a completion timeout, are the model's choices (logs 45, 46, 166). -/
def Obligations.DmaDataMovesAndBusErrors : Prop :=
  (∀ hurt s c t, s.nextServed = some c → (s.dma c).transfer = some t → s.burstDue c = true →
    ∃ x, x = ((s.upset hurt).burst c t).timeReads c ∧
      exec (.dmaBurst hurt) s = .next (settled s { x with host := { x.host with served := c } })) ∧
  (∀ hurt s c, s.nextServed = some c → s.burstDue c = false →
    ∃ x, x = s.serveRequester c hurt ∧ exec (.dmaBurst hurt) s = .next (settled s { x with host := { x.host with served := c } })) ∧
  (∀ c data s t, s.transferOf c = some t → s.inTime c = true → t.asked = true → t.pattern = none →
    exec (.dmaReadCompletion c true data) s = .next (settled s
      (State.timeReads (s.setDma c { s.dma c with transfer := some { t with pattern := some (fit 64 data) } }) c))) ∧
  (∀ c data s t, s.transferOf c = some t → s.inTime c = true → t.op = 0x10 → 64 ≤ data.length → t.arrived < t.issued →
    s.writeRoom (min (data.length / 64) (t.issued - t.arrived)) = true →
    ∃ n ms k s1, n = min (data.length / 64) (t.issued - t.arrived) ∧
      storeUnits (s.unitTile t 8) n t.arrived data s t.last t.marks = (ms, k, s1) ∧
      exec (.dmaReadCompletion c false data) s = .next (settled s
        (State.timeReads (s1.setDma c { s1.dma c with transfer := some { t with arrived := t.arrived + n, last := k, marks := ms } }) c))) ∧
  (∀ c pattern data s, s.inTime c = false → exec (.dmaReadCompletion c pattern data) s = .next s) ∧
  (∀ c units s t, s.transferOf c = some t → t.op = 0x01 → 1 ≤ units → t.confirmed < t.arrived →
    exec (.dmaUnitConfirm c units) s =
      .next (settled s (s.setDma c ((s.dma c).confirm t (min units (t.arrived - t.confirmed)))))) ∧
  (∀ c units s t m ms, s.transferOf c = some t → t.op = 0x11 → s.inTime c = true → t.marks = m :: ms →
    exec (.dmaUnitConfirm c units) s = .next (settled s (State.timeReads
      (s.setDma c ((s.dma c).confirm { t with crc := m.crc, faults := m.faults, marks := ms } (m.units - t.confirmed))) c))) ∧
  (∀ desc s, (s.host.holds.any fun h => h.desc == desc && decide (h.until_ ≤ s.now)) = true →
    exec (.snapshotHoldExpire desc) s = .next (settled s { s with host := { s.host with
      holds := s.host.holds.filter fun h => !(h.desc == desc && decide (h.until_ ≤ s.now)) } })) ∧
  (∀ cause c address s, s.host.halted = false → s.booted = true → c < 16 → 1 ≤ cause → cause ≤ 4 → (cause = 4 → s.timedOut c = true) →
    ∃ t, exec (.dmaBusError cause c address) s = .next t ∧ t.host.cause = cause ∧ t.host.haltAddr = address ∧
      t.host.haltReq = s.requestKind c ∧ t.host.haltCount = satur 32 (s.host.haltCount + 1) ∧
      (∀ k, k < 16 → k < s.host.channels.length → s.channelState k = .running →
        t.host.halted = true ∧ (t.dma k).state = .halted ∧ (t.dma k).transfer = (s.dma k).transfer)) ∧
  (∀ cause c address s, s.host.halted = true → exec (.dmaBusError cause c address) s = .next s)

/-- R445-R448: DMA_RESUME of HALTED channels runs them again; DMA_ABANDON of channels that are not IDLE abandons them; a channel that is
not HALTED, or one that is IDLE, refuses the whole command; DMA_STATUS returns the engine and its sixteen channels. -/
def Obligations.DmaCommandsComplete : Prop :=
  (∀ m s, passes cmdDmaResume m s = true → namesSecure m.norm s = false →
    ((maskChannels (m.norm.f 0 2)).any fun c => (s.dma c).state != .halted) = false → zeroAt m.norm [2, 3] = true →
    ∃ x, x = (maskChannels (m.norm.f 0 2)).foldl State.closeChannel ((maskChannels (m.norm.f 0 2)).foldl State.resumeChannel s).unhalt ∧
      exec (.dmaResume m) s = .next (ran cmdDmaResume m s (ok x (le 2 (flagByte ((List.range 16).map
        ((maskChannels (m.norm.f 0 2)).filter fun c => (s.dma c).doubtful).contains)) ++ le 2 (haltedMask x))))) ∧
  (∀ m s, passes cmdDmaResume m s = true → namesSecure m.norm s = false →
    ((maskChannels (m.norm.f 0 2)).any fun c => (s.dma c).state != .halted) = true →
    exec (.dmaResume m) s = .next (ran cmdDmaResume m s (refuse s Status.badParam 16))) ∧
  (∀ m s, passes cmdDmaAbandon m s = true → namesSecure m.norm s = false →
    ((maskChannels (m.norm.f 0 2)).any fun c => s.channelState c == .idle) = false → zeroAt m.norm [2, 3] = true →
    exec (.dmaAbandon m) s = .next (ran cmdDmaAbandon m s (ok ((maskChannels (m.norm.f 0 2)).foldl State.abandonChannel s).unhalt))) ∧
  (∀ m s, passes cmdDmaAbandon m s = true → namesSecure m.norm s = false →
    ((maskChannels (m.norm.f 0 2)).any fun c => s.channelState c == .idle) = true →
    exec (.dmaAbandon m) s = .next (ran cmdDmaAbandon m s (refuse s Status.badParam 16))) ∧
  (∀ m s, passes cmdDmaStatus m s = true → zeroAt m.norm (span 0 3) = true →
    exec (.dmaStatus m) s = .next (ran cmdDmaStatus m s
      (ok s (le 1 s.host.halted.toNat ++ le 1 s.host.cause ++ le 1 s.host.haltReq ++ zeros 1 ++ le 2 (haltedMask s) ++
        le 2 (satur 16 s.host.haltCount) ++ le 8 s.host.haltAddr.toNat ++ (List.range 16).flatMap s.channelEntry))))

/-! Power and temperature (spec 18). -/

/-- R358, R505, R506, R514-R516: from INIT on, DROOP_N's fall is judged at once and its release ends its cause; DROOP_N low for the delay is
judged again; a monitor's reading is kept, with the lowest since; a stage whose causes have been absent for 10 us falls by one; the
readings of the eight sensors of the die are kept, with the peak of their hottest, and a hottest above 120.0 degrees C DIE_CRITICAL is
raised, THERM_N asserted and the CORE ceiling is at most 1,500 MHz; from the end of stack training on, the stacks' readings are kept,
and above 85.0 degrees C refresh mode HOT applies next. -/
def Obligations.DroopAndTemperatureComplete : Prop :=
  (∀ s, s.booted = true → s.pins.droopN = true → ∃ t, exec .droopNFall s = .next t ∧ t.pins.droopN = false ∧
    t.power.droopLow = some s.now ∧ (s.power.droopEn = true → s.power.stage = 0 → 1 ≤ t.power.stage)) ∧
  (∀ s, ∃ t, exec .droopNRise s = .next t ∧ t.pins.droopN = true ∧ t.power.droopLow = none) ∧
  (∀ s, s.booted = true → s.power.droopEn = true → s.lowLong = true → s.power.stage < 2 →
    ∃ t, exec .droopnDelayExpire s = .next t ∧ t.power.stage = 2 ∧ t.power.entries2 = s.power.entries2 + 1) ∧
  (∀ monitor mv s, s.booted = true → monitor < s.power.monitors.length → ∃ t, exec (.monitorUndervoltage monitor mv) s = .next t ∧
    t.power.monitors = s.power.monitors.set monitor mv ∧ t.power.lowest = alter s.power.lowest monitor fun low => min low mv) ∧
  (∀ s t0, s.power.absent = some t0 → s.power.stage ≠ 0 → t0 + 10000 ≤ s.now →
    exec .droopStageFall s = .next (settled s (s.setStage (s.power.stage - 1)))) ∧
  (∀ (t : DieSensors) s, s.booted = true → ∃ u, exec (.dieSensorRead t) s = .next u ∧ u.power.sensors = t ∧
    hottest t ∈ t.toList ∧ (∀ x ∈ t.toList, x ≤ hottest t) ∧
    u.power.diePeak = some (match s.power.diePeak with | some p => max p (hottest t) | none => hottest t)) ∧
  (∀ (t : DieSensors) s, s.booted = true → s.power.limits.getLsbD 2 = false → 480 < hottest t → ∃ u, exec (.dieSensorRead t) s = .next u ∧ u.power.limits.getLsbD 2 = true ∧ u.thermN = true ∧
    u.ceiling ≤ 1500 ∧ u.life.faults.getLsbD FaultBit.thermal = true) ∧
  (∀ t0 t1 s, s.trained = true → ∃ u, exec (.stackTempRead t0 t1) s = .next u ∧ u.dram.temp0 = t0 ∧ u.dram.temp1 = t1 ∧
    u.dram.hotNext = (decide (340 < t0) || decide (340 < t1)))

/-- R505, R510-R512, R517, R518: SECURE_POWER_PROFILE reads the profile, or sets it; POWER_STATUS returns its record, whose estimated power is
a free value, and clears with CLEAR; CLOCK_STATUS and THERMAL_READ return their records; DROOP_CONFIG reads, or sets in its ranges. -/
def Obligations.PowerCommandsComplete : Prop :=
  (∀ m s, passes cmdSecurePowerProfile m s = true → zeroAt m.norm (span 0 3) = true →
    exec (.securePowerProfile m) s = .next (ran cmdSecurePowerProfile m s (ok s (le 1 s.power.profile ++ zeros 3)))) ∧
  (∀ m s, passes cmdSecurePowerProfile m s = true → m.norm.p 0 = 1 → m.norm.p 1 ≤ 2 → zeroAt m.norm [2, 3] = true →
    exec (.securePowerProfile m) s = .next (ran cmdSecurePowerProfile m s
      (ok (s.setProfile (m.norm.p 1)) (le 1 (s.setProfile (m.norm.p 1)).power.profile ++ zeros 3)))) ∧
  (∀ m s, passes cmdPowerStatus m s = true → zeroAt m.norm (span 0 3) = true →
    exec (.powerStatus m) s = .next (ran cmdPowerStatus m s
      (ok { s with free := s.free + 1 } (State.powerBytes { s with free := s.free + 1 } (Config.freeWord s.free))))) ∧
  (∀ m s, passes cmdPowerStatus m s = true → m.norm.p 0 = 1 → zeroAt m.norm [1, 2, 3] = true →
    exec (.powerStatus m) s = .next (ran cmdPowerStatus m s
      (ok (State.clearPower { s with free := s.free + 1 }) (State.powerBytes { s with free := s.free + 1 } (Config.freeWord s.free))))) ∧
  (∀ m s, passes cmdClockStatus m s = true → exec (.clockStatus m) s = .next (ran cmdClockStatus m s (ok s s.clockBytes))) ∧
  (∀ m s, passes cmdThermalRead m s = true → exec (.thermalRead m) s = .next (ran cmdThermalRead m s (ok s s.thermalBytes))) ∧
  (∀ m s, passes cmdDroopConfig m s = true → zeroAt m.norm (span 0 15) = true →
    exec (.droopConfig m) s = .next (ran cmdDroopConfig m s (ok s (droopInForce 0 s.power)))) ∧
  (∀ m s, passes cmdDroopConfig m s = true → m.norm.p 0 = 1 → m.norm.p 1 ≤ 3 → 20 ≤ m.norm.f 2 2 → m.norm.f 2 2 ≤ 100 →
    40 ≤ m.norm.f 4 2 → m.norm.f 4 2 ≤ 150 → m.norm.f 2 2 < m.norm.f 4 2 → m.norm.f 6 2 ≤ 1000 → 85 ≤ m.norm.p 8 → m.norm.p 8 ≤ 107 →
    zeroAt m.norm (span 9 15) = true →
    ∃ p : Power, p = { s.power with droopEn := Nat.testBit (m.norm.p 1) 0, monitorEn := Nat.testBit (m.norm.p 1) 1, margin1 := m.norm.f 2 2, margin2 := m.norm.f 4 2, delayUs := m.norm.f 6 2, warn := m.norm.p 8 } ∧
      exec (.droopConfig m) s = .next (ran cmdDroopConfig m s (ok (State.judgeDroop { s with power := p }) (droopInForce 1 p))))

/-! The pair (spec 17). -/

/-- R101, R487, R492, R494-R498: from INIT on, a member whose last heartbeat is 100 us old sends one on each peer lane that is UP; on a
looped lane it comes back to the member itself. One that is received is kept and judged; one that says its sender leaves ends the pair;
300 us of silence declare the peer of a JOINED or SYNCING member lost, cause 1. A journal record that arrives is held, and is applied by
the JOURNAL_APPLY task that runs, but for a peer that awaits its copy. The primary's copy is sent while its tasks run, the peer takes it
and applies what it held, and so does a secondary in a resync, without the configuration; once the copy is made and the lag has fallen
to 10 us, a rejoin or a resync ends in JOINED. The record and copy of one event, the leave told by a heartbeat and the copy in one step
are the model's choices (logs 55, 58-60, 164). -/
def Obligations.HeartbeatsAndJournalComplete : Prop :=
  (∀ s, s.booted = true → s.pair.beat + 100000 ≤ s.now → (s.port 24).link = .up → (s.port 25).link ≠ .up → (s.port 24).loopback = 0 →
    ∃ t, exec .heartbeatSend s = .next t ∧ t.pair.beat = s.now ∧
      (s.out ++ [.peer 24 (.heartbeat (s.heartbeat false))]) <+: t.out) ∧
  (∀ s, s.booted = true → s.pair.beat + 100000 ≤ s.now → (s.port 24).link = .up → (s.port 25).link = .up → (s.port 24).loopback = 0 →
    (s.port 25).loopback = 0 → ∃ t, exec .heartbeatSend s = .next t ∧ t.pair.beat = s.now ∧
      (s.out ++ [.peer 24 (.heartbeat (s.heartbeat false)), .peer 25 (.heartbeat (s.heartbeat true))]) <+: t.out) ∧
  (∀ s, s.booted = true → s.pair.beat + 100000 ≤ s.now → (s.port 24).link = .up → (s.port 25).link ≠ .up →
    (s.port 24).loopback = 1 ∨ (s.port 24).loopback = 2 →
    ∃ t, exec .heartbeatSend s = .next t ∧ t.pair.beat = s.now ∧ t.pair.own0 = some (s.heartbeat false)) ∧
  (∀ h s, s.booted = true → (s.port (24 + h.west.toNat)).loopback = 0 →
    exec (.heartbeatReceive h) s = .next (settled s ((s.hear h).judge h))) ∧
  (∀ (h : Heartbeat) w s, s.booted = true → h.west = false → (s.port 24).loopback = 1 ∨ (s.port 24).loopback = 2 → s.pair.own0 = some w →
    exec (.heartbeatReceive h) s =
      .next (settled s ((State.hear { s with pair := { s.pair with own0 := none } } w).judge w))) ∧
  (∀ (h : Heartbeat) s, s.booted = true → (s.port (24 + h.west.toNat)).loopback = 0 → h.leaving = true → s.pair.state ≠ .none →
    ∃ t, exec (.heartbeatReceive h) s = .next t ∧ t.pair.state = .none ∧ t.pair.role = .none) ∧
  (∀ s, s.booted = true → s.pair.heard.getD 0 + 300000 ≤ s.now → s.paired = true →
    exec .peerLost s = .next (settled s (s.declareLost 1))) ∧
  (∀ kind tile payload s x, s.takesJournal = true → x = { s with pair := { s.pair with
      journal := s.pair.journal ++ [JournalRec.mk (s.pair.journal.length + 1) kind tile payload s.now] } } →
    (s.awaitsCopy = true ∨ x.serves TaskType.journal = false → exec (.journalApply kind tile payload) s = .next (settled s x)) ∧
    (s.awaitsCopy = false → x.serves TaskType.journal = true →
      exec (.journalApply kind tile payload) s = .next (settled s x.applyJournal))) ∧
  (∀ copy s, s.booted = true → s.refreshing = false → s.journals = true → s.pair.copied = false → s.atWork .liveCopy = true →
    exec (.rejoinComplete copy) s = .next (settled s s.sendLive)) ∧
  (∀ copy s, s.booted = true → s.refreshing = false → s.journals = true → s.pair.copied = true → s.journalLag ≤ 10000 →
    ∃ t, exec (.rejoinComplete copy) s = .next t ∧ t.pair.state = .joined ∧ t.pair.role = .primary ∧
      t.pair.rejoins = satur 32 (s.pair.rejoins + 1)) ∧
  (∀ copy s, s.booted = true → s.refreshing = false → s.journals = false → s.pair.holding = true → s.pair.copied = false →
    exec (.rejoinComplete (some copy)) s = .next (settled s ((s.takeConfig copy).takeLive copy).copyTaken)) ∧
  (∀ copy s, s.booted = true → s.refreshing = false → s.journals = false → s.pair.holding = false → s.pair.state = .syncing →
    s.pair.role = .secondary → s.pair.copied = false →
    exec (.rejoinComplete (some copy)) s = .next (settled s (s.takeLive copy).copyTaken)) ∧
  (∀ copy s, s.booted = true → s.refreshing = false → s.journals = false → s.pair.holding = true → s.pair.copied = true →
    ∃ t, exec (.rejoinComplete copy) s = .next t ∧ t.pair.state = .joined ∧ t.pair.role = .secondary) ∧
  (∀ copy s, s.booted = true → s.refreshing = false → s.journals = false → s.pair.holding = false → s.pair.state = .syncing →
    s.pair.role = .secondary → s.pair.copied = true →
    ∃ t, exec (.rejoinComplete copy) s = .next t ∧ t.pair.state = .joined ∧ t.pair.role = .secondary)

/-- R42, R488, R489, R491, R497: a join or rejoin request that every item meets is taken; the secondary's OK ends the forwarded command with
its own reply, and another status is a divergence; its flags are kept; PREPARE seals the secondary's shadow and is answered ready;
COMMIT applies it at the secondary's own boundary; ready makes the primary send COMMIT and set its boundary; and the confirmation places
the EPOCH_COMMIT reply. That a status other than OK is a divergence, and that a lost peer ends the wait with OK, are read by inference
(log 57). -/
def Obligations.PairProtocolCompletes : Prop :=
  (∀ j s primary, joinRole j (s.facts false) = some primary → s.life.state = .init → joinFails j (s.facts false) = none →
    ∃ t, exec (.joinRequest j) s = .next t ∧ t.pair.state = .joined ∧ t.pair.role = pairRole (!primary) ∧ t.pair.peerSerial = j.serial) ∧
  (∀ j s, s.booted = true → rejoinFails j (s.facts false) = none → ∃ t, exec (.rejoinRequest j) s = .next t ∧
    t.pair.holding = true ∧ t.pair.journal = [] ∧ t.pair.peerSerial = j.serial) ∧
  (∀ ch detail params s m r d, ch < 4 → (s.chan ch).waiting = some (.peer m r d) →
    ∃ x, x = { s with pair := { s.pair with out := { s.pair.out with pending := false, outStatus := false } } } ∧
      exec (.peerReplyArrival ch 0 detail params) s = .next (settled s (x.endWait ch r d))) ∧
  (∀ ch (status : W16) detail params s m r d, ch < 4 → (s.chan ch).waiting = some (.peer m r d) → status ≠ 0 →
    ∃ x, x = { s with pair := { s.pair with out := { s.pair.out with pending := false, outStatus := false } } } ∧
      exec (.peerReplyArrival ch status detail params) s = .next (settled s ((x.endWait ch r.alone d).diverge false 2))) ∧
  (∀ taken timeout outStatus s, s.waitsForPeer = false → ∃ t, exec (.peerMailboxFlags taken timeout outStatus) s = .next t ∧
    t.pair.out = { pending := s.pair.out.pending && !taken && !timeout, taken := taken, timeout := timeout, outStatus := outStatus }) ∧
  (∀ e s, s.pair.role = .secondary → s.pair.state = .joined → s.booted = true → ∃ t, exec (.pairPrepare e) s = .next t ∧
    t.sealed = true ∧ t.pair.prepared = some e ∧ t.out = s.out ++ s.lanesOut.map (fun p => .peer p .ready)) ∧
  (∀ e e0 s, s.pair.prepared = some e0 → ∃ t, exec (.pairCommit e) s = .next t ∧ t.epoch.current = e ∧ t.pair.prepared = none) ∧
  (∀ s m, s.pair.commitMsg = some m → s.pair.commitSent = false → ∃ t, exec .pairReady s = .next t ∧
    t.epoch.current = s.epoch.current + 1 ∧ t.pair.commitSent = true) ∧
  (∀ s m m2 r, s.pair.commitMsg = some m → (s.chan m.ch).waiting = some (.commit m2 (some r)) →
    ∃ x, x = { s with pair := { s.pair with commitMsg := none, commitSent := false } } ∧
      exec .pairApplyConfirm s = .next (settled s (x.endWait m.ch r)))

/-- R488, R497, R498, R501: PAIR_JOIN whose items are all met joins in the role the items give; PAIR_LEAVE ends the pair and says whether
the peer was told; PAIR_REJOIN of a SOLO primary that has a free task slot starts SYNCING; PAIR_STATUS returns its record, whose copy
progress is a free value while a copy runs; and PAIR_CONFIG reads, or sets. -/
def Obligations.PairCommandsComplete : Prop :=
  (∀ m s, passes cmdPairJoin m s = true → m.norm.p 0 ≤ 1 → zeroAt m.norm [1, 2, 3] = true → s.peerHeard = true →
    joinFails (s.facts (m.norm.p 0 == 1)) s.pair.peerFacts = none →
    ∃ x role, role = pairRole ((joinRole (s.facts (m.norm.p 0 == 1)) s.pair.peerFacts).getD false) ∧ x.pair.state = .joined ∧
      x.pair.role = role ∧
      exec (.pairJoin m) s = .next (ran cmdPairJoin m s (ok x (le 1 role.code ++ zeros 7 ++ le 8 s.pair.peerFacts.serial.toNat)))) ∧
  (∀ m s, passes cmdPairLeave m s = true → zeroAt m.norm (span 0 3) = true → s.peerHeard = false →
    exec (.pairLeave m) s = .next (ran cmdPairLeave m s (ok s.leavePair (zeros 4)))) ∧
  (∀ m s, passes cmdPairLeave m s = true → zeroAt m.norm (span 0 3) = true → s.peerHeard = true →
    exec (.pairLeave m) s = .next (ran cmdPairLeave m s (ok (s.onEach .leave).leavePair [1, 0, 0, 0]))) ∧
  (∀ m s, passes cmdPairStatus m s = true → zeroAt m.norm (span 0 3) = true → exec (.pairStatus m) s =
    .next (ran cmdPairStatus m s (ok (State.pairSeen { s with free := s.free + 1 } m.ch) (s.pairStatus (Config.freeWord s.free))))) ∧
  (∀ m s, passes cmdPairRejoin m s = true → zeroAt m.norm (span 0 3) = true → s.pair.state = .solo → s.pair.role = .primary →
    s.peerHeard = true → rejoinFails (s.facts false) s.pair.peerFacts = none → (s.newTask TaskType.command .liveCopy).isSome = true →
    ∃ x : State, x.pair.state = .syncing ∧ x.pair.role = .primary ∧ x.pair.journal = [] ∧
      exec (.pairRejoin m) s = .next (ran cmdPairRejoin m s (ok x (le 4 (s.pair.rejoinSeq + 1).toNat)))) ∧
  (∀ m s, passes cmdPairConfig m s = true → zeroAt m.norm (span 0 7) = true →
    exec (.pairConfig m) s = .next (ran cmdPairConfig m s (ok s (pairInForce 0 s.pair)))) ∧
  (∀ m s, passes cmdPairConfig m s = true → m.norm.p 0 = 1 → m.norm.p 1 ≤ 3 → 1 ≤ m.norm.f 2 2 → m.norm.f 2 2 ≤ 10000 →
    zeroAt m.norm (span 4 7) = true →
    ∃ p : Pair, p = { s.pair with autoTakeover := Nat.testBit (m.norm.p 1) 0, autoResync := Nat.testBit (m.norm.p 1) 1, lagAlarm := m.norm.f 2 2 } ∧
      exec (.pairConfig m) s = .next (ran cmdPairConfig m s (ok { s with pair := p } (pairInForce 1 p))))

/-! Ports, lanes, ring roles and the canary (spec 03). -/

/-- R84, R95, R96: PORT_CONFIG of one record that only reads replies with the port's record in the view; one that sets a mode its lanes,
FEC, medium and flags allow stages it and adds 1 to the shadow change count; PORT_ENABLE reads, or stages the enable of a port that
holds a mode. -/
def Obligations.PortTableCommandsComplete : Prop :=
  (∀ m s b, passes cmdPortConfig m s = true → m.norm.recs 8 = [b] → byteAt b 0 ≤ 23 → byteAt b 5 = 1 →
    (firstNonZeroAt b [1, 2, 3, 4, 6, 7]).isNone = true → exec (.portConfig m) s = .next (ran cmdPortConfig m s
      (ok s (portRecord (byteAt b 0) ((s.view m).port.cfg (byteAt b 0)))))) ∧
  (∀ m s b, passes cmdPortConfig m s = true → m.stage = true → m.norm.recs 8 = [b] → byteAt b 0 ≤ 23 → byteAt b 5 = 0 →
    1 ≤ byteAt b 1 → byteAt b 1 ≤ 5 → byteAt b 0 % modeLanes (byteAt b 1) = 0 → s.shadow.port.clash (byteAt b 0) (byteAt b 1) = false →
    byteAt b 2 ≤ 2 → byteAt b 3 ≤ 2 → fecOk (byteAt b 1) (byteAt b 2) (byteAt b 3) = true → byteAt b 4 = 0 ∨ byteAt b 4 = 2 →
    64 ≤ fieldLe b 6 2 → fieldLe b 6 2 ≤ 9600 → exec (.portConfig m) s = .next (ran cmdPortConfig m s
      (ok (s.stagePorts fun t => t.setPort (byteAt b 0) fun c =>
        { c with mode := byteAt b 1, fec := byteAt b 2, medium := byteAt b 3, an := false, cutThrough := byteAt b 4 == 2,
                 maxFrame := fieldLe b 6 2 })))) ∧
  (∀ m s b, passes cmdPortEnable m s = true → m.norm.recs 4 = [b] → byteAt b 0 ≤ 23 → byteAt b 1 = 0 → byteAt b 2 = 1 → byteAt b 3 = 0 →
    exec (.portEnable m) s = .next (ran cmdPortEnable m s
      (ok s (le 1 (byteAt b 0) ++ le 1 ((s.view m).port.cfg (byteAt b 0)).enable.toNat ++ [1, 0])))) ∧
  (∀ m s b, passes cmdPortEnable m s = true → m.stage = true → m.norm.recs 4 = [b] → byteAt b 0 ≤ 23 → byteAt b 1 ≤ 1 → byteAt b 2 = 0 →
    byteAt b 3 = 0 → (s.shadow.port.cfg (byteAt b 0)).mode ≠ 0 → exec (.portEnable m) s = .next (ran cmdPortEnable m s
      (ok (s.stagePorts fun t => t.setPort (byteAt b 0) fun c => { c with enable := byteAt b 1 == 1 }))))

/-- R97-R101: LANE_TUNE reads the taps of a lane, or stages taps within their ranges; PORT_STATUS and PORT_COUNTERS return their records,
and CLEAR zeroes the counters; PORT_LOOPBACK sets the loopback of a port; RING_CONFIG without parameters reads the roles, and with a
record stages them.
R90, R91, R102-R104: CANARY_STATUS returns its record; SECURE_CANARY_ARM that names the committed ring roles arms a canary that is not
armed; SECURE_CANARY_DISARM disarms with reason COMMAND; a toggling canary changes its level at the end of a half-period of 37,500 CTL
cycles while the conditions of R90 hold and is driven low where they do not; at the end of a window of 75,000 CTL cycles a pipeline
whose arbiter ran and which held no packet is alive; and a window in which a pipeline's arbiter did not run disarms it. -/
def Obligations.LanesRingAndCanaryComplete : Prop :=
  (∀ m s b, passes cmdLaneTune m s = true → m.norm.recs 8 = [b] → byteAt b 0 ≤ 25 → byteAt b 1 = 0 →
    (firstNonZeroAt b (span 2 7)).isNone = true → exec (.laneTune m) s = .next (ran cmdLaneTune m s
      (ok s (tapsRecord (byteAt b 0) ((s.view m).port.taps.getD (byteAt b 0) Taps.reset))))) ∧
  (∀ m s b t, passes cmdLaneTune m s = true → m.stage = true → m.norm.recs 8 = [b] → byteAt b 0 ≤ 25 → byteAt b 1 = 1 →
    t = Taps.mk (signed 8 (byteAt b 2)) (signed 8 (byteAt b 3)) (signed 8 (byteAt b 4)) (signed 8 (byteAt b 5)) (byteAt b 6 == 1) →
    tapBad t = none → byteAt b 6 ≤ 1 → byteAt b 7 = 0 → exec (.laneTune m) s = .next (ran cmdLaneTune m s
      (ok (s.stagePorts fun v => { v with taps := v.taps.set (byteAt b 0) t })))) ∧
  (∀ m s, passes cmdPortStatus m s = true → m.norm.p 0 ≤ 25 → zeroAt m.norm [1, 2, 3] = true →
    ∃ p, exec (.portStatus m) s = .next (ran cmdPortStatus m s (ok s p)) ∧ p.length = 16 ∧
      p.take 1 = le 1 (m.norm.p 0) ∧ p.getD 3 0 = BitVec.ofNat 8 (s.linkCode (m.norm.p 0))) ∧
  (∀ m s, passes cmdPortCounters m s = true → m.norm.p 0 ≤ 25 → m.norm.p 1 = 0 → zeroAt m.norm [2, 3] = true →
    exec (.portCounters m) s = .next (ran cmdPortCounters m s (ok s (bankBytes (s.port (m.norm.p 0)).counters)))) ∧
  (∀ m s, passes cmdPortCounters m s = true → m.norm.p 0 ≤ 25 → m.norm.p 1 = 1 → zeroAt m.norm [2, 3] = true →
    exec (.portCounters m) s = .next (ran cmdPortCounters m s
      (ok (s.setPort (m.norm.p 0) { s.port (m.norm.p 0) with counters := zeroBank (s.port (m.norm.p 0)).counters })
        (bankBytes (s.port (m.norm.p 0)).counters)))) ∧
  (∀ m s, passes cmdPortLoopback m s = true → m.norm.p 0 ≤ 25 → m.norm.p 1 ≤ 3 → zeroAt m.norm [2, 3] = true →
    s.ports.length = 26 → ((s.setLoopback (m.norm.p 0) (m.norm.p 1)).port (m.norm.p 0)).loopback = m.norm.p 1 ∧
      exec (.portLoopback m) s = .next (ran cmdPortLoopback m s (ok (s.setLoopback (m.norm.p 0) (m.norm.p 1))))) ∧
  (∀ m s, passes cmdRingConfig m s = true → m.norm.params = [] → exec (.ringConfig m) s = .next (ran cmdRingConfig m s
    (ok s (roleByte (s.view m).port.east ++ roleByte (s.view m).port.west ++ [0, 0])))) ∧
  (∀ m s b, passes cmdRingConfig m s = true → m.stage = true → m.norm.params ≠ [] → m.norm.recs 4 = [b] →
    s.shadow.port.roleOk (byteAt b 0) = true → s.shadow.port.roleOk (byteAt b 1) = true →
    byteAt b 0 = 0xFF ∨ byteAt b 0 ≠ byteAt b 1 → byteAt b 2 = 0 → byteAt b 3 = 0 →
    exec (.ringConfig m) s = .next (ran cmdRingConfig m s
      (ok (s.stagePorts fun t => { t with east := roleOf (byteAt b 0), west := roleOf (byteAt b 1) })))) ∧
  (∀ m s, passes cmdCanaryStatus m s = true → ∃ p, exec (.canaryStatus m) s = .next (ran cmdCanaryStatus m s (ok s p)) ∧
    p.take 2 = [BitVec.ofNat 8 (flagByte [s.cur.port.east.isSome && s.cur.port.west.isSome, s.canary.armed, s.canary.toggling]),
      BitVec.ofNat 8 s.canary.reason]) ∧
  (∀ m s, passes cmdSecureCanaryArm m s = true → zeroAt m.norm [2, 3] = true → s.cur.port.east = some (m.norm.p 0) →
    s.cur.port.west = some (m.norm.p 1) → s.canary.armed = false → s.canary.toggling = false →
    ∃ x : State, x.canary.armed = true ∧ x.canary.armings = satur 32 (s.canary.armings + 1) ∧
      x.canary.toggling = (s.inService && s.canary.live0 && s.canary.live1) ∧
      exec (.secureCanaryArm m) s = .next (ran cmdSecureCanaryArm m s (ok x))) ∧
  (∀ m s, passes cmdSecureCanaryDisarm m s = true →
    exec (.secureCanaryDisarm m) s = .next (ran cmdSecureCanaryDisarm m s (ok (s.canaryStop 1)))) ∧
  (∀ s, s.canaryRuns = true → s.canary.toggling = true → s.canary.halfAt + 50000 ≤ s.now → exec .canaryHalfPeriod s =
    .next (settled s { s with canary := { s.canary with
      level := if s.canary.level == .high then .low else .high, halfAt := s.canary.halfAt + 50000 } })) ∧
  (∀ s, s.canary.armed = true → s.canaryRuns = false → s.canary.toggling = true → s.canary.halfAt + 50000 ≤ s.now →
    exec .canaryHalfPeriod s = .next (settled s { s with canary := { s.canary with toggling := false, level := .low } })) ∧
  (∀ s, s.booted = true → s.canary.windowAt + 100000 ≤ s.now → ∃ t, exec (.canaryHeartbeatWindow (true, true) (false, false)) s = .next t ∧
    t.canary.live0 = true ∧ t.canary.live1 = true ∧ t.canary.alive0 = s.now ∧ t.canary.alive1 = s.now ∧
    t.canary.windowAt = s.canary.windowAt + 100000 ∧ (s.canary.armed = true → s.inService = true → t.canary.toggling = true)) ∧
  (∀ held s, s.booted = true → s.canary.windowAt + 100000 ≤ s.now → s.canary.armed = true →
    ∃ t, exec (.canaryHeartbeatWindow (true, false) held) s = .next t ∧ t.canary.armed = false ∧ t.canary.level = .low ∧
      t.canary.reason = 3)

/-- R79, R85, R88, R99, R376, R483: a link event of lanes that run sets the link of its front port, one of negotiation only with AN on; a
port in AN_NO_COMMON negotiates again after 1 s; a port that came UP is calibrated once; a failing peer lane that is UP goes down; and a
failed peer lane of a pair that has been UP for 1 s is restored. That a port whose lanes retrain is DOWN until an event brings it up,
and that links are known from these events alone, are read by inference (logs 63, 65). -/
def Obligations.LinkEventsComplete : Prop :=
  (∀ port link cdr sd s l, Link.ofCode link = some l → port < 24 → port < s.ports.length → s.lanesRun port = true →
    (l ≠ .an ∧ l ≠ .anNoCommon) ∨ (s.portCfg port).an = true → ∃ t, exec (.linkStateChange port link cdr sd) s = .next t ∧ (t.port port).link = l ∧
      (t.port port).cdr = cdr &&& s.portLaneMask port ∧ (t.port port).sd = sd &&& s.portLaneMask port ∧ t.life = s.life) ∧
  (∀ port s, (s.port port).link = .anNoCommon → (s.port port).anTried + 1000000000 ≤ s.now → s.lanesRun port = true → port < 24 →
    (s.portCfg port).an = true →
    exec (.anRetry port false) s = .next (settled s (s.setPort port { s.port port with anTried := s.now }))) ∧
  (∀ port s, (s.port port).link = .anNoCommon → (s.port port).anTried + 1000000000 ≤ s.now → s.lanesRun port = true → port < 24 →
    (s.portCfg port).an = true →
    exec (.anRetry port true) s =
      .next (settled s ((s.setPort port { s.port port with anTried := s.now }).setLink port .training 0 0))) ∧
  (∀ port rx tx s, port < 26 → (s.port port).link = .up → (s.ptp port).calibrated = false → exec (.portCalibrationDone port rx tx) s =
    .next (settled s (s.setPtp port { s.ptp port with calibrated := true, rxLatency := rx % 65536, txLatency := tx % 65536 }))) ∧
  (∀ s, s.lanesRun 24 = true → (s.port 24).link = .up → exec (.peerLaneFail false) s = .next (settled s (s.changeLink 24 .down 0 0))) ∧
  (∀ s t0, s.pair.laneUp1 = some t0 → s.portUp 25 = true → s.pair.laneDown1 = true → t0 + 1000000000 ≤ s.now → s.pair.laneDown0 = false →
    ∃ t, exec (.peerLaneRestore true) s = .next t ∧ t.pair.laneDown1 = false ∧ t.life.faults.getLsbD FaultBit.peerLaneDown = false)

/-! Time (spec 13). -/

/-- R384-R386, R388, R389: an edge of PPS_IN of the chosen direction is captured in both functions; PPS_OUT rises when the counter crosses the
output offset and falls when its width has passed; RCLK_OUT resumes after 10 ms of lock; SNAP latches the clocks for its function; and a
write of TIME_INC_LO sets an INC within its range or sets INC_REFUSED.
R381: a P2P port that is UP sends a Pdelay_Req when its interval has passed, and an exchange not complete by then is lost; a peer-delay
message on it is consumed by the engine. The time-stamps' errors and the turnaround are free values. -/
def Obligations.TimeAndPeerDelayEventsComplete : Prop :=
  (∀ rising s, s.booted = true → s.time.ppsInEn = true → rising = !s.time.ppsInFalling → ∃ t, exec (.ppsInCapture rising) s = .next t ∧
    t.time.ppsNs = s.captureNs % 1000000000 ∧ t.time.ppsSec = BitVec.ofNat 64 (s.captureNs / 1000000000) ∧
    t.time.ppsCount = s.time.ppsCount + 1 ∧ t.time.ns = s.time.ns) ∧
  (∀ s, s.booted = true → s.time.ppsOutEn = true → s.ppsCrossed = true →
    exec .ppsOutEdge s = .next (settled s { s with time := { s.time with ppsOut := true, ppsRose := s.now } })) ∧
  (∀ s, s.time.ppsOut = true → s.time.ppsRose + s.time.ppsWidth * 1000 ≤ s.now →
    exec .ppsOutFall s = .next (settled s { s with time := { s.time with ppsOut := false } })) ∧
  (∀ s t0, s.time.locks.getD s.time.rclkLane none = some t0 → s.time.rclkOn = true → s.time.rclkRun = false → t0 + 10000000 ≤ s.now →
    exec .rclkResume s = .next (settled s { s with time := { s.time with rclkRun := true } })) ∧
  (∀ pf1 s, s.host.linkUp = true → exec (.timeSnap pf1) s = .next (settled s (s.setFn pf1 { s.fn pf1 with
    snapDone := true, snapNs := s.time.ns, snapFrac := s.time.frac / 65536, snapSec := s.time.sec, snapFlow := s.time.flow }))) ∧
  (∀ (v : W32) s, s.host.linkUp = true → s.booted = true → incOk (s.time.incWritten.toNat * 2 ^ 32 + v.toNat) = true →
    exec (.timeIncLoWrite v) s = .next (settled s { s with time := s.time.setInc (s.time.incWritten.toNat * 2 ^ 32 + v.toNat) })) ∧
  (∀ (v : W32) s, s.host.linkUp = true → s.booted = true → incOk (s.time.incWritten.toNat * 2 ^ 32 + v.toNat) = false →
    ∃ t, exec (.timeIncLoWrite v) s = .next t ∧ t.time.inc = BitVec.ofNat 40 s.time.inc.toNat ∧ t.host.pf0.incRefused = true ∧
      t.host.pf1.incRefused = true) ∧
  (∀ port s, s.runsPdelay port = true → (s.ptp port).nextReq ≤ s.now → port < s.time.ports.length → (s.ptp port).waiting = false →
    ∃ t, exec (.pdelayReqSend port) s = .next t ∧ (t.ptp port).waiting = true ∧
      (t.ptp port).sequence = (s.ptp port).sequence + 1 ∧ s.now < (t.ptp port).nextReq ∧ (t.ptp port).losses = (s.ptp port).losses) ∧
  (∀ port s, s.runsPdelay port = true → (s.ptp port).nextReq ≤ s.now → port < s.time.ports.length → (s.ptp port).waiting = true →
    ∃ t, exec (.pdelayReqSend port) s = .next t ∧ (t.ptp port).losses = (s.ptp port).losses + 1 ∧
      (2 ≤ (s.ptp port).losses → (t.ptp port).delayState = .invalid)) ∧
  (∀ port frame s k m, s.runsPdelay port = true → pdelayIn frame = some (k, m) → exec (.pdelayReceive port frame) s =
    .next (settled s ((s.windowAdd port false (frame.length + 4)).consumePdelay port k frame m)))


/-- R373, R374, R391: TIME_READ returns the clocks; TIME_STEP of an absolute time outside SERVICE and DEGRADED sets the counter; in them a step
beyond the jump limit is refused with RANGE and one within it sets the counter; TIME_INC_SET, TIME_JUMP_LIMIT, TIME_PPS_CONFIG and
TIME_RCLK_CONFIG read, or set within their ranges. What a step and a changed INC do within a cycle is the model's choice (log 74). -/
def Obligations.TimeCommandsComplete : Prop :=
  (∀ m s, passes cmdTimeRead m s = true → ∃ p, exec (.timeRead m) s = .next (ran cmdTimeRead m s (ok s p)) ∧
    p.take 24 = counterBytes s.time.raw ++ le 8 s.time.flow.toNat) ∧
  (∀ m s, passes cmdTimeStep m s = true → m.norm.p 0 = 1 → m.norm.p 1 = 0 → m.norm.f 4 4 < 1000000000 → s.inService = false →
    ∃ v, v = (m.norm.f 8 8 * 1000000000 + m.norm.f 4 4) * 2 ^ 32 + m.norm.f 2 2 * 65536 ∧
      (v < 2 ^ 64 * 1000000000 * 2 ^ 32 → exec (.timeStep m) s =
        .next (ran cmdTimeStep m s (ok (s.stepTo v) (counterBytes s.time.raw ++ counterBytes v))))) ∧
  (∀ m s, passes cmdTimeStep m s = true → m.norm.p 0 = 1 → m.norm.p 1 = 0 → m.norm.f 4 4 < 1000000000 → s.inService = true →
    ∃ v, v = (m.norm.f 8 8 * 1000000000 + m.norm.f 4 4) * 2 ^ 32 + m.norm.f 2 2 * 65536 ∧ (v < 2 ^ 64 * 1000000000 * 2 ^ 32 →
      (((v : Int) - (s.time.raw : Int)).natAbs ≤ s.time.jumpLimit * 2 ^ 32 → exec (.timeStep m) s =
        .next (ran cmdTimeStep m s (ok (s.stepTo v) (counterBytes s.time.raw ++ counterBytes v)))) ∧
      (s.time.jumpLimit * 2 ^ 32 < ((v : Int) - (s.time.raw : Int)).natAbs → exec (.timeStep m) s =
        .next (ran cmdTimeStep m s (refuse (s.jumpRefused ((v : Int) - (s.time.raw : Int))) Status.range 24))))) ∧
  (∀ m s, passes cmdTimeJumpLimit m s = true → zeroAt m.norm (span 0 7) = true → exec (.timeJumpLimit m) s =
    .next (ran cmdTimeJumpLimit m s (ok s (zeros 4 ++ le 4 s.time.jumpLimit)))) ∧
  (∀ m s, passes cmdTimeRclkConfig m s = true → m.norm.p 0 = 1 → m.norm.p 1 ≤ 25 → 16 ≤ m.norm.f 2 2 → m.norm.f 2 2 ≤ 4096 →
    (s.laneRate (m.norm.p 1) = 0 ∨
      (10000 * m.norm.f 2 2 ≤ s.laneRate (m.norm.p 1) ∧ s.laneRate (m.norm.p 1) ≤ 400000 * m.norm.f 2 2)) → m.norm.p 4 ≤ 1 →
    zeroAt m.norm [5, 6, 7] = true → ∃ x : Time, x = { s.time with
      rclkLane := m.norm.p 1, rclkDiv := m.norm.f 2 2, rclkOn := m.norm.p 4 == 1,
      rclkRun := s.time.rclkRun && m.norm.p 4 == 1 && m.norm.p 1 == s.time.rclkLane } ∧
      exec (.timeRclkConfig m) s = .next (ran cmdTimeRclkConfig m s (ok { s with time := x } (rclkRecord 1 x)))) ∧
  (∀ m s, passes cmdTimeIncSet m s = true → zeroAt m.norm (span 0 7) = true → exec (.timeIncSet m) s =
    .next (ran cmdTimeIncSet m s (ok s (le 4 (unsigned 32 ((s.time.inc.toNat : Int) - 2 ^ 32)) ++ zeros 4)))) ∧
  (∀ m s v, passes cmdTimeIncSet m s = true → m.norm.p 0 = 1 → zeroAt m.norm [1, 2, 3] = true →
    v = (2 ^ 32 + signed 32 (m.norm.f 4 4)).toNat → incOk v = true → ∃ x p, x = { s with time := s.time.setInc v } ∧
      exec (.timeIncSet m) s = .next (ran cmdTimeIncSet m s (ok x p))) ∧
  (∀ m s, passes cmdTimeJumpLimit m s = true → m.norm.p 0 = 1 → zeroAt m.norm [1, 2, 3] = true → 1 ≤ m.norm.f 4 4 →
    m.norm.f 4 4 ≤ 1000000 → exec (.timeJumpLimit m) s = .next (ran cmdTimeJumpLimit m s
      (ok { s with time := { s.time with jumpLimit := m.norm.f 4 4 } } (le 4 1 ++ le 4 (m.norm.f 4 4))))) ∧
  (∀ m s, passes cmdTimePpsConfig m s = true → zeroAt m.norm (span 0 15) = true →
    exec (.timePpsConfig m) s = .next (ran cmdTimePpsConfig m s (ok s (ppsRecord 0 s.time)))) ∧
  (∀ m s, passes cmdTimePpsConfig m s = true → m.norm.p 0 = 1 → m.norm.p 1 ≤ 7 → zeroAt m.norm [2, 3] = true →
    (signed 32 (m.norm.f 4 4)).natAbs ≤ 64000 → 1 ≤ m.norm.f 12 4 → m.norm.f 12 4 ≤ 500000 →
    ∃ x : State, x.time.ppsDelay = signed 32 (m.norm.f 4 4) ∧ x.time.ppsOffset = signed 32 (m.norm.f 8 4) ∧ x.time.ppsWidth = m.norm.f 12 4 ∧
      x.time.ppsInEn = Nat.testBit (m.norm.p 1) 0 ∧ x.time.ppsInFalling = Nat.testBit (m.norm.p 1) 1 ∧ x.time.ppsOutEn = Nat.testBit (m.norm.p 1) 2 ∧
      exec (.timePpsConfig m) s = .next (ran cmdTimePpsConfig m s (ok x (ppsRecord 1 x.time)))) ∧
  (∀ m s, passes cmdTimeRclkConfig m s = true → zeroAt m.norm (span 0 7) = true →
    exec (.timeRclkConfig m) s = .next (ran cmdTimeRclkConfig m s (ok s (rclkRecord 0 s.time))))

/-- R374, R391: in SERVICE and DEGRADED a TIME_STEP beyond the jump limit is refused with RANGE, and changes nothing but the log, the alert and
JUMP_REFUSED (how a step is judged within a cycle is the model's choice, log 74); TIME_PTP_CONFIG reads or stages the device's and a port's
record; TIME_CAL reads a port's plane, or sets its board delays. -/
def Obligations.PtpCommandsComplete : Prop :=
  (∀ m s, passes cmdTimeStep m s = true → m.norm.p 0 = 1 → m.norm.p 1 = 0 → m.norm.f 4 4 < 1000000000 → s.inService = true →
    ∃ step : Int, step = (((m.norm.f 8 8 * 1000000000 + m.norm.f 4 4) * 2 ^ 32 + m.norm.f 2 2 * 65536 : Nat) : Int) - (s.time.raw : Int) ∧
      (s.time.jumpLimit * 2 ^ 32 < step.natAbs → (s.time.raw : Int) + step < (2 : Int) ^ 64 * 1000000000 * 2 ^ 32 →
        exec (.timeStep m) s = .next (ran cmdTimeStep m s (refuse (s.jumpRefused step) Status.range 24)))) ∧
  (∀ (s : State) (step : Int), ∃ (e : ErrLog) (h : HostIf), s.jumpRefused step = { s with err := e, host := h } ∧ h.pf0.jumpRefused = true ∧ h.pf1.jumpRefused = true ∧
    h.pf0.alert.getLsbD 8 = true ∧ h.pf1.alert.getLsbD 8 = true ∧ { h with pf0 := s.host.pf0, pf1 := s.host.pf1 } = s.host) ∧
  (∀ m s b, passes cmdTimePtpConfig m s = true → m.stage = true → m.norm.recs 48 = [b] → byteAt b 0 = 1 → byteAt b 1 = 1 →
    (firstNonZeroAt b ([3, 18, 19] ++ span 40 47)).isNone = true → exec (.timePtpConfig m) s = .next (ran cmdTimePtpConfig m s
      (ok (s.stagePtp fun c => PtpCfg.mk
        (PtpDevice.mk (byteAt b 2) (slice b 4 8) (slice b 12 6) (slice b 20 4) (slice b 24 16)) c.ports)))) ∧
  (∀ m s b, passes cmdTimePtpConfig m s = true → m.norm.recs 48 = [b] → byteAt b 0 = 2 → byteAt b 1 = 0 → byteAt b 2 ≤ 25 →
    (firstNonZeroAt b (span 3 47)).isNone = true → exec (.timePtpConfig m) s = .next (ran cmdTimePtpConfig m s
      (ok s (ptpPortRecord 0 (byteAt b 2) (s.ptpPort (s.view m) (byteAt b 2)))))) ∧
  (∀ m s b, passes cmdTimePtpConfig m s = true → m.norm.recs 48 = [b] → byteAt b 0 = 1 → byteAt b 1 = 0 →
    (firstNonZeroAt b (span 2 47)).isNone = true → exec (.timePtpConfig m) s = .next (ran cmdTimePtpConfig m s
      (ok s (ptpDeviceRecord 0 (s.view m).ptp.device)))) ∧
  (∀ m s b, passes cmdTimePtpConfig m s = true → m.stage = true → m.norm.recs 48 = [b] → byteAt b 0 = 2 → byteAt b 1 = 1 →
    byteAt b 2 ≤ 25 → byteAt b 3 ≤ 2 → byteAt b 4 ≤ 1 → byteAt b 5 ≤ 2 → -4 ≤ signed 8 (byteAt b 6) → signed 8 (byteAt b 6) ≤ 4 →
    (firstNonZeroAt b (span 7 47)).isNone = true → exec (.timePtpConfig m) s = .next (ran cmdTimePtpConfig m s
      (ok (s.stagePtp fun c => PtpCfg.mk c.device
        (c.ports.set (byteAt b 2) (PtpPort.mk (byteAt b 3) (byteAt b 4 == 1) (byteAt b 5) (signed 8 (byteAt b 6)))))))) ∧
  (∀ m s b, passes cmdTimeCal m s = true → m.norm.recs 16 = [b] → byteAt b 0 ≤ 25 → byteAt b 1 = 0 →
    (firstNonZeroAt b (span 2 15)).isNone = true →
    exec (.timeCal m) s = .next (ran cmdTimeCal m s (ok s (calRecord s (byteAt b 0))))) ∧
  (∀ m s b, passes cmdTimeCal m s = true → m.norm.recs 16 = [b] → byteAt b 0 ≤ 25 → byteAt b 1 = 1 → byteAt b 2 = 0 → byteAt b 3 = 0 →
    (signed 32 (fieldLe b 4 4)).natAbs ≤ 64000 → (signed 32 (fieldLe b 8 4)).natAbs ≤ 64000 →
    (firstNonZeroAt b (span 12 15)).isNone = true → exec (.timeCal m) s = .next (ran cmdTimeCal m s
      (ok (s.setPtp (byteAt b 0) { s.ptp (byteAt b 0) with rxBoard := signed 32 (fieldLe b 4 4), txBoard := signed 32 (fieldLe b 8 4) }))))

/-! The parser (spec 04). -/

/-- R126-R131: PARSE_NODE_WRITE of a node record without fault stages it; PARSE_NODE_READ replies with the view's record, or one that is not
VALID; PARSE_LIMITS reads, or stages limits within their ranges; PARSE_GRAPH_LOAD verifies, or stages an empty graph; PARSE_COUNTERS
returns the pipelines' counters, and with CLEAR zeroes them. -/
def Obligations.ParseCommandsComplete : Prop :=
  (∀ m s b, passes cmdParseNodeWrite m s = true → m.stage = true → m.norm.recs 224 = [b] → nodeFault b = none →
    exec (.parseNodeWrite m) s = .next (ran cmdParseNodeWrite m s (ok (s.stageParse fun g => g.put b)))) ∧
  (∀ m s b, passes cmdParseNodeRead m s = true → m.norm.recs 4 = [b] → (firstNonZeroAt b [1, 2, 3]).isNone = true →
    exec (.parseNodeRead m) s = .next (ran cmdParseNodeRead m s
      (ok s ((tget? (s.view m).parse.nodes (byteAt b 0)).getD (le 1 (byteAt b 0) ++ zeros 223))))) ∧
  (∀ m s, passes cmdParseLimits m s = true → m.norm.p 0 = 0 → zeroAt m.norm (span 1 39) = true →
    ∃ p, exec (.parseLimits m) s = .next (ran cmdParseLimits m s (ok s p)) ∧
      p.take 4 = [0] ++ le 1 (s.view m).parse.nodeLimit ++ le 2 (s.view m).parse.byteLimit) ∧
  (∀ m s, passes cmdParseLimits m s = true → m.stage = true → m.norm.p 0 = 1 → 1 ≤ m.norm.p 1 → m.norm.p 1 ≤ 32 → 64 ≤ m.norm.f 2 2 →
    m.norm.f 2 2 ≤ 512 → m.norm.p 4 ≤ 1 → zeroAt m.norm ([5, 6, 7] ++ span 36 39) = true →
    exec (.parseLimits m) s = .next (ran cmdParseLimits m s (ok (s.stageParse fun g =>
      { g with nodeLimit := m.norm.p 1, byteLimit := m.norm.f 2 2, depthCurrent := m.norm.p 4 == 1,
               starts := (List.range 28).map fun i => m.norm.p (8 + i) })))) ∧
  (∀ m s, passes cmdParseGraphLoad m s = true → m.norm.p 0 = 2 → zeroAt m.norm [1, 2, 3] = true → m.norm.f 4 4 = 0xFFFFFFFF →
    exec (.parseGraphLoad m) s = .next (ran cmdParseGraphLoad m s (ok s (s.view m).parse.verify))) ∧
  (∀ m s, passes cmdParseGraphLoad m s = true → m.stage = true → m.norm.p 0 = 0 → zeroAt m.norm [1, 2, 3] = true →
    m.norm.f 4 4 = 0xFFFFFFFF →
    exec (.parseGraphLoad m) s = .next (ran cmdParseGraphLoad m s (ok (s.stageParse fun g => { g with nodes := [] })))) ∧
  (∀ m s, passes cmdParseCounters m s = true → zeroAt m.norm (span 0 3) = true →
    exec (.parseCounters m) s = .next (ran cmdParseCounters m s (ok s (bankBytes s.parse.counters0 ++ bankBytes s.parse.counters1)))) ∧
  (∀ m s, passes cmdParseCounters m s = true → m.norm.p 0 = 0 → m.norm.p 1 = 0 → m.norm.p 2 = 1 → m.norm.p 3 = 0 →
    exec (.parseCounters m) s = .next (ran cmdParseCounters m s
      (ok { s with parse := { s.parse with counters0 := zeroBank s.parse.counters0, counters1 := zeroBank s.parse.counters1 } }
        (bankBytes s.parse.counters0 ++ bankBytes s.parse.counters1))))

/-! Rule tables (spec 05). -/

/-- R144-R155, R161, R162: RULE_LOAD of a new rule that fits its table puts it there in the shadow, and of a DELETE takes the rule out;
RULE_BUILD of zeros withdraws a table from the shadow; one that every check lets pass starts a build with the next sequence number; a
build that a miner is at stages its version or fails: one with no list, or whose list passes its checks, is staged, and one whose list
has a tile that fails assay fails with reason 1 and that ordinal; a version with a faulting rule-store tile is rebuilt by its task from
its source seam, or, where it has none, from its rules (log 140). R163-R167: RULE_BUILD_STATUS returns the entries asked for, a running
build's progress being a free value; RULE_READ returns the rules of a table in their order from an index; RULE_DEFAULT stages the miss
action; RULE_COUNTERS returns a rule table's bank, and with CLEAR zeroes it; RECIRC_CONFIG reads, or stages. What a build reserves,
which tasks do its work and which tiles a store has are the model's choices (logs 76, 78, 140). -/
def Obligations.RuleCommandsComplete : Prop :=
  (∀ m s b r t x, passes cmdRuleLoad m s = true → m.stage = true → m.norm.recs 128 = [b] → r = slice b 8 120 → t = byteAt b 0 →
    t ≤ 19 → byteAt b 1 = 1 → (firstNonZeroAt b (span 2 7)).isNone = true → s.building t = false →
    tget? s.shadow.rule.tables t = some x → ruleFault r (segmentsWidth x.segments) (isEgress t) = none →
    s.entryBeyond (slice r 88 24) = false → x.rules.findIdx? (fun q => ruleId q == ruleId r) = none →
    (x.rules.filter fun q => ruleId q != ruleId r).length < x.maxRules →
    masksOf ((x.rules.filter fun q => ruleId q != ruleId r) ++ [r]) ≤ x.maxMasks → (s.withCounters t [r]).length ≤ 163840 →
    (allocRuns s.dram.free 2).isSome = true → s.editDescs x ≤ s.dram.dir.freeCount →
    ∃ y z, tget? y.shadow.rule.tables t = some z ∧ z.rules = x.rules ++ [r] ∧ z.maxRules = x.maxRules ∧ y.cur = s.cur ∧
      exec (.ruleLoad m) s = .next (ran cmdRuleLoad m s (ok y))) ∧
  (∀ m s b t x i, passes cmdRuleLoad m s = true → m.stage = true → m.norm.recs 128 = [b] → t = byteAt b 0 → t ≤ 19 → byteAt b 1 = 2 →
    (firstNonZeroAt b (span 2 7)).isNone = true → (firstNonZeroAt b (span 12 127)).isNone = true → s.building t = false →
    tget? s.shadow.rule.tables t = some x → x.rules.findIdx? (fun q => ruleId q == ruleId (slice b 8 120)) = some i →
    s.editDescs x ≤ s.dram.dir.freeCount →
    ∃ y z, tget? y.shadow.rule.tables t = some z ∧ z.rules = x.rules.eraseIdx i ∧ y.cur = s.cur ∧
      exec (.ruleLoad m) s = .next (ran cmdRuleLoad m s (ok y))) ∧
  (∀ m s, passes cmdRuleBuild m s = true → m.stage = true → m.norm.p 0 ≤ 19 → s.building (m.norm.p 0) = false →
    (m.norm.params.drop 1).all (· == 0) = true → exec (.ruleBuild m) s = .next (ran cmdRuleBuild m s
      (ok ((s.stageWith fun v => { v with rule := { v.rule with tables := tdel v.rule.tables (m.norm.p 0) } }).settleRules) (zeros 4)))) ∧
  (∀ m s, passes cmdRuleBuild m s = true → m.stage = true → m.norm.p 0 ≤ 19 → s.building (m.norm.p 0) = false →
    (m.norm.params.drop 1).all (· == 0) = false → s.profileFault m.norm = none → s.entryBeyond (slice m.norm.params 40 24) = false →
    m.norm.f 12 4 = 0xFFFFFFFF → m.norm.f 16 4 = 0 → (s.rule.builds.filter fun b => b.state == .running).length < 4 →
    s.rule.builds.length = 20 → (allocRuns s.rule.storeFree (m.norm.f 4 4 + m.norm.f 8 2 + 16)).isSome = true →
    1 ≤ s.dram.dir.freeCount → (s.newTask TaskType.seamBuild (.ruleBuild (m.norm.p 0))).isSome = true →
    ∃ x : State, x.rule.sequence = s.rule.sequence + 1 ∧ x.building (m.norm.p 0) = true ∧ x.shadow = s.shadow ∧
      exec (.ruleBuild m) s = .next (ran cmdRuleBuild m s (ok x (le 4 (s.rule.sequence + 1))))) ∧
  (∀ t hurt s b p, s.refreshing = false → s.rule.builds.getD t Build.reset = b → b.profile = some p → b.state = .running → s.sealed = false →
    s.atWork (.ruleBuild t) = true → t < s.rule.builds.length → ∃ u, exec (.ruleBuildComplete t hurt) s = .next u ∧
      ((u.rule.builds.getD t Build.reset).state = .staged ∨ (u.rule.builds.getD t Build.reset).state = .failed)) ∧
  (∀ t hurt s b p, s.refreshing = false → s.rule.builds.getD t Build.reset = b → b.profile = some p → b.state = .running → s.sealed = false →
    s.atWork (.ruleBuild t) = true → b.list = none →
    exec (.ruleBuildComplete t hurt) s = .next (settled s ((s.upset hurt).stageBuild t b p []))) ∧
  (∀ t hurt s b p i ps s1 rules, s.refreshing = false → s.rule.builds.getD t Build.reset = b → b.profile = some p → b.state = .running → s.sealed = false →
    s.atWork (.ruleBuild t) = true → b.list = some i → readCells s.cur hurt .miner (s.seamCells i) (s.upset hurt) = (ps, s1) →
    ps.findIdx? (·.isNone) = none → checkList p (isEgress t) s1.entryBeyond ps 0 [] = .ok rules →
    exec (.ruleBuildComplete t hurt) s = .next (settled s (s1.stageBuild t b p rules))) ∧
  (∀ t hurt s b p i ps s1 k, s.refreshing = false → s.rule.builds.getD t Build.reset = b → b.profile = some p → b.state = .running → s.sealed = false →
    s.atWork (.ruleBuild t) = true → b.list = some i → readCells s.cur hurt .miner (s.seamCells i) (s.upset hurt) = (ps, s1) →
    ps.findIdx? (·.isNone) = some k →
    exec (.ruleBuildComplete t hurt) s = .next (settled s (s1.failBuild t b 1 (some k) 0))) ∧
  (∀ tile s t, s.refreshing = false → s.heldTables.find? (fun t => inRuns t.store tile && s.atWork (.ruleRepair t.root)) = some t →
    s.rule.storeBad.contains tile = true → t.source = none → exec (.ruleStoreRepair tile) s =
      .next (settled s (s.rebuildRoot t.root (s.rule.storeBad.filter fun b => inRuns t.store b)))) ∧
  (∀ tile s t ps s1, s.refreshing = false → s.heldTables.find? (fun t => inRuns t.store tile && s.atWork (.ruleRepair t.root)) = some t →
    s.rule.storeBad.contains tile = true → readTiles .miner (s.sourceTiles t) s = (ps, s1) → ps.any (·.isNone) = false →
    exec (.ruleStoreRepair tile) s =
      .next (settled s (s1.rebuildRoot t.root (s1.rule.storeBad.filter fun b => inRuns t.store b)))) ∧
  (∀ m s, passes cmdRuleBuildStatus m s = true → m.norm.p 0 ≤ 19 → zeroAt m.norm [1, 2, 3] = true →
    ∃ p, exec (.ruleBuildStatus m) s = .next (ran cmdRuleBuildStatus m s (ok { s with free := s.free + 20 } p)) ∧
      p.take 8 = le 4 (runsLength s.rule.storeFree) ++ le 4 s.rule.storeRetired.length ∧ p.drop 16 = s.buildEntry (m.norm.p 0)) ∧
  (∀ m s t, passes cmdRuleRead m s = true → m.norm.p 0 ≤ 19 → m.norm.p 1 = 0 → 1 ≤ m.norm.p 2 → m.norm.p 2 ≤ 33 →
    zeroAt m.norm (3 :: span 8 11) = true → tget? (s.view m).rule.tables (m.norm.p 0) = some t → m.norm.f 4 4 < t.ordered.length →
    ∃ next, exec (.ruleRead m) s = .next (ran cmdRuleRead m s (ok s (le 4 t.ordered.length ++ le 4 next ++
      ((t.ordered.drop (m.norm.f 4 4)).take (m.norm.p 2)).flatten)))) ∧
  (∀ m s x, passes cmdRuleDefault m s = true → m.stage = true → m.norm.p 0 ≤ 19 → zeroAt m.norm [1, 2, 3] = true →
    s.building (m.norm.p 0) = false → tget? s.shadow.rule.tables (m.norm.p 0) = some x →
    actionFault (slice m.norm.params 4 24) (isEgress (m.norm.p 0)) = none → s.entryBeyond (slice m.norm.params 4 24) = false →
    exec (.ruleDefault m) s = .next (ran cmdRuleDefault m s (ok (s.stageRule (m.norm.p 0) { x with miss := slice m.norm.params 4 24 })))) ∧
  (∀ m s, passes cmdRuleCounters m s = true → m.norm.p 0 ≤ 19 → m.norm.p 1 = 1 → m.norm.p 2 = 0 → zeroAt m.norm (span 3 7) = true →
    exec (.ruleCounters m) s = .next (ran cmdRuleCounters m s (ok s (bankBytes (s.rule.tables.getD (m.norm.p 0) []))))) ∧
  (∀ m s, passes cmdRuleCounters m s = true → m.norm.p 0 ≤ 19 → m.norm.p 1 = 1 → m.norm.p 2 = 1 → zeroAt m.norm (span 3 7) = true →
    exec (.ruleCounters m) s = .next (ran cmdRuleCounters m s
      (ok { s with rule := { s.rule with tables := alter s.rule.tables (m.norm.p 0) zeroBank } }
        (bankBytes (s.rule.tables.getD (m.norm.p 0) []))))) ∧
  (∀ m s, passes cmdRecircConfig m s = true → m.norm.p 0 = 0 → zeroAt m.norm (span 1 7) = true → ∃ p,
    exec (.recircConfig m) s = .next (ran cmdRecircConfig m s (ok s p)) ∧ p.take 2 = [0] ++ le 1 (s.view m).rule.recirc.maxPasses) ∧
  (∀ m s, passes cmdRecircConfig m s = true → m.stage = true → m.norm.p 0 = 1 → 1 ≤ m.norm.p 1 → m.norm.p 1 ≤ 4 → m.norm.p 2 ≤ 1 →
    m.norm.p 3 ≤ 7 → 1 ≤ m.norm.f 4 2 → m.norm.f 4 2 ≤ 400 → 1 ≤ m.norm.f 6 2 → m.norm.f 6 2 ≤ 400 →
    exec (.recircConfig m) s = .next (ran cmdRecircConfig m s (ok (s.stageWith fun v => { v with rule := { v.rule with
      recirc := Recirc.mk (m.norm.p 1) (m.norm.p 2 == 1) (m.norm.p 3) (m.norm.f 4 2) (m.norm.f 6 2) } }))))



/-! The pipelines and the DRAM tier (spec 01, 06, 07). -/

/-- R11, R12, R35, R107, R156, R192, R341: the oldest frame of a pipeline's admission queue that does not wait for bytes is stamped with the
current epoch and takes its first pass, leaving the queue; one whose walk meets bytes that have not arrived stays, admitted, and goes on
as it was stamped when they have; where no frame asks for the slot, the oldest parked packet that is ready resumes, then a recirculated
packet takes its next pass, then a reinjected packet goes to the flow stage, behind which the packets chained to it may resume; a packet
older than the residence limit is discarded instead. -/
def Obligations.PipelineAdmissionsComplete : Prop :=
  (∀ pipe hurt s p i x y s1, (s.laneQ pipe).findIdx? Pkt.walks = some i → (s.laneQ pipe)[i]? = some p → p.waited = none →
    x = ((s.setLaneQ pipe ((s.laneQ pipe).eraseIdx i)).grant pipe 0).struckPass pipe hurt →
    y = { p with stamp := s.epoch.current, admitted := s.now, pass := 1, pipe := pipe } →
    (x.pass y p.inPort = some s1 → exec (.laneFrameAdmit pipe hurt) s = .next (settled s s1)) ∧
    (x.pass y p.inPort = none → exec (.laneFrameAdmit pipe hurt) s =
      .next (settled s (x.setLaneQ pipe ((s.laneQ pipe).set i { y with waited := some p.bytes.length }))))) ∧
  (∀ pipe hurt s p i n s1, (s.laneQ pipe).findIdx? Pkt.walks = some i → (s.laneQ pipe)[i]? = some p → p.waited = some n →
    ((s.setLaneQ pipe ((s.laneQ pipe).eraseIdx i)).struckPass pipe hurt).pass p p.inPort = some s1 →
    exec (.laneFrameAdmit pipe hurt) s = .next (settled s s1)) ∧
  (∀ pipe hurt s x i s1, s.laneAsks pipe = false → s.readyHeld pipe = some (x, i) →
    s1 = (s.setHeld pipe ((s.held pipe).eraseIdx i)).struckPass pipe hurt → s1.expired x.pkt = false →
    exec (.missResume pipe hurt) s = .next (settled s ((((s1.grant pipe 1).resume x i).unhold x.key).panicLevel))) ∧
  (∀ pipe hurt s x i s1, s.laneAsks pipe = false → s.readyHeld pipe = some (x, i) →
    s1 = (s.setHeld pipe ((s.held pipe).eraseIdx i)).struckPass pipe hurt → s1.expired x.pkt = true →
    exec (.missResume pipe hurt) s = .next (settled s (((s1.dropOld x.pkt).unhold x.key).panicLevel))) ∧
  (∀ pipe hurt s p q s1, s.laneAsks pipe = false → s.readyHeld pipe = none → s.recircQ pipe = p :: q →
    (s.setRecircQ pipe q).expired p = false → ((((s.setRecircQ pipe q).grant pipe 2).struckPass pipe hurt).pass
      { p with pass := p.pass + 1, pipe := pipe } (recircPort pipe)) = some s1 →
    exec (.recircAdmit pipe hurt) s = .next (settled s s1)) ∧
  (∀ pipe hurt s p q, s.laneAsks pipe = false → s.readyHeld pipe = none → s.recircQ pipe = p :: q →
    (s.setRecircQ pipe q).expired p = true →
    exec (.recircAdmit pipe hurt) s = .next (settled s ((s.setRecircQ pipe q).dropOld p))) ∧
  (∀ pipe hurt s p key q s1, s.laneAsks pipe = false → s.readyHeld pipe = none → s.recircQ pipe = [] → s.reinjectQ pipe = (p, key) :: q →
    s.mayResume key = true → s1 = (s.setReinjectQ pipe q).struckPass pipe hurt → s1.expired p = false →
    exec (.reinjectAdmit pipe hurt) s =
      .next (settled s (((s1.grant pipe 3).flowStage (s1.version p.stamp) p { own := some key }).releaseBehind p key))) ∧
  (∀ pipe hurt s p key q s1, s.laneAsks pipe = false → s.readyHeld pipe = none → s.recircQ pipe = [] → s.reinjectQ pipe = (p, key) :: q →
    s.mayResume key = true → s1 = (s.setReinjectQ pipe q).struckPass pipe hurt → s1.expired p = true →
    exec (.reinjectAdmit pipe hurt) s = .next (settled s ((s1.dropOld p).releaseBehind p key)))

/-- R14, R185, R186, R191, R206, R210, R211, R245, R256, R258, R352: a bucket read that is the oldest of its channel returns, and its
request is resolved, asks for the second bucket or is placed; the read of an action entry or slot tile ends its request and its packets
may resume; a setup task on a miner finishes where its request has ended, waits for its slot, or ends in the fall-back or in a flow
installed HELD whose first packet is reinjected; a WB_PENDING entry that nothing holds leaves the hot tier; and the visit of a set
demotes the entries idle past HOT_IDLE. When a placement waits, and the reads and batches as events, are the model's choices (logs 95,
136). -/
def Obligations.FlowTierEventsComplete : Prop :=
  (∀ key hurt s r, s.requestOf key = some r → r.stage = .b0 ∨ r.stage = .b1 ∨ r.stage = .place → s.readReturns r = true →
    exec (.bucketReadReturn key hurt) s =
      .next (settled s (((((s.issued r).struckOn hurt .pipeline).bucketBack r).unhold r.key).panicLevel))) ∧
  (∀ key hurt s r v whole s1, s.flow.requests.find? (fun x => x.key == key && readsEntry x.stage) = some r →
    s.readReturns r = true → v = s.versionFor r →
    ((s.issued r).struckOn hurt .pipeline).entryBack v r = (whole, s1) → exec (.actionEntryReadReturn key hurt) s =
      .next (settled s (((s1.endRequest r.key).deliver r.key r.stage whole).unhold r.key))) ∧
  (∀ slot hurt s t p key m, s.refreshing = false → s.task slot = some t → t.work = .setup p key → t.state = .running m → s.requestOf key = none →
    exec (.flowSetup slot hurt) s = .next (settled s (s.finishWork fun w => w == .setup p key))) ∧
  (∀ slot hurt s t p key m r cls idx s1, s.refreshing = false → s.task slot = some t → t.work = .setup p key → t.state = .running m → s.requestOf key = some r →
    cls = (p.rule.binding.map (·.1)).getD 0 → idx = (p.rule.binding.map (·.2.2.1)).getD 0xFFFFFF →
    (s.struckOn hurt .miner).setupSlot (s.version p.stamp) r p cls = (none, s1) →
    exec (.flowSetup slot hurt) s = .next (settled s s1)) ∧
  (∀ slot hurt s t p key m r cls idx tile s1 n s2, s.refreshing = false → s.task slot = some t → t.work = .setup p key → t.state = .running m →
    s.requestOf key = some r → cls = (p.rule.binding.map (·.1)).getD 0 → idx = (p.rule.binding.map (·.2.2.1)).getD 0xFFFFFF →
    (s.struckOn hurt .miner).setupSlot (s.version p.stamp) r p cls = (some tile, s1) → s1.setupRoom (s.version p.stamp) p idx tile = true →
    s1.setupEntry (s.version p.stamp) idx r.key = (.error n, s2) →
    exec (.flowSetup slot hurt) s =
      .next (settled s (((s2.natCount n).endInFallback { r with claim := some tile }).finishWork fun w => w == .setup p r.key))) ∧
  (∀ slot hurt s t p key m r cls idx tile s1 b s2 w s3 mem s4 s5 s6, s.refreshing = false → s.task slot = some t → t.work = .setup p key → t.state = .running m →
    s.requestOf key = some r → cls = (p.rule.binding.map (·.1)).getD 0 → idx = (p.rule.binding.map (·.2.2.1)).getD 0xFFFFFF →
    (s.struckOn hurt .miner).setupSlot (s.version p.stamp) r p cls = (some tile, s1) → s1.setupRoom (s.version p.stamp) p idx tile = true →
    s1.setupEntry (s.version p.stamp) idx r.key = (.ok b, s2) → s2.wayFor r.key = (some w, s3) →
    (s3.evict tile (withDir r.key !((s.version p.stamp).fromSub p))).newMember (s.version p.stamp) (s3.entryCached (s.version p.stamp) b) r.key .miner = (mem, s4) →
    s5 = (((s4.installNew (s.version p.stamp) p r.key cls b mem tile w).setLive b).cacheLoad b).lifeCount Life.admittedMiner →
    s6 = (if s5.parked.any (fun x => x.pkt.id == p.id) then
        (s5.unpark p.id).setReinjectQ p.pipe (s5.reinjectQ p.pipe ++ [(p, r.key)]) else s5.readyParked r.key) →
    exec (.flowSetup slot hurt) s =
      .next (settled s ((((s6.endRequest r.key).finishWork fun w => w == .setup p r.key).unhold r.key).panicLevel))) ∧
  (∀ way s e, tget? s.flow.hot way = some e → e.wbPending = true → e.held = false →
    exec (.pendingWriteBack way) s = .next (settled s (s.leaveHot way e).2)) ∧
  (∀ set s, set < 131072 → s.booted = true →
    exec (.hotIdleDemote set) s = .next (settled s (s.demote ((List.range 8).map (set * 8 + ·)))))

/-- R217, R221, R223, R337, R357, R363: while its task runs, no clearing does and no refresh stalls the memory, the sweep visits its next
bucket when it is due and goes on, or stays at it where a record or a write waits for space; the scrub, in the same way, reads its next
tile with assay, or a word of the die, and goes on, or ends its pass; entries of the fault history older than 24 h are freed; and the
lags are judged. -/
def Obligations.SweepAndScrubComplete : Prop :=
  (∀ hurt s ts s1 s2, s.refreshing = false → s.serves TaskType.sweep = true → s.booted = true → s.buckets ≠ 0 → s.life.clearing = .none →
    s.sweepDue s.flow.sweepNext ≤ s.now → (s.struckOn hurt .miner).readBucket s.flow.sweepNext .miner = (ts, s1) →
    State.sweepTiles ts s1 = (true, s2) → exec (.sweepBucketVisit hurt) s = .next (settled s s2.sweepOn)) ∧
  (∀ hurt s ts s1 s2, s.refreshing = false → s.serves TaskType.sweep = true → s.booted = true → s.buckets ≠ 0 → s.life.clearing = .none →
    s.sweepDue s.flow.sweepNext ≤ s.now → (s.struckOn hurt .miner).readBucket s.flow.sweepNext .miner = (ts, s1) →
    State.sweepTiles ts s1 = (false, s2) → exec (.sweepBucketVisit hurt) s = .next (settled s s2)) ∧
  (∀ hurt s s1 k, s.refreshing = false → s.serves TaskType.scrub = true → s.booted = true → s.life.clearing = .none →
    k = s.flow.scrubNext → s.scrubDue k ≤ s.now →
    s1 = State.lifeCount (hurt.store.foldl (fun x i => x.storeFault i .scrub) (hurt.buffer.foldl State.bufferFault (s.struckOn hurt .scrub)))
      Life.scrubCorrected hurt.corrected →
    (∀ t x, k < runsLength s.scrubRuns → t = tileAt s.scrubRuns k → x = (s1.readTile t .scrub).2 → exec (.scrubRead hurt) s =
      .next (settled s { x with flow := { x.flow with scrubPos := t, scrubNext := k + 1 } })) ∧
    (runsLength s.scrubRuns ≤ k → k + 1 < s.scrubTotal → exec (.scrubRead hurt) s =
      .next (settled s { s1 with flow := { s1.flow with scrubNext := k + 1 } })) ∧
    (s.scrubTotal ≤ k + 1 → ∃ t, exec (.scrubRead hurt) s = .next t ∧ t.flow.scrubNext = 0 ∧ t.flow.scrubStart = s.now)) ∧
  (∀ s, exec .faultHistoryExpire s = .next (settled s { s with flow := { s.flow with
    history := s.flow.history.filter fun e => s.flowNow ≤ e.newer + dayNs } })) ∧
  (∀ s, s.booted = true → exec .taskPromote s = .next (settled s ((s.judgeLag TaskType.sweep).judgeLag TaskType.scrub)))

/-! Flow commands (spec 06, 07). -/

/-- R197-R199: FLOW_READ by key, by tile of the flow region, and of the settings; FLOW_WRITE sets the binding of a flow in the hot tier,
stores a new flow at the place admission would choose, and stages the settings; a command that waited goes on from the record at which
it stopped, be it FLOW_WRITE, FLOW_DELETE or FLOW_PIN, and a LOAD_SEAM once its task is on a miner (R42, R328). For what a flow command
waits, and the epoch that its late reply carries, are the model's choices (logs 93, 134). -/
def Obligations.FlowReadAndWriteComplete : Prop :=
  (∀ m s b, passes cmdFlowRead m s = true → m.norm.recs 48 = [b] → byteAt b 0 = 0 → (firstNonZeroAt b [1, 2, 3]).isNone = true →
    (firstNonZeroAt b (span 4 7)).isNone = true →
    exec (.flowRead m) s = .next (ran cmdFlowRead m s (ok (s.readByKey (slice b 8 40)).2 (s.readByKey (slice b 8 40)).1))) ∧
  (∀ m s b, passes cmdFlowRead m s = true → m.norm.recs 48 = [b] → byteAt b 0 = 1 → (firstNonZeroAt b [1, 2, 3]).isNone = true →
    (firstNonZeroAt b (span 8 47)).isNone = true → s.inRegion 0 (fieldLe b 4 4) = true →
    exec (.flowRead m) s = .next (ran cmdFlowRead m s (ok (s.readByTile (fieldLe b 4 4)).2 (s.readByTile (fieldLe b 4 4)).1))) ∧
  (∀ m s b, passes cmdFlowRead m s = true → m.batch = false → m.norm.recs 48 = [b] → byteAt b 0 = 2 →
    (firstNonZeroAt b [1, 2, 3]).isNone = true → (firstNonZeroAt b (span 4 47)).isNone = true →
    exec (.flowRead m) s = .next (ran cmdFlowRead m s (ok s (flowSettings (s.view m).flow)))) ∧
  (∀ m s b way e s1, passes cmdFlowWrite m s = true → m.norm.p 0 ≠ 3 → m.norm.recs 64 = [b] → byteAt b 0 = 2 → flowWriteFault b = none →
    fieldLe b 4 3 = 0xFFFFFF → (s.requestOf (slice b 8 40)).isSome = false → s.findFlow (slice b 8 40) .command = (.hot way e, s1) →
    exec (.flowWrite m) s = .next (ran cmdFlowWrite m s
      (ok (s1.setHot way { e with action := 0xFFFFFF, member := byteAt b 7, dirty := true })))) ∧
  (∀ m s b bad s1 t s2, passes cmdFlowWrite m s = true → m.norm.p 0 ≠ 3 → m.norm.recs 64 = [b] → byteAt b 0 = 1 → flowWriteFault b = none →
    fieldLe b 4 3 = 0xFFFFFF → (s.requestOf (slice b 8 40)).isSome = false → s.findFlow (slice b 8 40) .command = (.absent bad, s1) →
    s1.placeBusy (slice b 8 40) = false → s1.choosePlace s1.cur (slice b 8 40) (byteAt b 2) = (.free t, s2) →
    ∃ tile, tile.take 40 = (slice b 8 40) ∧
      exec (.flowWrite m) s = .next (ran cmdFlowWrite m s (ok ((s2.taskWrite t tile).keepBinding 0xFFFFFF)))) ∧
  (∀ m s, passes cmdFlowWrite m s = true → m.stage = true → m.norm.p 0 = 3 → settingsFault m.norm = none →
    zeroAt m.norm ([1, 2, 3] ++ span 8 15 ++ (List.range 26).flatMap fun p => [22 + 8 * p, 23 + 8 * p]) = true →
    exec (.flowWrite m) s = .next (ran cmdFlowWrite m s (ok (s.stageWith fun v => { v with flow := { v.flow with
      hotIdle := m.norm.f 4 4
      ports := (List.range 26).map fun p => FlowPort.mk (m.norm.p (16 + 8 * p) == 1) (m.norm.p (17 + 8 * p))
          (BitVec.ofNat 16 (m.norm.f (18 + 8 * p) 2)) (BitVec.ofNat 16 (m.norm.f (20 + 8 * p) 2)) } })))) ∧
  (∀ ch s m n held, ch < 4 → s.refreshing = false → (s.chan ch).waiting = some (.flow 0x0602 m n held) →
    ∃ s1, s1 = s.setChan ch { s.chan ch with waiting := none } ∧ exec (.flowCommandResume ch) s =
      .next (settled s (finish cmdFlowWrite m s1 (records m.norm 64 recFlowWrite s1 n) (cmdFlowWrite.recSize m)))) ∧
  (∀ ch s m n held, ch < 4 → s.refreshing = false → (s.chan ch).waiting = some (.flow 0x0605 m n held) →
    ∃ s1, s1 = s.setChan ch { s.chan ch with waiting := none } ∧ exec (.flowCommandResume ch) s =
      .next (settled s (finish cmdFlowDelete m s1 (records m.norm 48 recFlowDelete s1 n) (cmdFlowDelete.recSize m)))) ∧
  (∀ ch s m n held, ch < 4 → s.refreshing = false → (s.chan ch).waiting = some (.flow 0x0606 m n held) →
    ∃ s1, s1 = s.setChan ch { s.chan ch with waiting := none } ∧ exec (.flowCommandResume ch) s =
      .next (settled s (finish cmdFlowPin m s1 (records m.norm 48 recFlowPin s1 n) (cmdFlowPin.recSize m)))) ∧
  (∀ ch s m n held, ch < 4 → s.refreshing = false → (s.chan ch).waiting = some (.flow 0x0404 m n held) → s.atWork (.loadSeam ch) = true →
    ∃ s1, s1 = s.setChan ch { s.chan ch with waiting := none } ∧ exec (.flowCommandResume ch) s =
      .next (settled s ((finish cmdParseGraphLoad m s1 (loadNodes m.norm s1) 0).finishWork (· == .loadSeam ch))))

/-- R201, R228-R233: FLOW_DELETE ends a flow that is present, with a command's reason; FLOW_PIN sets or clears the pin of a flow in the hot
tier; FLOW_CLASS_SET, FLOW_NEW_LIMIT and FLOW_AGE_CONFIG read, or stage values in their ranges; FLOW_HASH_SEED sets the seeds where no
flow is present; FLOW_STATS returns its counts, and zeroes them with CLEAR. -/
def Obligations.FlowCommandsComplete : Prop :=
  (∀ m s b w s1 t, passes cmdFlowDelete m s = true → m.norm.recs 48 = [b] → (firstNonZeroAt b (span 0 7)).isNone = true → byteAt b 45 < 16 →
    ((s.requestOf (slice b 8 40)).isSome || s.reinjecting (slice b 8 40) ||
      s.parked.any (fun x => x.key.length == 40 && sameKey x.key (slice b 8 40))) = false →
    s.findFlow (slice b 8 40) .command = (w, s1) → w.home = some t → s1.endRoom = true →
    exec (.flowDelete m) s = .next (ran cmdFlowDelete m s (ok ((State.waitRoom t 17 s1).endFlow w 2)))) ∧
  (∀ m s b way e s1, passes cmdFlowPin m s = true → m.norm.recs 48 = [b] → byteAt b 0 ≤ 1 → (firstNonZeroAt b (span 1 7)).isNone = true →
    byteAt b 45 < 16 → (s.requestOf (slice b 8 40)).isSome = false → s.findFlow (slice b 8 40) .command = (.hot way e, s1) →
    exec (.flowPin m) s = .next (ran cmdFlowPin m s
      (ok (s1.setHot way { e with control := pinBit e.control (byteAt b 0 == 1), dirty := true })))) ∧
  (∀ m s b, passes cmdFlowClassSet m s = true → m.norm.recs 32 = [b] → byteAt b 0 ≤ 7 → byteAt b 1 = 0 →
    (firstNonZeroAt b (span 2 31)).isNone = true → exec (.flowClassSet m) s = .next (ran cmdFlowClassSet m s
      (ok s (classRecord (byteAt b 0) ((s.view m).flow.classes.getD (byteAt b 0) FlowClass.reset))))) ∧
  (∀ m s b x, passes cmdFlowClassSet m s = true → m.stage = true → m.norm.recs 32 = [b] → byteAt b 0 ≤ 7 → byteAt b 1 = 1 → byteAt b 2 ≤ 1 →
    byteAt b 3 ≤ 1 → (∀ i, i < 8 → 1 ≤ fieldLe b (4 + 2 * i) 2 ∧ fieldLe b (4 + 2 * i) 2 ≤ 10800) →
    (firstNonZeroAt b (span 20 31)).isNone = true → x.random = (byteAt b 2 == 1) → x.overflowDrop = (byteAt b 3 == 1) →
    x.timeouts = ((List.range 8).map fun i => fieldLe b (4 + 2 * i) 2) → exec (.flowClassSet m) s = .next (ran cmdFlowClassSet m s
      (ok (s.stageFlow fun f => { f with classes := f.classes.set (byteAt b 0) x })))) ∧
  (∀ m s b, passes cmdFlowNewLimit m s = true → m.stage = true → m.norm.recs 12 = [b] → fieldLe b 0 2 ≤ 4095 → byteAt b 2 = 1 →
    byteAt b 3 ≤ 1 → fieldLe b 4 4 ≤ 1000000 → 1 ≤ fieldLe b 8 2 → (firstNonZeroAt b [10, 11]).isNone = true →
    exec (.flowNewLimit m) s = .next (ran cmdFlowNewLimit m s (ok (s.stageFlow fun f =>
      { f with limits := tset f.limits (fieldLe b 0 2) { drop := byteAt b 3 == 1, rate := fieldLe b 4 4, depth := fieldLe b 8 2 } })))) ∧
  (∀ m s b x, passes cmdFlowNewLimit m s = true → m.norm.recs 12 = [b] → fieldLe b 0 2 ≤ 4095 → byteAt b 2 = 0 →
    (firstNonZeroAt b (span 3 11)).isNone = true → x = (tget? (s.view m).flow.limits (fieldLe b 0 2)).getD (NewLimit.mk false 0 64) →
    exec (.flowNewLimit m) s = .next (ran cmdFlowNewLimit m s
      (ok s (le 2 (fieldLe b 0 2) ++ [0] ++ le 1 x.drop.toNat ++ le 4 x.rate ++ le 2 x.depth ++ [0, 0])))) ∧
  (∀ m s, passes cmdFlowAgeConfig m s = true → m.norm.p 0 = 0 → m.norm.p 1 = 0 → zeroAt m.norm (span 2 7) = true →
    exec (.flowAgeConfig m) s = .next (ran cmdFlowAgeConfig m s
      (ok s ([0, 0] ++ le 2 (s.view m).flow.sweepPeriod ++ le 1 (s.view m).flow.scrubPeriod ++ zeros 3)))) ∧
  (∀ m s, passes cmdFlowAgeConfig m s = true → m.stage = true → m.norm.p 0 = 1 → m.norm.p 1 = 0 → zeroAt m.norm [5, 6, 7] = true →
    5 ≤ m.norm.f 2 2 → m.norm.f 2 2 ≤ 3600 → 1 ≤ m.norm.p 4 → m.norm.p 4 ≤ 24 → exec (.flowAgeConfig m) s =
      .next (ran cmdFlowAgeConfig m s (ok (s.stageFlow fun f => { f with sweepPeriod := m.norm.f 2 2, scrubPeriod := m.norm.p 4 })))) ∧
  (∀ m s, passes cmdFlowHashSeed m s = true → m.norm.p 0 = 1 → zeroAt m.norm [1, 2, 3] = true → s.flowsPresent = 0 →
    m.norm.f 4 4 ≠ m.norm.f 8 4 → exec (.flowHashSeed m) s = .next (ran cmdFlowHashSeed m s (ok { s with flow := { s.flow with
      seed0 := BitVec.ofNat 32 (m.norm.f 4 4), seed1 := BitVec.ofNat 32 (m.norm.f 8 4) } }))) ∧
  (∀ m s, passes cmdFlowStats m s = true → zeroAt m.norm (span 0 3) = true → ∃ p, exec (.flowStats m) s =
    .next (ran cmdFlowStats m s (ok s p)) ∧ p.take 4 = le 4 s.flow.hot.length ∧ p.drop 24 = bankBytes s.flow.device ++ s.flow.pipes.flatMap bankBytes) ∧
  (∀ m s, passes cmdFlowStats m s = true → m.norm.p 0 = 1 → zeroAt m.norm [1, 2, 3] = true → ∃ p, exec (.flowStats m) s =
    .next (ran cmdFlowStats m s (ok { s with flow := { s.flow with
        device := zeroBank s.flow.device, pipes := s.flow.pipes.map zeroBank,
        peak0 := s.flow.held0.length, peak1 := s.flow.held1.length } } p)) ∧
      p.take 4 = le 4 s.flow.hot.length ∧ p.drop 24 = bankBytes s.flow.device ++ s.flow.pipes.flatMap bankBytes)

/-- R200, R438: FLOW_EXPORT starts an export of a window of the flow region into a host seam of its length, on as many miners as its type
takes, answers STATUS, and ABORT of one that does not run; an export that is done copies its window, and with SNAPSHOT its hold passes
to the seam for 100 ms. That a seam of the rule store is no destination is the model's reading (log 162). -/
def Obligations.FlowExportCompletes : Prop :=
  (∀ m s k d, passes cmdFlowExport m s = true → m.norm.p 0 = 0 → zeroAt m.norm ([1, 2, 3] ++ span 16 23) = true →
    ordinalOf (s.regionRuns 0) (m.norm.f 4 4) 0 = some k → k + m.norm.f 8 4 ≤ s.regionSize 0 → 1 ≤ m.norm.f 8 4 →
    s.dram.dir.find (m.norm.f 12 4) = some d →
    ((s.seamRuns d).any fun r => (s.regionRuns 0).any fun q => r.1 < q.1 + q.2 && q.1 < r.1 + r.2) = false →
    (s.dram.dir.storeTiles d).isEmpty = true → s.seamLength d = m.norm.f 8 4 → s.flow.exporter.state ≠ .running →
    (State.newTasks TaskType.command .exporter (s.typeCfg TaskType.command).maxMiners s).isSome = true →
    ∃ x : State, x.flow.exporter.state = .running ∧ x.flow.exporter.first = m.norm.f 4 4 ∧ x.flow.exporter.count = m.norm.f 8 4 ∧
      x.flow.exporter.dest = d ∧ x.flow.exporter.holds = (if m.snap then some s.epoch.current else none) ∧
      exec (.flowExport m) s = .next (ran cmdFlowExport m s (ok x (le 4 (s.flow.exporter.sequence + 1))))) ∧
  (∀ m s, passes cmdFlowExport m s = true → m.norm.p 0 = 1 → zeroAt m.norm ([1, 2, 3] ++ span 16 23) = true →
    zeroAt m.norm (span 4 15) = true → s.flow.exporter.state ≠ .running →
    exec (.flowExport m) s = .next (ran cmdFlowExport m s (ok { s with free := s.free + 1 } (exportInfo s.flow.exporter)))) ∧
  (∀ m s, passes cmdFlowExport m s = true → m.norm.p 0 = 2 → zeroAt m.norm ([1, 2, 3] ++ span 16 23) = true →
    zeroAt m.norm (span 4 15) = true → s.flow.exporter.state ≠ .running →
    exec (.flowExport m) s = .next (ran cmdFlowExport m s (ok s (exportInfo s.flow.exporter)))) ∧
  (∀ hurt s, s.refreshing = false → s.flow.exporter.state = .running → s.atWork .exporter = true → s.flow.exporter.holds = none →
    exec (.flowExportDone hurt) s = .next (settled s ((s.upset hurt).endExport s.flow.exporter.count .done))) ∧
  (∀ hurt s e, s.refreshing = false → s.flow.exporter.state = .running → s.atWork .exporter = true → s.flow.exporter.holds = some e →
    ∃ x, x = (s.upset hurt).endExport s.flow.exporter.count .done ∧ exec (.flowExportDone hurt) s =
      .next (settled s { x with host := { x.host with
        holds := x.host.holds ++ [SeamHold.mk s.flow.exporter.dest e (s.now + 100000000)] } }))

/-! Arriving frames, the packet buffer and the host rings (spec 03, 10). -/

/-- R80, R81, R83, R85, R101, R121, R293-R302, R308, R315-R318: a frame that ends on an UP port, after the loopback of the port if one is
set, is discarded and counted, consumed by the peer-delay engine, or passed on; on a cut-through port it is passed on as it begins; its
end settles what of it was passed on, and counts a partial frame where its port has gone down; a free port dequeues the packet its
scheduler chooses; a packet older than the residence limit is discarded from the middle of its queue, of a recirculation queue and of a
reinjection queue; and a ring whose turn it is takes the record at the head of its queue and writes one burst of it, the word with the
phase bit last, a faulty descriptor discarding it (a ring's burst in the channels' round is the model's reading, log 146); a full ring
reads its consumer address every 2 us, and a holdoff that ends lets the ring interrupt again. What a loopback does to the other side,
the free bytes of a faulty word, a frame cut off by its port, the cells of the rest of a cut-through frame and the numbers of the queues
that are no port's are the model's choices too (logs 148-152). -/
def Obligations.BufferAndRingEventsComplete : Prop :=
  (∀ port frame s f s1 k, port < 26 → s.portUp port = true → s.throughLoop port frame = some (f, s1) → f.ended = true →
    (s1.rxLine port f).rxError port ((s1.rxLine port f).maxFrame port) f = some k →
    exec (.laneFrameReceive port frame) s = .next (settled s ((s1.rxLine port f).portCount port k))) ∧
  (∀ port frame s f s1 t m, port < 26 → s.portUp port = true → s.throughLoop port frame = some (f, s1) → f.ended = true →
    (s1.rxLine port f).rxError port ((s1.rxLine port f).maxFrame port) f = none → (s1.rxLine port f).pdelayAt port f.bytes = some (t, m) →
    exec (.laneFrameReceive port frame) s = .next (settled s ((s1.rxLine port f).consumePdelay port t f.bytes m))) ∧
  (∀ port frame s f s1, port < 26 → s.portUp port = true → s.throughLoop port frame = some (f, s1) → f.ended = true →
    (s1.rxLine port f).rxError port ((s1.rxLine port f).maxFrame port) f = none → (s1.rxLine port f).pdelayAt port f.bytes = none →
    exec (.laneFrameReceive port frame) s = .next (settled s (((s1.rxLine port f).rxGood port f).passOn port f.bytes false))) ∧
  (∀ port frame s f s1, port < 24 → s.portUp port = true → s.throughLoop port frame = some (f, s1) → f.ended = false →
    (s.portCfg port).cutThrough = true →
    exec (.laneFrameReceive port frame) s = .next (settled s (s1.beginFrame port f))) ∧
  (∀ id frame s a s1, s.buf.arriving.find? (fun x => x.id == id) = some a →
    s1 = State.addOctets { s with buf := { s.buf with arriving := s.buf.arriving.filter fun x => x.id != id } } a.counts
      (frame.bytes.length + 4) →
    a.cut = true ∨ s.portUp a.port = false →
    exec (.cutThroughFrameEnd id frame) s = .next (settled s ((s1.portCount a.port 7).loseFrame id))) ∧
  (∀ id frame s a s1 s2, s.buf.arriving.find? (fun x => x.id == id) = some a → a.cut = false → s.portUp a.port = true →
    s1 = State.addOctets { s with buf := { s.buf with arriving := s.buf.arriving.filter fun x => x.id != id } } a.counts
      (frame.bytes.length + 4) →
    s2 = State.rxLine (if (s.port a.port).loopback = 3 then s1.send (.frame a.port frame.bytes (!frame.fcsOk)) else s1) a.port frame →
    (∀ k, s2.rxError a.port a.maxFrame frame = some k →
      exec (.cutThroughFrameEnd id frame) s = .next (settled s ((s2.portCount a.port k).loseFrame a.id))) ∧
    (s2.rxError a.port a.maxFrame frame = none → a.passed = true →
      ∀ lost s3, (s2.rxGood a.port frame).lateClaims (portPipe a.port) a.claims frame.bytes.length = (lost, s3) →
      exec (.cutThroughFrameEnd id frame) s =
        .next (settled s (if lost then s3.loseFrame a.id else s3.wholeFrame a.id (frame.bytes.drop a.got)))) ∧
    (s2.rxError a.port a.maxFrame frame = none → a.passed = false →
      ∀ t m, s2.pdelayAt a.port frame.bytes = some (t, m) →
      exec (.cutThroughFrameEnd id frame) s = .next (settled s (s2.consumePdelay a.port t frame.bytes m))) ∧
    (s2.rxError a.port a.maxFrame frame = none → a.passed = false → s2.pdelayAt a.port frame.bytes = none →
      exec (.cutThroughFrameEnd id frame) s = .next (settled s ((s2.rxGood a.port frame).passOn a.port frame.bytes false)))) ∧
  (∀ port hurt s c e s1, isBufPort port = true → s.portFree port = true → s.schedule port = some (c, e, s1) →
    exec (.packetDequeue port hurt) s =
      .next (settled s (((hurt.store.foldl (fun s i => s.storeFault i .pipeline) s1).egress port e c hurt).notePeak))) ∧
  (∀ queue index s e s1, queue < 525312 → (s.queue queue).items[index]? = some e → e.pkt.admitted + 50000000 ≤ s.now →
    s.recordBusy queue index = false → s1 = (s.dropRecord queue index).setQueue queue
      { s.queue queue with items := (s.queue queue).items.eraseIdx index, discarded := (s.queue queue).discarded + 1 } →
    exec (.residenceExpire queue index) s = .next (settled s ((s1.bufCount BufCounter.residence).countDiscard e.pkt))) ∧
  (∀ pipe index s p, (s.recircQ pipe)[index]? = some p → p.admitted + 50000000 ≤ s.now →
    exec (.residenceExpire (pipeQueue false pipe) index) s =
      .next (settled s ((s.setRecircQ pipe ((s.recircQ pipe).eraseIdx index)).dropOld p))) ∧
  (∀ pipe index s p key, (s.reinjectQ pipe)[index]? = some (p, key) → p.admitted + 50000000 ≤ s.now →
    exec (.residenceExpire (pipeQueue true pipe) index) s =
      .next (settled s (((s.setReinjectQ pipe ((s.reinjectQ pipe).eraseIdx index)).dropOld p).releaseBehind p key))) ∧
  (∀ (ring : RingRead) s c, ring.ring < 8 → c = (s.hostRing ring.ring).channel → s.nextServed = some c → s.nextRing c = some ring.ring →
    s.burstDue c = false → exec (.ringRecordWrite ring) s = .next (settled s
      { s.serveRing ring.ring ring.hurt with host := { (s.serveRing ring.ring ring.hurt).host with served := c } })) ∧
  (∀ (s : State) ring bytes x hurt, s.hostRing ring = x → x.slot = some bytes → 4 + 512 * x.sent < bytes.length →
    s.serveRing ring hurt = State.setHostRing
      ((s.setDma x.channel { s.dma x.channel with turn := ring }).hostWrites (s.ownedByPf1 x.channel) (x.slotAddr + (4 + 512 * x.sent))
        ((bytes.drop (4 + 512 * x.sent)).take 512)) ring { x with sent := x.sent + 1 }) ∧
  (∀ (s : State) ring bytes x hurt, s.hostRing ring = x → x.slot = some bytes → bytes.length ≤ 4 + 512 * x.sent →
    s.serveRing ring hurt = State.slotWritten
      ((s.setDma x.channel { s.dma x.channel with turn := ring }).send (.hostWrite (s.ownedByPf1 x.channel) x.slotAddr
        (le 1 (byteAt bytes 0 + (if x.phase then 0x80 else 0)) ++ slice bytes 1 3))) ring) ∧
  (∀ (s : State) ring e rest x data, (s.hostRing ring).slot = none → (s.queue (ringQueue ring)).items = e :: rest →
    s.stampRx e = (false, x) → s.recordData (s.ring ring) x = (data, false) →
    s.serveRing ring {} = (s.takeSlot ring (recordHeader x data.length false ++ data)).ringBurst ring) ∧
  (∀ (s : State) ring e rest hurt s1, (s.hostRing ring).slot = none → (s.queue (ringQueue ring)).items = e :: rest →
    s1 = hurt.buffer.foldl (State.cellFault · e.pkt.pipe.toNat) s → hurt.buffer.any (·.1 == 2) = true →
    s.serveRing ring hurt = State.ringBurst (((s1.setQueue (ringQueue ring) { s1.queue (ringQueue ring) with items := rest }).bufCount
      BufCounter.ecc).countDiscard e.pkt) ring) ∧
  (∀ ring consumed s, ring < 10 → (s.hostRing ring).enabled = true → (s.hostRing ring).halted = false → (s.hostRing ring).full = true →
    s.requestReady (s.hostRing ring).channel = true → (s.hostRing ring).polled.all (· + 2000 ≤ s.now) = true → s.readsOut < 256 →
    exec (.ringConsumerPoll ring consumed) s = .next (settled s
      ((s.send (.hostRead (s.ownedByPf1 (s.hostRing ring).channel) 4 (s.hostRing ring).consumerAddr 4)).setHostRing ring
        { s.hostRing ring with consumed := consumed, polled := some s.now }))) ∧
  (∀ ring s t x, ring < 10 → s.hostRing ring = x → x.holdUntil = some t → t ≤ s.now → exec (.ringHoldoffExpire ring) s = .next (settled s
    (if x.again then (s.setHostRing ring { x with holdUntil := none, again := false }).ringIrq ring
     else s.setHostRing ring { x with holdUntil := none, again := false })))

/-! Buffer commands (spec 10). -/

/-- R295, R302-R306, R313, R314, R320, R322: QUEUE_CONFIG, SHAPER_NODE_SET, SCHED_CONFIG and MIRROR_SET stage values in their ranges, and
each read returns the view's values, SHAPER_NODE_READ also a node's state; HOSTRING_SET reads, sets, enables, disables and reports a
ring; and BUFFER_STATUS and BUFFER_THRESHOLD read, with CLEAR zero, or stage. The floor of a bucket, the removal of a node in use and
what BUFFER_STATUS counts are read by inference (log 105). -/
def Obligations.BufferCommandsComplete : Prop :=
  (∀ m s b x, passes cmdQueueConfig m s = true → m.norm.recs 8 = [b] → byteAt b 0 < 26 → byteAt b 1 ≤ 7 → byteAt b 2 = 0 →
    (firstNonZeroAt b (span 3 7)).isNone = true → x = (s.view m).queueCfg (classQueue (byteAt b 0) (byteAt b 1)) →
    exec (.queueConfig m) s = .next (ran cmdQueueConfig m s
      (ok s (le 1 (byteAt b 0) ++ le 1 (byteAt b 1) ++ [0] ++ le 1 x.alpha ++ le 2 x.min ++ le 2 x.max)))) ∧
  (∀ m s b f, passes cmdQueueConfig m s = true → m.stage = true → m.norm.recs 8 = [b] → byteAt b 0 < 26 → byteAt b 1 ≤ 7 → byteAt b 2 = 1 →
    byteAt b 3 ≤ 7 → fieldLe b 4 2 ≤ 8192 → 38 ≤ fieldLe b 6 2 →
    f = (fun v : BufCfg => { v with queues := tset v.queues (classQueue (byteAt b 0) (byteAt b 1)) { alpha := byteAt b 3, min := fieldLe b 4 2, max := fieldLe b 6 2 } }) →
    Staged.reserved { s.shadow with buf := f s.shadow.buf } ≤ 180224 →
    exec (.queueConfig m) s = .next (ran cmdQueueConfig m s (ok (s.stageBuf f)))) ∧
  (∀ m s b, passes cmdShaperNodeSet m s = true → m.stage = true → m.norm.recs 20 = [b] → fieldLe b 0 3 ≤ 131071 → byteAt b 3 = 1 →
    (s.subRecord s.shadow (fieldLe b 0 3)).isSome = true → shaperFault b = none →
    exec (.shaperNodeSet m) s = .next (ran cmdShaperNodeSet m s
      (ok (s.stageBuf fun f => { f with nodes := tset f.nodes (fieldLe b 0 3) b })))) ∧
  (∀ m s b, passes cmdShaperNodeSet m s = true → m.stage = true → m.norm.recs 20 = [b] → fieldLe b 0 3 ≤ 131071 → byteAt b 3 = 2 →
    (firstNonZeroAt b (span 4 19)).isNone = true → (s.subRecord s.shadow (fieldLe b 0 3)).isSome = true → exec (.shaperNodeSet m) s = .next (ran cmdShaperNodeSet m s
      (ok (s.stageBuf fun f => { f with nodes := tdel f.nodes (fieldLe b 0 3) })))) ∧
  (∀ m s, passes cmdShaperNodeRead m s = true → m.norm.f 0 3 ≤ 131071 → m.norm.p 3 = 0 → zeroAt m.norm (span 4 7) = true →
    exec (.shaperNodeRead m) s = .next (ran cmdShaperNodeRead m s (ok s (((s.view m).node (m.norm.f 0 3)).getD (zeros 20))))) ∧
  (∀ m s, passes cmdShaperNodeRead m s = true → m.norm.f 0 3 ≤ 131071 → m.norm.p 3 = 1 → zeroAt m.norm (span 4 7) = true →
    exec (.shaperNodeRead m) s = .next (ran cmdShaperNodeRead m s (ok s (nodeState s (m.norm.f 0 3))))) ∧
  (∀ m s b, passes cmdSchedConfig m s = true → m.norm.recs 16 = [b] → byteAt b 0 ≤ 25 → byteAt b 1 = 0 →
    (firstNonZeroAt b (span 2 15)).isNone = true → exec (.schedConfig m) s = .next (ran cmdSchedConfig m s
      (ok s (schedRecord (byteAt b 0) ((s.view m).buf.sched.getD (byteAt b 0) SchedCfg.reset))))) ∧
  (∀ m s b x, passes cmdSchedConfig m s = true → m.stage = true → m.norm.recs 16 = [b] → byteAt b 0 ≤ 25 → byteAt b 1 = 1 → byteAt b 3 ≤ 7 →
    (∀ i, 4 ≤ i → i ≤ 11 → byteAt b i ≠ 0) → fieldLe b 12 4 ≤ 400000 →
    x = SchedCfg.mk (b.getD 2 0) (byteAt b 3) ((span 4 11).map (byteAt b)) (fieldLe b 12 4) →
    exec (.schedConfig m) s = .next (ran cmdSchedConfig m s (ok (s.stageBuf fun f => { f with sched := f.sched.set (byteAt b 0) x })))) ∧
  (∀ m s b, passes cmdMirrorSet m s = true → m.norm.recs 16 = [b] → byteAt b 0 ≤ 15 → byteAt b 1 = 0 →
    (firstNonZeroAt b (span 2 15)).isNone = true → exec (.mirrorSet m) s = .next (ran cmdMirrorSet m s
      (ok s (((s.view m).session (byteAt b 0)).getD (le 1 (byteAt b 0) ++ zeros 15))))) ∧
  (∀ m s b, passes cmdMirrorSet m s = true → m.stage = true → m.norm.recs 16 = [b] → byteAt b 0 ≤ 15 → byteAt b 1 = 1 → sessionFault b = none →
    exec (.mirrorSet m) s = .next (ran cmdMirrorSet m s
      (ok (s.stageBuf fun f => { f with mirrors := tset f.mirrors (byteAt b 0) (splice b 1 [0]) })))) ∧
  (∀ m s b, passes cmdMirrorSet m s = true → m.stage = true → m.norm.recs 16 = [b] → byteAt b 0 ≤ 15 → byteAt b 1 = 2 →
    (firstNonZeroAt b (span 2 15)).isNone = true → (s.shadow.session (byteAt b 0)).isSome = true →
    exec (.mirrorSet m) s = .next (ran cmdMirrorSet m s (ok (s.stageBuf fun f => { f with mirrors := tdel f.mirrors (byteAt b 0) })))) ∧
  (∀ m s, passes cmdHostringSet m s = true → m.norm.p 0 ≤ 7 → m.norm.p 1 = 0 → zeroAt m.norm (span 2 39) = true →
    exec (.hostringSet m) s = .next (ran cmdHostringSet m s (ok s (hostringRecord (m.norm.p 0) 0 (s.ring (m.norm.p 0)))))) ∧
  (∀ m s y, passes cmdHostringSet m s = true → m.norm.p 0 ≤ 7 → m.norm.p 1 = 1 → s.channelBad m.norm (m.norm.p 2) = false → m.norm.p 3 ≤ 1 →
    geometryFault m.norm = none → zeroAt m.norm (span 24 39) = true → (s.ring (m.norm.p 0)).enabled = false →
    y = { s.ring (m.norm.p 0) with channel := m.norm.p 2, irq := m.norm.p 3 == 1, j := m.norm.p 4, k := m.norm.p 5, holdoff := m.norm.f 6 2, base := m.norm.f 8 8, consumerAddr := m.norm.f 16 8 } →
    exec (.hostringSet m) s = .next (ran cmdHostringSet m s (ok (s.setRing (m.norm.p 0) y) (hostringRecord (m.norm.p 0) 1 y)))) ∧
  (∀ m s, passes cmdHostringSet m s = true → m.norm.p 0 ≤ 7 → m.norm.p 1 = 2 → zeroAt m.norm (span 2 39) = true →
    exec (.hostringSet m) s = .next (ran cmdHostringSet m s (ok (s.setRing (m.norm.p 0) (s.ring (m.norm.p 0)).start)))) ∧
  (∀ m s, passes cmdHostringSet m s = true → m.norm.p 0 ≤ 7 → m.norm.p 1 = 3 → zeroAt m.norm (span 2 39) = true →
    exec (.hostringSet m) s = .next (ran cmdHostringSet m s (ok ((s.emptyRing (m.norm.p 0)).setRing (m.norm.p 0) (s.ring (m.norm.p 0)).stop)))) ∧
  (∀ m s, passes cmdHostringSet m s = true → m.norm.p 0 ≤ 7 → m.norm.p 1 = 4 → m.norm.p 3 = 0 → zeroAt m.norm (2 :: span 4 39) = true →
    exec (.hostringSet m) s = .next (ran cmdHostringSet m s (ok s (hostringStatus s (m.norm.p 0))))) ∧
  (∀ m s, passes cmdBufferStatus m s = true → m.norm.p 0 = 0 → m.norm.p 1 = 0 → m.norm.p 2 = 1 → m.norm.p 3 = 0 →
    exec (.bufferStatus m) s = .next (ran cmdBufferStatus m s
      (ok { s with buf := { s.buf with counters := zeroBank s.buf.counters, peakU := s.sharedUse } } (deviceBlock s ++ bankBytes s.buf.counters)))) ∧
  (∀ m s, passes cmdBufferStatus m s = true → m.norm.p 0 = 1 → m.norm.p 1 < 26 → m.norm.p 2 = 0 → m.norm.p 3 = 0 →
    exec (.bufferStatus m) s = .next (ran cmdBufferStatus m s
      (ok s (((List.range 8).map (classQueue (m.norm.p 1))).flatMap (classEntry s))))) ∧
  (∀ m s f, passes cmdBufferThreshold m s = true → m.norm.p 0 = 0 → zeroAt m.norm (span 1 7) = true → f = (s.view m).buf →
    exec (.bufferThreshold m) s = .next (ran cmdBufferThreshold m s (ok s ([0] ++ le 1 f.subAlpha ++ zeros 2 ++ le 2 f.res0 ++ le 2 f.res1)))) ∧
  (∀ m s g, passes cmdBufferThreshold m s = true → m.stage = true → m.norm.p 0 = 1 → m.norm.p 1 ≤ 7 → zeroAt m.norm [2, 3] = true →
    m.norm.f 4 2 ≤ 32768 → m.norm.f 6 2 ≤ 32768 →
    g = (fun v : BufCfg => { v with subAlpha := m.norm.p 1, res0 := m.norm.f 4 2, res1 := m.norm.f 6 2 }) →
    Staged.reserved { s.shadow with buf := g s.shadow.buf } ≤ 180224 →
    exec (.bufferThreshold m) s = .next (ran cmdBufferThreshold m s (ok (s.stageBuf g))))

/-! Forwarding (spec 09). -/

/-- R267, R271, R275, R276, R282, R284-R289: the learn unit applies the event at the head of a pipeline's queue and visits the next entry
when its turn comes; a bulk removal on the LEARN task's miner removes the LEARNED entries it names; a repair task on a miner restores an
entry whose copy is sound, and one whose copy fails assay waits on behind the others; the bridge commands stage HOST entries, domains,
limits and the configuration, remove entries, and read. Which way a HOST entry claims, the reads of what is undefined and the ageing
order are read by inference (logs 102, 103), and the copies' tiles are the model's choice (log 143). -/
def Obligations.BridgeTablesComplete : Prop :=
  (∀ pipe s e q, s.fwd.queue pipe = e :: q → exec (.learnEventApply pipe) s =
    .next (settled s (State.applyLearn { s with fwd := s.fwd.setQueue pipe q } pipe e))) ∧
  (∀ pipe s w s1, s.agedWay pipe (s.fwd.age pipe) = some w →
    s.fwd.ageStart pipe + w * (s.cur.fwd.bridgeAge * 1000000000) / 262144 ≤ s.flowNow → s1 = s.ageWay pipe w →
    exec (.bridgeAgeVisit pipe) s = .next (settled s { s1 with fwd := s1.fwd.setAge pipe (w + 1) (s.fwd.ageStart pipe) })) ∧
  (∀ pipe s, s.agedWay pipe (s.fwd.age pipe) = none → s.fwd.ageStart pipe + s.cur.fwd.bridgeAge * 1000000000 ≤ s.flowNow →
    exec (.bridgeAgeVisit pipe) s =
      .next { s with fwd := s.fwd.setAge pipe 0 (s.fwd.ageStart pipe + s.cur.fwd.bridgeAge * 1000000000) }) ∧
  (∀ s r rest s1, s.fwd.bulk = r :: rest → s.serves TaskType.learn = true → s1 = { s with fwd := { s.fwd with bulk := rest } } →
    exec .bulkLearnedRemoval s = .next (settled s
      ((maskPipes r.pipeMask).foldl (fun s p => s.setLearned p ((s.fwd.learned p).filter fun e => !r.names e.2)) s1))) ∧
  (∀ s b t x s1, s.refreshing = false → s.fwd.broken.find? (fun b => s.atWork (if b.isRoute then .routeRepair else .fwdRepair) && s.fwd.copies.any (·.1 == b)) = some b →
    s.fwd.copies.find? (fun c => c.1 == b) = some (b, t) → s.readTile t .miner = (some x, s1) →
    exec .forwardingRepair s = .next (settled s { s1 with fwd := { s1.fwd with broken := s1.fwd.broken.filter (· != b) } })) ∧
  (∀ s b t s1, s.refreshing = false → s.fwd.broken.find? (fun b => s.atWork (if b.isRoute then .routeRepair else .fwdRepair) && s.fwd.copies.any (·.1 == b)) = some b →
    s.fwd.copies.find? (fun c => c.1 == b) = some (b, t) → s.readTile t .miner = (none, s1) →
    exec .forwardingRepair s = .next (settled s { s1 with fwd := { s1.fwd with broken := s1.fwd.broken.filter (· != b) ++ [b] } })) ∧
  (∀ m s b x d mac places, passes cmdBridgeEntrySet m s = true → m.stage = true → m.norm.recs 16 = [b] → d = fieldLe b 0 2 →
    mac = ofBe (slice b 2 6) → tget? s.shadow.fwd.domains d = some x → bitAt b 2 0 = false → (byteAt b 8 ≤ 25 ∨ byteAt b 8 = 0xFF) →
    byteAt b 9 ≤ 3 → (x.sync = true → byteAt b 9 = 3) → (firstNonZeroAt b (span 10 15)).isNone = true →
    places = ((maskPipes (byteAt b 9)).map fun p => (p, s.claimWay p d mac)) → (∀ p ∈ places, p.2.isSome = true) →
    exec (.bridgeEntrySet m) s = .next (ran cmdBridgeEntrySet m s (ok (s.stageFwd fun f =>
      places.foldl (fun f p => s.stageHost p.1 (bridgeKey d mac) (byteAt b 8) (p.2.getD 0) f) f)))) ∧
  (∀ m s b, passes cmdBridgeEntryDelete m s = true → m.stage = false → m.norm.recs 12 = [b] → byteAt b 0 = 0 → byteAt b 1 ≤ 3 →
    fieldLe b 2 2 ≤ 4095 → (firstNonZeroAt b [10, 11]).isNone = true → exec (.bridgeEntryDelete m) s = .next (ran cmdBridgeEntryDelete m s
      (ok ((maskPipes (byteAt b 1)).foldl (State.unlearn · (fieldLe b 2 2) (ofBe (slice b 4 6))) s)))) ∧
  (∀ m s b, passes cmdBridgeEntryDelete m s = true → m.norm.recs 12 = [b] → byteAt b 0 = 2 → byteAt b 1 ≤ 3 →
    fieldLe b 2 2 ≤ 4095 → (firstNonZeroAt b (span 4 11)).isNone = true → exec (.bridgeEntryDelete m) s = .next (ran cmdBridgeEntryDelete m s
      (ok { s with fwd := { s.fwd with bulk := s.fwd.bulk ++ [BulkRemoval.mk false (byteAt b 1) (fieldLe b 2 2)] } }))) ∧
  (∀ m s, passes cmdBridgeRead m s = true → m.norm.p 0 = 0 → m.norm.p 1 ≤ 1 → zeroAt m.norm [2, 3] = true → m.norm.f 4 2 ≤ 4095 →
    exec (.bridgeRead m) s = .next (ran cmdBridgeRead m s (ok s (le 4 (s.entryCount (s.view m) (m.norm.p 1 == 1)) ++ le 4 s.fwd.seed.toNat ++
      s.keyView (s.view m) (m.norm.p 1 == 1) (m.norm.f 4 2) (ofBe (slice m.norm.params 6 6)))))) ∧
  (∀ m s b, passes cmdBridgeDomainSet m s = true → m.norm.recs 16 = [b] → byteAt b 0 = 1 → byteAt b 1 = 0 → fieldLe b 2 2 ≤ 4095 →
    (firstNonZeroAt b (span 4 15)).isNone = true → exec (.bridgeDomainSet m) s = .next (ran cmdBridgeDomainSet m s
      (ok s (domainRecord (s.view m).fwd (fieldLe b 2 2))))) ∧
  (∀ m s b x, passes cmdBridgeDomainSet m s = true → m.stage = true → m.norm.recs 16 = [b] → byteAt b 0 = 1 → byteAt b 1 = 1 →
    fieldLe b 2 2 ≤ 4095 → fieldLe b 4 4 < 2 ^ 26 → byteAt b 8 ≤ 15 → (firstNonZeroAt b (span 9 15)).isNone = true →
    x = Domain.mk (BitVec.ofNat 26 (fieldLe b 4 4)) (bitAt b 8 0) (bitAt b 8 1) (bitAt b 8 2) (bitAt b 8 3) →
    (x.sync = true → ((tdel s.shadow.fwd.domains (fieldLe b 2 2)).filter fun e => e.2.sync).length < 64) →
    exec (.bridgeDomainSet m) s = .next (ran cmdBridgeDomainSet m s
      (ok (s.stageFwd fun f => { f with domains := tset f.domains (fieldLe b 2 2) x })))) ∧
  (∀ m s b x, passes cmdLearnLimitSet m s = true → m.norm.recs 8 = [b] → byteAt b 0 ≤ 25 → byteAt b 1 = 0 →
    (firstNonZeroAt b (span 2 7)).isNone = true → x = (s.view m).learnLimit (byteAt b 0) →
    exec (.learnLimitSet m) s = .next (ran cmdLearnLimitSet m s (ok s (le 1 (byteAt b 0) ++ [0] ++ le 1 x.flood.toNat ++ [0] ++ le 2 x.limit ++
      le 2 (satur 16 (s.learnedCount (s.view m) (byteAt b 0))))))) ∧
  (∀ m s b x, passes cmdLearnLimitSet m s = true → m.stage = true → m.norm.recs 8 = [b] → byteAt b 0 ≤ 25 → byteAt b 1 = 1 → byteAt b 2 ≤ 1 →
    (firstNonZeroAt b [3, 6, 7]).isNone = true → x.flood = (byteAt b 2 == 1) → x.limit = fieldLe b 4 2 →
    exec (.learnLimitSet m) s = .next (ran cmdLearnLimitSet m s (ok (s.stageFwd fun f => { f with limits := f.limits.set (byteAt b 0) x })))) ∧
  (∀ m s, passes cmdLearnConfig m s = true → m.norm.p 0 = 0 → m.norm.p 1 = 0 → zeroAt m.norm (span 2 31) = true →
    exec (.learnConfig m) s = .next (ran cmdLearnConfig m s (ok s (learnConfigRecord (s.view m).fwd)))) ∧
  (∀ m s, passes cmdLearnConfig m s = true → m.stage = true → m.norm.p 0 = 1 → m.norm.p 1 = 0 → zeroAt m.norm [2, 3, 10, 11] = true →
    m.norm.f 12 4 ≤ 10000 → 10 ≤ m.norm.f 16 4 → m.norm.f 16 4 ≤ 1000000 → m.norm.p 20 ≤ 7 → m.norm.p 21 ≤ 1 → m.norm.p 22 ≤ 7 →
    zeroAt m.norm (span 23 31) = true → exec (.learnConfig m) s = .next (ran cmdLearnConfig m s (ok (s.stageFwd fun f =>
      { f with routerMac := slice m.norm.params 4 6, moveGuard := m.norm.f 12 4, bridgeAge := m.norm.f 16 4, learnRing := m.norm.p 20,
               ttlToHost := m.norm.p 21 == 1, ttlRing := m.norm.p 22 }))))

/-- R278-R280, R290-R292, R339: ROUTE_LOAD inserts and deletes routes in the shadow, or starts a build with the next sequence number and at
most 8 tasks; a build that a miner is at ends: where its list passes its checks it is staged, and a tile that fails assay ends it FAILED
with reason 1, a record that fails its checks with the record's reason, each naming the first failing tile; ROUTE_READ finds the longest
prefix or lists the routes; NEXTHOP_SET sets or removes a next hop, and NEXTHOP_READ returns records. When a build whose list needs
places that the store lacks while a version drains is refused, and when it waits for them, is the model's choice (log 141). -/
def Obligations.RoutesComplete : Prop :=
  (∀ m s b, passes cmdRouteLoad m s = true → m.stage = true → (m.norm.batch = true ∨ m.norm.p 0 ≠ 3) → m.norm.recs 28 = [b] → byteAt b 0 = 1 →
    s.fwd.build.state ≠ .running → routeFault b true = none →
    ((tget? s.shadow.fwd.routes (recordKey b)).isSome = true ∨
      familyCount s.shadow.fwd.routes (byteAt b 1 == 6) < familyLimit (byteAt b 1 == 6)) →
    (s.drain.isSome = true → (s.stageFwd fun f => { f with routes := tset f.routes (recordKey b) (fieldLe b 24 4) }).placesHeld (byteAt b 1 == 6) ≤
      2 * familyLimit (byteAt b 1 == 6)) → exec (.routeLoad m) s = .next (ran cmdRouteLoad m s
      (ok (s.stageFwd fun f => { f with routes := tset f.routes (recordKey b) (fieldLe b 24 4) })))) ∧
  (∀ m s b, passes cmdRouteLoad m s = true → m.stage = true → (m.norm.batch = true ∨ m.norm.p 0 ≠ 3) → m.norm.recs 28 = [b] → byteAt b 0 = 2 →
    s.fwd.build.state ≠ .running → routeFault b false = none → (tget? s.shadow.fwd.routes (recordKey b)).isSome = true →
    exec (.routeLoad m) s = .next (ran cmdRouteLoad m s (ok (s.stageFwd fun f => { f with routes := tdel f.routes (recordKey b) })))) ∧
  (∀ m s i s1, passes cmdRouteLoad m s = true → m.stage = true → m.norm.batch = false → m.norm.p 0 = 3 → s.fwd.build.state ≠ .running →
    zeroAt m.norm ([1, 2, 3] ++ span 12 15) = true → s.dram.dir.find (m.norm.f 4 4) = some i → s.seamLength i = (m.norm.f 8 4 + 1) / 2 →
    (s.listRoutes i (m.norm.f 8 4)).all s.placesFor = true →
    State.newTasks TaskType.seamBuild .routeBuild (min 8 (s.typeCfg TaskType.seamBuild).maxMiners) s = some s1 →
    exec (.routeLoad m) s = .next (ran cmdRouteLoad m s (ok { s1 with fwd := { s1.fwd with
      sequence := s.fwd.sequence + 1,
      build := Build.mk .running 0 0 none s.now 0 none (some i) (m.norm.f 8 4) } } (le 4 (s.fwd.sequence + 1))))) ∧
  (∀ hurt s, s.refreshing = false → s.fwd.build.state = .running → s.sealed = false → s.atWork .routeBuild = true → s.drain = none →
    ∃ u, exec (.routeBuildComplete hurt) s = .next u ∧ (u.fwd.build.state = .staged ∨ u.fwd.build.state = .failed)) ∧
  (∀ hurt s b i ps s1 t, s.refreshing = false → s.fwd.build = b → b.state = .running → s.sealed = false → s.atWork .routeBuild = true → b.list = some i →
    readCells s.cur hurt .miner (s.seamCells i) (s.upset hurt) = (ps, s1) → ps.findIdx? (·.isNone) = none →
    checkRouteTiles (ps.map fun p => p.getD []) 0 b.count [] = .ok t → s1.placesFor t = true →
    exec (.routeBuildComplete hurt) s = .next (settled s
      ((s1.stageFwd fun f => { f with routes := t }).endRouteBuild { b with state := .staged, processed := b.count }))) ∧
  (∀ hurt s b i ps s1 k, s.refreshing = false → s.fwd.build = b → b.state = .running → s.sealed = false → s.atWork .routeBuild = true → b.list = some i →
    readCells s.cur hurt .miner (s.seamCells i) (s.upset hurt) = (ps, s1) → ps.findIdx? (·.isNone) = some k →
    exec (.routeBuildComplete hurt) s =
      .next (settled s (s1.endRouteBuild { b with state := .failed, reason := 1, ordinal := some k }))) ∧
  (∀ hurt s b i ps s1 reason k, s.refreshing = false → s.fwd.build = b → b.state = .running → s.sealed = false → s.atWork .routeBuild = true → b.list = some i →
    readCells s.cur hurt .miner (s.seamCells i) (s.upset hurt) = (ps, s1) → ps.findIdx? (·.isNone) = none →
    checkRouteTiles (ps.map fun p => p.getD []) 0 b.count [] = .error (reason, k) →
    exec (.routeBuildComplete hurt) s =
      .next (settled s (s1.endRouteBuild { b with state := .failed, reason := reason, ordinal := some k }))) ∧
  (∀ m s, passes cmdRouteRead m s = true → m.norm.p 0 = 0 → m.norm.p 1 = 4 → zeroAt m.norm ([2, 3, 6, 7] ++ span 12 23) = true →
    exec (.routeRead m) s = .next (ran cmdRouteRead m s
      (ok s (match longestRoute (s.view m).fwd.routes (m.norm.f 4 2) false (ofBe (slice m.norm.params 8 4) * 2 ^ 96) 32 with
             | some (k, n) => routeRecord k n
             | none => zeros 28)))) ∧
  (∀ m s, passes cmdRouteRead m s = true → m.norm.p 0 = 0 → m.norm.p 1 = 6 → zeroAt m.norm [2, 3, 6, 7] = true →
    exec (.routeRead m) s = .next (ran cmdRouteRead m s
      (ok s (match longestRoute (s.view m).fwd.routes (m.norm.f 4 2) true (ofBe (slice m.norm.params 8 16)) 128 with
             | some (k, n) => routeRecord k n
             | none => zeros 28)))) ∧
  (∀ m s t, passes cmdRouteRead m s = true → m.norm.p 0 = 1 → zeroAt m.norm [1] = true → 1 ≤ m.norm.p 2 → m.norm.p 2 ≤ 145 →
    zeroAt m.norm (span 3 7 ++ span 12 23) = true → t = (s.view m).fwd.routes → m.norm.f 8 4 ≤ t.length →
    exec (.routeRead m) s = .next (ran cmdRouteRead m s
      (ok s (le 4 t.length ++ le 4 (if m.norm.f 8 4 + m.norm.p 2 < t.length then m.norm.f 8 4 + m.norm.p 2 else 0xFFFFFFFF) ++
        ((t.drop (m.norm.f 8 4)).take (m.norm.p 2)).flatMap fun e => routeRecord e.1 e.2)))) ∧
  (∀ m s, passes cmdRouteRead m s = true → m.norm.p 0 = 2 → zeroAt m.norm (span 1 23) = true →
    exec (.routeRead m) s = .next (ran cmdRouteRead m s (ok s (routeStatus s)))) ∧
  (∀ m s b, passes cmdNexthopSet m s = true → m.stage = true → m.norm.recs 32 = [b] → fieldLe b 0 4 ≤ 65535 → byteAt b 4 = 1 →
    hopFault b = none → exec (.nexthopSet m) s = .next (ran cmdNexthopSet m s
      (ok (s.stageFwd fun f => { f with nexthops := tset f.nexthops (fieldLe b 0 4) b })))) ∧
  (∀ m s b, passes cmdNexthopSet m s = true → m.stage = true → m.norm.recs 32 = [b] → fieldLe b 0 4 ≤ 65535 → byteAt b 4 = 2 →
    hopFault b = none → exec (.nexthopSet m) s = .next (ran cmdNexthopSet m s
      (ok (s.stageFwd fun f => { f with nexthops := tdel f.nexthops (fieldLe b 0 4) })))) ∧
  (∀ m s, passes cmdNexthopRead m s = true → m.norm.f 0 4 + m.norm.p 4 ≤ 65536 → 1 ≤ m.norm.p 4 → m.norm.p 4 ≤ 127 →
    zeroAt m.norm [5, 6, 7] = true → exec (.nexthopRead m) s = .next (ran cmdNexthopRead m s (ok s ((List.range (m.norm.p 4)).flatMap fun i =>
      (tget? (s.view m).fwd.nexthops (m.norm.f 0 4 + i)).getD (le 4 (m.norm.f 0 4 + i) ++ zeros 28)))))

/-! Translation, balancing and subscribers (spec 08). -/

/-- R243, R247, R254-R256, R260: NAT_POOL_SET stages a pool, an address of it or a removal; NAT_BLOCK_CONFIG and the reads answer; a release
frees the binding or the block; and on the sweep's miner the due visit visits every binding and block, a deferred release is made once
its record finds room, or ends where its block is gone or EMPTY no longer, and a repair task on a miner rebuilds its binding. -/
def Obligations.NatCommandsComplete : Prop :=
  (∀ m s b, passes cmdNatPoolSet m s = true → m.stage = true → m.norm.recs 32 = [b] → byteAt b 0 = 1 → byteAt b 2 = 0 → s.poolFault b = none →
    (firstNonZeroAt b (span 28 31)).isNone = true → s.poolHeld (byteAt b 1) b = none →
    exec (.natPoolSet m) s = .next (ran cmdNatPoolSet m s (ok (s.stageNat fun c => { c with
      pools := tset c.pools (byteAt b 1) b, addrs := c.addrs.filter fun a => a.1 / 4096 != byteAt b 1 || decide (a.1 % 4096 < poolA b) })))) ∧
  (∀ m s b, passes cmdNatPoolSet m s = true → m.stage = true → m.norm.recs 32 = [b] → byteAt b 0 = 1 → byteAt b 2 = 1 →
    (firstNonZeroAt b (span 3 31)).isNone = true → (s.shadow.pool (byteAt b 1)).isSome = true → s.poolInUse (byteAt b 1) = false →
    s.shadow.nat.namesPool (byteAt b 1) = false → exec (.natPoolSet m) s = .next (ran cmdNatPoolSet m s (ok (s.stageNat fun c => { c with
      pools := tdel c.pools (byteAt b 1), addrs := c.addrs.filter fun a => a.1 / 4096 != byteAt b 1 })))) ∧
  (∀ m s b r, passes cmdNatPoolSet m s = true → m.stage = true → m.norm.recs 32 = [b] → byteAt b 0 = 2 →
    s.shadow.pool (byteAt b 1) = some r → byteAt b 2 ≤ 1 → byteAt b 3 = 0 → fieldLe b 4 2 < poolA r →
    (firstNonZeroAt b (span 6 11 ++ span 16 31)).isNone = true →
    (∀ a ∈ s.shadow.nat.addrs, a.1 ≠ byteAt b 1 * 4096 + fieldLe b 4 2 → slice a.2 12 4 ≠ slice b 12 4) →
    exec (.natPoolSet m) s = .next (ran cmdNatPoolSet m s
      (ok (s.stageNat fun c => { c with addrs := tset c.addrs (byteAt b 1 * 4096 + fieldLe b 4 2) b })))) ∧
  (∀ m s r bs s1, passes cmdNatPoolRead m s = true → m.norm.p 0 = 1 → (s.view m).pool (m.norm.p 1) = some r → zeroAt m.norm (span 2 7) = true →
    State.readBindings .command ((s.poolBlocks r).flatMap fun b => s.blockRun b.1) s = (bs, s1) →
    exec (.natPoolRead m) s = .next (ran cmdNatPoolRead m s (ok s1 (fit 32 r ++ le 4 (s.poolBlocks r).length ++
      le 4 (poolRuns r - (s.poolBlocks r).length) ++ le 4 (bindingsIn bs 1) ++ le 4 (bindingsIn bs 2))))) ∧
  (∀ m s, passes cmdNatBlockConfig m s = true → m.norm.p 0 = 0 → m.norm.p 1 = 0 → zeroAt m.norm (span 2 7) = true →
    exec (.natBlockConfig m) s = .next (ran cmdNatBlockConfig m s
      (ok s ([0, 0] ++ le 2 (s.view m).nat.bindingHold ++ le 2 (s.view m).nat.blockHold ++ [0, 0])))) ∧
  (∀ m s, passes cmdNatBlockConfig m s = true → m.stage = true → m.norm.p 0 = 1 → m.norm.p 1 = 0 → zeroAt m.norm [6, 7] = true →
    120 ≤ m.norm.f 2 2 → m.norm.f 2 2 ≤ 3600 → m.norm.f 4 2 ≤ 3600 → exec (.natBlockConfig m) s = .next (ran cmdNatBlockConfig m s
      (ok (s.stageNat fun c => { c with bindingHold := m.norm.f 2 2, blockHold := m.norm.f 4 2 })))) ∧
  (∀ m s b s1, passes cmdNatBindingRead m s = true → m.norm.p 0 = 0 → 1 ≤ m.norm.p 1 → m.norm.p 1 ≤ 60 →
    zeroAt m.norm ([2, 3] ++ span 8 11) = true → m.norm.f 4 4 + m.norm.p 1 ≤ s.regionSize 1 →
    State.bindingViews ((List.range (m.norm.p 1)).map (m.norm.f 4 4 + ·)) s = (b, s1) →
    exec (.natBindingRead m) s = .next (ran cmdNatBindingRead m s (ok s1 b))) ∧
  (∀ m s b e s1, passes cmdNatBindingRelease m s = true → m.norm.recs 8 = [b] → byteAt b 0 = 0 → (firstNonZeroAt b [1, 2, 3]).isNone = true →
    fieldLe b 4 4 < s.regionSize 1 → s.readBinding (fieldLe b 4 4) .command = (some e, s1) →
    exec (.natBindingRelease m) s = .next (ran cmdNatBindingRelease m s (ok (s1.freeBinding (fieldLe b 4 4))))) ∧
  (∀ m s b, passes cmdNatBindingRelease m s = true → m.norm.recs 8 = [b] → byteAt b 0 = 1 → (firstNonZeroAt b [1, 2, 3]).isNone = true →
    (s.block (fieldLe b 4 4)).isSome = true →
    exec (.natBindingRelease m) s = .next (ran cmdNatBindingRelease m s (ok (s.dropBlock (fieldLe b 4 4) 2)))) ∧
  (∀ s slots s1, s.refreshing = false → s.writeRoom 1 = true → s.serves TaskType.sweep = true → s.nat.visitDue = true → slots = s.nat.blocks.map (·.1) →
    s1 = slots.foldl State.visitBlock ((slots.flatMap s.blockRun).foldl State.visitBinding s) →
    exec .bindingVisit s = .next (settled s { s1 with nat := { s1.nat with live := [], visitDue := false } })) ∧
  (∀ s x rest, s.refreshing = false → s.writeRoom 1 = true → s.nat.deferred = x :: rest →
    s.serves TaskType.sweep = true → s.stagingRoom 258 = true → (s.block (x % 2 ^ 20)).isSome = true →
    x / 2 ^ 20 ≠ 1 ∨ (∀ i ∈ s.blockRun (x % 2 ^ 20), s.bindingAt i = none) →
    exec .deferredBlockRelease s = .next (settled s (s.dropBlock (x % 2 ^ 20) (x / 2 ^ 20)))) ∧
  (∀ s x rest, s.refreshing = false → s.writeRoom 1 = true → s.nat.deferred = x :: rest → s.serves TaskType.sweep = true →
    s.stagingRoom 258 = true → s.block (x % 2 ^ 20) = none →
    exec .deferredBlockRelease s = .next (settled s { s with nat := { s.nat with deferred := rest } })) ∧
  (∀ s x rest i, s.refreshing = false → s.writeRoom 1 = true → s.nat.deferred = x :: rest → s.serves TaskType.sweep = true → s.stagingRoom 258 = true → x / 2 ^ 20 = 1 →
    i ∈ s.blockRun (x % 2 ^ 20) → (s.bindingAt i).isSome = true →
    exec .deferredBlockRelease s = .next (settled s { s with nat := { s.nat with deferred := rest } })) ∧
  (∀ hurt s idx key stamp s1, s.refreshing = false → s.writeRoom 1 = true →
    s.nat.repairs.find? (fun r => s.atWork (.repair r.1 r.2.1 r.2.2)) = some (idx, key, stamp) →
    s1 = (s.upset hurt).repairBinding idx key stamp → exec (.bindingRepair hurt) s = .next (settled s
      (({ s1 with nat := { s1.nat with repairs := s1.nat.repairs.erase (idx, key, stamp) } }).finishWork
        fun w => w == Work.repair idx key stamp)))

/-- R235, R240-R242, R257, R258, R260: BAL_GROUP_SET creates a group with its slot table, BAL_MEMBER_SET and BAL_MEMBER_DRAIN stage members
with the slots recomputed, and BAL_GROUP_READ returns them; SUB_WRITE, SUB_POLICY_SET and ACTION_WRITE stage records without fault, and
their reads return them; and the counter cache is added into the subscriber tiles. -/
def Obligations.SubscribersAndActionsComplete : Prop :=
  (∀ m s b runs rest d s1, passes cmdBalGroupSet m s = true → m.stage = true → m.norm.recs 8 = [b] → fieldLe b 0 2 ≤ 4095 → byteAt b 2 = 0 →
    (firstNonZeroAt b (span 3 7)).isNone = true → s.shadow.group (fieldLe b 0 2) = none → allocRuns s.dram.free 69 = some (runs, rest) →
    descsFor runs ≤ s.dram.dir.freeCount → State.newRuns { s with dram := { s.dram with free := rest } } runs false = (d, s1) →
    exec (.balGroupSet m) s = .next (ran cmdBalGroupSet m s (ok (s1.stageNat fun c =>
      { c with groups := tset c.groups (fieldLe b 0 2) (Sys2Proof.Machine.Group.mk [] (List.replicate 4096 0xFF) (some d)) })))) ∧
  (∀ m s b, passes cmdBalMemberSet m s = true → m.stage = true → m.norm.recs 12 = [b] → (s.shadow.group (fieldLe b 0 2)).isSome = true →
    byteAt b 3 = 1 → fieldLe b 4 4 ≤ 65535 → byteAt b 8 ≠ 0 → (firstNonZeroAt b [9, 10, 11]).isNone = true →
    exec (.balMemberSet m) s = .next (ran cmdBalMemberSet m s (ok (s.stageGroup (fieldLe b 0 2) fun x =>
      { x with members := tset x.members (byteAt b 2) (fieldLe b 4 4, byteAt b 8, false) })))) ∧
  (∀ m s b x, passes cmdBalMemberDrain m s = true → m.stage = true → m.norm.recs 4 = [b] → s.shadow.group (fieldLe b 0 2) = some x →
    (tget? x.members (byteAt b 2)).isSome = true → (firstNonZeroAt b [3]).isNone = true →
    exec (.balMemberDrain m) s = .next (ran cmdBalMemberDrain m s (ok (s.stageGroup (fieldLe b 0 2) fun x =>
      { x with members := tmap x.members fun n y => if n = byteAt b 2 then (y.1, y.2.1, true) else y })))) ∧
  (∀ m s x, passes cmdBalGroupRead m s = true → (s.view m).group (m.norm.f 0 2) = some x → m.norm.p 2 = 1 → zeroAt m.norm [3] = true →
    exec (.balGroupRead m) s = .next (ran cmdBalGroupRead m s (ok s ((x.slots.take 2048).map (BitVec.ofNat 8))))) ∧
  (∀ m s b n t, passes cmdSubWrite m s = true → m.stage = true → m.norm.recs 64 = [b] → n = fieldLe b 1 3 → t = slice b 4 60 → byteAt b 0 = 1 →
    n < s.subscribers → s.subFault n t = none → exec (.subWrite m) s = .next (ran cmdSubWrite m s
      (ok ((s.stageNat fun c => { c with subs := tset c.subs n t }).mend (s.subTile n 0))))) ∧
  (∀ m s b, passes cmdSubWrite m s = true → m.stage = true → m.norm.recs 64 = [b] → byteAt b 0 = 2 → (firstNonZeroAt b (span 4 63)).isNone = true →
    (tget? s.shadow.nat.subs (fieldLe b 1 3)).isSome = true → s.holdsBlocks (fieldLe b 1 3) = false →
    exec (.subWrite m) s = .next (ran cmdSubWrite m s (ok (s.stageNat fun c => { c with subs := tdel c.subs (fieldLe b 1 3) })))) ∧
  (∀ m s t, passes cmdSubRead m s = true → m.norm.p 0 = 0 → m.norm.p 1 = 0 → zeroAt m.norm [2, 3] = true →
    s.subRecord s.cur (m.norm.f 4 4) = some t →
    exec (.subRead m) s = .next (ran cmdSubRead m s (ok s (le 4 (m.norm.f 4 4) ++ fit 60 t)))) ∧
  (∀ m s t u d s1, passes cmdSubRead m s = true → m.norm.p 0 = 2 → m.norm.p 1 = 0 → zeroAt m.norm [2, 3] = true →
    s.subRecord s.cur (m.norm.f 4 4) = some t → s.mergedCounts (m.norm.f 4 4) .command = (u, d, s1) →
    exec (.subRead m) s = .next (ran cmdSubRead m s (ok s1 (countsReply u ++ countsReply d)))) ∧
  (∀ m s b, passes cmdSubPolicySet m s = true → m.norm.recs 16 = [b] → fieldLe b 0 2 ≤ 4095 → byteAt b 2 = 0 →
    (firstNonZeroAt b (span 3 15)).isNone = true →
    exec (.subPolicySet m) s = .next (ran cmdSubPolicySet m s (ok s ((s.view m).policy (fieldLe b 0 2))))) ∧
  (∀ m s b, passes cmdSubPolicySet m s = true → m.stage = true → m.norm.recs 16 = [b] → fieldLe b 0 2 ≤ 4095 → byteAt b 2 = 1 →
    byteAt b 3 < 4 → 1 ≤ byteAt b 4 → byteAt b 4 ≤ 8 → (firstNonZeroAt b (5 :: span 8 15)).isNone = true →
    exec (.subPolicySet m) s = .next (ran cmdSubPolicySet m s
      (ok (s.stageNat fun x => { x with policies := tset x.policies (fieldLe b 0 2) (splice b 2 [0]) })))) ∧
  (∀ m s b, passes cmdActionWrite m s = true → m.stage = true → m.norm.recs 64 = [b] → fieldLe b 0 3 < s.regionSize 1 →
    s.shadow.inBindingArea (fieldLe b 0 3) = false → byteAt b 3 = 1 → s.shadow.entryFault s.subscribers (slice b 4 60) = none →
    exec (.actionWrite m) s = .next (ran cmdActionWrite m s (ok
      ((s.stageNat fun c => { c with actions := tset c.actions (fieldLe b 0 3) (slice b 4 60) }).mend (s.entryTile (fieldLe b 0 3)))))) ∧
  (∀ m s b s1, passes cmdActionRead m s = true → 1 ≤ m.norm.p 3 → m.norm.p 3 ≤ 63 → zeroAt m.norm (span 4 7) = true →
    m.norm.f 0 3 + m.norm.p 3 ≤ s.regionSize 1 → readEntries (s.view m) ((List.range (m.norm.p 3)).map (m.norm.f 0 3 + ·)) s = (b, s1) →
    exec (.actionRead m) s = .next (ran cmdActionRead m s (ok s1 b))) ∧
  (∀ hurt s, s.refreshing = false → s.writeRoom 1 = true → s.nat.counts ≠ [] →
    exec (.subCounterFlush hurt) s = .next (settled s ((s.nat.counts.map (·.1)).foldl State.flushSub (s.upset hurt))))

/-! Miners (spec 11). -/

/-- R324-R327, R329, R331, R333-R336, R346-R349: an idle miner receives the next eligible task, and what waited for a standing task of its
type is then done; an asked miner that its microwords lead to a preemption point keeps its task where the request is withdrawn, parks a
standing task with no work, and otherwise gives its task up for the next; a finished event task frees its miner and its slot; and an
uncorrectable ROM word, a CALL at depth 4 or a RETURN on an empty stack withdraws the miner, its task restarting from its entry at the
head of its list. The miner commands report, clear, stage a task's level, and read and set the trace. -/
def Obligations.MinersComplete : Prop :=
  (∀ s k n, s.idleMiner = some k → s.nextTask = some n →
    exec .taskDispatch s = .next (settled s (s.dispatchTo k n).servedNow)) ∧
  (∀ miner trail wait rom s x k t a st s0, (s.miner miner).yield = some x → s.onMiner miner = some (k, t) → preemptionPoint wait = true →
    runTrail trail t.address t.stack = .at a st → s0 = s.minerCount 1 rom → s0.withdraws miner t = true →
    exec (.taskPreempt miner trail wait rom) s = .next (settled s
      (((s0.setMiner miner { s0.miner miner with yield := none, answered := false }).minerCount 3).trace 7 miner k t a wait))) ∧
  (∀ miner trail wait rom s x k t a st s0, (s.miner miner).yield = some x → s.onMiner miner = some (k, t) → preemptionPoint wait = true →
    runTrail trail t.address t.stack = .at a st → s0 = s.minerCount 1 rom → s0.withdraws miner t = false →
    (wait = 9 → s0.workless t = false) →
    exec (.taskPreempt miner trail wait rom) s = .next (settled s (s0.preempt miner k t a wait st).servedNow) ∧
      (s0.preempt miner k t a wait st).dram = s.dram ∧ (s0.preempt miner k t a wait st).flow = s.flow ∧
      (s0.preempt miner k t a wait st).host = s.host) ∧
  (∀ miner trail rom s x k t a st s0, (s.miner miner).yield = some x → s.onMiner miner = some (k, t) →
    runTrail trail t.address t.stack = .at a st → s0 = s.minerCount 1 rom → s0.withdraws miner t = false → s0.workless t = true →
    exec (.taskPreempt miner trail 9 rom) s = .next (settled s (s0.parkTask miner k t a st))) ∧
  (∀ miner trail wait rom s x k t c a, (s.miner miner).yield = some x → s.onMiner miner = some (k, t) → preemptionPoint wait = true →
    runTrail trail t.address t.stack = .fault c a →
    exec (.taskPreempt miner trail wait rom) s = .next (settled s ((s.minerCount 1 rom).failMiner miner k t c a wait))) ∧
  (∀ miner trail wait rom s k t a st s1, s.onMiner miner = some (k, t) → s.workOver t.work = true → runTrail trail t.address t.stack = .at a st →
    s1 = (s.minerCount 1 rom).release miner t → exec (.taskComplete miner trail wait rom) s = .next (settled s
      (State.trace { s1 with miners := { s1.miners with
          tasks := tdel s1.miners.tasks k,
          types := alter s1.miners.types (t.type - 1) fun y => { y with completed := y.completed + 1 } } } 3 miner k t a wait))) ∧
  (∀ miner trail wait rom s k t c a, s.onMiner miner = some (k, t) → s.workOver t.work = true → runTrail trail t.address t.stack = .fault c a →
    exec (.taskComplete miner trail wait rom) s = .next (settled s ((s.minerCount 1 rom).failMiner miner k t c a wait))) ∧
  (∀ miner trail rom s k t a st, s.onMiner miner = some (k, t) → s.workless t = true → runTrail trail t.address t.stack = .at a st →
    exec (.taskPark miner trail rom) s = .next (settled s ((s.minerCount 1 rom).parkTask miner k t a st))) ∧
  (∀ miner trail rom s k t c a, s.onMiner miner = some (k, t) → s.workless t = true → runTrail trail t.address t.stack = .fault c a →
    exec (.taskPark miner trail rom) s = .next (settled s ((s.minerCount 1 rom).failMiner miner k t c a 9))) ∧
  (∀ miner rom trail wait s k t a st s0 s1 s2, s.onMiner miner = some (k, t) → runTrail trail t.address t.stack = .at a st →
    s0 = s.minerCount 1 rom → s1 = s0.release miner t →
    s2 = (s1.setMiner miner { s1.miner miner with withdrawn := true }).trace 6 miner k t a wait →
    exec (.minerFault miner rom trail wait) s = .next (settled s
      (((((s2.setTask k { t with address := entryAddress t.type, wait := 0, stack := [] }).makeReady k true).logError ErrCode.minerFault miner
        (le 1 1 ++ [0] ++ le 2 a)).setFault FaultBit.minerWithdrawn true)))) ∧
  (∀ miner rom trail wait s k t c a, s.onMiner miner = some (k, t) → runTrail trail t.address t.stack = .fault c a →
    exec (.minerFault miner rom trail wait) s = .next (settled s ((s.minerCount 1 rom).failMiner miner k t c a wait))) ∧
  (∀ m s, passes cmdMinerStatus m s = true → zeroAt m.norm (span 0 3) = true → exec (.minerStatus m) s =
    .next (ran cmdMinerStatus m s (ok { s with free := s.free + 16 } ((s.miners.ready.flatMap fun l => le 2 l.length) ++
      ((List.range 16).flatMap s.minerEntry) ++ ((List.range 11).flatMap fun i => s.typeEntry (i + 1)) ++ bankBytes s.miners.counters)))) ∧
  (∀ m s, passes cmdMinerStatus m s = true → m.norm.p 0 = 1 → zeroAt m.norm [1, 2, 3] = true → exec (.minerStatus m) s =
    .next (ran cmdMinerStatus m s (ok (State.clearMinerFigures { s with free := s.free + 16 })
      ((s.miners.ready.flatMap fun l => le 2 l.length) ++ ((List.range 16).flatMap s.minerEntry) ++
        ((List.range 11).flatMap fun i => s.typeEntry (i + 1)) ++ bankBytes s.miners.counters)))) ∧
  (∀ m s b, passes cmdMinerTaskLevel m s = true → m.norm.recs 8 = [b] → 1 ≤ byteAt b 0 → byteAt b 0 ≤ 11 → byteAt b 1 = 0 →
    (firstNonZeroAt b (span 2 7)).isNone = true → exec (.minerTaskLevel m) s = .next (ran cmdMinerTaskLevel m s
      (ok s (taskLevelRecord (s.view m).task (byteAt b 0))))) ∧
  (∀ m s b, passes cmdMinerTaskLevel m s = true → m.stage = true → m.norm.recs 8 = [b] → 2 ≤ byteAt b 0 → byteAt b 0 ≤ 11 → byteAt b 1 = 1 →
    byteAt b 2 ≤ 7 → 1 ≤ byteAt b 3 → byteAt b 3 ≤ maxMinersOf (byteAt b 0) → fieldLe b 4 2 = 0 →
    (firstNonZeroAt b [6, 7]).isNone = true → exec (.minerTaskLevel m) s = .next (ran cmdMinerTaskLevel m s (ok (s.stageWith fun v =>
      { v with task := TaskCfg.mk (v.task.types.set (byteAt b 0 - 1) ⟨byteAt b 2, byteAt b 3⟩) v.task.flowSlots })))) ∧
  (∀ m s, passes cmdMinerTraceRead m s = true → m.norm.p 0 = 1 → m.norm.p 1 = 0 → 1 ≤ m.norm.f 2 2 → m.norm.f 2 2 ≤ 254 →
    zeroAt m.norm (span 4 7) = true → ∃ p x, exec (.minerTraceRead m) s = .next (ran cmdMinerTraceRead m s (ok { s with miners := x } p)) ∧
      p.drop 8 = (s.miners.trace.take (m.norm.f 2 2)).flatten ∧ x.trace = s.miners.trace.drop (m.norm.f 2 2) ∧ x.traceLost = 0) ∧
  (∀ m s, passes cmdMinerTraceConfig m s = true → m.norm.p 0 = 1 → m.norm.p 1 < 4 → m.norm.p 2 % 2 = 0 → m.norm.p 3 < 16 → m.norm.p 4 % 2 = 0 →
    m.norm.p 5 = 0 → ∃ x, exec (.minerTraceConfig m) s = .next (ran cmdMinerTraceConfig m s (ok { s with miners := x })) ∧ x.trace = [] ∧
      x.traceOn = bitAt m.norm.params 1 0 ∧ x.traceStop = bitAt m.norm.params 1 1 ∧ x.traceTypes = BitVec.ofNat 16 (m.norm.f 2 2) ∧
      x.traceReasons = BitVec.ofNat 8 (m.norm.p 4) ∧ x.traceMiners = BitVec.ofNat 16 (m.norm.f 6 2))

/-! Memory stacks and seams (spec 12). -/

/-- R354-R365, R369, R462, R463: a channel that may issue writes up to eight of its queued writes; a due refresh is counted and the mode of
the last readings applies from it; the oldest released run is cleared by its task and freed; a lost channel is withdrawn and
CHANNEL_LOST stands; and the memory commands report, set thresholds, reserve a region's growth, list what is retired, and set the plan
in INIT. That a run is cleared at once (log 118) and the order of batches and reads (log 136) are the model's. -/
def Obligations.MemoryCommandsComplete : Prop :=
  (∀ channel s s1, (s.dram.wq.any fun e => tileChannel e.1 == channel) = true → s.mayIssue channel = true → s1 = s.issueBatch channel →
    exec (.writeBatchIssue channel) s = .next (settled s
      (State.retryQuarantine { s1 with dram := { s1.dram with owes := s1.dram.owes.set channel (s.readWaits channel) } }))) ∧
  (∀ s, s.trained = true → s.dram.lastRefresh + s.refreshInterval ≤ s.now → s.dram.hot.isSome = s.dram.hotNext →
    exec .refreshBanks s = .next (settled s
      { s.memCount 9 with dram := { (s.memCount 9).dram with lastRefresh := s.dram.lastRefresh + s.refreshInterval } })) ∧
  (∀ s s1, s.trained = true → s.dram.lastRefresh + s.refreshInterval ≤ s.now → s.dram.hot = none → s.dram.hotNext = true →
    s1 = { s.memCount 9 with dram := { (s.memCount 9).dram with lastRefresh := s.dram.lastRefresh + s.refreshInterval } } →
    exec .refreshBanks s = .next (settled s
      { (s1.memCount 10).memCount 11 0 with dram := { ((s1.memCount 10).memCount 11 0).dram with hot := some s.now } })) ∧
  (∀ s s1 t, s.trained = true → s.dram.lastRefresh + s.refreshInterval ≤ s.now → s.dram.hot = some t → s.dram.hotNext = false →
    s1 = { s.memCount 9 with dram := { (s.memCount 9).dram with lastRefresh := s.dram.lastRefresh + s.refreshInterval } } →
    exec .refreshBanks s = .next (settled s
      { (s1.memCount 10).memCount 11 (s.now - t) with dram := { ((s1.memCount 10).memCount 11 (s.now - t)).dram with hot := none } })) ∧
  (∀ s r rest s1, s.refreshing = false → s.dram.clearing = r :: rest → s.atWork .clearTiles = true → s1 = { s with dram := { s.dram with clearing := rest } } →
    exec .freeTileClear s = .next (settled s ((s1.clearRun r.1 r.2).addFree r))) ∧
  (∀ channel s x s1 s2 s3, s.dram.channels[channel]? = some x → x.lost = false → s.booted = true → s1 = s.loseChannel channel 2 3 →
    s2 = { s1 with life := { s1.life with lostInService := true } } →
    s3 = (s2.lifeCount 10 (s.channelTiles - s.retiredIn channel)).setFault FaultBit.channelLost true →
    exec (.channelLost channel) s = .next (settled s (if s3.dram.channels.all (·.lost) then s3.raiseCause 1 else s3))) ∧
  (∀ m s, passes cmdMemPlanRead m s = true → ∃ p, exec (.memPlanRead m) s = .next (ran cmdMemPlanRead m s (ok s p)) ∧
    p.drop 96 = le 4 (runsLength s.dram.free) ++ le 4 (s.dram.free.foldl (fun n r => max n r.2) 0) ++ le 4 s.dram.dir.freeCount ++
      le 4 s.retiredTiles) ∧
  (∀ m s n rs rest, passes cmdMemRegionGrow m s = true → m.stage = true → 1 ≤ m.norm.p 0 → m.norm.p 0 ≤ 5 → zeroAt m.norm [1, 2, 3] = true →
    n = m.norm.f 4 4 → n ≠ 0 → n % 1024 = 0 → s.regionSize (m.norm.p 0) + s.stagedGrowth (m.norm.p 0) + n ≤ regionMax (m.norm.p 0) →
    allocRuns s.dram.free n = some (rs, rest) → rs.length + 1 ≤ s.dram.dir.freeCount →
    ∃ x : State, exec (.memRegionGrow m) s = .next (ran cmdMemRegionGrow m s (ok x)) ∧ x.dram.free = rest ∧
      (x.dram.growth.map fun g => (g.region, g.runs)) = (s.dram.growth.map fun g => (g.region, g.runs)) ++ [(m.norm.p 0, rs)]) ∧
  (∀ m s, passes cmdMemStatus m s = true → m.norm.p 0 = 1 → m.norm.p 1 = 0 → zeroAt m.norm [2, 3] = true → zeroAt m.norm (span 4 15) = true →
    exec (.memStatus m) s = .next (ran cmdMemStatus m s
      (ok s ([1, 0, 0, 0] ++ le 2 s.dram.high ++ le 2 s.dram.low ++ le 2 s.dram.panicLevel ++ zeros 6)))) ∧
  (∀ m s, passes cmdMemStatus m s = true → m.norm.p 0 = 2 → m.norm.p 1 = 0 → zeroAt m.norm [2, 3] = true → zeroAt m.norm (span 10 15) = true →
    64 ≤ m.norm.f 4 2 → m.norm.f 4 2 ≤ 1000 → m.norm.f 6 2 + 64 ≤ m.norm.f 4 2 → 1024 ≤ m.norm.f 8 2 → m.norm.f 8 2 ≤ 8192 →
    ∃ x : State, exec (.memStatus m) s = .next (ran cmdMemStatus m s (ok x)) ∧ x.dram.high = m.norm.f 4 2 ∧ x.dram.low = m.norm.f 6 2 ∧
      x.dram.panicLevel = m.norm.f 8 2 ∧ x.dram.wq = s.dram.wq ∧ x.dram.mem = s.dram.mem) ∧
  (∀ m s, passes cmdMemRetiredRead m s = true → 1 ≤ m.norm.f 4 2 → m.norm.f 4 2 ≤ 254 → zeroAt m.norm [6, 7] = true →
    ∃ next, exec (.memRetiredRead m) s = .next (ran cmdMemRetiredRead m s (ok s (le 4 s.dram.retired.length ++ le 4 next ++
      ((s.dram.retired.drop (m.norm.f 0 4)).take (m.norm.f 4 2)).flatMap retiredEntry)))) ∧
  (∀ m s, passes cmdSecureMemPlan m s = true → m.norm.p 0 = 2 → zeroAt m.norm (span 1 7) = true → zeroAt m.norm (span 8 55) = true →
    s.otherSeams = false → ∃ x : State, exec (.secureMemPlan m) s = .next (ran cmdSecureMemPlan m s (ok x)) ∧ x.life.clearing = .plan ∧
      x.flow.hot = [] ∧ x.nat.blocks = [] ∧ x.fwd.learned0 = [] ∧ x.fwd.learned1 = [] ∧ x.telem.staging = [] ∧ x.dram.regions = s.dram.regions) ∧
  (∀ m s plan s1, passes cmdSecureMemPlan m s = true → m.norm.p 0 = 1 → zeroAt m.norm (span 1 7) = true →
    plan = ((List.range 6).map fun c => (m.norm.f (8 + c * 8) 4, m.norm.f (12 + c * 8) 4)) → planBad s.hb plan 0 [] = none →
    s.otherSeams = false → s1 = (s.setPlan plan).clearLive [(0, s.tiles)] →
    exec (.secureMemPlan m) s = .next (ran cmdSecureMemPlan m s (ok { s1 with
      cur := s1.cur.dropRegionTables, shadow := s1.shadow.dropRegionTables,
      drain := s1.drain.map fun d => { d with tables := d.tables.dropRegionTables },
      fwd := { s1.fwd with copies := [] }, life := { s1.life with clearing := .plan } })))

/-- R366, R367, R369: SEAM_CREATE takes tiles from free space or names a window of the store region and answers a handle; SEAM_GROUP groups
host seams; SEAM_READ reads cells with assay; SEAM_FILL, SEAM_COMPARE and SEAM_CHECK start jobs, whose completion on their miner stores
the result; SEAM_RETIRE, SEAM_SWAP_ROOT and SEAM_INFO retire, exchange and describe seams. -/
def Obligations.SeamsComplete : Prop :=
  (∀ m s rs rest i s1, passes cmdSeamCreate m s = true → m.norm.p 0 = 0 → zeroAt m.norm [1, 2, 3] = true → zeroAt m.norm (span 4 7) = true →
    1 ≤ m.norm.f 8 4 → m.norm.f 8 4 ≤ 2 ^ 28 → allocRuns s.dram.free (m.norm.f 8 4) = some (rs, rest) → descsFor rs ≤ s.dram.dir.freeCount →
    State.newRuns { s with dram := { s.dram with free := rest } } rs true = (i, s1) →
    exec (.seamCreate m) s = .next (ran cmdSeamCreate m s (ok s1 (le 4 (s1.handleOf i))))) ∧
  (∀ m s i s1, passes cmdSeamCreate m s = true → m.norm.p 0 = 1 → zeroAt m.norm [1, 2, 3] = true → s.inRegion 5 (m.norm.f 4 4) = true →
    1 ≤ m.norm.f 8 4 → m.norm.f 8 4 ≤ 2 ^ 28 → cutRun (m.norm.f 4 4, m.norm.f 8 4) (s.regionRuns 5) = [] → 1 ≤ s.dram.dir.freeCount →
    s.newSeam { body := .run (m.norm.f 4 4) (m.norm.f 8 4), host := true, owns := false } = (i, s1) →
    exec (.seamCreate m) s = .next (ran cmdSeamCreate m s (ok s1 (le 4 (s1.handleOf i))))) ∧
  (∀ m s ms i s1, passes cmdSeamGroup m s = true → groupMembers s (m.norm.recs 4) 16 [] = .ok ms → groupPasses s ms 0 0 = none →
    1 ≤ s.dram.dir.freeCount → s.newSeam { body := .group ms, host := true, owns := false } = (i, s1) →
    exec (.seamGroup m) s = .next (ran cmdSeamGroup m s (ok s1 (le 4 (s1.handleOf i))))) ∧
  (∀ m s i cells ps s1, passes cmdSeamRead m s = true → s.dram.dir.find (m.norm.f 0 4) = some i → 1 ≤ m.norm.p 8 → m.norm.p 8 ≤ 63 →
    m.norm.f 4 4 + m.norm.p 8 ≤ s.seamLength i → zeroAt m.norm (span 9 11) = true →
    cells = ((s.seamCells i).drop (m.norm.f 4 4)).take (m.norm.p 8) → readCells (s.view m) {} .command cells s = (ps, s1) →
    exec (.seamRead m) s = .next (ran cmdSeamRead m s (ok s1
      (le 4 cells.length ++ le 4 (ps.filter (·.isNone)).length ++ ((cells.zip ps).flatMap fun x => delivered x.1 x.2))))) ∧
  (∀ m s i j, passes cmdSeamFill m s = true → s.dram.dir.find (m.norm.f 0 4) = some i → s.dram.dir.isHost i = true → s.seamBusy i = false →
    s.nextJob = some j → (s.newTask TaskType.seamAssist (.seamJob j)).isSome = true →
    ∃ x : State, exec (.seamFill m) s = .next (ran cmdSeamFill m s (ok x (le 4 j))) ∧ x.dram.lastJob = j ∧
      x.dram.jobs = s.dram.jobs.set j ⟨.running, .fill, i, none, slice m.norm.params 4 60, 0, 0, none, s.now, 0⟩) ∧
  (∀ m s a b j, passes cmdSeamCompare m s = true → s.dram.dir.find (m.norm.f 0 4) = some a → m.norm.f 4 4 ≠ 0xFFFFFFFF →
    s.dram.dir.find (m.norm.f 4 4) = some b → zeroAt m.norm (span 8 67) = true → s.seamLength a = s.seamLength b → s.nextJob = some j →
    (s.newTask TaskType.seamAssist (.seamJob j)).isSome = true →
    ∃ x : State, exec (.seamCompare m) s = .next (ran cmdSeamCompare m s (ok x (le 4 j))) ∧ x.dram.lastJob = j ∧
      x.dram.jobs = s.dram.jobs.set j ⟨.running, .compare, a, some b, [], 0, 0, none, s.now, 0⟩) ∧
  (∀ m s a j, passes cmdSeamCheck m s = true → s.dram.dir.find (m.norm.f 0 4) = some a → s.nextJob = some j →
    (s.newTask TaskType.seamAssist (.seamJob j)).isSome = true →
    ∃ x : State, exec (.seamCheck m) s = .next (ran cmdSeamCheck m s (ok x (le 4 j))) ∧ x.dram.lastJob = j ∧
      x.dram.jobs = s.dram.jobs.set j ⟨.running, .check, a, none, [], 0, 0, none, s.now, 0⟩) ∧
  (∀ job hurt s x t s1 y, s.refreshing = false → job ≤ 7 → s.job job = x → x.state = .running → s.atWork (.seamJob job) = true →
    (s.upset hurt).runJob x hurt = (t, s1) →
    y = { x with state := .done, done := t.done, bad := t.bad, first := t.first, elapsedMs := (s.now - x.start) / 1000000 } →
    exec (.seamJobComplete job hurt) s = .next (settled s ((s1.setJob job y).finishWork (· == .seamJob job)))) ∧
  (∀ m s i, passes cmdSeamRetire m s = true → s.dram.dir.find (m.norm.f 0 4) = some i → s.dram.dir.isHost i = true → s.parentOf i = none →
    s.seamBusy i = false → exec (.seamRetire m) s = .next (ran cmdSeamRetire m s (ok (s.retireSeam i)))) ∧
  (∀ m s a b, passes cmdSeamSwapRoot m s = true → s.dram.dir.find (m.norm.f 0 4) = some a → s.dram.dir.find (m.norm.f 4 4) = some b → a ≠ b →
    s.dram.dir.isHost a = true → s.dram.dir.isHost b = true → s.seamBusy a = false → s.seamBusy b = false → s.seamLength a = s.seamLength b →
    exec (.seamSwapRoot m) s = .next (ran cmdSeamSwapRoot m s (ok { s with dram := { s.dram with dir := s.dram.dir.swap a b } }))) ∧
  (∀ m s i, passes cmdSeamInfo m s = true → m.norm.p 0 = 0 → zeroAt m.norm [1, 2, 3] = true → s.dram.dir.find (m.norm.f 4 4) = some i →
    exec (.seamInfo m) s = .next (ran cmdSeamInfo m s (ok s (s.seamInfo i)))) ∧
  (∀ m s, passes cmdSeamInfo m s = true → m.norm.p 0 = 1 → zeroAt m.norm [1, 2, 3] = true → m.norm.f 4 4 ≤ 7 →
    (s.job (m.norm.f 4 4)).state ≠ .running → exec (.seamInfo m) s = .next (ran cmdSeamInfo m s (ok s (jobInfo (s.job (m.norm.f 4 4))))))

/-! Telemetry (spec 14). -/

/-- R397, R402-R405, R411, R412: the oldest assembly request becomes a record that is staged and sent; a tailings record likewise; the next
subscriber's interval record is asked for; a message whose time has come is sent, and a held collector path tries again; templates go
again; a dump that is due is latched for its channel to write, or is skipped with its sequence number used where the ring is full or the
one before it unwritten; and a window ends. When a latched dump is written is the model's choice (log 146). Where the tailings queue
begins, and that a record whose tile fails assay is dropped, are the model's choices (log 18). -/
def Obligations.TelemetryEventsComplete : Prop :=
  (∀ s a rest s1 t b s2, s.refreshing = false → s.serves TaskType.telemetry = true → s.life.clearing = .none → s.telem.assembly = a :: rest → s1 = { s with telem := { s.telem with assembly := rest } } →
    s1.assemble a = (some (t, b), s2) → s2.hasDest t = true → (t = 256 ∨ s2.lossyFull = false) →
    exec .telemetryAssemble s = .next (settled s (s2.stageRecord t b).sendAll)) ∧
  (∀ s s1, s.refreshing = false → s.serves TaskType.tailings = true → s.flow.tailings ≠ [] → (s.hasDest 256 = true → s.stagingRoom 256 = true) → s.takeTailing = (none, s1) →
    exec .tailingsDrain s = .next (settled s s1)) ∧
  (∀ s x s1 p now b s2, s.refreshing = false → s.serves TaskType.tailings = true → s.flow.tailings ≠ [] → s.hasDest 256 = true → s.stagingRoom 256 = true → s.takeTailing = (some x, s1) →
    s1.hasDest 256 = true → p = x.flow → now = fieldLe x.info 8 8 →
    s1.flowEndRecord (tileKey p) (tileAction p) (tilePackets p) (tileOctets p) (tileLast p now) (tileFirst p now) (tileTcp p) (tileControl p)
      (tileW p) (fieldLe x.info 4 4) (byteAt x.info 0) (byteAt x.info 1 % 4 + 8 + if tileSaturated p then 4 else 0)
      (BitVec.ofNat 16 (fieldLe x.info 16 2)) = (b, s2) →
    exec .tailingsDrain s = .next (settled s (s2.stageRecord 256 b).sendAll)) ∧
  (∀ s n t start s1, s.nextInterval = some (n, t, start) → s.telem.interval ≠ 0 → t ≤ s.now →
    s1 = { s with telem := { s.telem with nextSub := n + 1, intervalStart := start } } → s1.hasDest 259 = true → s1.lossyFull = false →
    exec .subIntervalRecord s = .next (settled s { s1 with telem := { s1.telem with assembly := s1.telem.assembly ++ [.interval n] } })) ∧
  (∀ ring s, (s.dueTemplate ring).isSome = true ∨ (s.path ring).withdraw ≠ [] → (ring = true ∨ s.telem.collectorPath.held = false) →
    exec (.telemFlushExpire ring) s = .next (settled s (State.sendDue ring s.sendFuel s))) ∧
  (∀ s x s1 s2, s.telem.collectorPath = x → s.booted = true → s.collectorOn = true → x.held = false →
    x.lastTemplates + fieldLe s.telem.collector 52 2 * 1000000000 ≤ s.now →
    s1 = s.setPath false { x with lastTemplates := s.now, sentTemplates := [] } →
    ([256, 257, 258, 259].filter ((s.setPath false { x with lastTemplates := s.now }).carries false)).foldl
      (fun (a : Option State) t => a.bind fun s => s.sendTemplate false t) (some s1) = some s2 →
    exec .templateIntervalExpire s = .next (settled s s2)) ∧
  (∀ s, s.telem.collectorPath.held = true → s.telem.collectorPath.lastTry + 1000 ≤ s.now →
    exec .collectorRetry s = .next (settled s (State.sendDue false s.sendFuel s))) ∧
  (∀ s x, s.telem.dumpRing.enabled = true → s.telem.dumpPeriod ≠ 0 → s.telem.dumpNext ≤ s.flowNow → s.telem.dumpRing.full = false →
    s.telem.dumpRing.slot = none → x = s.takeSlot 9 s.dumpSlot → exec .counterDump s = .next (settled s { x with telem := { x.telem with
      dumpSeq := s.telem.dumpSeq + 1, dumpNext := s.telem.dumpNext + s.telem.dumpPeriod * 1000000 } })) ∧
  (∀ s, s.telem.dumpRing.enabled = true → s.telem.dumpPeriod ≠ 0 → s.telem.dumpNext ≤ s.flowNow →
    s.telem.dumpRing.full = true ∨ s.telem.dumpRing.slot ≠ none → exec .counterDump s = .next (settled s { s with telem := { s.telem with
      dumpSkipped := s.telem.dumpSkipped + 1, dumpSeq := s.telem.dumpSeq + 1,
      dumpNext := s.telem.dumpNext + s.telem.dumpPeriod * 1000000 } })) ∧
  (∀ port s w x, port < 26 → s.booted = true → s.window port = w → w.endedAt + windowNs w.k ≤ s.flowNow →
    s.flowNow < w.endedAt + 2 * windowNs w.k → port < s.telem.windows.length → s.windowNow port w = x →
    exec (.bwwinEnd port) s = .next (settled s (s.setWindow port x)) ∧ x.rxLast = w.rxNow ∧ x.rxPeak = max w.rxPeak w.rxNow ∧ x.rxNow = 0 ∧
      x.txLast = w.txNow ∧ x.txPeak = max w.txPeak w.txNow ∧ x.txNow = 0 ∧ x.k = w.k ∧ x.endedAt = s.flowNow / windowNs w.k * windowNs w.k)

/-- R409-R412, R414: the telemetry commands set and read the collector, a template's destinations, sampling, the interval and the ring,
which is enabled and disabled, report, with CLEAR zeroing what they count, and program, zero and read counters, dumps and windows. When
the records of the flows and subscribers count from after a changed interval is the model's choice (log 115). -/
def Obligations.TelemetryCommandsComplete : Prop :=
  (∀ m s, passes cmdTelemCollectorSet m s = true → m.norm.p 0 = 0 → zeroAt m.norm (span 1 63) = true →
    exec (.telemCollectorSet m) s = .next (ran cmdTelemCollectorSet m s (ok s (splice s.telem.collector 0 [0])))) ∧
  (∀ m s s1, passes cmdTelemCollectorSet m s = true → m.norm.p 0 = 1 → collectorFault m.norm s = none →
    s1 = { s with telem := { s.telem with collector := splice (fit 64 m.norm.params) 0 [0] } } →
    exec (.telemCollectorSet m) s = .next (ran cmdTelemCollectorSet m s (ok s1 (splice s1.telem.collector 0 [1])))) ∧
  (∀ m s b, passes cmdTelemEnable m s = true → m.norm.recs 40 = [b] → byteAt b 0 = 1 → byteAt b 1 = 1 → 256 ≤ fieldLe b 2 2 →
    fieldLe b 2 2 ≤ 259 → byteAt b 4 ≤ 3 → (firstNonZeroAt b (span 5 39)).isNone = true → exec (.telemEnable m) s =
      .next (ran cmdTelemEnable m s (ok (s.setDest (fieldLe b 2 2) (bitAt b 4 1) (bitAt b 4 0))))) ∧
  (∀ m s b x, passes cmdTelemEnable m s = true → m.norm.recs 40 = [b] → byteAt b 0 = 2 → byteAt b 1 = 1 → byteAt b 2 ≤ 7 → 1 ≤ byteAt b 3 →
    byteAt b 3 ≤ 127 → fieldLe b 4 4 ≤ 65536 → (firstNonZeroAt b (span 8 39)).isNone = true →
    x = s.telem.sampling.set (byteAt b 2) (fieldLe b 4 4, byteAt b 3) → exec (.telemEnable m) s =
      .next (ran cmdTelemEnable m s (ok { s with telem := { s.telem with sampling := x } }))) ∧
  (∀ m s b, passes cmdTelemEnable m s = true → m.norm.recs 40 = [b] → byteAt b 0 = 3 → byteAt b 1 = 1 → (firstNonZeroAt b [2, 3]).isNone = true →
    (fieldLe b 4 4 = 0 ∨ (10 ≤ fieldLe b 4 4 ∧ fieldLe b 4 4 ≤ 3600)) → (firstNonZeroAt b (span 8 39)).isNone = true →
    exec (.telemEnable m) s = .next (ran cmdTelemEnable m s (ok (s.setInterval (fieldLe b 4 4))))) ∧
  (∀ m s b, passes cmdTelemEnable m s = true → m.norm.recs 40 = [b] → byteAt b 0 = 1 → byteAt b 1 = 0 → 256 ≤ fieldLe b 2 2 →
    fieldLe b 2 2 ≤ 259 → (firstNonZeroAt b (span 4 39)).isNone = true → exec (.telemEnable m) s = .next (ran cmdTelemEnable m s
      (ok s ([1, 0] ++ le 2 (fieldLe b 2 2) ++ le 1 (flagByte [(s.destOf (fieldLe b 2 2)).2, (s.destOf (fieldLe b 2 2)).1]) ++ zeros 35)))) ∧
  (∀ m s b x, passes cmdTelemEnable m s = true → m.norm.recs 40 = [b] → byteAt b 0 = 2 → byteAt b 1 = 0 → byteAt b 2 ≤ 7 →
    (firstNonZeroAt b (span 3 39)).isNone = true → x = s.telem.sampling.getD (byteAt b 2) (0, 56) → exec (.telemEnable m) s =
      .next (ran cmdTelemEnable m s (ok s ([2, 0] ++ le 1 (byteAt b 2) ++ le 1 x.2 ++ le 4 x.1 ++ zeros 32)))) ∧
  (∀ m s b, passes cmdTelemEnable m s = true → m.norm.recs 40 = [b] → byteAt b 0 = 3 → byteAt b 1 = 0 →
    (firstNonZeroAt b (span 2 39)).isNone = true → exec (.telemEnable m) s = .next (ran cmdTelemEnable m s
      (ok s ([3, 0, 0, 0] ++ le 4 s.telem.interval ++ zeros 32)))) ∧
  (∀ m s b, passes cmdTelemEnable m s = true → m.norm.recs 40 = [b] → byteAt b 0 = 4 → byteAt b 1 = 0 →
    (firstNonZeroAt b (span 2 39)).isNone = true →
    exec (.telemEnable m) s = .next (ran cmdTelemEnable m s (ok s (telemRingRecord 0 s.telem.ring)))) ∧
  (∀ m s b x, passes cmdTelemEnable m s = true → m.norm.recs 40 = [b] → byteAt b 0 = 4 → byteAt b 1 = 1 →
    s.channelBad m.norm (byteAt b 2) = false → byteAt b 3 ≤ 1 → 8 ≤ byteAt b 4 → byteAt b 4 ≤ 14 → s.maxMsg + 32 ≤ 2 ^ byteAt b 4 →
    6 ≤ byteAt b 5 → byteAt b 5 ≤ 16 → fieldLe b 6 2 ≤ 1000 → fieldLe b 8 8 % 4096 = 0 → fieldLe b 16 8 % 4 = 0 →
    (firstNonZeroAt b (span 24 39)).isNone = true → s.telem.ring.enabled = false →
    x = { s.telem.ring with channel := byteAt b 2, irq := byteAt b 3 == 1, j := byteAt b 4, k := byteAt b 5, holdoff := fieldLe b 6 2,
                            base := fieldLe b 8 8, consumerAddr := fieldLe b 16 8 } →
    exec (.telemEnable m) s = .next (ran cmdTelemEnable m s (ok { s with telem := { s.telem with ring := x } }))) ∧
  (∀ m s b, passes cmdTelemEnable m s = true → m.norm.recs 40 = [b] → byteAt b 0 = 4 → byteAt b 1 = 2 →
    (firstNonZeroAt b (span 2 39)).isNone = true → s.maxMsg + 32 ≤ s.telem.ring.slotBytes → exec (.telemEnable m) s =
      .next (ran cmdTelemEnable m s (ok { s with telem := { s.telem with ring := s.telem.ring.start } }))) ∧
  (∀ m s b, passes cmdTelemEnable m s = true → m.norm.recs 40 = [b] → byteAt b 0 = 4 → byteAt b 1 = 3 →
    (firstNonZeroAt b (span 2 39)).isNone = true → exec (.telemEnable m) s =
      .next (ran cmdTelemEnable m s (ok { s with telem := { s.telem with ring := s.telem.ring.stop } }))) ∧
  (∀ m s, passes cmdTelemStatus m s = true → m.norm.p 0 = 0 → zeroAt m.norm [1, 2, 3] = true →
    exec (.telemStatus m) s = .next (ran cmdTelemStatus m s (ok s (telemStatus s)))) ∧
  (∀ m s, passes cmdTelemStatus m s = true → m.norm.p 0 = 1 → zeroAt m.norm [1, 2, 3] = true →
    exec (.telemStatus m) s = .next (ran cmdTelemStatus m s (ok { s with telem := { s.telem with
      counters := zeroBank s.telem.counters, peak := s.stagedTiles } } (telemStatus s)))) ∧
  (∀ m s b, passes cmdCounterProgram m s = true → m.norm.recs 12 = [b] → byteAt b 1 = 2 → (firstNonZeroAt b (span 2 11)).isNone = true →
    exec (.counterProgram m) s = .next (ran cmdCounterProgram m s (ok (s.setPerf (byteAt b 0) { s.perf (byteAt b 0) with value := 0 })))) ∧
  (∀ m s b, passes cmdCounterProgram m s = true → m.norm.recs 12 = [b] → byteAt b 1 = 1 → isEvent (fieldLe b 2 2) = true →
    (byteAt b 4 = 0 ∨ (byteAt b 4 = 1 ∧ isOccupancy (fieldLe b 2 2) = true)) → (firstNonZeroAt b [5, 6, 7]).isNone = true →
    exec (.counterProgram m) s = .next (ran cmdCounterProgram m s (ok (s.setPerf (byteAt b 0)
      { s.perf (byteAt b 0) with event := fieldLe b 2 2, threshold := byteAt b 4 == 1, n := fieldLe b 8 4, value := 0 })))) ∧
  (∀ m s, passes cmdCounterRead m s = true → 1 ≤ m.norm.p 1 → m.norm.p 1 ≤ 254 → m.norm.p 0 + m.norm.p 1 ≤ 256 → m.norm.p 2 = 0 →
    zeroAt m.norm [3] = true → exec (.counterRead m) s = .next (ran cmdCounterRead m s
      (ok s (le 8 s.flowNow ++ (span (m.norm.p 0) (m.norm.p 0 + m.norm.p 1 - 1)).flatMap fun i => counterEntry (s.perf i))))) ∧
  (∀ m s, passes cmdCounterDumpConfig m s = true → m.norm.p 0 = 0 → zeroAt m.norm (span 1 39) = true →
    exec (.counterDumpConfig m) s = .next (ran cmdCounterDumpConfig m s (ok s (dumpConfigBytes 0 s.telem)))) ∧
  (∀ m s x, passes cmdCounterDumpConfig m s = true → m.norm.p 0 = 2 → zeroAt m.norm (span 1 39) = true →
    x = { s.telem with dumpRing := s.telem.dumpRing.start, dumpNext := s.flowNow + s.telem.dumpPeriod * 1000000 } →
    exec (.counterDumpConfig m) s = .next (ran cmdCounterDumpConfig m s (ok { s with telem := x }))) ∧
  (∀ m s b len, passes cmdBwwinConfig m s = true → m.norm.recs 4 = [b] → byteAt b 0 ≤ 25 → byteAt b 1 = 1 → byteAt b 2 ≤ 20 →
    (firstNonZeroAt b [3]).isNone = true → len = windowNs (byteAt b 2) → exec (.bwwinConfig m) s = .next (ran cmdBwwinConfig m s
      (ok (s.setWindow (byteAt b 0) { BwWindow.reset with k := byteAt b 2, endedAt := (s.flowNow + len - 1) / len * len })))) ∧
  (∀ m s, passes cmdBwwinRead m s = true → m.norm.p 0 ≤ 25 → 1 ≤ m.norm.p 1 → m.norm.p 0 + m.norm.p 1 ≤ 26 → m.norm.p 2 = 0 →
    zeroAt m.norm [3] = true → exec (.bwwinRead m) s = .next (ran cmdBwwinRead m s
      (ok s ((span (m.norm.p 0) (m.norm.p 0 + m.norm.p 1 - 1)).flatMap (windowEntry s)))))

/-! The interpreter, the memory and the compressed counts (spec 01, 02, 06, 12). -/

/-- R42, R61, R72: every command row runs its packet when its channel can be taken from and the command is not held, and otherwise leaves
everything as it was; one that passes the checks is executed and ends with its body's answer. That a row of the table is the moment at
which its packet is taken, and which packets a sealed shadow holds, are the model's (logs 19, 32). -/
def Obligations.PacketRowsRunOrWait : Prop :=
  ∀ r ∈ packetRows, ∀ m s,
    (s.canTake m.ch = false → exec (r.1 m) s = .next s) ∧ (r.2.held m s = true → exec (r.1 m) s = .next s) ∧
    (passes r.2 m s = true → exec (r.1 m) s = .next (ran r.2 m s (r.2.body m.norm s)))

/-- R52. The checks of a packet in their order, each with its status and detail; a packet that fails one is refused with the first, whatever
later ones would say; one whose opcode is not in the index is refused at the first two steps; one that passes is executed; and only the
header and the stated parameters are read. -/
def Obligations.PacketsAreCheckedInOrder : Prop :=
  (∀ r ∈ packetRows, ∀ m s x, s.canTake m.ch = true → r.2.held m s = false → x = m.norm →
    (checksHold r.2 x s 1 = false → exec (r.1 m) s = .next (refused r.2 m s Status.badLength (r.2.most x))) ∧
    (∀ st d, checksHold r.2 x s 1 = true → r.2.accept x s = some (st, d) → exec (r.1 m) s = .next (refused r.2 m s st d)) ∧
    (∀ i, checksHold r.2 x s 2 = true → x.badHeader = some i → exec (r.1 m) s = .next (refused r.2 m s Status.badParam i)) ∧
    (checksHold r.2 x s 3 = true → checksHold r.2 x s 4 = false → exec (r.1 m) s = .next (refused r.2 m s Status.badParam 6)) ∧
    (checksHold r.2 x s 4 = true → checksHold r.2 x s 5 = false →
      exec (r.1 m) s = .next (refused r.2 m s Status.state s.life.state.code)) ∧
    (checksHold r.2 x s 5 = true → checksHold r.2 x s 6 = false →
      exec (r.1 m) s = .next (refused r.2 m s Status.epochGuard s.epoch.current.toNat)) ∧
    (checksHold r.2 x s 6 = true → checksHold r.2 x s 7 = false →
      exec (r.1 m) s = .next (refused r.2 m s Status.badLength (r.2.len x).2)) ∧
    (checksHold r.2 x s 7 = true → checksHold r.2 x s 8 = false → exec (r.1 m) s = .next (refused r.2 m s Status.locked 0)) ∧
    (checksHold r.2 x s 8 = true → exec (r.1 m) s = .next (ran r.2 m s (r.2.body x s)))) ∧
  (∀ r ∈ packetRows, ∀ m m2 s, m.norm = m2.norm → exec (r.1 m) s = exec (r.1 m2) s) ∧
  (∀ r ∈ packetRows, ∀ (m : Msg) s ps, 4080 < m.len.toNat → exec (r.1 { m with params := ps }) s = exec (r.1 m) s) ∧
  (∀ (op : Nat) (m : Msg) (s : State), cmdOf op = none → 4080 < m.len.toNat →
    s.runPacket op m = s.reply m.ch (replyOf op m s.epoch.current Status.badLength 4080 [])) ∧
  (∀ (op : Nat) (m : Msg) (s : State), cmdOf op = none → m.len.toNat ≤ 4080 →
    s.runPacket op m = s.reply m.ch (replyOf op m s.epoch.current Status.badOpcode 0 [])) ∧
  (∀ r ∈ packetRows, cmdOf r.2.op = some r.2)

/-- R46. A command of k-byte records takes exactly one without BATCH, and with BATCH a whole, non-zero number of them up to its largest;
another length is BAD_LENGTH with the length of one record, or with the largest length that BATCH accepts. Records are executed in
order: what stands before the first refused one keeps its effect, the reply carries that record's status and detail, and that of a batch
is the number executed and two zero bytes. A batch that completes replies what its records add; and a message refused at checks 1 to 9
replies no parameters. -/
def Obligations.RecordsRunInOrder : Prop :=
  (∀ k most m, m.batch = false → lenRec k most m = (m.len.toNat == k, k)) ∧
  (∀ k most m, m.batch = true →
    lenRec k most m = (m.len.toNat % k == 0 && m.len.toNat != 0 && m.len.toNat / k ≤ most, k * most)) ∧
  (∀ (c : Cmd) (m : Msg) (s : State) k most, m.len.toNat ≤ 4080 → c.accept m s = none → m.badHeader = none → c.flags m = true →
    (c.legal m s && c.clearingOk m s) = true → (m.guard = 0xFFFF ∨ m.guard = s.epoch.current) → c.len m = lenRec k most m →
    (lenRec k most m).1 = false → c.check m s = some (Status.badLength, if m.batch then k * most else k)) ∧
  (∀ batch k f before bs r s out t o, runRecords batch k f before r s out = ok t o →
    runRecords batch k f (before ++ bs) r s out = runRecords batch k f bs (r + before.length) t o) ∧
  (∀ batch k f b bs r s out st d, f s b (16 + r * k) = .refuse st d → runRecords batch k f (b :: bs) r s out =
    Done.mk s st d (if batch then le 2 r ++ [0, 0] else []) none (some r) none false none) ∧
  (∀ batch k f b bs r s out t st d, f s b (16 + r * k) = .refuseWith t st d → runRecords batch k f (b :: bs) r s out =
    Done.mk t st d (if batch then le 2 r ++ [0, 0] else []) none (some r) none false none) ∧
  (∀ batch k f b bs r s out t o, f s b (16 + r * k) = .ok t o → runRecords batch k f (b :: bs) r s out =
    runRecords batch k f bs (r + 1) t (out ++ o)) ∧
  (∀ batch k f r s out, runRecords batch k f [] r s out = ok s out) ∧
  (∀ c m s st d, s.canTake m.ch = true → c.held m s = false → c.check m.norm s = some (st, d) →
    runCommand c m s = .next (refused c m s st d))

/-- R48, R49, R56, R61, R408, R422, R478: the end of a meaning puts the log's entries of the step in their order, wakes the tasks whose work
has come, counts events in the programmed counters, raises vectors of the functions, and disturbs nothing else; the end of a command
that enters no state also places its reply, or waits, and otherwise leaves what its body answered; a packet that fails one of checks 1
to 9 of R52 does no more than that: its reply is the outbound buffer while OUT_STATUS is 0 and joins the queue behind it while it is 1.
What goes to the peer may draw the free value that chooses its lane, and a forwarded command is a record of the journal (the model's
choices, logs 147 and 57). -/
def Obligations.EndsDisturbNothingElse : Prop :=
  (∀ s t, sameTables (settled s t) t ∧ (settled s t).free = t.free ∧ (settled s t).epoch = t.epoch ∧ (settled s t).pair = t.pair ∧
    (settled s t).chan = t.chan ∧ (settled s t).err = s.err.inOrder t.err ∧ (settled s t).miners = t.wakeAll.miners ∧
    { (settled s t).host with pf0 := t.host.pf0, pf1 := t.host.pf1 } = t.host ∧
    { (settled s t).telem with perf := t.telem.perf } = t.telem ∧ t.out <+: (settled s t).out) ∧
  (∀ r ∈ packetRows, ∀ m s (d : Done) u, d.enters = none → ran r.2 m s d = u → sameTables u d.state ∧
    u.epoch = { d.state.epoch with executed := d.state.epoch.executed + 1 } ∧ d.state.out <+: u.out ∧ u.err = s.err.inOrder d.state.err ∧
    { u.host with pf0 := d.state.host.pf0, pf1 := d.state.host.pf1 } = d.state.host ∧
    { u.telem with perf := d.state.telem.perf } = d.state.telem ∧
    (m.ch ≠ 2 → d.state.forwards = false → u.free = d.state.free) ∧
    (m.ch ≠ 2 → d.state.forwards = false → d.state.journals = false → u.pair = d.state.pair) ∧
    (m.ch < 4 → ∃ b o q w x, u.chan m.ch = { d.state.chan m.ch with outbound := b, outStatus := o, replies := q, waiting := w, discard := x }) ∧
    ∀ ch, ch < 4 → m.ch < 4 → ch ≠ m.ch → u.chan ch = d.state.chan ch) ∧
  (∀ r ∈ packetRows, ∀ m s t, m.ch < 4 → s.canTake m.ch = true → r.2.held m s = false → r.2.check m.norm s ≠ none →
    exec (r.1 m) s = .next t → sameTables t s ∧ t.epoch = s.epoch ∧ t.pair = s.pair ∧ s.out <+: t.out ∧ t.err = s.err ∧
    { t.host with pf0 := s.host.pf0, pf1 := s.host.pf1 } = s.host ∧ { t.telem with perf := s.telem.perf } = s.telem ∧
    (∃ u bytes, u = s.reply m.ch bytes ∧ t.miners = u.wakeAll.miners) ∧
    (m.ch ≠ 2 → t.free = s.free) ∧ (∀ ch, ch < 4 → ch ≠ m.ch → t.chan ch = s.chan ch) ∧
    (∃ b o q x, t.chan m.ch = { s.chan m.ch with outbound := b, outStatus := o, replies := q, discard := x }) ∧
    ((s.chan m.ch).discard = false → (s.chan m.ch).outStatus = true → (t.chan m.ch).outbound = (s.chan m.ch).outbound ∧
      (t.chan m.ch).replies.length = (s.chan m.ch).replies.length + 1) ∧
    ((s.chan m.ch).discard = false → (s.chan m.ch).outStatus = false → (t.chan m.ch).outStatus = true ∧
      (t.chan m.ch).replies = (s.chan m.ch).replies))

/-- R351 (the canonical form is the model's, DESIGN CHOICE of log entry 101): device memory lists nothing at reset, so it is canonical there. -/
def Obligations.ResetMemoryIsCanonical : Prop := Kept State.reset

/-- Every step keeps device memory in its canonical form, whatever the command and the state: addresses strictly rise and no cell holds what
its unlisted address reads as (the canonical form is the model's, DESIGN CHOICE of log entry 101). -/
def Obligations.EveryStepKeepsMemoryCanonical : Prop := ∀ s t, Kept s → step s = .next t → Kept t

/-- R181, R182: compressing a count below 2^20 and loading it again is exact; from 2^20 to 2^48 the error is at most 2^(e-2), with e the
exponent of the count, which is at most 2^-20 of it; the compressed count has 24 bits; and a compressed count that is loaded compresses
to itself. -/
def Obligations.CompressionErrorIsBounded : Prop :=
  (∀ v, v < 2 ^ 20 → expand (compress v) = v) ∧
  (∀ v e, 2 ^ 20 ≤ v → v < 2 ^ 48 → e = v.log2 - 18 → expand (compress v) ≤ v + 2 ^ (e - 2) ∧ v ≤ expand (compress v) + 2 ^ (e - 2) ∧
    2 ^ (e - 2) * 2 ^ 20 ≤ v) ∧
  (∀ v, v < 2 ^ 48 → compress v < 2 ^ 24) ∧
  (∀ c, c < 30 * 2 ^ 19 → compress (expand c) = c)

/-- R60. DEVICE_NOP takes 0 to 4,080 parameter bytes and replies with the same bytes; every channel accepts it, PEER in a joined pair; it
takes no flags; and it is legal in INIT, TEST, SERVICE, DEGRADED and RECOVER. -/
def Obligations.NopRepliesItsParameters : Prop :=
  (∀ m s, passes cmdDeviceNop m s = true → exec (.deviceNop m) s = .next (ran cmdDeviceNop m s (ok s m.norm.params))) ∧
  (∀ m : Msg, m.len.toNat ≤ 4080 → (cmdDeviceNop.len m).1 = true) ∧
  (∀ m s, m.ch < 4 → m.ch ≠ 2 → cmdDeviceNop.accept m s = none) ∧
  (∀ m s, m.ch = 2 → s.pair.state = .joined → cmdDeviceNop.accept m s = none) ∧
  (∀ m : Msg, cmdDeviceNop.flags m = true ↔ m.flags = 0) ∧
  (∀ m s, cmdDeviceNop.legal m s = true ↔ s.life.state ∈ [.init, .test, .service, .degraded, .recover])

/-- R65, R67. Of the commands, BMC accepts DEVICE_NOP, DEVICE_MBX_TIMEOUT to read only, DEVICE_IDENTIFY, DEVICE_STATUS, EPOCH_STATUS,
PORT_STATUS, PAIR_STATUS, POWER_STATUS, CLOCK_STATUS, THERMAL_READ and ERRLOG_STATUS, and refuses the others with SECURE_ONLY, detail 2.
The 0x12xx group is accepted only on HOST_S, and on PEER in a joined pair from HOST_S; HOST_NS refuses it with SECURE_ONLY, detail 1,
and BMC with detail 2. -/
def Obligations.BmcAndSecureSetsAreKept : Prop :=
  ∀ r ∈ packetRows, ∀ (m : Msg) (s : State),
    (m.ch = 3 → r.2.op ∈ [0x0101, 0x0108, 0x0102, 0x0103, 0x0203, 0x0303, 0x0F03, 0x1001, 0x1002, 0x1003, 0x1104] → r.2.accept m s = none) ∧
    (m.ch = 3 → r.2.op ∉ [0x0101, 0x0108, 0x0102, 0x0103, 0x0203, 0x0303, 0x0F03, 0x1001, 0x1002, 0x1003, 0x1104] →
      r.2.accept m s = some (Status.secureOnly, 2)) ∧
    (m.ch = 3 → r.2.op = 0x0108 → m.norm.f 2 2 ≠ 0 → (m.norm.p 0 ≤ 3 ∨ m.norm.p 0 = 0xFF) → m.norm.p 1 = 0 →
      r.2.body m.norm s = refuse s Status.secureOnly 2) ∧
    (r.2.op / 256 = 0x12 → m.ch < 4 → r.2.accept m s = none → m.ch = 1 ∨ (m.ch = 2 ∧ s.pair.state = .joined ∧ m.origin = 1)) ∧
    (r.2.op / 256 = 0x12 → m.ch = 0 → r.2.accept m s = some (Status.secureOnly, 1)) ∧
    (r.2.op / 256 = 0x12 → m.ch = 3 → r.2.accept m s = some (Status.secureOnly, 2)) ∧
    (r.2.op / 256 = 0x12 → m.ch = 1 → s.standby = false → r.2.accept m s = none)

/-- R138. The winner of a lookup is the matching rule of lowest priority number, and among rules of equal priority that of lowest ID; a
lookup with no match returns the table's miss action, and one with a winner the winner's action. -/
def Obligations.LookupFindsFirstRule : Prop :=
  (∀ (t : RuleTable) mv r, t.find mv = some r → r ∈ t.rules ∧ ruleMatches r (keyOf t.segments mv) (segmentsWidth t.segments) = true ∧
    ∀ q ∈ t.rules, ruleMatches q (keyOf t.segments mv) (segmentsWidth t.segments) = true →
      rulePriority r < rulePriority q ∨ (rulePriority r = rulePriority q ∧ ruleId r ≤ ruleId q)) ∧
  (∀ (t : RuleTable) mv, t.find mv = none →
    ∀ q ∈ t.rules, ruleMatches q (keyOf t.segments mv) (segmentsWidth t.segments) = false) ∧
  (∀ (s : State) k t mv len r, s.repairing t = false → t.find mv = some r → (s.lookup k t mv len).1 = slice r 88 24) ∧
  (∀ (s : State) k t mv len, s.repairing t = false → t.find mv = none → (s.lookup k t mv len).1 = t.miss)
end

