-- ==== Sys2Proof/Laws/State.lean ====
section
/-!
SUPPORT. What the named operations over State leave unchanged: one lemma per part of State that reads after an update, so that no proof
unfolds a record update.
-/
namespace Sys2Proof.Machine

/-! Channels. -/

@[simp] theorem State.chan_setChan_self (s : State) (c : Nat) (x : Channel) : (s.setChan c x).chan c = x := by
  rcases c with _ | _ | _ | c <;> rfl

@[simp] theorem State.setChan_chan_fn (s : State) (c : Nat) (x : Channel) (p : Bool) : (s.setChan c x).fn p = s.fn p := by
  rcases c with _ | _ | _ | c <;> rfl

@[simp] theorem State.setChan_now (s : State) (c : Nat) (x : Channel) : (s.setChan c x).now = s.now := by
  rcases c with _ | _ | _ | c <;> rfl
@[simp] theorem State.setChan_free (s : State) (c : Nat) (x : Channel) : (s.setChan c x).free = s.free := by
  rcases c with _ | _ | _ | c <;> rfl
@[simp] theorem State.setChan_life (s : State) (c : Nat) (x : Channel) : (s.setChan c x).life = s.life := by
  rcases c with _ | _ | _ | c <;> rfl
@[simp] theorem State.setChan_pins (s : State) (c : Nat) (x : Channel) : (s.setChan c x).pins = s.pins := by
  rcases c with _ | _ | _ | c <;> rfl
@[simp] theorem State.setChan_power (s : State) (c : Nat) (x : Channel) : (s.setChan c x).power = s.power := by
  rcases c with _ | _ | _ | c <;> rfl
@[simp] theorem State.setChan_err (s : State) (c : Nat) (x : Channel) : (s.setChan c x).err = s.err := by
  rcases c with _ | _ | _ | c <;> rfl
@[simp] theorem State.setChan_pair (s : State) (c : Nat) (x : Channel) : (s.setChan c x).pair = s.pair := by
  rcases c with _ | _ | _ | c <;> rfl
@[simp] theorem State.setChan_epoch (s : State) (c : Nat) (x : Channel) : (s.setChan c x).epoch = s.epoch := by
  rcases c with _ | _ | _ | c <;> rfl
@[simp] theorem State.setChan_cur (s : State) (c : Nat) (x : Channel) : (s.setChan c x).cur = s.cur := by
  rcases c with _ | _ | _ | c <;> rfl
@[simp] theorem State.setChan_shadow (s : State) (c : Nat) (x : Channel) : (s.setChan c x).shadow = s.shadow := by
  rcases c with _ | _ | _ | c <;> rfl
@[simp] theorem State.setChan_drain (s : State) (c : Nat) (x : Channel) : (s.setChan c x).drain = s.drain := by
  rcases c with _ | _ | _ | c <;> rfl
@[simp] theorem State.setChan_dram (s : State) (c : Nat) (x : Channel) : (s.setChan c x).dram = s.dram := by
  rcases c with _ | _ | _ | c <;> rfl
@[simp] theorem State.setChan_ports (s : State) (c : Nat) (x : Channel) : (s.setChan c x).ports = s.ports := by
  rcases c with _ | _ | _ | c <;> rfl
@[simp] theorem State.setChan_canary (s : State) (c : Nat) (x : Channel) : (s.setChan c x).canary = s.canary := by
  rcases c with _ | _ | _ | c <;> rfl
@[simp] theorem State.setChan_parse (s : State) (c : Nat) (x : Channel) : (s.setChan c x).parse = s.parse := by
  rcases c with _ | _ | _ | c <;> rfl
@[simp] theorem State.setChan_rule (s : State) (c : Nat) (x : Channel) : (s.setChan c x).rule = s.rule := by
  rcases c with _ | _ | _ | c <;> rfl
@[simp] theorem State.setChan_flow (s : State) (c : Nat) (x : Channel) : (s.setChan c x).flow = s.flow := by
  rcases c with _ | _ | _ | c <;> rfl
@[simp] theorem State.setChan_nat (s : State) (c : Nat) (x : Channel) : (s.setChan c x).nat = s.nat := by
  rcases c with _ | _ | _ | c <;> rfl
@[simp] theorem State.setChan_fwd (s : State) (c : Nat) (x : Channel) : (s.setChan c x).fwd = s.fwd := by
  rcases c with _ | _ | _ | c <;> rfl
@[simp] theorem State.setChan_buf (s : State) (c : Nat) (x : Channel) : (s.setChan c x).buf = s.buf := by
  rcases c with _ | _ | _ | c <;> rfl
@[simp] theorem State.setChan_miners (s : State) (c : Nat) (x : Channel) : (s.setChan c x).miners = s.miners := by
  rcases c with _ | _ | _ | c <;> rfl
@[simp] theorem State.setChan_time (s : State) (c : Nat) (x : Channel) : (s.setChan c x).time = s.time := by
  rcases c with _ | _ | _ | c <;> rfl
@[simp] theorem State.setChan_telem (s : State) (c : Nat) (x : Channel) : (s.setChan c x).telem = s.telem := by
  rcases c with _ | _ | _ | c <;> rfl
@[simp] theorem State.setChan_host (s : State) (c : Nat) (x : Channel) : (s.setChan c x).host = s.host := by
  rcases c with _ | _ | _ | c <;> rfl
@[simp] theorem State.setChan_out (s : State) (c : Nat) (x : Channel) : (s.setChan c x).out = s.out := by
  rcases c with _ | _ | _ | c <;> rfl
@[simp] theorem State.setChan_pending (s : State) (c : Nat) (x : Channel) : (s.setChan c x).pending = s.pending := by
  rcases c with _ | _ | _ | c <;> rfl

/-! What is sent. -/

@[simp] theorem State.send_out (s : State) (o : Output) : (s.send o).out = s.out ++ [o] := rfl
@[simp] theorem State.send_now (s : State) (o : Output) : (s.send o).now = s.now := rfl
@[simp] theorem State.send_free (s : State) (o : Output) : (s.send o).free = s.free := rfl
@[simp] theorem State.send_life (s : State) (o : Output) : (s.send o).life = s.life := rfl
@[simp] theorem State.send_pins (s : State) (o : Output) : (s.send o).pins = s.pins := rfl
@[simp] theorem State.send_power (s : State) (o : Output) : (s.send o).power = s.power := rfl
@[simp] theorem State.send_err (s : State) (o : Output) : (s.send o).err = s.err := rfl
@[simp] theorem State.send_pair (s : State) (o : Output) : (s.send o).pair = s.pair := rfl
@[simp] theorem State.send_epoch (s : State) (o : Output) : (s.send o).epoch = s.epoch := rfl
@[simp] theorem State.send_cur (s : State) (o : Output) : (s.send o).cur = s.cur := rfl
@[simp] theorem State.send_shadow (s : State) (o : Output) : (s.send o).shadow = s.shadow := rfl
@[simp] theorem State.send_drain (s : State) (o : Output) : (s.send o).drain = s.drain := rfl
@[simp] theorem State.send_dram (s : State) (o : Output) : (s.send o).dram = s.dram := rfl
@[simp] theorem State.send_ports (s : State) (o : Output) : (s.send o).ports = s.ports := rfl
@[simp] theorem State.send_canary (s : State) (o : Output) : (s.send o).canary = s.canary := rfl
@[simp] theorem State.send_parse (s : State) (o : Output) : (s.send o).parse = s.parse := rfl
@[simp] theorem State.send_rule (s : State) (o : Output) : (s.send o).rule = s.rule := rfl
@[simp] theorem State.send_flow (s : State) (o : Output) : (s.send o).flow = s.flow := rfl
@[simp] theorem State.send_nat (s : State) (o : Output) : (s.send o).nat = s.nat := rfl
@[simp] theorem State.send_fwd (s : State) (o : Output) : (s.send o).fwd = s.fwd := rfl
@[simp] theorem State.send_buf (s : State) (o : Output) : (s.send o).buf = s.buf := rfl
@[simp] theorem State.send_miners (s : State) (o : Output) : (s.send o).miners = s.miners := rfl
@[simp] theorem State.send_time (s : State) (o : Output) : (s.send o).time = s.time := rfl
@[simp] theorem State.send_telem (s : State) (o : Output) : (s.send o).telem = s.telem := rfl
@[simp] theorem State.send_host (s : State) (o : Output) : (s.send o).host = s.host := rfl
@[simp] theorem State.send_pending (s : State) (o : Output) : (s.send o).pending = s.pending := rfl
@[simp] theorem State.send_ns (s : State) (o : Output) : (s.send o).ns = s.ns := rfl
@[simp] theorem State.send_sec (s : State) (o : Output) : (s.send o).sec = s.sec := rfl
@[simp] theorem State.send_peer (s : State) (o : Output) : (s.send o).peer = s.peer := rfl
@[simp] theorem State.send_bmc (s : State) (o : Output) : (s.send o).bmc = s.bmc := rfl
@[simp] theorem State.send_chan (s : State) (o : Output) (c : Nat) : (s.send o).chan c = s.chan c := rfl

/-! Functions. -/

@[simp] theorem State.fn_setFn_self (s : State) (p : Bool) (f : PciFunction) : (s.setFn p f).fn p = f := by
  cases p <;> rfl
@[simp] theorem State.setFn_now (s : State) (p : Bool) (f : PciFunction) : (s.setFn p f).now = s.now := by
  cases p <;> rfl
@[simp] theorem State.setFn_free (s : State) (p : Bool) (f : PciFunction) : (s.setFn p f).free = s.free := by
  cases p <;> rfl
@[simp] theorem State.setFn_life (s : State) (p : Bool) (f : PciFunction) : (s.setFn p f).life = s.life := by
  cases p <;> rfl
@[simp] theorem State.setFn_pins (s : State) (p : Bool) (f : PciFunction) : (s.setFn p f).pins = s.pins := by
  cases p <;> rfl
@[simp] theorem State.setFn_power (s : State) (p : Bool) (f : PciFunction) : (s.setFn p f).power = s.power := by
  cases p <;> rfl
@[simp] theorem State.setFn_err (s : State) (p : Bool) (f : PciFunction) : (s.setFn p f).err = s.err := by
  cases p <;> rfl
@[simp] theorem State.setFn_pair (s : State) (p : Bool) (f : PciFunction) : (s.setFn p f).pair = s.pair := by
  cases p <;> rfl
@[simp] theorem State.setFn_epoch (s : State) (p : Bool) (f : PciFunction) : (s.setFn p f).epoch = s.epoch := by
  cases p <;> rfl
@[simp] theorem State.setFn_cur (s : State) (p : Bool) (f : PciFunction) : (s.setFn p f).cur = s.cur := by
  cases p <;> rfl
@[simp] theorem State.setFn_shadow (s : State) (p : Bool) (f : PciFunction) : (s.setFn p f).shadow = s.shadow := by
  cases p <;> rfl
@[simp] theorem State.setFn_drain (s : State) (p : Bool) (f : PciFunction) : (s.setFn p f).drain = s.drain := by
  cases p <;> rfl
@[simp] theorem State.setFn_dram (s : State) (p : Bool) (f : PciFunction) : (s.setFn p f).dram = s.dram := by
  cases p <;> rfl
@[simp] theorem State.setFn_ports (s : State) (p : Bool) (f : PciFunction) : (s.setFn p f).ports = s.ports := by
  cases p <;> rfl
@[simp] theorem State.setFn_canary (s : State) (p : Bool) (f : PciFunction) : (s.setFn p f).canary = s.canary := by
  cases p <;> rfl
@[simp] theorem State.setFn_parse (s : State) (p : Bool) (f : PciFunction) : (s.setFn p f).parse = s.parse := by
  cases p <;> rfl
@[simp] theorem State.setFn_rule (s : State) (p : Bool) (f : PciFunction) : (s.setFn p f).rule = s.rule := by
  cases p <;> rfl
@[simp] theorem State.setFn_flow (s : State) (p : Bool) (f : PciFunction) : (s.setFn p f).flow = s.flow := by
  cases p <;> rfl
@[simp] theorem State.setFn_nat (s : State) (p : Bool) (f : PciFunction) : (s.setFn p f).nat = s.nat := by
  cases p <;> rfl
@[simp] theorem State.setFn_fwd (s : State) (p : Bool) (f : PciFunction) : (s.setFn p f).fwd = s.fwd := by
  cases p <;> rfl
@[simp] theorem State.setFn_buf (s : State) (p : Bool) (f : PciFunction) : (s.setFn p f).buf = s.buf := by
  cases p <;> rfl
@[simp] theorem State.setFn_miners (s : State) (p : Bool) (f : PciFunction) : (s.setFn p f).miners = s.miners := by
  cases p <;> rfl
@[simp] theorem State.setFn_time (s : State) (p : Bool) (f : PciFunction) : (s.setFn p f).time = s.time := by
  cases p <;> rfl
@[simp] theorem State.setFn_telem (s : State) (p : Bool) (f : PciFunction) : (s.setFn p f).telem = s.telem := by
  cases p <;> rfl
@[simp] theorem State.setFn_out (s : State) (p : Bool) (f : PciFunction) : (s.setFn p f).out = s.out := by
  cases p <;> rfl
@[simp] theorem State.setFn_pending (s : State) (p : Bool) (f : PciFunction) : (s.setFn p f).pending = s.pending := by
  cases p <;> rfl
@[simp] theorem State.setFn_ns (s : State) (p : Bool) (f : PciFunction) : (s.setFn p f).ns = s.ns := by
  cases p <;> rfl
@[simp] theorem State.setFn_sec (s : State) (p : Bool) (f : PciFunction) : (s.setFn p f).sec = s.sec := by
  cases p <;> rfl
@[simp] theorem State.setFn_peer (s : State) (p : Bool) (f : PciFunction) : (s.setFn p f).peer = s.peer := by
  cases p <;> rfl
@[simp] theorem State.setFn_bmc (s : State) (p : Bool) (f : PciFunction) : (s.setFn p f).bmc = s.bmc := by
  cases p <;> rfl
@[simp] theorem State.setFn_chan (s : State) (p : Bool) (f : PciFunction) (c : Nat) : (s.setFn p f).chan c = s.chan c := by
  cases p <;> rfl

/-! A port. -/

@[simp] theorem State.setPort_now (s : State) (p : Nat) (x : Port) : (s.setPort p x).now = s.now := rfl
@[simp] theorem State.setPort_free (s : State) (p : Nat) (x : Port) : (s.setPort p x).free = s.free := rfl
@[simp] theorem State.setPort_life (s : State) (p : Nat) (x : Port) : (s.setPort p x).life = s.life := rfl
@[simp] theorem State.setPort_pins (s : State) (p : Nat) (x : Port) : (s.setPort p x).pins = s.pins := rfl
@[simp] theorem State.setPort_power (s : State) (p : Nat) (x : Port) : (s.setPort p x).power = s.power := rfl
@[simp] theorem State.setPort_err (s : State) (p : Nat) (x : Port) : (s.setPort p x).err = s.err := rfl
@[simp] theorem State.setPort_pair (s : State) (p : Nat) (x : Port) : (s.setPort p x).pair = s.pair := rfl
@[simp] theorem State.setPort_epoch (s : State) (p : Nat) (x : Port) : (s.setPort p x).epoch = s.epoch := rfl
@[simp] theorem State.setPort_cur (s : State) (p : Nat) (x : Port) : (s.setPort p x).cur = s.cur := rfl
@[simp] theorem State.setPort_shadow (s : State) (p : Nat) (x : Port) : (s.setPort p x).shadow = s.shadow := rfl
@[simp] theorem State.setPort_drain (s : State) (p : Nat) (x : Port) : (s.setPort p x).drain = s.drain := rfl
@[simp] theorem State.setPort_dram (s : State) (p : Nat) (x : Port) : (s.setPort p x).dram = s.dram := rfl
@[simp] theorem State.setPort_canary (s : State) (p : Nat) (x : Port) : (s.setPort p x).canary = s.canary := rfl
@[simp] theorem State.setPort_parse (s : State) (p : Nat) (x : Port) : (s.setPort p x).parse = s.parse := rfl
@[simp] theorem State.setPort_rule (s : State) (p : Nat) (x : Port) : (s.setPort p x).rule = s.rule := rfl
@[simp] theorem State.setPort_flow (s : State) (p : Nat) (x : Port) : (s.setPort p x).flow = s.flow := rfl
@[simp] theorem State.setPort_nat (s : State) (p : Nat) (x : Port) : (s.setPort p x).nat = s.nat := rfl
@[simp] theorem State.setPort_fwd (s : State) (p : Nat) (x : Port) : (s.setPort p x).fwd = s.fwd := rfl
@[simp] theorem State.setPort_buf (s : State) (p : Nat) (x : Port) : (s.setPort p x).buf = s.buf := rfl
@[simp] theorem State.setPort_miners (s : State) (p : Nat) (x : Port) : (s.setPort p x).miners = s.miners := rfl
@[simp] theorem State.setPort_time (s : State) (p : Nat) (x : Port) : (s.setPort p x).time = s.time := rfl
@[simp] theorem State.setPort_telem (s : State) (p : Nat) (x : Port) : (s.setPort p x).telem = s.telem := rfl
@[simp] theorem State.setPort_host (s : State) (p : Nat) (x : Port) : (s.setPort p x).host = s.host := rfl
@[simp] theorem State.setPort_out (s : State) (p : Nat) (x : Port) : (s.setPort p x).out = s.out := rfl
@[simp] theorem State.setPort_pending (s : State) (p : Nat) (x : Port) : (s.setPort p x).pending = s.pending := rfl
@[simp] theorem State.setPort_ns (s : State) (p : Nat) (x : Port) : (s.setPort p x).ns = s.ns := rfl
@[simp] theorem State.setPort_sec (s : State) (p : Nat) (x : Port) : (s.setPort p x).sec = s.sec := rfl
@[simp] theorem State.setPort_peer (s : State) (p : Nat) (x : Port) : (s.setPort p x).peer = s.peer := rfl
@[simp] theorem State.setPort_bmc (s : State) (p : Nat) (x : Port) : (s.setPort p x).bmc = s.bmc := rfl

/-! An alert. -/

@[simp] theorem State.alert_now (s : State) (b : Nat) : (s.alert b).now = s.now := rfl
@[simp] theorem State.alert_free (s : State) (b : Nat) : (s.alert b).free = s.free := rfl
@[simp] theorem State.alert_life (s : State) (b : Nat) : (s.alert b).life = s.life := rfl
@[simp] theorem State.alert_pins (s : State) (b : Nat) : (s.alert b).pins = s.pins := rfl
@[simp] theorem State.alert_power (s : State) (b : Nat) : (s.alert b).power = s.power := rfl
@[simp] theorem State.alert_err (s : State) (b : Nat) : (s.alert b).err = s.err := rfl
@[simp] theorem State.alert_pair (s : State) (b : Nat) : (s.alert b).pair = s.pair := rfl
@[simp] theorem State.alert_epoch (s : State) (b : Nat) : (s.alert b).epoch = s.epoch := rfl
@[simp] theorem State.alert_cur (s : State) (b : Nat) : (s.alert b).cur = s.cur := rfl
@[simp] theorem State.alert_shadow (s : State) (b : Nat) : (s.alert b).shadow = s.shadow := rfl
@[simp] theorem State.alert_drain (s : State) (b : Nat) : (s.alert b).drain = s.drain := rfl
@[simp] theorem State.alert_dram (s : State) (b : Nat) : (s.alert b).dram = s.dram := rfl
@[simp] theorem State.alert_ports (s : State) (b : Nat) : (s.alert b).ports = s.ports := rfl
@[simp] theorem State.alert_canary (s : State) (b : Nat) : (s.alert b).canary = s.canary := rfl
@[simp] theorem State.alert_parse (s : State) (b : Nat) : (s.alert b).parse = s.parse := rfl
@[simp] theorem State.alert_rule (s : State) (b : Nat) : (s.alert b).rule = s.rule := rfl
@[simp] theorem State.alert_flow (s : State) (b : Nat) : (s.alert b).flow = s.flow := rfl
@[simp] theorem State.alert_nat (s : State) (b : Nat) : (s.alert b).nat = s.nat := rfl
@[simp] theorem State.alert_fwd (s : State) (b : Nat) : (s.alert b).fwd = s.fwd := rfl
@[simp] theorem State.alert_buf (s : State) (b : Nat) : (s.alert b).buf = s.buf := rfl
@[simp] theorem State.alert_miners (s : State) (b : Nat) : (s.alert b).miners = s.miners := rfl
@[simp] theorem State.alert_time (s : State) (b : Nat) : (s.alert b).time = s.time := rfl
@[simp] theorem State.alert_telem (s : State) (b : Nat) : (s.alert b).telem = s.telem := rfl
@[simp] theorem State.alert_out (s : State) (b : Nat) : (s.alert b).out = s.out := rfl
@[simp] theorem State.alert_pending (s : State) (b : Nat) : (s.alert b).pending = s.pending := rfl
@[simp] theorem State.alert_ns (s : State) (b : Nat) : (s.alert b).ns = s.ns := rfl
@[simp] theorem State.alert_sec (s : State) (b : Nat) : (s.alert b).sec = s.sec := rfl
@[simp] theorem State.alert_peer (s : State) (b : Nat) : (s.alert b).peer = s.peer := rfl
@[simp] theorem State.alert_bmc (s : State) (b : Nat) : (s.alert b).bmc = s.bmc := rfl

end Sys2Proof.Machine
end

