-- ==== Sys2Proof/Laws/Settle.lean ====
section
/-!
SUPPORT. What the end of a meaning does beyond the meaning's own effect: the log is put in its order, tasks wake, programmed counters count
and vectors are raised, and nothing else changes.
-/
namespace Sys2Proof.Machine

/-- Only the functions' registers and what was sent differ, and what was sent stays sent. -/
def VectorsOnly (s t : State) : Prop :=
  ∃ a b o, t = { s with host := { s.host with pf0 := a, pf1 := b }, out := s.out ++ o }

theorem VectorsOnly.rfl' (s : State) : VectorsOnly s s := ⟨s.host.pf0, s.host.pf1, [], by simp⟩

theorem VectorsOnly.trans {s t u : State} (h : VectorsOnly s t) (g : VectorsOnly t u) : VectorsOnly s u := by
  obtain ⟨a, b, o, rfl⟩ := h
  obtain ⟨c, d, q, rfl⟩ := g
  exact ⟨c, d, o ++ q, by simp⟩

theorem VectorsOnly.setFn (s : State) (p : Bool) (f : PciFunction) : VectorsOnly s (s.setFn p f) := by
  cases p
  · exact ⟨f, s.host.pf1, [], by simp [State.setFn]⟩
  · exact ⟨s.host.pf0, f, [], by simp [State.setFn]⟩

theorem VectorsOnly.send (s : State) (x : Output) : VectorsOnly s (s.send x) := ⟨s.host.pf0, s.host.pf1, [x], rfl⟩

/-- Raising a vector changes the vectors of that function and what was sent, nothing else. -/
theorem State.raiseVector_frame (s : State) (p : Bool) (v : Nat) : VectorsOnly s (s.raiseVector p v) := by
  unfold State.raiseVector
  dsimp only
  split
  · exact .rfl' s
  · split
    · exact .rfl' s
    · split
      · exact .setFn s p _
      · exact .send s _

theorem settleFn_frame (p : Bool) (old : State) (l : List Nat) (s : State) : VectorsOnly s (settleFn p old l s) := by
  induction l generalizing s with
  | nil => exact .rfl' s
  | cons v vs ih =>
    unfold settleFn
    split
    · exact (s.raiseVector_frame p v).trans (ih _)
    · exact ih s

/-- Settling changes the functions' vectors and what was sent, nothing else. -/
theorem settle_frame (old s : State) : VectorsOnly s (settle old s) :=
  (settleFn_frame false old _ s).trans (settleFn_frame true old _ _)

/-- Counting a step changes the programmed counters, nothing else. -/
theorem countStep_frame (old s : State) :
    countStep old s = { s with telem := { s.telem with perf := (countStep old s).telem.perf } } := by
  unfold countStep
  dsimp only
  split <;> rfl

/-- Only the tasks and miners differ. -/
def MinersOnly (s t : State) : Prop := ∃ m, t = { s with miners := m }

theorem MinersOnly.rfl' (s : State) : MinersOnly s s := ⟨s.miners, rfl⟩

theorem MinersOnly.trans {s t u : State} (h : MinersOnly s t) (g : MinersOnly t u) : MinersOnly s u := by
  obtain ⟨a, rfl⟩ := h
  obtain ⟨b, rfl⟩ := g
  exact ⟨b, rfl⟩

theorem MinersOnly.foldl {α : Type} (f : State → α → State) (hf : ∀ s a, MinersOnly s (f s a)) (l : List α) (s : State) :
    MinersOnly s (l.foldl f s) := by
  induction l generalizing s with
  | nil => exact .rfl' s
  | cons a l ih => exact (hf s a).trans (ih _)

theorem State.request_frame (s : State) (k : Nat) : MinersOnly s (s.request k) := by
  unfold State.request
  split
  · exact .rfl' s
  · split
    · exact .rfl' s
    · split
      · exact ⟨_, rfl⟩
      · exact .rfl' s

theorem State.makeReady_frame (s : State) (k : Nat) (front : Bool) : MinersOnly s (s.makeReady k front) := by
  have h : MinersOnly s (s.enlist k front) := by
    unfold State.enlist
    split
    · exact .rfl' s
    · exact ⟨_, rfl⟩
  refine h.trans ?_
  show MinersOnly _ (s.enlist k front).requests
  unfold State.requests
  split
  · exact .rfl' _
  · exact .foldl _ State.request_frame _ _

theorem State.wake_frame (s : State) (type : Nat) : MinersOnly s (s.wake type) := by
  unfold State.wake
  dsimp only
  refine MinersOnly.foldl _ ?_ _ _
  intro s e
  exact s.makeReady_frame e.1 false

/-- Work that comes for the scheduler changes its tasks and miners, nothing else (R329). -/
theorem State.wakeAll_frame (s : State) : MinersOnly s s.wakeAll := by
  unfold State.wakeAll
  refine (MinersOnly.foldl _ State.wake_frame _ _).trans (.trans (.foldl _ ?_ _ _) (.foldl _ State.wake_frame _ _))
  intro s x
  cases h : s.addTask x.1 x.2 with
  | none => exact .rfl' s
  | some r =>
    simp only [State.addTask, Option.map_eq_some_iff] at h
    obtain ⟨k, -, rfl⟩ := h
    exact .trans ⟨_, rfl⟩ (State.makeReady_frame _ k false)

theorem State.wakeAll_eq (s : State) : s.wakeAll = { s with miners := s.wakeAll.miners } := by
  obtain ⟨m, h⟩ := s.wakeAll_frame
  rw [h]

/-- A log that took no entry stands as it stood. -/
@[simp] theorem ErrLog.inOrder_self (e : ErrLog) : e.inOrder e = e := by simp [ErrLog.inOrder]

/-- The end of a meaning puts the log in its order, wakes tasks, counts, raises vectors and sends their messages, and changes nothing else. -/
theorem settled_frame (old s : State) :
    ∃ a b p o, Claims.settled old s =
      { s with err := old.err.inOrder s.err, miners := s.wakeAll.miners, host := { s.host with pf0 := a, pf1 := b },
               telem := { s.telem with perf := p }, out := s.out ++ o } := by
  have hw := s.wakeAll_eq
  unfold Claims.settled
  rw [hw]
  generalize hu : ({ s with miners := s.wakeAll.miners, err := old.err.inOrder s.err } : State) = u
  obtain ⟨a, b, o, h⟩ := settle_frame old (countStep old u)
  have h3 := countStep_frame old u
  refine ⟨a, b, (countStep old u).telem.perf, o, h.trans ?_⟩
  generalize countStep old u = v at *
  rw [h3, ← hu]

/-- Where no source condition of a vector changes, nothing is raised. -/
theorem settleFn_quiet (p : Bool) (old : State) (l : List Nat) (s : State) (h : ∀ v, s.source p v = true → old.source p v = true) :
    settleFn p old l s = s := by
  induction l with
  | nil => rfl
  | cons v vs ih =>
    unfold settleFn
    have hc : (s.source p v && !old.source p v && s.vectorEnable p v) = false := by
      cases hs : s.source p v
      · rfl
      · simp [h v hs]
    rw [hc]
    exact ih

theorem settle_quiet (old s : State) (h : ∀ p v, s.source p v = true → old.source p v = true) : settle old s = s := by
  unfold settle
  rw [settleFn_quiet false old _ s (h false), settleFn_quiet true old _ s (h true)]

theorem countStep_source (old s : State) (p : Bool) (v : Nat) : (countStep old s).source p v = s.source p v := by
  rw [countStep_frame]
  rfl

@[simp] theorem settled_now (old s : State) : (Claims.settled old s).now = s.now := by
  obtain ⟨_, _, _, _, h⟩ := settled_frame old s; rw [h]
@[simp] theorem settled_free (old s : State) : (Claims.settled old s).free = s.free := by
  obtain ⟨_, _, _, _, h⟩ := settled_frame old s; rw [h]
@[simp] theorem settled_life (old s : State) : (Claims.settled old s).life = s.life := by
  obtain ⟨_, _, _, _, h⟩ := settled_frame old s; rw [h]
@[simp] theorem settled_pins (old s : State) : (Claims.settled old s).pins = s.pins := by
  obtain ⟨_, _, _, _, h⟩ := settled_frame old s; rw [h]
@[simp] theorem settled_power (old s : State) : (Claims.settled old s).power = s.power := by
  obtain ⟨_, _, _, _, h⟩ := settled_frame old s; rw [h]
@[simp] theorem settled_err (old s : State) : (Claims.settled old s).err = old.err.inOrder s.err := by
  obtain ⟨_, _, _, _, h⟩ := settled_frame old s; rw [h]
@[simp] theorem settled_pair (old s : State) : (Claims.settled old s).pair = s.pair := by
  obtain ⟨_, _, _, _, h⟩ := settled_frame old s; rw [h]
@[simp] theorem settled_ns (old s : State) : (Claims.settled old s).ns = s.ns := by
  obtain ⟨_, _, _, _, h⟩ := settled_frame old s; rw [h]
@[simp] theorem settled_sec (old s : State) : (Claims.settled old s).sec = s.sec := by
  obtain ⟨_, _, _, _, h⟩ := settled_frame old s; rw [h]
@[simp] theorem settled_peer (old s : State) : (Claims.settled old s).peer = s.peer := by
  obtain ⟨_, _, _, _, h⟩ := settled_frame old s; rw [h]
@[simp] theorem settled_bmc (old s : State) : (Claims.settled old s).bmc = s.bmc := by
  obtain ⟨_, _, _, _, h⟩ := settled_frame old s; rw [h]
@[simp] theorem settled_epoch (old s : State) : (Claims.settled old s).epoch = s.epoch := by
  obtain ⟨_, _, _, _, h⟩ := settled_frame old s; rw [h]
@[simp] theorem settled_cur (old s : State) : (Claims.settled old s).cur = s.cur := by
  obtain ⟨_, _, _, _, h⟩ := settled_frame old s; rw [h]
@[simp] theorem settled_shadow (old s : State) : (Claims.settled old s).shadow = s.shadow := by
  obtain ⟨_, _, _, _, h⟩ := settled_frame old s; rw [h]
@[simp] theorem settled_drain (old s : State) : (Claims.settled old s).drain = s.drain := by
  obtain ⟨_, _, _, _, h⟩ := settled_frame old s; rw [h]
@[simp] theorem settled_dram (old s : State) : (Claims.settled old s).dram = s.dram := by
  obtain ⟨_, _, _, _, h⟩ := settled_frame old s; rw [h]
@[simp] theorem settled_ports (old s : State) : (Claims.settled old s).ports = s.ports := by
  obtain ⟨_, _, _, _, h⟩ := settled_frame old s; rw [h]
@[simp] theorem settled_canary (old s : State) : (Claims.settled old s).canary = s.canary := by
  obtain ⟨_, _, _, _, h⟩ := settled_frame old s; rw [h]
@[simp] theorem settled_parse (old s : State) : (Claims.settled old s).parse = s.parse := by
  obtain ⟨_, _, _, _, h⟩ := settled_frame old s; rw [h]
@[simp] theorem settled_rule (old s : State) : (Claims.settled old s).rule = s.rule := by
  obtain ⟨_, _, _, _, h⟩ := settled_frame old s; rw [h]
@[simp] theorem settled_flow (old s : State) : (Claims.settled old s).flow = s.flow := by
  obtain ⟨_, _, _, _, h⟩ := settled_frame old s; rw [h]
@[simp] theorem settled_nat (old s : State) : (Claims.settled old s).nat = s.nat := by
  obtain ⟨_, _, _, _, h⟩ := settled_frame old s; rw [h]
@[simp] theorem settled_fwd (old s : State) : (Claims.settled old s).fwd = s.fwd := by
  obtain ⟨_, _, _, _, h⟩ := settled_frame old s; rw [h]
@[simp] theorem settled_buf (old s : State) : (Claims.settled old s).buf = s.buf := by
  obtain ⟨_, _, _, _, h⟩ := settled_frame old s; rw [h]
@[simp] theorem settled_miners (old s : State) : (Claims.settled old s).miners = s.wakeAll.miners := by
  obtain ⟨_, _, _, _, h⟩ := settled_frame old s; rw [h]
@[simp] theorem settled_time (old s : State) : (Claims.settled old s).time = s.time := by
  obtain ⟨_, _, _, _, h⟩ := settled_frame old s; rw [h]
@[simp] theorem settled_pending (old s : State) : (Claims.settled old s).pending = s.pending := by
  obtain ⟨_, _, _, _, h⟩ := settled_frame old s; rw [h]
@[simp] theorem settled_chan (old s : State) (c : Nat) : (Claims.settled old s).chan c = s.chan c := by
  rcases c with _ | _ | _ | c <;> simp [State.chan]
@[simp] theorem settled_booted (old s : State) : (Claims.settled old s).booted = s.booted := by simp [State.booted]
@[simp] theorem settled_host_channels (old s : State) : (Claims.settled old s).host.channels = s.host.channels := by
  obtain ⟨_, _, _, _, h⟩ := settled_frame old s; rw [h]
@[simp] theorem settled_host_owner (old s : State) : (Claims.settled old s).host.owner = s.host.owner := by
  obtain ⟨_, _, _, _, h⟩ := settled_frame old s; rw [h]
@[simp] theorem settled_host_alertPin (old s : State) : (Claims.settled old s).host.alertPin = s.host.alertPin := by
  obtain ⟨_, _, _, _, h⟩ := settled_frame old s; rw [h]
@[simp] theorem settled_host_halted (old s : State) : (Claims.settled old s).host.halted = s.host.halted := by
  obtain ⟨_, _, _, _, h⟩ := settled_frame old s; rw [h]
@[simp] theorem settled_host_cause (old s : State) : (Claims.settled old s).host.cause = s.host.cause := by
  obtain ⟨_, _, _, _, h⟩ := settled_frame old s; rw [h]
@[simp] theorem settled_host_haltReq (old s : State) : (Claims.settled old s).host.haltReq = s.host.haltReq := by
  obtain ⟨_, _, _, _, h⟩ := settled_frame old s; rw [h]
@[simp] theorem settled_host_haltAddr (old s : State) : (Claims.settled old s).host.haltAddr = s.host.haltAddr := by
  obtain ⟨_, _, _, _, h⟩ := settled_frame old s; rw [h]
@[simp] theorem settled_host_irqDone (old s : State) : (Claims.settled old s).host.irqDone = s.host.irqDone := by
  obtain ⟨_, _, _, _, h⟩ := settled_frame old s; rw [h]
@[simp] theorem settled_host_irqErr (old s : State) : (Claims.settled old s).host.irqErr = s.host.irqErr := by
  obtain ⟨_, _, _, _, h⟩ := settled_frame old s; rw [h]
@[simp] theorem settled_host_haltCount (old s : State) : (Claims.settled old s).host.haltCount = s.host.haltCount := by
  obtain ⟨_, _, _, _, h⟩ := settled_frame old s; rw [h]
@[simp] theorem settled_host_holds (old s : State) : (Claims.settled old s).host.holds = s.host.holds := by
  obtain ⟨_, _, _, _, h⟩ := settled_frame old s; rw [h]
@[simp] theorem settled_host_linkUp (old s : State) : (Claims.settled old s).host.linkUp = s.host.linkUp := by
  obtain ⟨_, _, _, _, h⟩ := settled_frame old s; rw [h]
@[simp] theorem settled_host_served (old s : State) : (Claims.settled old s).host.served = s.host.served := by
  obtain ⟨_, _, _, _, h⟩ := settled_frame old s; rw [h]

/-- What was sent before stays sent. -/
theorem settled_out (old s : State) : s.out <+: (Claims.settled old s).out := by
  obtain ⟨_, _, _, o, h⟩ := settled_frame old s
  rw [h]
  exact List.prefix_append _ _

/-- Waking tasks and ordering the log change no source condition of a vector but those of the log. -/
theorem wakeAll_source (s : State) (p : Bool) (v : Nat) : s.wakeAll.source p v = s.source p v := by
  obtain ⟨m, h⟩ := s.wakeAll_frame
  rw [h]
  rfl

/-- Where no source condition of a vector becomes true and the log takes at most one entry, nothing more is sent. -/
theorem settled_out_quiet (old s : State) (he : old.err.inOrder s.err = s.err) (h : ∀ p v, s.source p v = true → old.source p v = true) :
    (Claims.settled old s).out = s.out := by
  have e : s.wakeAll.err = s.err := by rw [s.wakeAll_eq]
  have q : ({ s.wakeAll with err := old.err.inOrder s.wakeAll.err } : State) = s.wakeAll := by rw [e, he, ← e]
  unfold Claims.settled
  rw [q, settle_quiet old (countStep old s.wakeAll)
    (fun p v hv => h p v (by rwa [countStep_source, wakeAll_source] at hv)), countStep_frame, s.wakeAll_eq]

end Sys2Proof.Machine
end

