-- ==== Sys2Proof/Laws/Commands.lean ====
section
/-!
SUPPORT. A command packet that passes its checks runs its body and ends with the body's answer; one that does not is answered with the
first check that fails.
-/
namespace Sys2Proof.Machine
open Claims

theorem done_eq (old s : State) : done old s = .next (settled old s) := rfl

/-- A packet that passes the checks of R52 ends as its body answers. -/
theorem run_passes (c : Cmd) (m : Msg) (s : State) (h : passes c m s = true) :
    runCommand c m s = .next (ran c m s (c.body m.norm s)) := by
  unfold passes at h
  simp only [Bool.and_eq_true, Option.isNone_iff_eq_none] at h
  obtain ⟨⟨h1, h2⟩, h3⟩ := h
  simp [runCommand, h1, h2, interpret, h3, ran, done_eq]

/-- The same, with the body's answer named. -/
theorem run_answers (c : Cmd) (m : Msg) (s : State) (d : Done) (h : passes c m s = true) (hb : c.body m.norm s = d) :
    runCommand c m s = .next (ran c m s d) := by
  rw [run_passes c m s h, hb]

/-- The meaning of every packet row is the shared run of its command. -/
theorem packetRow_exec : ∀ r ∈ packetRows, ∀ m s, exec (r.1 m) s = runCommand r.2 m s := by
  intro r h
  simp only [packetRows, List.mem_append] at h
  rcases h with (((((h | h) | h) | h) | h) | h)
  all_goals
    simp only [packetRows1, packetRows2, packetRows3, packetRows4, packetRows5, packetRows6, List.mem_cons, List.not_mem_nil, or_false] at h
    repeat' (first | (rcases h with h | h) | (subst h))
  all_goals (intro m s; rfl)

/-- Zero bytes let a command go on. -/
theorem needZero_of (s : State) (m : Msg) (l : List Nat) (go : Done) (h : zeroAt m l = true) : needZero s m l go = go := by
  unfold zeroAt at h
  unfold needZero
  rw [Option.isNone_iff_eq_none] at h
  rw [h]

/-- Zero bytes let a record go on. -/
theorem recZero_of (b : Bytes) (base : Nat) (l : List Nat) (go : RecAns) (h : (firstNonZeroAt b l).isNone = true) :
    recZero b base l go = go := by
  unfold recZero
  rw [Option.isNone_iff_eq_none] at h
  rw [h]

/-- A command of one record that is executed answers with that record's reply. -/
theorem records_one (m : Msg) (k : Nat) (f : State → Bytes → Nat → RecAns) (s t : State) (b out : Bytes) (h : m.recs k = [b])
    (hf : f s b 16 = .ok t out) : records m k f s = ok t out := by
  unfold Msg.recs at h
  unfold records
  rw [h]
  simp [runRecords, hf]

end Sys2Proof.Machine
end

