-- ==== Sys2Proof/Laws/Ops.lean ====
section
/-!
SUPPORT. What the error log, the alerts, the canary, the links, the standing faults and the transitions leave unchanged.
-/
namespace Sys2Proof.Machine

/-- Only the error log and the functions' registers differ. -/
def LogOnly (s t : State) : Prop := ∃ e a b, t = { s with err := e, host := { s.host with pf0 := a, pf1 := b } }

theorem LogOnly.rfl' (s : State) : LogOnly s s := ⟨s.err, s.host.pf0, s.host.pf1, rfl⟩

theorem LogOnly.trans {s t u : State} (h : LogOnly s t) (g : LogOnly t u) : LogOnly s u := by
  obtain ⟨_, _, _, rfl⟩ := h
  obtain ⟨e, a, b, rfl⟩ := g
  exact ⟨e, a, b, rfl⟩

theorem State.alert_frame (s : State) (b : Nat) : LogOnly s (s.alert b) := ⟨s.err, _, _, rfl⟩

/-- An occurrence of an error changes the error log and the alerts, nothing else. -/
theorem State.logError_frame (s : State) (cls inst : Nat) (d : Bytes) (c : Bool) : LogOnly s (s.logError cls inst d c) := by
  unfold State.logError
  dsimp only
  split
  · exact .rfl' s
  · repeat' split
    all_goals exact ⟨_, _, _, rfl⟩

@[simp] theorem State.logError_now (s : State) (cls inst : Nat) (d : Bytes) (c : Bool) : (s.logError cls inst d c).now = s.now := by
  obtain ⟨_, _, _, h⟩ := s.logError_frame cls inst d c; rw [h]
@[simp] theorem State.logError_life (s : State) (cls inst : Nat) (d : Bytes) (c : Bool) : (s.logError cls inst d c).life = s.life := by
  obtain ⟨_, _, _, h⟩ := s.logError_frame cls inst d c; rw [h]
@[simp] theorem State.logError_pins (s : State) (cls inst : Nat) (d : Bytes) (c : Bool) : (s.logError cls inst d c).pins = s.pins := by
  obtain ⟨_, _, _, h⟩ := s.logError_frame cls inst d c; rw [h]
@[simp] theorem State.logError_power (s : State) (cls inst : Nat) (d : Bytes) (c : Bool) : (s.logError cls inst d c).power = s.power := by
  obtain ⟨_, _, _, h⟩ := s.logError_frame cls inst d c; rw [h]
@[simp] theorem State.logError_pair (s : State) (cls inst : Nat) (d : Bytes) (c : Bool) : (s.logError cls inst d c).pair = s.pair := by
  obtain ⟨_, _, _, h⟩ := s.logError_frame cls inst d c; rw [h]
@[simp] theorem State.logError_epoch (s : State) (cls inst : Nat) (d : Bytes) (c : Bool) : (s.logError cls inst d c).epoch = s.epoch := by
  obtain ⟨_, _, _, h⟩ := s.logError_frame cls inst d c; rw [h]
@[simp] theorem State.logError_cur (s : State) (cls inst : Nat) (d : Bytes) (c : Bool) : (s.logError cls inst d c).cur = s.cur := by
  obtain ⟨_, _, _, h⟩ := s.logError_frame cls inst d c; rw [h]
@[simp] theorem State.logError_shadow (s : State) (cls inst : Nat) (d : Bytes) (c : Bool) : (s.logError cls inst d c).shadow = s.shadow := by
  obtain ⟨_, _, _, h⟩ := s.logError_frame cls inst d c; rw [h]
@[simp] theorem State.logError_drain (s : State) (cls inst : Nat) (d : Bytes) (c : Bool) : (s.logError cls inst d c).drain = s.drain := by
  obtain ⟨_, _, _, h⟩ := s.logError_frame cls inst d c; rw [h]
@[simp] theorem State.logError_dram (s : State) (cls inst : Nat) (d : Bytes) (c : Bool) : (s.logError cls inst d c).dram = s.dram := by
  obtain ⟨_, _, _, h⟩ := s.logError_frame cls inst d c; rw [h]
@[simp] theorem State.logError_canary (s : State) (cls inst : Nat) (d : Bytes) (c : Bool) : (s.logError cls inst d c).canary = s.canary := by
  obtain ⟨_, _, _, h⟩ := s.logError_frame cls inst d c; rw [h]
@[simp] theorem State.logError_rule (s : State) (cls inst : Nat) (d : Bytes) (c : Bool) : (s.logError cls inst d c).rule = s.rule := by
  obtain ⟨_, _, _, h⟩ := s.logError_frame cls inst d c; rw [h]
@[simp] theorem State.logError_flow (s : State) (cls inst : Nat) (d : Bytes) (c : Bool) : (s.logError cls inst d c).flow = s.flow := by
  obtain ⟨_, _, _, h⟩ := s.logError_frame cls inst d c; rw [h]
@[simp] theorem State.logError_nat (s : State) (cls inst : Nat) (d : Bytes) (c : Bool) : (s.logError cls inst d c).nat = s.nat := by
  obtain ⟨_, _, _, h⟩ := s.logError_frame cls inst d c; rw [h]
@[simp] theorem State.logError_buf (s : State) (cls inst : Nat) (d : Bytes) (c : Bool) : (s.logError cls inst d c).buf = s.buf := by
  obtain ⟨_, _, _, h⟩ := s.logError_frame cls inst d c; rw [h]
@[simp] theorem State.logError_miners (s : State) (cls inst : Nat) (d : Bytes) (c : Bool) : (s.logError cls inst d c).miners = s.miners := by
  obtain ⟨_, _, _, h⟩ := s.logError_frame cls inst d c; rw [h]
@[simp] theorem State.logError_time (s : State) (cls inst : Nat) (d : Bytes) (c : Bool) : (s.logError cls inst d c).time = s.time := by
  obtain ⟨_, _, _, h⟩ := s.logError_frame cls inst d c; rw [h]
@[simp] theorem State.logError_telem (s : State) (cls inst : Nat) (d : Bytes) (c : Bool) : (s.logError cls inst d c).telem = s.telem := by
  obtain ⟨_, _, _, h⟩ := s.logError_frame cls inst d c; rw [h]
@[simp] theorem State.logError_out (s : State) (cls inst : Nat) (d : Bytes) (c : Bool) : (s.logError cls inst d c).out = s.out := by
  obtain ⟨_, _, _, h⟩ := s.logError_frame cls inst d c; rw [h]
@[simp] theorem State.logError_pending (s : State) (cls inst : Nat) (d : Bytes) (c : Bool) : (s.logError cls inst d c).pending = s.pending := by
  obtain ⟨_, _, _, h⟩ := s.logError_frame cls inst d c; rw [h]
@[simp] theorem State.logError_host_channels (s : State) (cls inst : Nat) (d : Bytes) (c : Bool) : (s.logError cls inst d c).host.channels = s.host.channels := by
  obtain ⟨_, _, _, h⟩ := s.logError_frame cls inst d c; rw [h]
@[simp] theorem State.logError_host_owner (s : State) (cls inst : Nat) (d : Bytes) (c : Bool) : (s.logError cls inst d c).host.owner = s.host.owner := by
  obtain ⟨_, _, _, h⟩ := s.logError_frame cls inst d c; rw [h]
@[simp] theorem State.logError_host_halted (s : State) (cls inst : Nat) (d : Bytes) (c : Bool) : (s.logError cls inst d c).host.halted = s.host.halted := by
  obtain ⟨_, _, _, h⟩ := s.logError_frame cls inst d c; rw [h]
@[simp] theorem State.logError_host_linkUp (s : State) (cls inst : Nat) (d : Bytes) (c : Bool) : (s.logError cls inst d c).host.linkUp = s.host.linkUp := by
  obtain ⟨_, _, _, h⟩ := s.logError_frame cls inst d c; rw [h]

/-- A pair event counts, and is logged and told. -/
theorem State.pairEvent_frame (s : State) (cls inst : Nat) (d : Bytes) (c : Bool) :
    ∃ e a b, s.pairEvent cls inst d c = { s with err := e, pair := { s.pair with events := s.pair.events + 1 },
                                                 host := { s.host with pf0 := a, pf1 := b } } := by
  obtain ⟨e, a, b, h⟩ := s.logError_frame cls inst d c
  unfold State.pairEvent
  dsimp only
  rw [h]
  exact ⟨e, _, _, rfl⟩

@[simp] theorem State.pairEvent_now (s : State) (cls inst : Nat) (d : Bytes) (c : Bool) : (s.pairEvent cls inst d c).now = s.now := by
  obtain ⟨_, _, _, h⟩ := s.pairEvent_frame cls inst d c; rw [h]
@[simp] theorem State.pairEvent_life (s : State) (cls inst : Nat) (d : Bytes) (c : Bool) : (s.pairEvent cls inst d c).life = s.life := by
  obtain ⟨_, _, _, h⟩ := s.pairEvent_frame cls inst d c; rw [h]
@[simp] theorem State.pairEvent_pins (s : State) (cls inst : Nat) (d : Bytes) (c : Bool) : (s.pairEvent cls inst d c).pins = s.pins := by
  obtain ⟨_, _, _, h⟩ := s.pairEvent_frame cls inst d c; rw [h]
@[simp] theorem State.pairEvent_power (s : State) (cls inst : Nat) (d : Bytes) (c : Bool) : (s.pairEvent cls inst d c).power = s.power := by
  obtain ⟨_, _, _, h⟩ := s.pairEvent_frame cls inst d c; rw [h]
@[simp] theorem State.pairEvent_epoch (s : State) (cls inst : Nat) (d : Bytes) (c : Bool) : (s.pairEvent cls inst d c).epoch = s.epoch := by
  obtain ⟨_, _, _, h⟩ := s.pairEvent_frame cls inst d c; rw [h]
@[simp] theorem State.pairEvent_cur (s : State) (cls inst : Nat) (d : Bytes) (c : Bool) : (s.pairEvent cls inst d c).cur = s.cur := by
  obtain ⟨_, _, _, h⟩ := s.pairEvent_frame cls inst d c; rw [h]
@[simp] theorem State.pairEvent_shadow (s : State) (cls inst : Nat) (d : Bytes) (c : Bool) : (s.pairEvent cls inst d c).shadow = s.shadow := by
  obtain ⟨_, _, _, h⟩ := s.pairEvent_frame cls inst d c; rw [h]
@[simp] theorem State.pairEvent_drain (s : State) (cls inst : Nat) (d : Bytes) (c : Bool) : (s.pairEvent cls inst d c).drain = s.drain := by
  obtain ⟨_, _, _, h⟩ := s.pairEvent_frame cls inst d c; rw [h]
@[simp] theorem State.pairEvent_dram (s : State) (cls inst : Nat) (d : Bytes) (c : Bool) : (s.pairEvent cls inst d c).dram = s.dram := by
  obtain ⟨_, _, _, h⟩ := s.pairEvent_frame cls inst d c; rw [h]
@[simp] theorem State.pairEvent_canary (s : State) (cls inst : Nat) (d : Bytes) (c : Bool) : (s.pairEvent cls inst d c).canary = s.canary := by
  obtain ⟨_, _, _, h⟩ := s.pairEvent_frame cls inst d c; rw [h]
@[simp] theorem State.pairEvent_rule (s : State) (cls inst : Nat) (d : Bytes) (c : Bool) : (s.pairEvent cls inst d c).rule = s.rule := by
  obtain ⟨_, _, _, h⟩ := s.pairEvent_frame cls inst d c; rw [h]
@[simp] theorem State.pairEvent_flow (s : State) (cls inst : Nat) (d : Bytes) (c : Bool) : (s.pairEvent cls inst d c).flow = s.flow := by
  obtain ⟨_, _, _, h⟩ := s.pairEvent_frame cls inst d c; rw [h]
@[simp] theorem State.pairEvent_nat (s : State) (cls inst : Nat) (d : Bytes) (c : Bool) : (s.pairEvent cls inst d c).nat = s.nat := by
  obtain ⟨_, _, _, h⟩ := s.pairEvent_frame cls inst d c; rw [h]
@[simp] theorem State.pairEvent_buf (s : State) (cls inst : Nat) (d : Bytes) (c : Bool) : (s.pairEvent cls inst d c).buf = s.buf := by
  obtain ⟨_, _, _, h⟩ := s.pairEvent_frame cls inst d c; rw [h]
@[simp] theorem State.pairEvent_miners (s : State) (cls inst : Nat) (d : Bytes) (c : Bool) : (s.pairEvent cls inst d c).miners = s.miners := by
  obtain ⟨_, _, _, h⟩ := s.pairEvent_frame cls inst d c; rw [h]
@[simp] theorem State.pairEvent_time (s : State) (cls inst : Nat) (d : Bytes) (c : Bool) : (s.pairEvent cls inst d c).time = s.time := by
  obtain ⟨_, _, _, h⟩ := s.pairEvent_frame cls inst d c; rw [h]
@[simp] theorem State.pairEvent_telem (s : State) (cls inst : Nat) (d : Bytes) (c : Bool) : (s.pairEvent cls inst d c).telem = s.telem := by
  obtain ⟨_, _, _, h⟩ := s.pairEvent_frame cls inst d c; rw [h]
@[simp] theorem State.pairEvent_out (s : State) (cls inst : Nat) (d : Bytes) (c : Bool) : (s.pairEvent cls inst d c).out = s.out := by
  obtain ⟨_, _, _, h⟩ := s.pairEvent_frame cls inst d c; rw [h]
@[simp] theorem State.pairEvent_pending (s : State) (cls inst : Nat) (d : Bytes) (c : Bool) : (s.pairEvent cls inst d c).pending = s.pending := by
  obtain ⟨_, _, _, h⟩ := s.pairEvent_frame cls inst d c; rw [h]
@[simp] theorem State.pairEvent_host_channels (s : State) (cls inst : Nat) (d : Bytes) (c : Bool) : (s.pairEvent cls inst d c).host.channels = s.host.channels := by
  obtain ⟨_, _, _, h⟩ := s.pairEvent_frame cls inst d c; rw [h]
@[simp] theorem State.pairEvent_host_owner (s : State) (cls inst : Nat) (d : Bytes) (c : Bool) : (s.pairEvent cls inst d c).host.owner = s.host.owner := by
  obtain ⟨_, _, _, h⟩ := s.pairEvent_frame cls inst d c; rw [h]
@[simp] theorem State.pairEvent_host_halted (s : State) (cls inst : Nat) (d : Bytes) (c : Bool) : (s.pairEvent cls inst d c).host.halted = s.host.halted := by
  obtain ⟨_, _, _, h⟩ := s.pairEvent_frame cls inst d c; rw [h]
@[simp] theorem State.pairEvent_host_linkUp (s : State) (cls inst : Nat) (d : Bytes) (c : Bool) : (s.pairEvent cls inst d c).host.linkUp = s.host.linkUp := by
  obtain ⟨_, _, _, h⟩ := s.pairEvent_frame cls inst d c; rw [h]
@[simp] theorem State.pairEvent_pair_state (s : State) (cls inst : Nat) (d : Bytes) (c : Bool) : (s.pairEvent cls inst d c).pair.state = s.pair.state := by
  obtain ⟨_, _, _, h⟩ := s.pairEvent_frame cls inst d c; rw [h]
@[simp] theorem State.pairEvent_pair_role (s : State) (cls inst : Nat) (d : Bytes) (c : Bool) : (s.pairEvent cls inst d c).pair.role = s.pair.role := by
  obtain ⟨_, _, _, h⟩ := s.pairEvent_frame cls inst d c; rw [h]
@[simp] theorem State.pairEvent_pair_journal (s : State) (cls inst : Nat) (d : Bytes) (c : Bool) : (s.pairEvent cls inst d c).pair.journal = s.pair.journal := by
  obtain ⟨_, _, _, h⟩ := s.pairEvent_frame cls inst d c; rw [h]
@[simp] theorem State.pairEvent_pair_prepared (s : State) (cls inst : Nat) (d : Bytes) (c : Bool) : (s.pairEvent cls inst d c).pair.prepared = s.pair.prepared := by
  obtain ⟨_, _, _, h⟩ := s.pairEvent_frame cls inst d c; rw [h]
@[simp] theorem State.pairEvent_pair_commitMsg (s : State) (cls inst : Nat) (d : Bytes) (c : Bool) : (s.pairEvent cls inst d c).pair.commitMsg = s.pair.commitMsg := by
  obtain ⟨_, _, _, h⟩ := s.pairEvent_frame cls inst d c; rw [h]
@[simp] theorem State.pairEvent_pair_commitSent (s : State) (cls inst : Nat) (d : Bytes) (c : Bool) : (s.pairEvent cls inst d c).pair.commitSent = s.pair.commitSent := by
  obtain ⟨_, _, _, h⟩ := s.pairEvent_frame cls inst d c; rw [h]
@[simp] theorem State.pairEvent_pair_holding (s : State) (cls inst : Nat) (d : Bytes) (c : Bool) : (s.pairEvent cls inst d c).pair.holding = s.pair.holding := by
  obtain ⟨_, _, _, h⟩ := s.pairEvent_frame cls inst d c; rw [h]
@[simp] theorem State.pairEvent_pair_rejoins (s : State) (cls inst : Nat) (d : Bytes) (c : Bool) : (s.pairEvent cls inst d c).pair.rejoins = s.pair.rejoins := by
  obtain ⟨_, _, _, h⟩ := s.pairEvent_frame cls inst d c; rw [h]
@[simp] theorem State.pairEvent_pair_peerSerial (s : State) (cls inst : Nat) (d : Bytes) (c : Bool) : (s.pairEvent cls inst d c).pair.peerSerial = s.pair.peerSerial := by
  obtain ⟨_, _, _, h⟩ := s.pairEvent_frame cls inst d c; rw [h]

@[simp] theorem State.pairChange_now (s : State) (code : Nat) : (s.pairChange code).now = s.now := by
  exact s.pairEvent_now _ _ _ _
@[simp] theorem State.pairChange_life (s : State) (code : Nat) : (s.pairChange code).life = s.life := by
  exact s.pairEvent_life _ _ _ _
@[simp] theorem State.pairChange_pins (s : State) (code : Nat) : (s.pairChange code).pins = s.pins := by
  exact s.pairEvent_pins _ _ _ _
@[simp] theorem State.pairChange_power (s : State) (code : Nat) : (s.pairChange code).power = s.power := by
  exact s.pairEvent_power _ _ _ _
@[simp] theorem State.pairChange_epoch (s : State) (code : Nat) : (s.pairChange code).epoch = s.epoch := by
  exact s.pairEvent_epoch _ _ _ _
@[simp] theorem State.pairChange_cur (s : State) (code : Nat) : (s.pairChange code).cur = s.cur := by
  exact s.pairEvent_cur _ _ _ _
@[simp] theorem State.pairChange_shadow (s : State) (code : Nat) : (s.pairChange code).shadow = s.shadow := by
  exact s.pairEvent_shadow _ _ _ _
@[simp] theorem State.pairChange_drain (s : State) (code : Nat) : (s.pairChange code).drain = s.drain := by
  exact s.pairEvent_drain _ _ _ _
@[simp] theorem State.pairChange_dram (s : State) (code : Nat) : (s.pairChange code).dram = s.dram := by
  exact s.pairEvent_dram _ _ _ _
@[simp] theorem State.pairChange_canary (s : State) (code : Nat) : (s.pairChange code).canary = s.canary := by
  exact s.pairEvent_canary _ _ _ _
@[simp] theorem State.pairChange_rule (s : State) (code : Nat) : (s.pairChange code).rule = s.rule := by
  exact s.pairEvent_rule _ _ _ _
@[simp] theorem State.pairChange_flow (s : State) (code : Nat) : (s.pairChange code).flow = s.flow := by
  exact s.pairEvent_flow _ _ _ _
@[simp] theorem State.pairChange_nat (s : State) (code : Nat) : (s.pairChange code).nat = s.nat := by
  exact s.pairEvent_nat _ _ _ _
@[simp] theorem State.pairChange_buf (s : State) (code : Nat) : (s.pairChange code).buf = s.buf := by
  exact s.pairEvent_buf _ _ _ _
@[simp] theorem State.pairChange_miners (s : State) (code : Nat) : (s.pairChange code).miners = s.miners := by
  exact s.pairEvent_miners _ _ _ _
@[simp] theorem State.pairChange_time (s : State) (code : Nat) : (s.pairChange code).time = s.time := by
  exact s.pairEvent_time _ _ _ _
@[simp] theorem State.pairChange_telem (s : State) (code : Nat) : (s.pairChange code).telem = s.telem := by
  exact s.pairEvent_telem _ _ _ _
@[simp] theorem State.pairChange_out (s : State) (code : Nat) : (s.pairChange code).out = s.out := by
  exact s.pairEvent_out _ _ _ _
@[simp] theorem State.pairChange_pending (s : State) (code : Nat) : (s.pairChange code).pending = s.pending := by
  exact s.pairEvent_pending _ _ _ _
@[simp] theorem State.pairChange_host_channels (s : State) (code : Nat) : (s.pairChange code).host.channels = s.host.channels := by
  exact s.pairEvent_host_channels _ _ _ _
@[simp] theorem State.pairChange_host_owner (s : State) (code : Nat) : (s.pairChange code).host.owner = s.host.owner := by
  exact s.pairEvent_host_owner _ _ _ _
@[simp] theorem State.pairChange_host_halted (s : State) (code : Nat) : (s.pairChange code).host.halted = s.host.halted := by
  exact s.pairEvent_host_halted _ _ _ _
@[simp] theorem State.pairChange_host_linkUp (s : State) (code : Nat) : (s.pairChange code).host.linkUp = s.host.linkUp := by
  exact s.pairEvent_host_linkUp _ _ _ _
@[simp] theorem State.pairChange_pair_state (s : State) (code : Nat) : (s.pairChange code).pair.state = s.pair.state := by
  exact s.pairEvent_pair_state _ _ _ _
@[simp] theorem State.pairChange_pair_role (s : State) (code : Nat) : (s.pairChange code).pair.role = s.pair.role := by
  exact s.pairEvent_pair_role _ _ _ _
@[simp] theorem State.pairChange_pair_journal (s : State) (code : Nat) : (s.pairChange code).pair.journal = s.pair.journal := by
  exact s.pairEvent_pair_journal _ _ _ _
@[simp] theorem State.pairChange_pair_prepared (s : State) (code : Nat) : (s.pairChange code).pair.prepared = s.pair.prepared := by
  exact s.pairEvent_pair_prepared _ _ _ _
@[simp] theorem State.pairChange_pair_commitMsg (s : State) (code : Nat) : (s.pairChange code).pair.commitMsg = s.pair.commitMsg := by
  exact s.pairEvent_pair_commitMsg _ _ _ _
@[simp] theorem State.pairChange_pair_commitSent (s : State) (code : Nat) : (s.pairChange code).pair.commitSent = s.pair.commitSent := by
  exact s.pairEvent_pair_commitSent _ _ _ _
@[simp] theorem State.pairChange_pair_holding (s : State) (code : Nat) : (s.pairChange code).pair.holding = s.pair.holding := by
  exact s.pairEvent_pair_holding _ _ _ _
@[simp] theorem State.pairChange_pair_rejoins (s : State) (code : Nat) : (s.pairChange code).pair.rejoins = s.pair.rejoins := by
  exact s.pairEvent_pair_rejoins _ _ _ _
@[simp] theorem State.pairChange_pair_peerSerial (s : State) (code : Nat) : (s.pairChange code).pair.peerSerial = s.pair.peerSerial := by
  exact s.pairEvent_pair_peerSerial _ _ _ _

/-- Disarming the canary changes it and the alerts, nothing else. -/
theorem State.canaryStop_frame (s : State) (r : Nat) :
    ∃ c a b, s.canaryStop r = { s with canary := c, host := { s.host with pf0 := a, pf1 := b } } := by
  unfold State.canaryStop
  split
  · exact ⟨_, _, _, rfl⟩
  · exact ⟨s.canary, s.host.pf0, s.host.pf1, rfl⟩

@[simp] theorem State.canaryStop_now (s : State) (r : Nat) : (s.canaryStop r).now = s.now := by
  obtain ⟨_, _, _, h⟩ := s.canaryStop_frame r; rw [h]
@[simp] theorem State.canaryStop_life (s : State) (r : Nat) : (s.canaryStop r).life = s.life := by
  obtain ⟨_, _, _, h⟩ := s.canaryStop_frame r; rw [h]
@[simp] theorem State.canaryStop_pins (s : State) (r : Nat) : (s.canaryStop r).pins = s.pins := by
  obtain ⟨_, _, _, h⟩ := s.canaryStop_frame r; rw [h]
@[simp] theorem State.canaryStop_power (s : State) (r : Nat) : (s.canaryStop r).power = s.power := by
  obtain ⟨_, _, _, h⟩ := s.canaryStop_frame r; rw [h]
@[simp] theorem State.canaryStop_pair (s : State) (r : Nat) : (s.canaryStop r).pair = s.pair := by
  obtain ⟨_, _, _, h⟩ := s.canaryStop_frame r; rw [h]
@[simp] theorem State.canaryStop_epoch (s : State) (r : Nat) : (s.canaryStop r).epoch = s.epoch := by
  obtain ⟨_, _, _, h⟩ := s.canaryStop_frame r; rw [h]
@[simp] theorem State.canaryStop_cur (s : State) (r : Nat) : (s.canaryStop r).cur = s.cur := by
  obtain ⟨_, _, _, h⟩ := s.canaryStop_frame r; rw [h]
@[simp] theorem State.canaryStop_shadow (s : State) (r : Nat) : (s.canaryStop r).shadow = s.shadow := by
  obtain ⟨_, _, _, h⟩ := s.canaryStop_frame r; rw [h]
@[simp] theorem State.canaryStop_drain (s : State) (r : Nat) : (s.canaryStop r).drain = s.drain := by
  obtain ⟨_, _, _, h⟩ := s.canaryStop_frame r; rw [h]
@[simp] theorem State.canaryStop_dram (s : State) (r : Nat) : (s.canaryStop r).dram = s.dram := by
  obtain ⟨_, _, _, h⟩ := s.canaryStop_frame r; rw [h]
@[simp] theorem State.canaryStop_rule (s : State) (r : Nat) : (s.canaryStop r).rule = s.rule := by
  obtain ⟨_, _, _, h⟩ := s.canaryStop_frame r; rw [h]
@[simp] theorem State.canaryStop_flow (s : State) (r : Nat) : (s.canaryStop r).flow = s.flow := by
  obtain ⟨_, _, _, h⟩ := s.canaryStop_frame r; rw [h]
@[simp] theorem State.canaryStop_nat (s : State) (r : Nat) : (s.canaryStop r).nat = s.nat := by
  obtain ⟨_, _, _, h⟩ := s.canaryStop_frame r; rw [h]
@[simp] theorem State.canaryStop_buf (s : State) (r : Nat) : (s.canaryStop r).buf = s.buf := by
  obtain ⟨_, _, _, h⟩ := s.canaryStop_frame r; rw [h]
@[simp] theorem State.canaryStop_miners (s : State) (r : Nat) : (s.canaryStop r).miners = s.miners := by
  obtain ⟨_, _, _, h⟩ := s.canaryStop_frame r; rw [h]
@[simp] theorem State.canaryStop_time (s : State) (r : Nat) : (s.canaryStop r).time = s.time := by
  obtain ⟨_, _, _, h⟩ := s.canaryStop_frame r; rw [h]
@[simp] theorem State.canaryStop_telem (s : State) (r : Nat) : (s.canaryStop r).telem = s.telem := by
  obtain ⟨_, _, _, h⟩ := s.canaryStop_frame r; rw [h]
@[simp] theorem State.canaryStop_out (s : State) (r : Nat) : (s.canaryStop r).out = s.out := by
  obtain ⟨_, _, _, h⟩ := s.canaryStop_frame r; rw [h]
@[simp] theorem State.canaryStop_pending (s : State) (r : Nat) : (s.canaryStop r).pending = s.pending := by
  obtain ⟨_, _, _, h⟩ := s.canaryStop_frame r; rw [h]
@[simp] theorem State.canaryStop_host_channels (s : State) (r : Nat) : (s.canaryStop r).host.channels = s.host.channels := by
  obtain ⟨_, _, _, h⟩ := s.canaryStop_frame r; rw [h]
@[simp] theorem State.canaryStop_host_owner (s : State) (r : Nat) : (s.canaryStop r).host.owner = s.host.owner := by
  obtain ⟨_, _, _, h⟩ := s.canaryStop_frame r; rw [h]
@[simp] theorem State.canaryStop_host_halted (s : State) (r : Nat) : (s.canaryStop r).host.halted = s.host.halted := by
  obtain ⟨_, _, _, h⟩ := s.canaryStop_frame r; rw [h]
@[simp] theorem State.canaryStop_host_linkUp (s : State) (r : Nat) : (s.canaryStop r).host.linkUp = s.host.linkUp := by
  obtain ⟨_, _, _, h⟩ := s.canaryStop_frame r; rw [h]

/-- Only the ports and the frames arriving on them differ. -/
def PortsOnly (s t : State) : Prop := ∃ x l, t = { s with ports := x, buf := { s.buf with arriving := l } }

/-- Noting a link-state change marks its instant and cuts frames that are arriving, nothing else. -/
theorem State.noteLink_frame (old s : State) (p : Nat) : PortsOnly s (State.noteLink old s p) := by
  unfold State.noteLink
  split
  · exact ⟨s.ports, s.buf.arriving, rfl⟩
  · exact ⟨_, _, rfl⟩

theorem State.noteAll_frame (old : State) (l : List Nat) (s : State) : PortsOnly s (l.foldl (State.noteLink old) s) := by
  induction l generalizing s with
  | nil => exact ⟨s.ports, s.buf.arriving, rfl⟩
  | cons p l ih =>
    obtain ⟨_, _, g⟩ := State.noteLink_frame old s p
    obtain ⟨x, a, h⟩ := ih (State.noteLink old s p)
    rw [List.foldl_cons, h, g]
    exact ⟨x, a, rfl⟩

theorem State.noteLinks_frame (old s : State) : PortsOnly s (State.noteLinks old s) := State.noteAll_frame old _ s

/-- Only the ports, the frames arriving on them and the time state that follows from them differ. -/
def LinksOnly (s t : State) : Prop := ∃ x i l, t = { s with ports := x, time := i, buf := { s.buf with arriving := l } }

/-- Setting a link changes the ports, the frames arriving on them and the time state that follows, nothing else. -/
theorem State.setLink_frame (s : State) (p : Nat) (l : Link) (c d : BitVec 4) : LinksOnly s (s.setLink p l c d) := by
  unfold State.setLink
  extract_lets old was up x s1
  obtain ⟨y, a, h⟩ : PortsOnly (s.setPort p x) s1 := State.noteLink_frame s _ p
  rw [h]
  exact ⟨y, _, a, rfl⟩

theorem State.retrainAll_frame (l : List Nat) (s : State) : LinksOnly s (l.foldl State.retrain s) := by
  induction l generalizing s with
  | nil => exact ⟨s.ports, s.time, s.buf.arriving, rfl⟩
  | cons p l ih =>
    obtain ⟨_, _, _, g⟩ := s.setLink_frame p .down 0 0
    obtain ⟨x, i, a, h⟩ := ih (s.retrain p)
    rw [List.foldl_cons, h, State.retrain, g]
    exact ⟨x, i, a, rfl⟩

@[simp] theorem State.setLink_now (s : State) (p : Nat) (l : Link) (c d : BitVec 4) : (s.setLink p l c d).now = s.now := by
  obtain ⟨_, _, _, h⟩ := s.setLink_frame p l c d; rw [h]
@[simp] theorem State.setLink_life (s : State) (p : Nat) (l : Link) (c d : BitVec 4) : (s.setLink p l c d).life = s.life := by
  obtain ⟨_, _, _, h⟩ := s.setLink_frame p l c d; rw [h]
@[simp] theorem State.setLink_pins (s : State) (p : Nat) (l : Link) (c d : BitVec 4) : (s.setLink p l c d).pins = s.pins := by
  obtain ⟨_, _, _, h⟩ := s.setLink_frame p l c d; rw [h]
@[simp] theorem State.setLink_power (s : State) (p : Nat) (l : Link) (c d : BitVec 4) : (s.setLink p l c d).power = s.power := by
  obtain ⟨_, _, _, h⟩ := s.setLink_frame p l c d; rw [h]
@[simp] theorem State.setLink_pair (s : State) (p : Nat) (l : Link) (c d : BitVec 4) : (s.setLink p l c d).pair = s.pair := by
  obtain ⟨_, _, _, h⟩ := s.setLink_frame p l c d; rw [h]
@[simp] theorem State.setLink_epoch (s : State) (p : Nat) (l : Link) (c d : BitVec 4) : (s.setLink p l c d).epoch = s.epoch := by
  obtain ⟨_, _, _, h⟩ := s.setLink_frame p l c d; rw [h]
@[simp] theorem State.setLink_cur (s : State) (p : Nat) (l : Link) (c d : BitVec 4) : (s.setLink p l c d).cur = s.cur := by
  obtain ⟨_, _, _, h⟩ := s.setLink_frame p l c d; rw [h]
@[simp] theorem State.setLink_shadow (s : State) (p : Nat) (l : Link) (c d : BitVec 4) : (s.setLink p l c d).shadow = s.shadow := by
  obtain ⟨_, _, _, h⟩ := s.setLink_frame p l c d; rw [h]
@[simp] theorem State.setLink_drain (s : State) (p : Nat) (l : Link) (c d : BitVec 4) : (s.setLink p l c d).drain = s.drain := by
  obtain ⟨_, _, _, h⟩ := s.setLink_frame p l c d; rw [h]
@[simp] theorem State.setLink_dram (s : State) (p : Nat) (l : Link) (c d : BitVec 4) : (s.setLink p l c d).dram = s.dram := by
  obtain ⟨_, _, _, h⟩ := s.setLink_frame p l c d; rw [h]
@[simp] theorem State.setLink_canary (s : State) (p : Nat) (l : Link) (c d : BitVec 4) : (s.setLink p l c d).canary = s.canary := by
  obtain ⟨_, _, _, h⟩ := s.setLink_frame p l c d; rw [h]
@[simp] theorem State.setLink_rule (s : State) (p : Nat) (l : Link) (c d : BitVec 4) : (s.setLink p l c d).rule = s.rule := by
  obtain ⟨_, _, _, h⟩ := s.setLink_frame p l c d; rw [h]
@[simp] theorem State.setLink_flow (s : State) (p : Nat) (l : Link) (c d : BitVec 4) : (s.setLink p l c d).flow = s.flow := by
  obtain ⟨_, _, _, h⟩ := s.setLink_frame p l c d; rw [h]
@[simp] theorem State.setLink_nat (s : State) (p : Nat) (l : Link) (c d : BitVec 4) : (s.setLink p l c d).nat = s.nat := by
  obtain ⟨_, _, _, h⟩ := s.setLink_frame p l c d; rw [h]
@[simp] theorem State.setLink_miners (s : State) (p : Nat) (l : Link) (c d : BitVec 4) : (s.setLink p l c d).miners = s.miners := by
  obtain ⟨_, _, _, h⟩ := s.setLink_frame p l c d; rw [h]
@[simp] theorem State.setLink_telem (s : State) (p : Nat) (l : Link) (c d : BitVec 4) : (s.setLink p l c d).telem = s.telem := by
  obtain ⟨_, _, _, h⟩ := s.setLink_frame p l c d; rw [h]
@[simp] theorem State.setLink_out (s : State) (p : Nat) (l : Link) (c d : BitVec 4) : (s.setLink p l c d).out = s.out := by
  obtain ⟨_, _, _, h⟩ := s.setLink_frame p l c d; rw [h]
@[simp] theorem State.setLink_pending (s : State) (p : Nat) (l : Link) (c d : BitVec 4) : (s.setLink p l c d).pending = s.pending := by
  obtain ⟨_, _, _, h⟩ := s.setLink_frame p l c d; rw [h]
@[simp] theorem State.setLink_buf_queues (s : State) (p : Nat) (l : Link) (c d : BitVec 4) : (s.setLink p l c d).buf.queues = s.buf.queues := by
  obtain ⟨_, _, _, h⟩ := s.setLink_frame p l c d; rw [h]
@[simp] theorem State.setLink_buf_sending (s : State) (p : Nat) (l : Link) (c d : BitVec 4) : (s.setLink p l c d).buf.sending = s.buf.sending := by
  obtain ⟨_, _, _, h⟩ := s.setLink_frame p l c d; rw [h]

@[simp] theorem State.retrain_now (s : State) (p : Nat) : (s.retrain p).now = s.now := by
  exact s.setLink_now p .down 0 0
@[simp] theorem State.retrain_life (s : State) (p : Nat) : (s.retrain p).life = s.life := by
  exact s.setLink_life p .down 0 0
@[simp] theorem State.retrain_pins (s : State) (p : Nat) : (s.retrain p).pins = s.pins := by
  exact s.setLink_pins p .down 0 0
@[simp] theorem State.retrain_power (s : State) (p : Nat) : (s.retrain p).power = s.power := by
  exact s.setLink_power p .down 0 0
@[simp] theorem State.retrain_pair (s : State) (p : Nat) : (s.retrain p).pair = s.pair := by
  exact s.setLink_pair p .down 0 0
@[simp] theorem State.retrain_epoch (s : State) (p : Nat) : (s.retrain p).epoch = s.epoch := by
  exact s.setLink_epoch p .down 0 0
@[simp] theorem State.retrain_cur (s : State) (p : Nat) : (s.retrain p).cur = s.cur := by
  exact s.setLink_cur p .down 0 0
@[simp] theorem State.retrain_shadow (s : State) (p : Nat) : (s.retrain p).shadow = s.shadow := by
  exact s.setLink_shadow p .down 0 0
@[simp] theorem State.retrain_drain (s : State) (p : Nat) : (s.retrain p).drain = s.drain := by
  exact s.setLink_drain p .down 0 0
@[simp] theorem State.retrain_dram (s : State) (p : Nat) : (s.retrain p).dram = s.dram := by
  exact s.setLink_dram p .down 0 0
@[simp] theorem State.retrain_canary (s : State) (p : Nat) : (s.retrain p).canary = s.canary := by
  exact s.setLink_canary p .down 0 0
@[simp] theorem State.retrain_rule (s : State) (p : Nat) : (s.retrain p).rule = s.rule := by
  exact s.setLink_rule p .down 0 0
@[simp] theorem State.retrain_flow (s : State) (p : Nat) : (s.retrain p).flow = s.flow := by
  exact s.setLink_flow p .down 0 0
@[simp] theorem State.retrain_nat (s : State) (p : Nat) : (s.retrain p).nat = s.nat := by
  exact s.setLink_nat p .down 0 0
@[simp] theorem State.retrain_miners (s : State) (p : Nat) : (s.retrain p).miners = s.miners := by
  exact s.setLink_miners p .down 0 0
@[simp] theorem State.retrain_telem (s : State) (p : Nat) : (s.retrain p).telem = s.telem := by
  exact s.setLink_telem p .down 0 0
@[simp] theorem State.retrain_out (s : State) (p : Nat) : (s.retrain p).out = s.out := by
  exact s.setLink_out p .down 0 0
@[simp] theorem State.retrain_pending (s : State) (p : Nat) : (s.retrain p).pending = s.pending := by
  exact s.setLink_pending p .down 0 0
@[simp] theorem State.retrain_buf_queues (s : State) (p : Nat) : (s.retrain p).buf.queues = s.buf.queues := by
  exact s.setLink_buf_queues p .down 0 0
@[simp] theorem State.retrain_buf_sending (s : State) (p : Nat) : (s.retrain p).buf.sending = s.buf.sending := by
  exact s.setLink_buf_sending p .down 0 0

@[simp] theorem State.retrainFront_now (s : State) : (s.retrainFront).now = s.now := by
  obtain ⟨_, _, _, h⟩ := State.retrainAll_frame (List.range 24) s; unfold State.retrainFront; rw [h]
@[simp] theorem State.retrainFront_life (s : State) : (s.retrainFront).life = s.life := by
  obtain ⟨_, _, _, h⟩ := State.retrainAll_frame (List.range 24) s; unfold State.retrainFront; rw [h]
@[simp] theorem State.retrainFront_pins (s : State) : (s.retrainFront).pins = s.pins := by
  obtain ⟨_, _, _, h⟩ := State.retrainAll_frame (List.range 24) s; unfold State.retrainFront; rw [h]
@[simp] theorem State.retrainFront_power (s : State) : (s.retrainFront).power = s.power := by
  obtain ⟨_, _, _, h⟩ := State.retrainAll_frame (List.range 24) s; unfold State.retrainFront; rw [h]
@[simp] theorem State.retrainFront_pair (s : State) : (s.retrainFront).pair = s.pair := by
  obtain ⟨_, _, _, h⟩ := State.retrainAll_frame (List.range 24) s; unfold State.retrainFront; rw [h]
@[simp] theorem State.retrainFront_epoch (s : State) : (s.retrainFront).epoch = s.epoch := by
  obtain ⟨_, _, _, h⟩ := State.retrainAll_frame (List.range 24) s; unfold State.retrainFront; rw [h]
@[simp] theorem State.retrainFront_cur (s : State) : (s.retrainFront).cur = s.cur := by
  obtain ⟨_, _, _, h⟩ := State.retrainAll_frame (List.range 24) s; unfold State.retrainFront; rw [h]
@[simp] theorem State.retrainFront_shadow (s : State) : (s.retrainFront).shadow = s.shadow := by
  obtain ⟨_, _, _, h⟩ := State.retrainAll_frame (List.range 24) s; unfold State.retrainFront; rw [h]
@[simp] theorem State.retrainFront_drain (s : State) : (s.retrainFront).drain = s.drain := by
  obtain ⟨_, _, _, h⟩ := State.retrainAll_frame (List.range 24) s; unfold State.retrainFront; rw [h]
@[simp] theorem State.retrainFront_dram (s : State) : (s.retrainFront).dram = s.dram := by
  obtain ⟨_, _, _, h⟩ := State.retrainAll_frame (List.range 24) s; unfold State.retrainFront; rw [h]
@[simp] theorem State.retrainFront_canary (s : State) : (s.retrainFront).canary = s.canary := by
  obtain ⟨_, _, _, h⟩ := State.retrainAll_frame (List.range 24) s; unfold State.retrainFront; rw [h]
@[simp] theorem State.retrainFront_rule (s : State) : (s.retrainFront).rule = s.rule := by
  obtain ⟨_, _, _, h⟩ := State.retrainAll_frame (List.range 24) s; unfold State.retrainFront; rw [h]
@[simp] theorem State.retrainFront_flow (s : State) : (s.retrainFront).flow = s.flow := by
  obtain ⟨_, _, _, h⟩ := State.retrainAll_frame (List.range 24) s; unfold State.retrainFront; rw [h]
@[simp] theorem State.retrainFront_nat (s : State) : (s.retrainFront).nat = s.nat := by
  obtain ⟨_, _, _, h⟩ := State.retrainAll_frame (List.range 24) s; unfold State.retrainFront; rw [h]
@[simp] theorem State.retrainFront_miners (s : State) : (s.retrainFront).miners = s.miners := by
  obtain ⟨_, _, _, h⟩ := State.retrainAll_frame (List.range 24) s; unfold State.retrainFront; rw [h]
@[simp] theorem State.retrainFront_telem (s : State) : (s.retrainFront).telem = s.telem := by
  obtain ⟨_, _, _, h⟩ := State.retrainAll_frame (List.range 24) s; unfold State.retrainFront; rw [h]
@[simp] theorem State.retrainFront_out (s : State) : (s.retrainFront).out = s.out := by
  obtain ⟨_, _, _, h⟩ := State.retrainAll_frame (List.range 24) s; unfold State.retrainFront; rw [h]
@[simp] theorem State.retrainFront_pending (s : State) : (s.retrainFront).pending = s.pending := by
  obtain ⟨_, _, _, h⟩ := State.retrainAll_frame (List.range 24) s; unfold State.retrainFront; rw [h]
@[simp] theorem State.retrainFront_buf_queues (s : State) : (s.retrainFront).buf.queues = s.buf.queues := by
  obtain ⟨_, _, _, h⟩ := State.retrainAll_frame (List.range 24) s; unfold State.retrainFront; rw [h]
@[simp] theorem State.retrainFront_buf_sending (s : State) : (s.retrainFront).buf.sending = s.buf.sending := by
  obtain ⟨_, _, _, h⟩ := State.retrainAll_frame (List.range 24) s; unfold State.retrainFront; rw [h]

@[simp] theorem State.retime_now (s : State) (r : Bool) : (s.retime r).now = s.now := by
  rfl
@[simp] theorem State.retime_life (s : State) (r : Bool) : (s.retime r).life = s.life := by
  rfl
@[simp] theorem State.retime_pins (s : State) (r : Bool) : (s.retime r).pins = s.pins := by
  rfl
@[simp] theorem State.retime_power (s : State) (r : Bool) : (s.retime r).power = s.power := by
  rfl
@[simp] theorem State.retime_pair (s : State) (r : Bool) : (s.retime r).pair = s.pair := by
  rfl
@[simp] theorem State.retime_epoch (s : State) (r : Bool) : (s.retime r).epoch = s.epoch := by
  rfl
@[simp] theorem State.retime_cur (s : State) (r : Bool) : (s.retime r).cur = s.cur := by
  rfl
@[simp] theorem State.retime_shadow (s : State) (r : Bool) : (s.retime r).shadow = s.shadow := by
  rfl
@[simp] theorem State.retime_drain (s : State) (r : Bool) : (s.retime r).drain = s.drain := by
  rfl
@[simp] theorem State.retime_dram (s : State) (r : Bool) : (s.retime r).dram = s.dram := by
  rfl
@[simp] theorem State.retime_canary (s : State) (r : Bool) : (s.retime r).canary = s.canary := by
  rfl
@[simp] theorem State.retime_rule (s : State) (r : Bool) : (s.retime r).rule = s.rule := by
  rfl
@[simp] theorem State.retime_flow (s : State) (r : Bool) : (s.retime r).flow = s.flow := by
  rfl
@[simp] theorem State.retime_nat (s : State) (r : Bool) : (s.retime r).nat = s.nat := by
  rfl
@[simp] theorem State.retime_buf (s : State) (r : Bool) : (s.retime r).buf = s.buf := by
  rfl
@[simp] theorem State.retime_miners (s : State) (r : Bool) : (s.retime r).miners = s.miners := by
  rfl
@[simp] theorem State.retime_time (s : State) (r : Bool) : (s.retime r).time = s.time := by
  rfl
@[simp] theorem State.retime_telem (s : State) (r : Bool) : (s.retime r).telem = s.telem := by
  rfl
@[simp] theorem State.retime_out (s : State) (r : Bool) : (s.retime r).out = s.out := by
  rfl
@[simp] theorem State.retime_pending (s : State) (r : Bool) : (s.retime r).pending = s.pending := by
  rfl

/-- What a transition leaves alone once the state is set. -/
structure Calm (s t : State) : Prop where
  now : t.now = s.now
  free : t.free = s.free
  life : t.life = s.life
  pins : t.pins = s.pins
  power : t.power = s.power
  epoch : t.epoch = s.epoch
  cur : t.cur = s.cur
  shadow : t.shadow = s.shadow
  drain : t.drain = s.drain
  dram : t.dram = s.dram
  parse : t.parse = s.parse
  rule : t.rule = s.rule
  flow : t.flow = s.flow
  nat : t.nat = s.nat
  fwd : t.fwd = s.fwd
  buf_queues : t.buf.queues = s.buf.queues
  buf_sending : t.buf.sending = s.buf.sending
  miners : t.miners = s.miners
  telem : t.telem = s.telem
  out : t.out = s.out
  pending : t.pending = s.pending
  host_channels : t.host.channels = s.host.channels
  host_halted : t.host.halted = s.host.halted
  host_linkUp : t.host.linkUp = s.host.linkUp
  host_owner : t.host.owner = s.host.owner
  pair_state : t.pair.state = s.pair.state
  pair_role : t.pair.role = s.pair.role
  pair_journal : t.pair.journal = s.pair.journal
  pair_holding : t.pair.holding = s.pair.holding
  pair_prepared : t.pair.prepared = s.pair.prepared
  pair_commitMsg : t.pair.commitMsg = s.pair.commitMsg
  pair_commitSent : t.pair.commitSent = s.pair.commitSent
  pair_rejoins : t.pair.rejoins = s.pair.rejoins
  pair_peerSerial : t.pair.peerSerial = s.pair.peerSerial

theorem Calm.rfl' (s : State) : Calm s s := by constructor <;> rfl

theorem Calm.trans {s t u : State} (h : Calm s t) (g : Calm t u) : Calm s u :=
  ⟨g.now.trans h.now, g.free.trans h.free, g.life.trans h.life, g.pins.trans h.pins, g.power.trans h.power, g.epoch.trans h.epoch, g.cur.trans h.cur, g.shadow.trans h.shadow, g.drain.trans h.drain, g.dram.trans h.dram, g.parse.trans h.parse, g.rule.trans h.rule, g.flow.trans h.flow, g.nat.trans h.nat, g.fwd.trans h.fwd, g.buf_queues.trans h.buf_queues, g.buf_sending.trans h.buf_sending, g.miners.trans h.miners, g.telem.trans h.telem, g.out.trans h.out, g.pending.trans h.pending, g.host_channels.trans h.host_channels, g.host_halted.trans h.host_halted, g.host_linkUp.trans h.host_linkUp, g.host_owner.trans h.host_owner, g.pair_state.trans h.pair_state, g.pair_role.trans h.pair_role, g.pair_journal.trans h.pair_journal, g.pair_holding.trans h.pair_holding, g.pair_prepared.trans h.pair_prepared, g.pair_commitMsg.trans h.pair_commitMsg, g.pair_commitSent.trans h.pair_commitSent, g.pair_rejoins.trans h.pair_rejoins, g.pair_peerSerial.trans h.pair_peerSerial⟩

theorem Calm.ite {s t u : State} {q : Bool} (h : Calm s t) (g : Calm s u) : Calm s (if q = true then t else u) := by
  cases q
  · exact g
  · exact h

theorem Calm.alert {s t : State} (h : Calm s t) (n : Nat) : Calm s (t.alert n) := h.trans (by constructor <;> rfl)
theorem Calm.retime {s t : State} (h : Calm s t) (r : Bool) : Calm s (t.retime r) := h.trans (by constructor <;> rfl)
theorem Calm.retrainFront {s t : State} (h : Calm s t) : Calm s t.retrainFront := by
  obtain ⟨_, _, _, g⟩ := State.retrainAll_frame (List.range 24) t
  unfold State.retrainFront
  rw [g]
  exact h.trans (by constructor <;> rfl)
theorem Calm.noteLinks {s t : State} (h : Calm s t) (old : State) : Calm s (State.noteLinks old t) := by
  obtain ⟨_, _, g⟩ := State.noteLinks_frame old t
  rw [g]
  exact h.trans (by constructor <;> rfl)
theorem Calm.canaryStop {s t : State} (h : Calm s t) (n : Nat) : Calm s (t.canaryStop n) := by
  obtain ⟨_, _, _, g⟩ := t.canaryStop_frame n
  rw [g]
  exact h.trans (by constructor <;> rfl)
theorem Calm.logError {s t : State} (h : Calm s t) (k i : Nat) (d : Bytes) (c : Bool) : Calm s (t.logError k i d c) := by
  obtain ⟨_, _, _, g⟩ := t.logError_frame k i d c
  rw [g]
  exact h.trans (by constructor <;> rfl)
theorem Calm.relinquish {s t : State} (h : Calm s t) (b : Bool) : Calm s { t with pair := { t.pair with relinquish := b } } :=
  h.trans (by constructor <;> rfl)

/-- Entering a state sets the state, its predecessor and its instant, and starts and stops what follows from it. -/
theorem State.enter_frame (s : State) (d : DevState) :
    Calm { s with life := { s.life with state := d, prev := s.life.state, since := s.now } } (s.enter d) := by
  unfold State.enter
  extract_lets _ was s1 s2 s3 s4 s5 s6
  have c2 : Calm s1 s2 := .ite (.rfl' _) (.alert (.rfl' _) _)
  have c3 : Calm s1 s3 := .ite c2 (c2.retime _)
  have c4 : Calm s1 s4 := .ite c3 c3.retrainFront
  have c5 : Calm s1 s5 := Calm.noteLinks (.ite (c4.canaryStop _) c4) s
  have c6 : Calm s1 s6 := c5.logError _ _ _ _
  exact .ite (.ite (c6.relinquish _) c6) c5

@[simp] theorem State.enter_now (s : State) (d : DevState) : (s.enter d).now = s.now := (s.enter_frame d).now
@[simp] theorem State.enter_free (s : State) (d : DevState) : (s.enter d).free = s.free := (s.enter_frame d).free
@[simp] theorem State.enter_pins (s : State) (d : DevState) : (s.enter d).pins = s.pins := (s.enter_frame d).pins
@[simp] theorem State.enter_power (s : State) (d : DevState) : (s.enter d).power = s.power := (s.enter_frame d).power
@[simp] theorem State.enter_epoch (s : State) (d : DevState) : (s.enter d).epoch = s.epoch := (s.enter_frame d).epoch
@[simp] theorem State.enter_cur (s : State) (d : DevState) : (s.enter d).cur = s.cur := (s.enter_frame d).cur
@[simp] theorem State.enter_shadow (s : State) (d : DevState) : (s.enter d).shadow = s.shadow := (s.enter_frame d).shadow
@[simp] theorem State.enter_drain (s : State) (d : DevState) : (s.enter d).drain = s.drain := (s.enter_frame d).drain
@[simp] theorem State.enter_dram (s : State) (d : DevState) : (s.enter d).dram = s.dram := (s.enter_frame d).dram
@[simp] theorem State.enter_parse (s : State) (d : DevState) : (s.enter d).parse = s.parse := (s.enter_frame d).parse
@[simp] theorem State.enter_rule (s : State) (d : DevState) : (s.enter d).rule = s.rule := (s.enter_frame d).rule
@[simp] theorem State.enter_flow (s : State) (d : DevState) : (s.enter d).flow = s.flow := (s.enter_frame d).flow
@[simp] theorem State.enter_nat (s : State) (d : DevState) : (s.enter d).nat = s.nat := (s.enter_frame d).nat
@[simp] theorem State.enter_fwd (s : State) (d : DevState) : (s.enter d).fwd = s.fwd := (s.enter_frame d).fwd
@[simp] theorem State.enter_buf_queues (s : State) (d : DevState) : (s.enter d).buf.queues = s.buf.queues := (s.enter_frame d).buf_queues
@[simp] theorem State.enter_buf_sending (s : State) (d : DevState) : (s.enter d).buf.sending = s.buf.sending := (s.enter_frame d).buf_sending
@[simp] theorem State.enter_miners (s : State) (d : DevState) : (s.enter d).miners = s.miners := (s.enter_frame d).miners
@[simp] theorem State.enter_telem (s : State) (d : DevState) : (s.enter d).telem = s.telem := (s.enter_frame d).telem
@[simp] theorem State.enter_out (s : State) (d : DevState) : (s.enter d).out = s.out := (s.enter_frame d).out
@[simp] theorem State.enter_pending (s : State) (d : DevState) : (s.enter d).pending = s.pending := (s.enter_frame d).pending
@[simp] theorem State.enter_host_channels (s : State) (d : DevState) : (s.enter d).host.channels = s.host.channels := (s.enter_frame d).host_channels
@[simp] theorem State.enter_host_halted (s : State) (d : DevState) : (s.enter d).host.halted = s.host.halted := (s.enter_frame d).host_halted
@[simp] theorem State.enter_host_linkUp (s : State) (d : DevState) : (s.enter d).host.linkUp = s.host.linkUp := (s.enter_frame d).host_linkUp
@[simp] theorem State.enter_host_owner (s : State) (d : DevState) : (s.enter d).host.owner = s.host.owner := (s.enter_frame d).host_owner
@[simp] theorem State.enter_pair_state (s : State) (d : DevState) : (s.enter d).pair.state = s.pair.state := (s.enter_frame d).pair_state
@[simp] theorem State.enter_pair_role (s : State) (d : DevState) : (s.enter d).pair.role = s.pair.role := (s.enter_frame d).pair_role
@[simp] theorem State.enter_pair_journal (s : State) (d : DevState) : (s.enter d).pair.journal = s.pair.journal := (s.enter_frame d).pair_journal
@[simp] theorem State.enter_pair_holding (s : State) (d : DevState) : (s.enter d).pair.holding = s.pair.holding := (s.enter_frame d).pair_holding
@[simp] theorem State.enter_pair_prepared (s : State) (d : DevState) : (s.enter d).pair.prepared = s.pair.prepared := (s.enter_frame d).pair_prepared
@[simp] theorem State.enter_pair_commitMsg (s : State) (d : DevState) : (s.enter d).pair.commitMsg = s.pair.commitMsg := (s.enter_frame d).pair_commitMsg
@[simp] theorem State.enter_pair_commitSent (s : State) (d : DevState) : (s.enter d).pair.commitSent = s.pair.commitSent := (s.enter_frame d).pair_commitSent
@[simp] theorem State.enter_pair_rejoins (s : State) (d : DevState) : (s.enter d).pair.rejoins = s.pair.rejoins := (s.enter_frame d).pair_rejoins
@[simp] theorem State.enter_pair_peerSerial (s : State) (d : DevState) : (s.enter d).pair.peerSerial = s.pair.peerSerial := (s.enter_frame d).pair_peerSerial
@[simp] theorem State.enter_life (s : State) (d : DevState) :
    (s.enter d).life = { s.life with state := d, prev := s.life.state, since := s.now } := (s.enter_frame d).life

/-- A standing fault changes the life-cycle, and what a transition starts and stops. -/
theorem State.setFault_frame (s : State) (bit : Nat) (on : Bool) : ∃ l, Calm { s with life := l } (s.setFault bit on) := by
  unfold State.setFault
  extract_lets m f _ s1
  split
  · exact ⟨_, State.enter_frame s1 _⟩
  · exact ⟨_, Calm.rfl' s1⟩

theorem State.raiseCause_frame (s : State) (bit : Nat) : ∃ l, Calm { s with life := l } (s.raiseCause bit) := by
  unfold State.raiseCause
  extract_lets _ s1
  split
  · exact ⟨_, State.enter_frame s1 _⟩
  · exact ⟨_, Calm.rfl' s1⟩

@[simp] theorem State.setFault_now (s : State) (bit : Nat) (on : Bool) : (s.setFault bit on).now = s.now := by
  obtain ⟨_, h⟩ := s.setFault_frame bit on; exact h.now
@[simp] theorem State.raiseCause_now (s : State) (bit : Nat) : (s.raiseCause bit).now = s.now := by
  obtain ⟨_, h⟩ := s.raiseCause_frame bit; exact h.now
@[simp] theorem State.setFault_free (s : State) (bit : Nat) (on : Bool) : (s.setFault bit on).free = s.free := by
  obtain ⟨_, h⟩ := s.setFault_frame bit on; exact h.free
@[simp] theorem State.raiseCause_free (s : State) (bit : Nat) : (s.raiseCause bit).free = s.free := by
  obtain ⟨_, h⟩ := s.raiseCause_frame bit; exact h.free
@[simp] theorem State.setFault_pins (s : State) (bit : Nat) (on : Bool) : (s.setFault bit on).pins = s.pins := by
  obtain ⟨_, h⟩ := s.setFault_frame bit on; exact h.pins
@[simp] theorem State.raiseCause_pins (s : State) (bit : Nat) : (s.raiseCause bit).pins = s.pins := by
  obtain ⟨_, h⟩ := s.raiseCause_frame bit; exact h.pins
@[simp] theorem State.setFault_power (s : State) (bit : Nat) (on : Bool) : (s.setFault bit on).power = s.power := by
  obtain ⟨_, h⟩ := s.setFault_frame bit on; exact h.power
@[simp] theorem State.raiseCause_power (s : State) (bit : Nat) : (s.raiseCause bit).power = s.power := by
  obtain ⟨_, h⟩ := s.raiseCause_frame bit; exact h.power
@[simp] theorem State.setFault_epoch (s : State) (bit : Nat) (on : Bool) : (s.setFault bit on).epoch = s.epoch := by
  obtain ⟨_, h⟩ := s.setFault_frame bit on; exact h.epoch
@[simp] theorem State.raiseCause_epoch (s : State) (bit : Nat) : (s.raiseCause bit).epoch = s.epoch := by
  obtain ⟨_, h⟩ := s.raiseCause_frame bit; exact h.epoch
@[simp] theorem State.setFault_cur (s : State) (bit : Nat) (on : Bool) : (s.setFault bit on).cur = s.cur := by
  obtain ⟨_, h⟩ := s.setFault_frame bit on; exact h.cur
@[simp] theorem State.raiseCause_cur (s : State) (bit : Nat) : (s.raiseCause bit).cur = s.cur := by
  obtain ⟨_, h⟩ := s.raiseCause_frame bit; exact h.cur
@[simp] theorem State.setFault_shadow (s : State) (bit : Nat) (on : Bool) : (s.setFault bit on).shadow = s.shadow := by
  obtain ⟨_, h⟩ := s.setFault_frame bit on; exact h.shadow
@[simp] theorem State.raiseCause_shadow (s : State) (bit : Nat) : (s.raiseCause bit).shadow = s.shadow := by
  obtain ⟨_, h⟩ := s.raiseCause_frame bit; exact h.shadow
@[simp] theorem State.setFault_drain (s : State) (bit : Nat) (on : Bool) : (s.setFault bit on).drain = s.drain := by
  obtain ⟨_, h⟩ := s.setFault_frame bit on; exact h.drain
@[simp] theorem State.raiseCause_drain (s : State) (bit : Nat) : (s.raiseCause bit).drain = s.drain := by
  obtain ⟨_, h⟩ := s.raiseCause_frame bit; exact h.drain
@[simp] theorem State.setFault_dram (s : State) (bit : Nat) (on : Bool) : (s.setFault bit on).dram = s.dram := by
  obtain ⟨_, h⟩ := s.setFault_frame bit on; exact h.dram
@[simp] theorem State.raiseCause_dram (s : State) (bit : Nat) : (s.raiseCause bit).dram = s.dram := by
  obtain ⟨_, h⟩ := s.raiseCause_frame bit; exact h.dram
@[simp] theorem State.setFault_parse (s : State) (bit : Nat) (on : Bool) : (s.setFault bit on).parse = s.parse := by
  obtain ⟨_, h⟩ := s.setFault_frame bit on; exact h.parse
@[simp] theorem State.raiseCause_parse (s : State) (bit : Nat) : (s.raiseCause bit).parse = s.parse := by
  obtain ⟨_, h⟩ := s.raiseCause_frame bit; exact h.parse
@[simp] theorem State.setFault_rule (s : State) (bit : Nat) (on : Bool) : (s.setFault bit on).rule = s.rule := by
  obtain ⟨_, h⟩ := s.setFault_frame bit on; exact h.rule
@[simp] theorem State.raiseCause_rule (s : State) (bit : Nat) : (s.raiseCause bit).rule = s.rule := by
  obtain ⟨_, h⟩ := s.raiseCause_frame bit; exact h.rule
@[simp] theorem State.setFault_flow (s : State) (bit : Nat) (on : Bool) : (s.setFault bit on).flow = s.flow := by
  obtain ⟨_, h⟩ := s.setFault_frame bit on; exact h.flow
@[simp] theorem State.raiseCause_flow (s : State) (bit : Nat) : (s.raiseCause bit).flow = s.flow := by
  obtain ⟨_, h⟩ := s.raiseCause_frame bit; exact h.flow
@[simp] theorem State.setFault_nat (s : State) (bit : Nat) (on : Bool) : (s.setFault bit on).nat = s.nat := by
  obtain ⟨_, h⟩ := s.setFault_frame bit on; exact h.nat
@[simp] theorem State.raiseCause_nat (s : State) (bit : Nat) : (s.raiseCause bit).nat = s.nat := by
  obtain ⟨_, h⟩ := s.raiseCause_frame bit; exact h.nat
@[simp] theorem State.setFault_fwd (s : State) (bit : Nat) (on : Bool) : (s.setFault bit on).fwd = s.fwd := by
  obtain ⟨_, h⟩ := s.setFault_frame bit on; exact h.fwd
@[simp] theorem State.raiseCause_fwd (s : State) (bit : Nat) : (s.raiseCause bit).fwd = s.fwd := by
  obtain ⟨_, h⟩ := s.raiseCause_frame bit; exact h.fwd
@[simp] theorem State.setFault_buf_queues (s : State) (bit : Nat) (on : Bool) : (s.setFault bit on).buf.queues = s.buf.queues := by
  obtain ⟨_, h⟩ := s.setFault_frame bit on; exact h.buf_queues
@[simp] theorem State.raiseCause_buf_queues (s : State) (bit : Nat) : (s.raiseCause bit).buf.queues = s.buf.queues := by
  obtain ⟨_, h⟩ := s.raiseCause_frame bit; exact h.buf_queues
@[simp] theorem State.setFault_buf_sending (s : State) (bit : Nat) (on : Bool) : (s.setFault bit on).buf.sending = s.buf.sending := by
  obtain ⟨_, h⟩ := s.setFault_frame bit on; exact h.buf_sending
@[simp] theorem State.raiseCause_buf_sending (s : State) (bit : Nat) : (s.raiseCause bit).buf.sending = s.buf.sending := by
  obtain ⟨_, h⟩ := s.raiseCause_frame bit; exact h.buf_sending
@[simp] theorem State.setFault_miners (s : State) (bit : Nat) (on : Bool) : (s.setFault bit on).miners = s.miners := by
  obtain ⟨_, h⟩ := s.setFault_frame bit on; exact h.miners
@[simp] theorem State.raiseCause_miners (s : State) (bit : Nat) : (s.raiseCause bit).miners = s.miners := by
  obtain ⟨_, h⟩ := s.raiseCause_frame bit; exact h.miners
@[simp] theorem State.setFault_telem (s : State) (bit : Nat) (on : Bool) : (s.setFault bit on).telem = s.telem := by
  obtain ⟨_, h⟩ := s.setFault_frame bit on; exact h.telem
@[simp] theorem State.raiseCause_telem (s : State) (bit : Nat) : (s.raiseCause bit).telem = s.telem := by
  obtain ⟨_, h⟩ := s.raiseCause_frame bit; exact h.telem
@[simp] theorem State.setFault_out (s : State) (bit : Nat) (on : Bool) : (s.setFault bit on).out = s.out := by
  obtain ⟨_, h⟩ := s.setFault_frame bit on; exact h.out
@[simp] theorem State.raiseCause_out (s : State) (bit : Nat) : (s.raiseCause bit).out = s.out := by
  obtain ⟨_, h⟩ := s.raiseCause_frame bit; exact h.out
@[simp] theorem State.setFault_pending (s : State) (bit : Nat) (on : Bool) : (s.setFault bit on).pending = s.pending := by
  obtain ⟨_, h⟩ := s.setFault_frame bit on; exact h.pending
@[simp] theorem State.raiseCause_pending (s : State) (bit : Nat) : (s.raiseCause bit).pending = s.pending := by
  obtain ⟨_, h⟩ := s.raiseCause_frame bit; exact h.pending
@[simp] theorem State.setFault_host_channels (s : State) (bit : Nat) (on : Bool) : (s.setFault bit on).host.channels = s.host.channels := by
  obtain ⟨_, h⟩ := s.setFault_frame bit on; exact h.host_channels
@[simp] theorem State.raiseCause_host_channels (s : State) (bit : Nat) : (s.raiseCause bit).host.channels = s.host.channels := by
  obtain ⟨_, h⟩ := s.raiseCause_frame bit; exact h.host_channels
@[simp] theorem State.setFault_host_halted (s : State) (bit : Nat) (on : Bool) : (s.setFault bit on).host.halted = s.host.halted := by
  obtain ⟨_, h⟩ := s.setFault_frame bit on; exact h.host_halted
@[simp] theorem State.raiseCause_host_halted (s : State) (bit : Nat) : (s.raiseCause bit).host.halted = s.host.halted := by
  obtain ⟨_, h⟩ := s.raiseCause_frame bit; exact h.host_halted
@[simp] theorem State.setFault_host_linkUp (s : State) (bit : Nat) (on : Bool) : (s.setFault bit on).host.linkUp = s.host.linkUp := by
  obtain ⟨_, h⟩ := s.setFault_frame bit on; exact h.host_linkUp
@[simp] theorem State.raiseCause_host_linkUp (s : State) (bit : Nat) : (s.raiseCause bit).host.linkUp = s.host.linkUp := by
  obtain ⟨_, h⟩ := s.raiseCause_frame bit; exact h.host_linkUp
@[simp] theorem State.setFault_host_owner (s : State) (bit : Nat) (on : Bool) : (s.setFault bit on).host.owner = s.host.owner := by
  obtain ⟨_, h⟩ := s.setFault_frame bit on; exact h.host_owner
@[simp] theorem State.raiseCause_host_owner (s : State) (bit : Nat) : (s.raiseCause bit).host.owner = s.host.owner := by
  obtain ⟨_, h⟩ := s.raiseCause_frame bit; exact h.host_owner
@[simp] theorem State.setFault_pair_state (s : State) (bit : Nat) (on : Bool) : (s.setFault bit on).pair.state = s.pair.state := by
  obtain ⟨_, h⟩ := s.setFault_frame bit on; exact h.pair_state
@[simp] theorem State.raiseCause_pair_state (s : State) (bit : Nat) : (s.raiseCause bit).pair.state = s.pair.state := by
  obtain ⟨_, h⟩ := s.raiseCause_frame bit; exact h.pair_state
@[simp] theorem State.setFault_pair_role (s : State) (bit : Nat) (on : Bool) : (s.setFault bit on).pair.role = s.pair.role := by
  obtain ⟨_, h⟩ := s.setFault_frame bit on; exact h.pair_role
@[simp] theorem State.raiseCause_pair_role (s : State) (bit : Nat) : (s.raiseCause bit).pair.role = s.pair.role := by
  obtain ⟨_, h⟩ := s.raiseCause_frame bit; exact h.pair_role
@[simp] theorem State.setFault_pair_journal (s : State) (bit : Nat) (on : Bool) : (s.setFault bit on).pair.journal = s.pair.journal := by
  obtain ⟨_, h⟩ := s.setFault_frame bit on; exact h.pair_journal
@[simp] theorem State.raiseCause_pair_journal (s : State) (bit : Nat) : (s.raiseCause bit).pair.journal = s.pair.journal := by
  obtain ⟨_, h⟩ := s.raiseCause_frame bit; exact h.pair_journal
@[simp] theorem State.setFault_pair_holding (s : State) (bit : Nat) (on : Bool) : (s.setFault bit on).pair.holding = s.pair.holding := by
  obtain ⟨_, h⟩ := s.setFault_frame bit on; exact h.pair_holding
@[simp] theorem State.raiseCause_pair_holding (s : State) (bit : Nat) : (s.raiseCause bit).pair.holding = s.pair.holding := by
  obtain ⟨_, h⟩ := s.raiseCause_frame bit; exact h.pair_holding
@[simp] theorem State.setFault_pair_prepared (s : State) (bit : Nat) (on : Bool) : (s.setFault bit on).pair.prepared = s.pair.prepared := by
  obtain ⟨_, h⟩ := s.setFault_frame bit on; exact h.pair_prepared
@[simp] theorem State.raiseCause_pair_prepared (s : State) (bit : Nat) : (s.raiseCause bit).pair.prepared = s.pair.prepared := by
  obtain ⟨_, h⟩ := s.raiseCause_frame bit; exact h.pair_prepared
@[simp] theorem State.setFault_pair_commitMsg (s : State) (bit : Nat) (on : Bool) : (s.setFault bit on).pair.commitMsg = s.pair.commitMsg := by
  obtain ⟨_, h⟩ := s.setFault_frame bit on; exact h.pair_commitMsg
@[simp] theorem State.raiseCause_pair_commitMsg (s : State) (bit : Nat) : (s.raiseCause bit).pair.commitMsg = s.pair.commitMsg := by
  obtain ⟨_, h⟩ := s.raiseCause_frame bit; exact h.pair_commitMsg
@[simp] theorem State.setFault_pair_commitSent (s : State) (bit : Nat) (on : Bool) : (s.setFault bit on).pair.commitSent = s.pair.commitSent := by
  obtain ⟨_, h⟩ := s.setFault_frame bit on; exact h.pair_commitSent
@[simp] theorem State.raiseCause_pair_commitSent (s : State) (bit : Nat) : (s.raiseCause bit).pair.commitSent = s.pair.commitSent := by
  obtain ⟨_, h⟩ := s.raiseCause_frame bit; exact h.pair_commitSent
@[simp] theorem State.setFault_pair_rejoins (s : State) (bit : Nat) (on : Bool) : (s.setFault bit on).pair.rejoins = s.pair.rejoins := by
  obtain ⟨_, h⟩ := s.setFault_frame bit on; exact h.pair_rejoins
@[simp] theorem State.raiseCause_pair_rejoins (s : State) (bit : Nat) : (s.raiseCause bit).pair.rejoins = s.pair.rejoins := by
  obtain ⟨_, h⟩ := s.raiseCause_frame bit; exact h.pair_rejoins
@[simp] theorem State.setFault_pair_peerSerial (s : State) (bit : Nat) (on : Bool) : (s.setFault bit on).pair.peerSerial = s.pair.peerSerial := by
  obtain ⟨_, h⟩ := s.setFault_frame bit on; exact h.pair_peerSerial
@[simp] theorem State.raiseCause_pair_peerSerial (s : State) (bit : Nat) : (s.raiseCause bit).pair.peerSerial = s.pair.peerSerial := by
  obtain ⟨_, h⟩ := s.raiseCause_frame bit; exact h.pair_peerSerial
@[simp] theorem State.noteLinks_now (s : State) (old : State) : (State.noteLinks old s).now = s.now := by
  obtain ⟨_, _, h⟩ := State.noteLinks_frame old s; rw [h]
@[simp] theorem State.noteLinks_life (s : State) (old : State) : (State.noteLinks old s).life = s.life := by
  obtain ⟨_, _, h⟩ := State.noteLinks_frame old s; rw [h]
@[simp] theorem State.noteLinks_pins (s : State) (old : State) : (State.noteLinks old s).pins = s.pins := by
  obtain ⟨_, _, h⟩ := State.noteLinks_frame old s; rw [h]
@[simp] theorem State.noteLinks_power (s : State) (old : State) : (State.noteLinks old s).power = s.power := by
  obtain ⟨_, _, h⟩ := State.noteLinks_frame old s; rw [h]
@[simp] theorem State.noteLinks_pair (s : State) (old : State) : (State.noteLinks old s).pair = s.pair := by
  obtain ⟨_, _, h⟩ := State.noteLinks_frame old s; rw [h]
@[simp] theorem State.noteLinks_epoch (s : State) (old : State) : (State.noteLinks old s).epoch = s.epoch := by
  obtain ⟨_, _, h⟩ := State.noteLinks_frame old s; rw [h]
@[simp] theorem State.noteLinks_cur (s : State) (old : State) : (State.noteLinks old s).cur = s.cur := by
  obtain ⟨_, _, h⟩ := State.noteLinks_frame old s; rw [h]
@[simp] theorem State.noteLinks_shadow (s : State) (old : State) : (State.noteLinks old s).shadow = s.shadow := by
  obtain ⟨_, _, h⟩ := State.noteLinks_frame old s; rw [h]
@[simp] theorem State.noteLinks_drain (s : State) (old : State) : (State.noteLinks old s).drain = s.drain := by
  obtain ⟨_, _, h⟩ := State.noteLinks_frame old s; rw [h]
@[simp] theorem State.noteLinks_dram (s : State) (old : State) : (State.noteLinks old s).dram = s.dram := by
  obtain ⟨_, _, h⟩ := State.noteLinks_frame old s; rw [h]
@[simp] theorem State.noteLinks_canary (s : State) (old : State) : (State.noteLinks old s).canary = s.canary := by
  obtain ⟨_, _, h⟩ := State.noteLinks_frame old s; rw [h]
@[simp] theorem State.noteLinks_rule (s : State) (old : State) : (State.noteLinks old s).rule = s.rule := by
  obtain ⟨_, _, h⟩ := State.noteLinks_frame old s; rw [h]
@[simp] theorem State.noteLinks_flow (s : State) (old : State) : (State.noteLinks old s).flow = s.flow := by
  obtain ⟨_, _, h⟩ := State.noteLinks_frame old s; rw [h]
@[simp] theorem State.noteLinks_nat (s : State) (old : State) : (State.noteLinks old s).nat = s.nat := by
  obtain ⟨_, _, h⟩ := State.noteLinks_frame old s; rw [h]
@[simp] theorem State.noteLinks_miners (s : State) (old : State) : (State.noteLinks old s).miners = s.miners := by
  obtain ⟨_, _, h⟩ := State.noteLinks_frame old s; rw [h]
@[simp] theorem State.noteLinks_time (s : State) (old : State) : (State.noteLinks old s).time = s.time := by
  obtain ⟨_, _, h⟩ := State.noteLinks_frame old s; rw [h]
@[simp] theorem State.noteLinks_telem (s : State) (old : State) : (State.noteLinks old s).telem = s.telem := by
  obtain ⟨_, _, h⟩ := State.noteLinks_frame old s; rw [h]
@[simp] theorem State.noteLinks_out (s : State) (old : State) : (State.noteLinks old s).out = s.out := by
  obtain ⟨_, _, h⟩ := State.noteLinks_frame old s; rw [h]
@[simp] theorem State.noteLinks_pending (s : State) (old : State) : (State.noteLinks old s).pending = s.pending := by
  obtain ⟨_, _, h⟩ := State.noteLinks_frame old s; rw [h]
@[simp] theorem State.noteLinks_host_channels (s : State) (old : State) : (State.noteLinks old s).host.channels = s.host.channels := by
  obtain ⟨_, _, h⟩ := State.noteLinks_frame old s; rw [h]
@[simp] theorem State.noteLinks_host_owner (s : State) (old : State) : (State.noteLinks old s).host.owner = s.host.owner := by
  obtain ⟨_, _, h⟩ := State.noteLinks_frame old s; rw [h]
@[simp] theorem State.noteLinks_host_halted (s : State) (old : State) : (State.noteLinks old s).host.halted = s.host.halted := by
  obtain ⟨_, _, h⟩ := State.noteLinks_frame old s; rw [h]
@[simp] theorem State.noteLinks_host_linkUp (s : State) (old : State) : (State.noteLinks old s).host.linkUp = s.host.linkUp := by
  obtain ⟨_, _, h⟩ := State.noteLinks_frame old s; rw [h]
@[simp] theorem State.noteLinks_buf_queues (s : State) (old : State) : (State.noteLinks old s).buf.queues = s.buf.queues := by
  obtain ⟨_, _, h⟩ := State.noteLinks_frame old s; rw [h]
@[simp] theorem State.noteLinks_buf_sending (s : State) (old : State) : (State.noteLinks old s).buf.sending = s.buf.sending := by
  obtain ⟨_, _, h⟩ := State.noteLinks_frame old s; rw [h]
@[simp] theorem State.noteLinks_pair_state (s : State) (old : State) : (State.noteLinks old s).pair.state = s.pair.state := by
  obtain ⟨_, _, h⟩ := State.noteLinks_frame old s; rw [h]
@[simp] theorem State.noteLinks_pair_role (s : State) (old : State) : (State.noteLinks old s).pair.role = s.pair.role := by
  obtain ⟨_, _, h⟩ := State.noteLinks_frame old s; rw [h]

@[simp] theorem State.setPair_now (s : State) (st : PairState) (r : Role) : (s.setPair st r).now = s.now := by
  simp [State.setPair]
@[simp] theorem State.setPair_pins (s : State) (st : PairState) (r : Role) : (s.setPair st r).pins = s.pins := by
  simp [State.setPair]
@[simp] theorem State.setPair_power (s : State) (st : PairState) (r : Role) : (s.setPair st r).power = s.power := by
  simp [State.setPair]
@[simp] theorem State.setPair_epoch (s : State) (st : PairState) (r : Role) : (s.setPair st r).epoch = s.epoch := by
  simp [State.setPair]
@[simp] theorem State.setPair_cur (s : State) (st : PairState) (r : Role) : (s.setPair st r).cur = s.cur := by
  simp [State.setPair]
@[simp] theorem State.setPair_shadow (s : State) (st : PairState) (r : Role) : (s.setPair st r).shadow = s.shadow := by
  simp [State.setPair]
@[simp] theorem State.setPair_drain (s : State) (st : PairState) (r : Role) : (s.setPair st r).drain = s.drain := by
  simp [State.setPair]
@[simp] theorem State.setPair_dram (s : State) (st : PairState) (r : Role) : (s.setPair st r).dram = s.dram := by
  simp [State.setPair]
@[simp] theorem State.setPair_rule (s : State) (st : PairState) (r : Role) : (s.setPair st r).rule = s.rule := by
  simp [State.setPair]
@[simp] theorem State.setPair_flow (s : State) (st : PairState) (r : Role) : (s.setPair st r).flow = s.flow := by
  simp [State.setPair]
@[simp] theorem State.setPair_nat (s : State) (st : PairState) (r : Role) : (s.setPair st r).nat = s.nat := by
  simp [State.setPair]
@[simp] theorem State.setPair_buf_queues (s : State) (st : PairState) (r : Role) : (s.setPair st r).buf.queues = s.buf.queues := by
  simp [State.setPair]
@[simp] theorem State.setPair_buf_sending (s : State) (st : PairState) (r : Role) : (s.setPair st r).buf.sending = s.buf.sending := by
  simp [State.setPair]
@[simp] theorem State.setPair_miners (s : State) (st : PairState) (r : Role) : (s.setPair st r).miners = s.miners := by
  simp [State.setPair]
@[simp] theorem State.setPair_telem (s : State) (st : PairState) (r : Role) : (s.setPair st r).telem = s.telem := by
  simp [State.setPair]
@[simp] theorem State.setPair_out (s : State) (st : PairState) (r : Role) : (s.setPair st r).out = s.out := by
  simp [State.setPair]
@[simp] theorem State.setPair_pending (s : State) (st : PairState) (r : Role) : (s.setPair st r).pending = s.pending := by
  simp [State.setPair]
@[simp] theorem State.setPair_host_channels (s : State) (st : PairState) (r : Role) : (s.setPair st r).host.channels = s.host.channels := by
  simp [State.setPair]
@[simp] theorem State.setPair_host_halted (s : State) (st : PairState) (r : Role) : (s.setPair st r).host.halted = s.host.halted := by
  simp [State.setPair]
@[simp] theorem State.setPair_host_linkUp (s : State) (st : PairState) (r : Role) : (s.setPair st r).host.linkUp = s.host.linkUp := by
  simp [State.setPair]
@[simp] theorem State.setPair_host_owner (s : State) (st : PairState) (r : Role) : (s.setPair st r).host.owner = s.host.owner := by
  simp [State.setPair]
@[simp] theorem State.setPair_pair_journal (s : State) (st : PairState) (r : Role) : (s.setPair st r).pair.journal = s.pair.journal := by
  simp [State.setPair]
@[simp] theorem State.setPair_pair_holding (s : State) (st : PairState) (r : Role) : (s.setPair st r).pair.holding = s.pair.holding := by
  simp [State.setPair]
@[simp] theorem State.setPair_pair_prepared (s : State) (st : PairState) (r : Role) : (s.setPair st r).pair.prepared = s.pair.prepared := by
  simp [State.setPair]
@[simp] theorem State.setPair_pair_commitMsg (s : State) (st : PairState) (r : Role) : (s.setPair st r).pair.commitMsg = s.pair.commitMsg := by
  simp [State.setPair]
@[simp] theorem State.setPair_pair_commitSent (s : State) (st : PairState) (r : Role) : (s.setPair st r).pair.commitSent = s.pair.commitSent := by
  simp [State.setPair]
@[simp] theorem State.setPair_pair_rejoins (s : State) (st : PairState) (r : Role) : (s.setPair st r).pair.rejoins = s.pair.rejoins := by
  simp [State.setPair]
@[simp] theorem State.setPair_pair_peerSerial (s : State) (st : PairState) (r : Role) : (s.setPair st r).pair.peerSerial = s.pair.peerSerial := by
  simp [State.setPair]

@[simp] theorem State.setPair_state (s : State) (st : PairState) (r : Role) : (s.setPair st r).pair.state = st := by simp [State.setPair]
@[simp] theorem State.setPair_role (s : State) (st : PairState) (r : Role) : (s.setPair st r).pair.role = r := by simp [State.setPair]

end Sys2Proof.Machine
end

