-- ==== Sys2Proof/Laws/Peer.lean ====
section
/-!
SUPPORT. What the words sent to the peer leave unchanged: they add to what is sent, and the choice of a lane takes a free value.
-/
namespace Sys2Proof.Machine

/-- Only what is sent differs, and the count of free values used. -/
def SentOnly (s t : State) : Prop := ∃ o f, t = { s with out := o, free := f }

theorem SentOnly.rfl' (s : State) : SentOnly s s := ⟨s.out, s.free, rfl⟩

theorem SentOnly.trans {s t u : State} (h : SentOnly s t) (g : SentOnly t u) : SentOnly s u := by
  obtain ⟨_, _, rfl⟩ := h
  obtain ⟨o, f, rfl⟩ := g
  exact ⟨o, f, rfl⟩

/-- A word to each lane that is up is sent once on each that reaches the partner, in their order. -/
theorem State.onEach_eq (s : State) (x : PeerWord) : s.onEach x = { s with out := s.out ++ s.lanesOut.map fun p => .peer p x } := by
  suffices h : ∀ (l : List Nat) (t : State), t.ports = s.ports → l.foldl (fun s p => s.sendLane p x) t =
      { t with out := t.out ++ (l.filter fun p => (s.port p).loopback == 0).map fun p => .peer p x } from h _ s rfl
  intro l
  induction l with
  | nil => intro t _; simp
  | cons p q ih =>
    intro t ht
    have hp : t.port p = s.port p := by unfold State.port; rw [ht]
    rw [List.foldl_cons]
    by_cases hl : (s.port p).loopback = 0
    · rw [show t.sendLane p x = t.send (.peer p x) by simp [State.sendLane, hp, hl], ih _ (by simpa using ht)]
      simp [State.send, hl]
    · rw [show t.sendLane p x = t by simp [State.sendLane, hp, hl], ih _ ht]
      simp [hl]

theorem State.onEach_frame (s : State) (x : PeerWord) : SentOnly s (s.onEach x) := ⟨_, s.free, s.onEach_eq x⟩

theorem State.sendLane_frame (s : State) (p : Nat) (x : PeerWord) : SentOnly s (s.sendLane p x) := by
  unfold State.sendLane
  split
  · exact ⟨_, s.free, rfl⟩
  · exact .rfl' s

theorem State.onPeer_frame (s : State) (x : PeerWord) : SentOnly s (s.onPeer x) := by
  unfold State.onPeer
  split
  · exact .rfl' s
  · exact s.sendLane_frame _ x
  · exact .trans ⟨s.out, _, rfl⟩ (State.sendLane_frame _ _ x)

theorem State.peerWord_frame (s : State) : SentOnly s s.peerWord := s.onEach_frame _

theorem State.peerPlaced_frame (s : State) (was : Bool) : SentOnly s (s.peerPlaced was) := by
  unfold State.peerPlaced
  split
  · exact (s.onPeer_frame _).trans (State.peerWord_frame _)
  · exact .rfl' s

@[simp] theorem State.onEach_now (s : State) (x : PeerWord) : (s.onEach x).now = s.now := by
  obtain ⟨_, _, h⟩ := s.onEach_frame x; rw [h]
@[simp] theorem State.onEach_life (s : State) (x : PeerWord) : (s.onEach x).life = s.life := by
  obtain ⟨_, _, h⟩ := s.onEach_frame x; rw [h]
@[simp] theorem State.onEach_pins (s : State) (x : PeerWord) : (s.onEach x).pins = s.pins := by
  obtain ⟨_, _, h⟩ := s.onEach_frame x; rw [h]
@[simp] theorem State.onEach_power (s : State) (x : PeerWord) : (s.onEach x).power = s.power := by
  obtain ⟨_, _, h⟩ := s.onEach_frame x; rw [h]
@[simp] theorem State.onEach_err (s : State) (x : PeerWord) : (s.onEach x).err = s.err := by
  obtain ⟨_, _, h⟩ := s.onEach_frame x; rw [h]
@[simp] theorem State.onEach_pair (s : State) (x : PeerWord) : (s.onEach x).pair = s.pair := by
  obtain ⟨_, _, h⟩ := s.onEach_frame x; rw [h]
@[simp] theorem State.onEach_ns (s : State) (x : PeerWord) : (s.onEach x).ns = s.ns := by
  obtain ⟨_, _, h⟩ := s.onEach_frame x; rw [h]
@[simp] theorem State.onEach_sec (s : State) (x : PeerWord) : (s.onEach x).sec = s.sec := by
  obtain ⟨_, _, h⟩ := s.onEach_frame x; rw [h]
@[simp] theorem State.onEach_peer (s : State) (x : PeerWord) : (s.onEach x).peer = s.peer := by
  obtain ⟨_, _, h⟩ := s.onEach_frame x; rw [h]
@[simp] theorem State.onEach_bmc (s : State) (x : PeerWord) : (s.onEach x).bmc = s.bmc := by
  obtain ⟨_, _, h⟩ := s.onEach_frame x; rw [h]
@[simp] theorem State.onEach_epoch (s : State) (x : PeerWord) : (s.onEach x).epoch = s.epoch := by
  obtain ⟨_, _, h⟩ := s.onEach_frame x; rw [h]
@[simp] theorem State.onEach_cur (s : State) (x : PeerWord) : (s.onEach x).cur = s.cur := by
  obtain ⟨_, _, h⟩ := s.onEach_frame x; rw [h]
@[simp] theorem State.onEach_shadow (s : State) (x : PeerWord) : (s.onEach x).shadow = s.shadow := by
  obtain ⟨_, _, h⟩ := s.onEach_frame x; rw [h]
@[simp] theorem State.onEach_drain (s : State) (x : PeerWord) : (s.onEach x).drain = s.drain := by
  obtain ⟨_, _, h⟩ := s.onEach_frame x; rw [h]
@[simp] theorem State.onEach_dram (s : State) (x : PeerWord) : (s.onEach x).dram = s.dram := by
  obtain ⟨_, _, h⟩ := s.onEach_frame x; rw [h]
@[simp] theorem State.onEach_ports (s : State) (x : PeerWord) : (s.onEach x).ports = s.ports := by
  obtain ⟨_, _, h⟩ := s.onEach_frame x; rw [h]
@[simp] theorem State.onEach_canary (s : State) (x : PeerWord) : (s.onEach x).canary = s.canary := by
  obtain ⟨_, _, h⟩ := s.onEach_frame x; rw [h]
@[simp] theorem State.onEach_parse (s : State) (x : PeerWord) : (s.onEach x).parse = s.parse := by
  obtain ⟨_, _, h⟩ := s.onEach_frame x; rw [h]
@[simp] theorem State.onEach_rule (s : State) (x : PeerWord) : (s.onEach x).rule = s.rule := by
  obtain ⟨_, _, h⟩ := s.onEach_frame x; rw [h]
@[simp] theorem State.onEach_flow (s : State) (x : PeerWord) : (s.onEach x).flow = s.flow := by
  obtain ⟨_, _, h⟩ := s.onEach_frame x; rw [h]
@[simp] theorem State.onEach_nat (s : State) (x : PeerWord) : (s.onEach x).nat = s.nat := by
  obtain ⟨_, _, h⟩ := s.onEach_frame x; rw [h]
@[simp] theorem State.onEach_fwd (s : State) (x : PeerWord) : (s.onEach x).fwd = s.fwd := by
  obtain ⟨_, _, h⟩ := s.onEach_frame x; rw [h]
@[simp] theorem State.onEach_buf (s : State) (x : PeerWord) : (s.onEach x).buf = s.buf := by
  obtain ⟨_, _, h⟩ := s.onEach_frame x; rw [h]
@[simp] theorem State.onEach_miners (s : State) (x : PeerWord) : (s.onEach x).miners = s.miners := by
  obtain ⟨_, _, h⟩ := s.onEach_frame x; rw [h]
@[simp] theorem State.onEach_time (s : State) (x : PeerWord) : (s.onEach x).time = s.time := by
  obtain ⟨_, _, h⟩ := s.onEach_frame x; rw [h]
@[simp] theorem State.onEach_telem (s : State) (x : PeerWord) : (s.onEach x).telem = s.telem := by
  obtain ⟨_, _, h⟩ := s.onEach_frame x; rw [h]
@[simp] theorem State.onEach_host (s : State) (x : PeerWord) : (s.onEach x).host = s.host := by
  obtain ⟨_, _, h⟩ := s.onEach_frame x; rw [h]
@[simp] theorem State.onEach_pending (s : State) (x : PeerWord) : (s.onEach x).pending = s.pending := by
  obtain ⟨_, _, h⟩ := s.onEach_frame x; rw [h]
@[simp] theorem State.onPeer_now (s : State) (x : PeerWord) : (s.onPeer x).now = s.now := by
  obtain ⟨_, _, h⟩ := s.onPeer_frame x; rw [h]
@[simp] theorem State.onPeer_life (s : State) (x : PeerWord) : (s.onPeer x).life = s.life := by
  obtain ⟨_, _, h⟩ := s.onPeer_frame x; rw [h]
@[simp] theorem State.onPeer_pins (s : State) (x : PeerWord) : (s.onPeer x).pins = s.pins := by
  obtain ⟨_, _, h⟩ := s.onPeer_frame x; rw [h]
@[simp] theorem State.onPeer_power (s : State) (x : PeerWord) : (s.onPeer x).power = s.power := by
  obtain ⟨_, _, h⟩ := s.onPeer_frame x; rw [h]
@[simp] theorem State.onPeer_err (s : State) (x : PeerWord) : (s.onPeer x).err = s.err := by
  obtain ⟨_, _, h⟩ := s.onPeer_frame x; rw [h]
@[simp] theorem State.onPeer_pair (s : State) (x : PeerWord) : (s.onPeer x).pair = s.pair := by
  obtain ⟨_, _, h⟩ := s.onPeer_frame x; rw [h]
@[simp] theorem State.onPeer_ns (s : State) (x : PeerWord) : (s.onPeer x).ns = s.ns := by
  obtain ⟨_, _, h⟩ := s.onPeer_frame x; rw [h]
@[simp] theorem State.onPeer_sec (s : State) (x : PeerWord) : (s.onPeer x).sec = s.sec := by
  obtain ⟨_, _, h⟩ := s.onPeer_frame x; rw [h]
@[simp] theorem State.onPeer_peer (s : State) (x : PeerWord) : (s.onPeer x).peer = s.peer := by
  obtain ⟨_, _, h⟩ := s.onPeer_frame x; rw [h]
@[simp] theorem State.onPeer_bmc (s : State) (x : PeerWord) : (s.onPeer x).bmc = s.bmc := by
  obtain ⟨_, _, h⟩ := s.onPeer_frame x; rw [h]
@[simp] theorem State.onPeer_epoch (s : State) (x : PeerWord) : (s.onPeer x).epoch = s.epoch := by
  obtain ⟨_, _, h⟩ := s.onPeer_frame x; rw [h]
@[simp] theorem State.onPeer_cur (s : State) (x : PeerWord) : (s.onPeer x).cur = s.cur := by
  obtain ⟨_, _, h⟩ := s.onPeer_frame x; rw [h]
@[simp] theorem State.onPeer_shadow (s : State) (x : PeerWord) : (s.onPeer x).shadow = s.shadow := by
  obtain ⟨_, _, h⟩ := s.onPeer_frame x; rw [h]
@[simp] theorem State.onPeer_drain (s : State) (x : PeerWord) : (s.onPeer x).drain = s.drain := by
  obtain ⟨_, _, h⟩ := s.onPeer_frame x; rw [h]
@[simp] theorem State.onPeer_dram (s : State) (x : PeerWord) : (s.onPeer x).dram = s.dram := by
  obtain ⟨_, _, h⟩ := s.onPeer_frame x; rw [h]
@[simp] theorem State.onPeer_ports (s : State) (x : PeerWord) : (s.onPeer x).ports = s.ports := by
  obtain ⟨_, _, h⟩ := s.onPeer_frame x; rw [h]
@[simp] theorem State.onPeer_canary (s : State) (x : PeerWord) : (s.onPeer x).canary = s.canary := by
  obtain ⟨_, _, h⟩ := s.onPeer_frame x; rw [h]
@[simp] theorem State.onPeer_parse (s : State) (x : PeerWord) : (s.onPeer x).parse = s.parse := by
  obtain ⟨_, _, h⟩ := s.onPeer_frame x; rw [h]
@[simp] theorem State.onPeer_rule (s : State) (x : PeerWord) : (s.onPeer x).rule = s.rule := by
  obtain ⟨_, _, h⟩ := s.onPeer_frame x; rw [h]
@[simp] theorem State.onPeer_flow (s : State) (x : PeerWord) : (s.onPeer x).flow = s.flow := by
  obtain ⟨_, _, h⟩ := s.onPeer_frame x; rw [h]
@[simp] theorem State.onPeer_nat (s : State) (x : PeerWord) : (s.onPeer x).nat = s.nat := by
  obtain ⟨_, _, h⟩ := s.onPeer_frame x; rw [h]
@[simp] theorem State.onPeer_fwd (s : State) (x : PeerWord) : (s.onPeer x).fwd = s.fwd := by
  obtain ⟨_, _, h⟩ := s.onPeer_frame x; rw [h]
@[simp] theorem State.onPeer_buf (s : State) (x : PeerWord) : (s.onPeer x).buf = s.buf := by
  obtain ⟨_, _, h⟩ := s.onPeer_frame x; rw [h]
@[simp] theorem State.onPeer_miners (s : State) (x : PeerWord) : (s.onPeer x).miners = s.miners := by
  obtain ⟨_, _, h⟩ := s.onPeer_frame x; rw [h]
@[simp] theorem State.onPeer_time (s : State) (x : PeerWord) : (s.onPeer x).time = s.time := by
  obtain ⟨_, _, h⟩ := s.onPeer_frame x; rw [h]
@[simp] theorem State.onPeer_telem (s : State) (x : PeerWord) : (s.onPeer x).telem = s.telem := by
  obtain ⟨_, _, h⟩ := s.onPeer_frame x; rw [h]
@[simp] theorem State.onPeer_host (s : State) (x : PeerWord) : (s.onPeer x).host = s.host := by
  obtain ⟨_, _, h⟩ := s.onPeer_frame x; rw [h]
@[simp] theorem State.onPeer_pending (s : State) (x : PeerWord) : (s.onPeer x).pending = s.pending := by
  obtain ⟨_, _, h⟩ := s.onPeer_frame x; rw [h]
@[simp] theorem State.peerWord_now (s : State) : s.peerWord.now = s.now := by
  obtain ⟨_, _, h⟩ := s.peerWord_frame; rw [h]
@[simp] theorem State.peerWord_life (s : State) : s.peerWord.life = s.life := by
  obtain ⟨_, _, h⟩ := s.peerWord_frame; rw [h]
@[simp] theorem State.peerWord_pins (s : State) : s.peerWord.pins = s.pins := by
  obtain ⟨_, _, h⟩ := s.peerWord_frame; rw [h]
@[simp] theorem State.peerWord_power (s : State) : s.peerWord.power = s.power := by
  obtain ⟨_, _, h⟩ := s.peerWord_frame; rw [h]
@[simp] theorem State.peerWord_err (s : State) : s.peerWord.err = s.err := by
  obtain ⟨_, _, h⟩ := s.peerWord_frame; rw [h]
@[simp] theorem State.peerWord_pair (s : State) : s.peerWord.pair = s.pair := by
  obtain ⟨_, _, h⟩ := s.peerWord_frame; rw [h]
@[simp] theorem State.peerWord_ns (s : State) : s.peerWord.ns = s.ns := by
  obtain ⟨_, _, h⟩ := s.peerWord_frame; rw [h]
@[simp] theorem State.peerWord_sec (s : State) : s.peerWord.sec = s.sec := by
  obtain ⟨_, _, h⟩ := s.peerWord_frame; rw [h]
@[simp] theorem State.peerWord_peer (s : State) : s.peerWord.peer = s.peer := by
  obtain ⟨_, _, h⟩ := s.peerWord_frame; rw [h]
@[simp] theorem State.peerWord_bmc (s : State) : s.peerWord.bmc = s.bmc := by
  obtain ⟨_, _, h⟩ := s.peerWord_frame; rw [h]
@[simp] theorem State.peerWord_epoch (s : State) : s.peerWord.epoch = s.epoch := by
  obtain ⟨_, _, h⟩ := s.peerWord_frame; rw [h]
@[simp] theorem State.peerWord_cur (s : State) : s.peerWord.cur = s.cur := by
  obtain ⟨_, _, h⟩ := s.peerWord_frame; rw [h]
@[simp] theorem State.peerWord_shadow (s : State) : s.peerWord.shadow = s.shadow := by
  obtain ⟨_, _, h⟩ := s.peerWord_frame; rw [h]
@[simp] theorem State.peerWord_drain (s : State) : s.peerWord.drain = s.drain := by
  obtain ⟨_, _, h⟩ := s.peerWord_frame; rw [h]
@[simp] theorem State.peerWord_dram (s : State) : s.peerWord.dram = s.dram := by
  obtain ⟨_, _, h⟩ := s.peerWord_frame; rw [h]
@[simp] theorem State.peerWord_ports (s : State) : s.peerWord.ports = s.ports := by
  obtain ⟨_, _, h⟩ := s.peerWord_frame; rw [h]
@[simp] theorem State.peerWord_canary (s : State) : s.peerWord.canary = s.canary := by
  obtain ⟨_, _, h⟩ := s.peerWord_frame; rw [h]
@[simp] theorem State.peerWord_parse (s : State) : s.peerWord.parse = s.parse := by
  obtain ⟨_, _, h⟩ := s.peerWord_frame; rw [h]
@[simp] theorem State.peerWord_rule (s : State) : s.peerWord.rule = s.rule := by
  obtain ⟨_, _, h⟩ := s.peerWord_frame; rw [h]
@[simp] theorem State.peerWord_flow (s : State) : s.peerWord.flow = s.flow := by
  obtain ⟨_, _, h⟩ := s.peerWord_frame; rw [h]
@[simp] theorem State.peerWord_nat (s : State) : s.peerWord.nat = s.nat := by
  obtain ⟨_, _, h⟩ := s.peerWord_frame; rw [h]
@[simp] theorem State.peerWord_fwd (s : State) : s.peerWord.fwd = s.fwd := by
  obtain ⟨_, _, h⟩ := s.peerWord_frame; rw [h]
@[simp] theorem State.peerWord_buf (s : State) : s.peerWord.buf = s.buf := by
  obtain ⟨_, _, h⟩ := s.peerWord_frame; rw [h]
@[simp] theorem State.peerWord_miners (s : State) : s.peerWord.miners = s.miners := by
  obtain ⟨_, _, h⟩ := s.peerWord_frame; rw [h]
@[simp] theorem State.peerWord_time (s : State) : s.peerWord.time = s.time := by
  obtain ⟨_, _, h⟩ := s.peerWord_frame; rw [h]
@[simp] theorem State.peerWord_telem (s : State) : s.peerWord.telem = s.telem := by
  obtain ⟨_, _, h⟩ := s.peerWord_frame; rw [h]
@[simp] theorem State.peerWord_host (s : State) : s.peerWord.host = s.host := by
  obtain ⟨_, _, h⟩ := s.peerWord_frame; rw [h]
@[simp] theorem State.peerWord_pending (s : State) : s.peerWord.pending = s.pending := by
  obtain ⟨_, _, h⟩ := s.peerWord_frame; rw [h]
@[simp] theorem State.peerPlaced_now (s : State) (was : Bool) : (s.peerPlaced was).now = s.now := by
  obtain ⟨_, _, h⟩ := s.peerPlaced_frame was; rw [h]
@[simp] theorem State.peerPlaced_life (s : State) (was : Bool) : (s.peerPlaced was).life = s.life := by
  obtain ⟨_, _, h⟩ := s.peerPlaced_frame was; rw [h]
@[simp] theorem State.peerPlaced_pins (s : State) (was : Bool) : (s.peerPlaced was).pins = s.pins := by
  obtain ⟨_, _, h⟩ := s.peerPlaced_frame was; rw [h]
@[simp] theorem State.peerPlaced_power (s : State) (was : Bool) : (s.peerPlaced was).power = s.power := by
  obtain ⟨_, _, h⟩ := s.peerPlaced_frame was; rw [h]
@[simp] theorem State.peerPlaced_err (s : State) (was : Bool) : (s.peerPlaced was).err = s.err := by
  obtain ⟨_, _, h⟩ := s.peerPlaced_frame was; rw [h]
@[simp] theorem State.peerPlaced_pair (s : State) (was : Bool) : (s.peerPlaced was).pair = s.pair := by
  obtain ⟨_, _, h⟩ := s.peerPlaced_frame was; rw [h]
@[simp] theorem State.peerPlaced_ns (s : State) (was : Bool) : (s.peerPlaced was).ns = s.ns := by
  obtain ⟨_, _, h⟩ := s.peerPlaced_frame was; rw [h]
@[simp] theorem State.peerPlaced_sec (s : State) (was : Bool) : (s.peerPlaced was).sec = s.sec := by
  obtain ⟨_, _, h⟩ := s.peerPlaced_frame was; rw [h]
@[simp] theorem State.peerPlaced_peer (s : State) (was : Bool) : (s.peerPlaced was).peer = s.peer := by
  obtain ⟨_, _, h⟩ := s.peerPlaced_frame was; rw [h]
@[simp] theorem State.peerPlaced_bmc (s : State) (was : Bool) : (s.peerPlaced was).bmc = s.bmc := by
  obtain ⟨_, _, h⟩ := s.peerPlaced_frame was; rw [h]
@[simp] theorem State.peerPlaced_epoch (s : State) (was : Bool) : (s.peerPlaced was).epoch = s.epoch := by
  obtain ⟨_, _, h⟩ := s.peerPlaced_frame was; rw [h]
@[simp] theorem State.peerPlaced_cur (s : State) (was : Bool) : (s.peerPlaced was).cur = s.cur := by
  obtain ⟨_, _, h⟩ := s.peerPlaced_frame was; rw [h]
@[simp] theorem State.peerPlaced_shadow (s : State) (was : Bool) : (s.peerPlaced was).shadow = s.shadow := by
  obtain ⟨_, _, h⟩ := s.peerPlaced_frame was; rw [h]
@[simp] theorem State.peerPlaced_drain (s : State) (was : Bool) : (s.peerPlaced was).drain = s.drain := by
  obtain ⟨_, _, h⟩ := s.peerPlaced_frame was; rw [h]
@[simp] theorem State.peerPlaced_dram (s : State) (was : Bool) : (s.peerPlaced was).dram = s.dram := by
  obtain ⟨_, _, h⟩ := s.peerPlaced_frame was; rw [h]
@[simp] theorem State.peerPlaced_ports (s : State) (was : Bool) : (s.peerPlaced was).ports = s.ports := by
  obtain ⟨_, _, h⟩ := s.peerPlaced_frame was; rw [h]
@[simp] theorem State.peerPlaced_canary (s : State) (was : Bool) : (s.peerPlaced was).canary = s.canary := by
  obtain ⟨_, _, h⟩ := s.peerPlaced_frame was; rw [h]
@[simp] theorem State.peerPlaced_parse (s : State) (was : Bool) : (s.peerPlaced was).parse = s.parse := by
  obtain ⟨_, _, h⟩ := s.peerPlaced_frame was; rw [h]
@[simp] theorem State.peerPlaced_rule (s : State) (was : Bool) : (s.peerPlaced was).rule = s.rule := by
  obtain ⟨_, _, h⟩ := s.peerPlaced_frame was; rw [h]
@[simp] theorem State.peerPlaced_flow (s : State) (was : Bool) : (s.peerPlaced was).flow = s.flow := by
  obtain ⟨_, _, h⟩ := s.peerPlaced_frame was; rw [h]
@[simp] theorem State.peerPlaced_nat (s : State) (was : Bool) : (s.peerPlaced was).nat = s.nat := by
  obtain ⟨_, _, h⟩ := s.peerPlaced_frame was; rw [h]
@[simp] theorem State.peerPlaced_fwd (s : State) (was : Bool) : (s.peerPlaced was).fwd = s.fwd := by
  obtain ⟨_, _, h⟩ := s.peerPlaced_frame was; rw [h]
@[simp] theorem State.peerPlaced_buf (s : State) (was : Bool) : (s.peerPlaced was).buf = s.buf := by
  obtain ⟨_, _, h⟩ := s.peerPlaced_frame was; rw [h]
@[simp] theorem State.peerPlaced_miners (s : State) (was : Bool) : (s.peerPlaced was).miners = s.miners := by
  obtain ⟨_, _, h⟩ := s.peerPlaced_frame was; rw [h]
@[simp] theorem State.peerPlaced_time (s : State) (was : Bool) : (s.peerPlaced was).time = s.time := by
  obtain ⟨_, _, h⟩ := s.peerPlaced_frame was; rw [h]
@[simp] theorem State.peerPlaced_telem (s : State) (was : Bool) : (s.peerPlaced was).telem = s.telem := by
  obtain ⟨_, _, h⟩ := s.peerPlaced_frame was; rw [h]
@[simp] theorem State.peerPlaced_host (s : State) (was : Bool) : (s.peerPlaced was).host = s.host := by
  obtain ⟨_, _, h⟩ := s.peerPlaced_frame was; rw [h]
@[simp] theorem State.peerPlaced_pending (s : State) (was : Bool) : (s.peerPlaced was).pending = s.pending := by
  obtain ⟨_, _, h⟩ := s.peerPlaced_frame was; rw [h]

end Sys2Proof.Machine
end

