-- ==== Sys2Proof/Laws/Memory.lean ====
section
/-!
SUPPORT. Device memory: what a write of a tile leaves readable, and that every operation over memory keeps the canonical form.
-/
namespace Sys2Proof.Machine

/-- The canonical form in two parts: no cell holds what its unlisted address reads as, and addresses strictly rise. -/
theorem Memory.wf_iff (m : Memory) :
    Memory.wf m = true ↔ (∀ c ∈ m, c.2 ≠ memDefault c.1) ∧ m.Pairwise (fun c d => c.1 < d.1) := by
  induction m with
  | nil => simp [Memory.wf]
  | cons c rest ih =>
    cases rest with
    | nil => simp [Memory.wf]
    | cons d rest =>
      simp only [Memory.wf, Bool.and_eq_true, ih, bne_iff_ne, decide_eq_true_eq, List.mem_cons, forall_eq_or_imp,
        List.pairwise_cons]
      constructor
      · rintro ⟨⟨hc, hlt⟩, ⟨hd, hr⟩, hp, hq⟩
        exact ⟨⟨hc, hd, hr⟩, ⟨hlt, fun a ha => Nat.lt_trans hlt (hp a ha)⟩, hp, hq⟩
      · rintro ⟨⟨hc, hd, hr⟩, ⟨hlt, _⟩, hp, hq⟩
        exact ⟨⟨hc, hlt⟩, ⟨hd, hr⟩, hp, hq⟩

theorem Memory.wf_filter (m : Memory) (p : Host.Cell → Bool) (h : Memory.wf m = true) : Memory.wf (m.filter p) = true := by
  rw [Memory.wf_iff] at h ⊢
  exact ⟨fun c hc => h.1 c (List.mem_filter.mp hc).1, h.2.filter p⟩

theorem mem_tileCells (i : Nat) (bytes : Bytes) (c : Host.Cell) (h : c ∈ tileCells i bytes) :
    i * 64 ≤ c.1 ∧ c.1 < i * 64 + 64 ∧ c.2 ≠ memDefault c.1 := by
  simp only [tileCells, List.mem_filterMap, List.mem_range] at h
  obtain ⟨k, hk, he⟩ := h
  split at he
  · cases he
  · cases he
    exact ⟨by simp, by simp; omega, by assumption⟩

theorem tileCells_rise (i : Nat) (bytes : Bytes) : (tileCells i bytes).Pairwise (fun c d => c.1 < d.1) := by
  unfold tileCells
  rw [List.pairwise_filterMap]
  refine List.Pairwise.imp ?_ List.pairwise_lt_range
  intro a b hab c hc d hd
  split at hc <;> split at hd <;> simp at hc hd
  subst hc hd
  simp
  omega

/-- Writing a tile keeps the canonical form. -/
theorem memWrite_wf (m : Memory) (i : Nat) (bytes : Bytes) (h : Memory.wf m = true) : Memory.wf (memWrite m i bytes) = true := by
  rw [Memory.wf_iff] at h ⊢
  obtain ⟨hv, hp⟩ := h
  constructor
  · intro c hc
    simp only [memWrite, List.mem_append, List.mem_filter] at hc
    rcases hc with hc | hc | hc
    · exact hv c hc.1
    · exact (mem_tileCells i bytes c hc).2.2
    · exact hv c hc.1
  · unfold memWrite
    rw [List.pairwise_append, List.pairwise_append]
    refine ⟨hp.filter _, ⟨tileCells_rise i bytes, hp.filter _, ?_⟩, ?_⟩
    · intro a ha b hb
      have := mem_tileCells i bytes a ha
      simp only [List.mem_filter, decide_eq_true_eq] at hb
      omega
    · intro a ha b hb
      simp only [List.mem_filter, decide_eq_true_eq, List.mem_append] at ha hb
      rcases hb with hb | hb
      · have := mem_tileCells i bytes b hb
        omega
      · omega

/-- Clearing a run of tiles keeps the canonical form. -/
theorem memClear_wf (m : Memory) (first count : Nat) (h : Memory.wf m = true) : Memory.wf (memClear m first count) = true :=
  Memory.wf_filter m _ h

/-- Upsetting cells keeps the canonical form. -/
theorem upsetTile_wf (m : Memory) (i : Nat) (h : Memory.wf m = true) : Memory.wf (upsetTile m i) = true := memWrite_wf _ _ _ h

/-! Reading back. -/

theorem lookup_filter_key (m : Memory) (p : Nat → Bool) (a : Nat) :
    (m.filter fun c => p c.1).lookup a = if p a then m.lookup a else none := by
  induction m with
  | nil => simp
  | cons c rest ih =>
    obtain ⟨b, v⟩ := c
    by_cases hb : p b = true
    · rw [List.filter_cons_of_pos (by simpa using hb), List.lookup_cons, List.lookup_cons, ih]
      by_cases hab : a = b
      · subst hab; simp [hb]
      · have hn : (a == b) = false := by simpa using hab
        rw [hn]
    · rw [List.filter_cons_of_neg (by simpa using hb), List.lookup_cons, ih]
      by_cases hab : a = b
      · subst hab; simp [hb]
      · have hn : (a == b) = false := by simpa using hab
        rw [hn]

theorem lookup_none_of_ne (m : Memory) (a : Nat) (h : ∀ c ∈ m, c.1 ≠ a) : m.lookup a = none := by
  rw [List.lookup_eq_none_iff]
  intro c hc
  simpa using fun e => h c hc e.symm

theorem lookup_append (m n : Memory) (a : Nat) : (m ++ n).lookup a = (m.lookup a).or (n.lookup a) := by
  rw [List.lookup_append]

theorem lookup_cells (f : Nat → Option Host.Cell) (base : Nat) (hf : ∀ k c, f k = some c → c.1 = base + k) (n k : Nat) (hk : k < n) :
    ((List.range n).filterMap f).lookup (base + k) = (f k).map (·.2) := by
  induction n with
  | zero => omega
  | succ n ih =>
    rw [List.range_succ, List.filterMap_append, lookup_append]
    by_cases hkn : k < n
    · rw [ih hkn]
      cases hfk : f k with
      | some c => simp
      | none =>
        simp only [Option.map_none, Option.none_or]
        apply lookup_none_of_ne
        intro c hc
        simp only [List.mem_filterMap, List.mem_cons, List.not_mem_nil, or_false, exists_eq_left] at hc
        have := hf n c hc
        omega
    · obtain rfl : k = n := by omega
      rw [lookup_none_of_ne, Option.none_or]
      · cases hfk : f k with
        | none => simp [hfk]
        | some c =>
          have := hf k c hfk
          obtain ⟨x, v⟩ := c
          simp only at this
          subst this
          simp [hfk]
      · intro c hc
        simp only [List.mem_filterMap, List.mem_range] at hc
        obtain ⟨j, hj, hc⟩ := hc
        have := hf j c hc
        omega

/-- A tile that is written reads back byte for byte. -/
theorem memRead_memWrite_in (m : Memory) (i k : Nat) (bytes : Bytes) (hk : k < 64) :
    memRead (memWrite m i bytes) (i * 64 + k) = bytes.getD k 0 := by
  unfold memRead memWrite
  rw [lookup_append, lookup_append, lookup_filter_key m (fun x => decide (x < i * 64)), if_neg (by simp), Option.none_or,
    lookup_filter_key m (fun x => decide (i * 64 + 64 ≤ x)), if_neg (by simp; omega), Option.or_none]
  unfold tileCells
  rw [lookup_cells _ (i * 64) _ 64 k hk]
  · by_cases he : bytes.getD k 0 = memDefault (i * 64 + k)
    · rw [if_pos he]; exact he.symm
    · rw [if_neg he]; rfl
  · intro j c hc
    split at hc
    · cases hc
    · cases hc; rfl

/-- A write of a tile leaves every byte outside it as it was. -/
theorem memRead_memWrite_out (m : Memory) (i a : Nat) (bytes : Bytes) (ha : a < i * 64 ∨ i * 64 + 64 ≤ a) :
    memRead (memWrite m i bytes) a = memRead m a := by
  unfold memRead memWrite
  have ht : (tileCells i bytes).lookup a = none := by
    apply lookup_none_of_ne
    intro c hc
    have := mem_tileCells i bytes c hc
    omega
  rw [lookup_append, lookup_append, ht, Option.none_or, lookup_filter_key m (fun x => decide (x < i * 64)),
    lookup_filter_key m (fun x => decide (i * 64 + 64 ≤ x))]
  rcases ha with ha | ha
  · rw [if_pos (by simpa using ha), if_neg (by simp; omega), Option.or_none]
  · rw [if_neg (by simp; omega), if_pos (by simpa using ha), Option.none_or]

/-! The operations over State that write memory. -/

theorem State.upset_wf (s : State) (u : Upsets) (h : Memory.wf s.dram.mem = true) : Memory.wf (s.upset u).dram.mem = true := by
  unfold State.upset
  show Memory.wf (u.tiles.foldl _ s.dram.mem) = true
  generalize s.dram.mem = m at h
  induction u.tiles generalizing m with
  | nil => exact h
  | cons i rest ih =>
    rw [List.foldl_cons]
    refine ih _ ?_
    split
    · exact h
    · exact upsetTile_wf m i h

theorem State.clearRun_wf (s : State) (first count : Nat) (h : Memory.wf s.dram.mem = true) :
    Memory.wf (s.clearRun first count).dram.mem = true := memClear_wf _ _ _ h

theorem State.issueWrite_wf (s : State) (e : Nat × Bytes) (h : Memory.wf s.dram.mem = true) :
    Memory.wf (s.issueWrite e).dram.mem = true := by
  have g := memWrite_wf s.dram.mem e.1 (wholeTile e.2 e.1) h
  unfold State.issueWrite
  dsimp only
  split
  · exact upsetTile_wf _ _ g
  · exact g

/-- A batch leaves the canonical form. -/
theorem State.issueBatch_wf (s : State) (c : Nat) (h : Memory.wf s.dram.mem = true) :
    Memory.wf (s.issueBatch c).dram.mem = true := by
  show Memory.wf ((((s.dram.wq.filter _).take 8).foldl State.issueWrite s).dram.mem) = true
  generalize (s.dram.wq.filter fun e => tileChannel e.1 == c).take 8 = l
  induction l generalizing s with
  | nil => exact h
  | cons e l ih => exact ih _ (s.issueWrite_wf e h)

/-- A read that takes its slots changes no byte of the stacks. -/
@[simp] theorem State.issueRead_mem (s : State) (c : Nat) : (s.issueRead c).dram.mem = s.dram.mem := by
  unfold State.issueRead
  split <;> rfl

/-- Waiting for the queue's room leaves the canonical form. -/
theorem State.waitRoom_wf (i n : Nat) (s : State) (h : Memory.wf s.dram.mem = true) : Memory.wf (State.waitRoom i n s).dram.mem = true := by
  induction n generalizing s with
  | zero => exact h
  | succ n ih =>
    unfold State.waitRoom
    split
    · exact h
    · split
      · exact ih _ (by simpa using s.issueBatch_wf _ h)
      · exact h

/-! What enters the queue leaves the stacks as they are. -/

@[simp] theorem State.pushRecord_dram (s : State) (kind i : Nat) (p : Bytes) : (s.pushRecord kind i p).dram = s.dram := rfl

@[simp] theorem State.journalAdd_dram (s : State) (kind i : Nat) (p : Bytes) : (s.journalAdd kind i p).dram = s.dram := by
  simp [State.journalAdd]

@[simp] theorem State.journalLive_dram (s : State) (i : Nat) (p : Bytes) (kind : Nat) : (s.journalLive i p kind).dram = s.dram := by
  unfold State.journalLive
  dsimp only
  repeat' split
  all_goals simp

/-- A write that enters the queue changes no byte of the stacks (R353). -/
@[simp] theorem State.queueWrite_mem (s : State) (i : Nat) (p : Bytes) : (s.queueWrite i p).dram.mem = s.dram.mem := by
  unfold State.queueWrite
  dsimp only
  split
  · rw [State.journalLive_dram]; rfl
  · rfl

theorem State.putTile_wf (s : State) (i : Nat) (p : Bytes) (h : Memory.wf s.dram.mem = true) :
    Memory.wf (s.putTile i p).dram.mem = true := by
  unfold State.putTile State.taskWrite
  rw [State.queueWrite_mem]
  exact State.waitRoom_wf i 17 s h

end Sys2Proof.Machine
end

