-- ==== Sys2Proof/Laws/Keeps.lean ====
section
/-!
SUPPORT. What keeps device memory in its canonical form, one lemma per definition: the shared operations, the answers of command bodies, the sparse device memory and the task engines, with the combinators every later lemma is proved by.
-/
namespace Sys2Proof.Laws
open Sys2Proof.Machine Sys2Proof.Claims

/-- What a record's answer keeps: the state it carries has its device memory in canonical form. -/
def RecKeeps : RecAns → Prop
  | .ok s _ => Memory.wf s.dram.mem = true
  | .refuse _ _ => True
  | .refuseWith s _ _ => Memory.wf s.dram.mem = true
  | .wait s => Memory.wf s.dram.mem = true
  | .hold s => Memory.wf s.dram.mem = true
/-- What an outcome keeps: a next state has its device memory in canonical form. -/
def OutKeeps (o : Host.Outcome State Fault Refusal) : Prop := ∀ t, o = .next t → Memory.wf t.dram.mem = true
theorem k_ite {c : Prop} [Decidable c] {a b : State} (ha : Memory.wf a.dram.mem = true) (hb : Memory.wf b.dram.mem = true) :
    Memory.wf (if c then a else b).dram.mem = true := by split <;> assumption
theorem k_foldl {α : Type} {l : List α} {g : State → α → State} {s : State} (h : Memory.wf s.dram.mem = true)
    (hg : ∀ s a, Memory.wf s.dram.mem = true → Memory.wf (g s a).dram.mem = true) : Memory.wf (l.foldl g s).dram.mem = true := by
  induction l generalizing s with
  | nil => exact h
  | cons a l ih => exact ih (hg _ _ h)
theorem k_foldl2 {α β : Type} {l : List α} {g : β × State → α → β × State} {p : β × State} (h : Memory.wf p.2.dram.mem = true)
    (hg : ∀ (p : β × State) a, Memory.wf p.2.dram.mem = true → Memory.wf (g p a).2.dram.mem = true) :
    Memory.wf (l.foldl g p).2.dram.mem = true := by
  induction l generalizing p with
  | nil => exact h
  | cons a l ih => exact ih (hg _ _ h)
theorem k_pair {α : Type} {p : α × State} {a : α} {s : State} (e : p = (a, s)) (h : Memory.wf p.2.dram.mem = true) :
    Memory.wf s.dram.mem = true := by subst e; exact h
theorem k_pair3 {α β : Type} {p : α × β × State} {a : α} {b : β} {s : State} (e : p = (a, b, s)) (h : Memory.wf p.2.2.dram.mem = true) :
    Memory.wf s.dram.mem = true := by subst e; exact h
theorem k_pair4 {α β γ : Type} {p : α × β × γ × State} {a : α} {b : β} {c : γ} {s : State} (e : p = (a, b, c, s))
    (h : Memory.wf p.2.2.2.dram.mem = true) : Memory.wf s.dram.mem = true := by subst e; exact h
theorem k_pair5 {α β γ δ : Type} {p : α × β × γ × δ × State} {a : α} {b : β} {c : γ} {d : δ} {s : State} (e : p = (a, b, c, d, s))
    (h : Memory.wf p.2.2.2.2.dram.mem = true) : Memory.wf s.dram.mem = true := by subst e; exact h
/-- An optional result keeps the canonical form: where it is there, the state in it has it. -/
def OptKeeps {β : Type} (state : β → State) (o : Option β) : Prop := ∀ t, o = some t → Memory.wf (state t).dram.mem = true
theorem k_some {β : Type} {π : β → State} {t : β} (h : Memory.wf (π t).dram.mem = true) : OptKeeps π (some t) := by
  intro t' e; cases e; exact h
theorem k_none {β : Type} {π : β → State} : OptKeeps π none := by intro t e; cases e
theorem k_map {α β : Type} {π : β → State} {f : α → β} {o : Option α} (h : ∀ a, Memory.wf (π (f a)).dram.mem = true) : OptKeeps π (o.map f) := by
  cases o with
  | none => exact k_none
  | some a => exact k_some (h a)
theorem k_mapS {β : Type} {π : β → State} {f : State → β} {o : Option State} (ho : OptKeeps (fun s => s) o)
    (h : ∀ s, Memory.wf s.dram.mem = true → Memory.wf (π (f s)).dram.mem = true) : OptKeeps π (o.map f) := by
  cases o with
  | none => exact k_none
  | some a => exact k_some (h a (ho a rfl))
theorem k_bind {α β : Type} {π : β → State} {f : α → Option β} {o : Option α} (h : ∀ a, OptKeeps π (f a)) : OptKeeps π (o.bind f) := by
  cases o with
  | none => exact k_none
  | some a => exact h a
theorem k_bindS {β : Type} {π : β → State} {f : State → Option β} {o : Option State} (ho : OptKeeps (fun s => s) o)
    (h : ∀ s, Memory.wf s.dram.mem = true → OptKeeps π (f s)) : OptKeeps π (o.bind f) := by
  cases o with
  | none => exact k_none
  | some a => exact h a (ho a rfl)
theorem k_opt {o : Option State} {s : State} (e : o = some s) (h : OptKeeps (fun s => s) o) : Memory.wf s.dram.mem = true := h s e
theorem k_opt2 {α : Type} {o : Option (α × State)} {a : α} {s : State} (e : o = some (a, s)) (h : OptKeeps (·.2) o) :
    Memory.wf s.dram.mem = true := h _ e
theorem k_opt3 {α β : Type} {o : Option (α × β × State)} {a : α} {b : β} {s : State} (e : o = some (a, b, s)) (h : OptKeeps (·.2.2) o) :
    Memory.wf s.dram.mem = true := h _ e
theorem k_getD {o : Option State} {d : State} (h : OptKeeps (fun s => s) o) (hd : Memory.wf d.dram.mem = true) :
    Memory.wf (o.getD d).dram.mem = true := by
  cases o with
  | none => exact hd
  | some t => exact h t rfl
theorem k_ok {s : State} {o : Bytes} (h : Memory.wf s.dram.mem = true) : RecKeeps (.ok s o) := h
theorem k_refuse {a b : Nat} : RecKeeps (.refuse a b) := trivial
theorem k_refuseWith {s : State} {a b : Nat} (h : Memory.wf s.dram.mem = true) : RecKeeps (.refuseWith s a b) := h
theorem k_wait {s : State} (h : Memory.wf s.dram.mem = true) : RecKeeps (.wait s) := h
theorem k_hold {s : State} (h : Memory.wf s.dram.mem = true) : RecKeeps (.hold s) := h
theorem k_rec_ok {r : RecAns} {s : State} {o : Bytes} (e : r = .ok s o) (h : RecKeeps r) : Memory.wf s.dram.mem = true := by subst e; exact h
theorem k_rec_with {r : RecAns} {s : State} {a b : Nat} (e : r = .refuseWith s a b) (h : RecKeeps r) : Memory.wf s.dram.mem = true := by
  subst e; exact h
theorem k_rec_wait {r : RecAns} {s : State} (e : r = .wait s) (h : RecKeeps r) : Memory.wf s.dram.mem = true := by subst e; exact h
theorem k_rec_hold {r : RecAns} {s : State} (e : r = .hold s) (h : RecKeeps r) : Memory.wf s.dram.mem = true := by subst e; exact h
theorem k_next {s : State} (h : Memory.wf s.dram.mem = true) : OutKeeps (.next s) := by
  intro t e; cases e; exact h
theorem State.upset_keeps {s : State} {u : Upsets} (h : Memory.wf s.dram.mem = true) : Memory.wf (s.upset u).dram.mem = true :=
  State.upset_wf s u h
theorem State.putTile_keeps {s : State} {i : Nat} {payload : Bytes} (h : Memory.wf s.dram.mem = true) :
    Memory.wf (s.putTile i payload).dram.mem = true := State.putTile_wf s i payload h
theorem State.clearRun_keeps {s : State} {first count : Nat} (h : Memory.wf s.dram.mem = true) :
    Memory.wf (s.clearRun first count).dram.mem = true := State.clearRun_wf s first count h
theorem State.issueWrite_keeps {s : State} {e : Nat × Bytes} (h : Memory.wf s.dram.mem = true) :
    Memory.wf (s.issueWrite e).dram.mem = true := State.issueWrite_wf s e h
theorem State.issueBatch_keeps {s : State} {channel : Nat} (h : Memory.wf s.dram.mem = true) :
    Memory.wf (s.issueBatch channel).dram.mem = true := State.issueBatch_wf s channel h
theorem State.waitRoom_keeps {i n : Nat} {s : State} (h : Memory.wf s.dram.mem = true) :
    Memory.wf (State.waitRoom i n s).dram.mem = true := State.waitRoom_wf i n s h

theorem k_foldlO {α : Type} {l : List α} {g : Option State → α → Option State} {o : Option State} (h : OptKeeps (fun s => s) o)
    (hg : ∀ o a, OptKeeps (fun s => s) o → OptKeeps (fun s => s) (g o a)) : OptKeeps (fun s => s) (l.foldl g o) := by
  induction l generalizing o with
  | nil => exact h
  | cons a l ih => exact ih (hg _ _ h)
theorem k_rec_ite {c : Prop} [Decidable c] {a b : RecAns} (ha : RecKeeps a) (hb : RecKeeps b) : RecKeeps (if c then a else b) := by
  split <;> assumption
theorem k_out_ite {c : Prop} [Decidable c] {a b : Host.Outcome State Fault Refusal} (ha : OutKeeps a) (hb : OutKeeps b) :
    OutKeeps (if c then a else b) := by split <;> assumption
theorem k_opt_ite {β : Type} {π : β → State} {c : Prop} [Decidable c] {a b : Option β} (ha : OptKeeps π a) (hb : OptKeeps π b) :
    OptKeeps π (if c then a else b) := by split <;> assumption
theorem k_done_ite {c : Prop} [Decidable c] {a b : Done} (ha : Memory.wf a.state.dram.mem = true) (hb : Memory.wf b.state.dram.mem = true) :
    Memory.wf (if c then a else b).state.dram.mem = true := by split <;> assumption
theorem k_pair_ite {α : Type} {c : Prop} [Decidable c] {a b : α × State} (ha : Memory.wf a.2.dram.mem = true)
    (hb : Memory.wf b.2.dram.mem = true) : Memory.wf (if c then a else b).2.dram.mem = true := by split <;> assumption

theorem countStep_keeps {old : State} {s : State} (_h0 : Memory.wf old.dram.mem = true) (h1 : Memory.wf s.dram.mem = true) :
    Memory.wf (countStep old s).dram.mem = true := by
  unfold countStep; try dsimp only
  repeat' first | with_reducible assumption | with_reducible refine k_ite ?_ ?_

theorem State.setFn_keeps {s : State} {pf1 : Bool} {f : PciFunction} (h0 : Memory.wf s.dram.mem = true) :
    Memory.wf (State.setFn s pf1 f).dram.mem = true := by
  unfold State.setFn; try dsimp only
  repeat' first | with_reducible assumption | with_reducible refine k_ite ?_ ?_

theorem State.send_keeps {s : State} {o : Output} (h0 : Memory.wf s.dram.mem = true) : Memory.wf (State.send s o).dram.mem = true := h0

theorem State.raiseVector_keeps {s : State} {pf1 : Bool} {v : Nat} (h0 : Memory.wf s.dram.mem = true) :
    Memory.wf (State.raiseVector s pf1 v).dram.mem = true := by
  unfold State.raiseVector; try dsimp only
  repeat' first
    | with_reducible assumption
    | with_reducible refine k_ite ?_ ?_
    | with_reducible refine State.setFn_keeps ?_
    | with_reducible refine State.send_keeps ?_
    | split

theorem settleFn_keeps {pf1 : Bool} {old : State} {x2 : List Nat} {x3 : State} (_h0 : Memory.wf old.dram.mem = true) (h1 : Memory.wf x3.dram.mem = true) :
    Memory.wf (settleFn pf1 old x2 x3).dram.mem = true := by
  induction x2 generalizing x3 with
  | nil =>
    unfold settleFn; try dsimp only
    assumption
  | cons a l ih =>
    unfold settleFn; try dsimp only
    repeat' first
      | with_reducible assumption
      | with_reducible refine k_ite ?_ ?_
      | with_reducible apply ih
      | with_reducible refine State.raiseVector_keeps ?_

theorem settle_keeps {old : State} {s : State} (h0 : Memory.wf old.dram.mem = true) (h1 : Memory.wf s.dram.mem = true) :
    Memory.wf (settle old s).dram.mem = true := by
  unfold settle; try dsimp only
  repeat' first | with_reducible assumption | with_reducible refine settleFn_keeps ?_ ?_

theorem State.setChan_keeps {s : State} {c : Nat} {x : Channel} (h0 : Memory.wf s.dram.mem = true) :
    Memory.wf (State.setChan s c x).dram.mem = true := by
  unfold State.setChan; try dsimp only
  repeat' first | with_reducible assumption | split

theorem State.draw_keeps {s : State} (h0 : Memory.wf s.dram.mem = true) : Memory.wf (State.draw s).2.dram.mem = true := h0

theorem State.alert_keeps {s : State} {bit : Nat} (h0 : Memory.wf s.dram.mem = true) : Memory.wf (State.alert s bit).dram.mem = true := h0

theorem State.retime_keeps {s : State} {run : Bool} (h0 : Memory.wf s.dram.mem = true) :
    Memory.wf (State.retime s run).dram.mem = true := h0

theorem State.cutFrames_keeps {s : State} {p : Nat} (h0 : Memory.wf s.dram.mem = true) :
    Memory.wf (State.cutFrames s p).dram.mem = true := h0

theorem State.setPort_keeps {s : State} {p : Nat} {x : Port} (h0 : Memory.wf s.dram.mem = true) :
    Memory.wf (State.setPort s p x).dram.mem = true := h0

theorem State.noteLink_keeps {old : State} {s : State} {p : Nat} (_h0 : Memory.wf old.dram.mem = true) (h1 : Memory.wf s.dram.mem = true) :
    Memory.wf (State.noteLink old s p).dram.mem = true := by
  unfold State.noteLink; try dsimp only
  repeat' first
    | with_reducible assumption
    | with_reducible refine k_ite ?_ ?_
    | with_reducible refine State.cutFrames_keeps ?_
    | with_reducible refine State.setPort_keeps ?_

theorem State.relock_keeps {lanes : List Nat} {s : State} (h0 : Memory.wf s.dram.mem = true) :
    Memory.wf (State.relock lanes s).dram.mem = true := by
  unfold State.relock; try dsimp only
  assumption

theorem State.setLink_keeps {s : State} {p : Nat} {l : Link} {cdr : BitVec 4} {sd : BitVec 4} (h0 : Memory.wf s.dram.mem = true) :
    Memory.wf (State.setLink s p l cdr sd).dram.mem = true := by
  unfold State.setLink; try dsimp only
  repeat' first
    | with_reducible assumption
    | with_reducible refine State.noteLink_keeps ?_ ?_
    | with_reducible refine State.setPort_keeps ?_
    | with_reducible refine State.relock_keeps ?_

theorem State.retrain_keeps {s : State} {p : Nat} (h0 : Memory.wf s.dram.mem = true) : Memory.wf (State.retrain s p).dram.mem = true := by
  unfold State.retrain; try dsimp only
  repeat' first | with_reducible assumption | with_reducible refine State.setLink_keeps ?_

theorem State.retrainFront_keeps {s : State} (h0 : Memory.wf s.dram.mem = true) : Memory.wf (State.retrainFront s).dram.mem = true := by
  unfold State.retrainFront; try dsimp only
  repeat' first
    | with_reducible assumption
    | with_reducible refine State.retrain_keeps ?_
    | with_reducible refine k_foldl ?_ (fun _ _ _ => ?_)

theorem State.noteLinks_keeps {old : State} {s : State} (h0 : Memory.wf old.dram.mem = true) (h1 : Memory.wf s.dram.mem = true) :
    Memory.wf (State.noteLinks old s).dram.mem = true := by
  unfold State.noteLinks; try dsimp only
  repeat' first
    | with_reducible assumption
    | with_reducible refine State.noteLink_keeps ?_ ?_
    | with_reducible refine k_foldl ?_ (fun _ _ _ => ?_)

theorem State.canaryStop_keeps {s : State} {reason : Nat} (h0 : Memory.wf s.dram.mem = true) :
    Memory.wf (State.canaryStop s reason).dram.mem = true := by
  unfold State.canaryStop; try dsimp only
  repeat' first | with_reducible assumption | with_reducible refine k_ite ?_ ?_ | with_reducible refine State.alert_keeps ?_

theorem State.logError_keeps {s : State} {cls : Nat} {inst : Nat} {detail : Bytes} {cleared : Bool} (h0 : Memory.wf s.dram.mem = true) :
    Memory.wf (State.logError s cls inst detail cleared).dram.mem = true := by
  unfold State.logError; try dsimp only
  repeat' first
    | with_reducible assumption
    | with_reducible refine k_ite ?_ ?_
    | with_reducible refine State.alert_keeps ?_
    | split

theorem State.enter_keeps {s : State} {dest : DevState} (h0 : Memory.wf s.dram.mem = true) :
    Memory.wf (State.enter s dest).dram.mem = true := by
  unfold State.enter; try dsimp only
  repeat' first
    | with_reducible assumption
    | with_reducible refine k_ite ?_ ?_
    | with_reducible refine State.alert_keeps ?_
    | with_reducible refine State.retime_keeps ?_
    | with_reducible refine State.retrainFront_keeps ?_
    | with_reducible refine State.noteLinks_keeps ?_ ?_
    | with_reducible refine State.canaryStop_keeps ?_
    | with_reducible refine State.logError_keeps ?_

theorem State.setDma_keeps {s : State} {c : Nat} {x : DmaChannel} (h0 : Memory.wf s.dram.mem = true) :
    Memory.wf (State.setDma s c x).dram.mem = true := h0

theorem State.setFault_keeps {s : State} {bit : Nat} {on : Bool} (h0 : Memory.wf s.dram.mem = true) :
    Memory.wf (State.setFault s bit on).dram.mem = true := by
  unfold State.setFault; try dsimp only
  repeat' first | with_reducible assumption | with_reducible refine k_ite ?_ ?_ | with_reducible refine State.enter_keeps ?_

theorem State.setPair_keeps {s : State} {st : PairState} {r : Role} (h0 : Memory.wf s.dram.mem = true) :
    Memory.wf (State.setPair s st r).dram.mem = true := by
  unfold State.setPair; try dsimp only
  repeat' first
    | with_reducible assumption
    | with_reducible refine State.noteLinks_keeps ?_ ?_
    | with_reducible refine State.setFault_keeps ?_

theorem State.pairEvent_keeps {s : State} {cls : Nat} {inst : Nat} {detail : Bytes} {cleared : Bool} (h0 : Memory.wf s.dram.mem = true) :
    Memory.wf (State.pairEvent s cls inst detail cleared).dram.mem = true := by
  unfold State.pairEvent; try dsimp only
  repeat' first
    | with_reducible assumption
    | with_reducible refine State.logError_keeps ?_
    | with_reducible refine State.alert_keeps ?_

theorem State.pairChange_keeps {s : State} {code : Nat} (h0 : Memory.wf s.dram.mem = true) :
    Memory.wf (State.pairChange s code).dram.mem = true := by
  unfold State.pairChange; try dsimp only
  repeat' first | with_reducible assumption | with_reducible refine State.pairEvent_keeps ?_

theorem State.raiseCause_keeps {s : State} {bit : Nat} (h0 : Memory.wf s.dram.mem = true) :
    Memory.wf (State.raiseCause s bit).dram.mem = true := by
  unfold State.raiseCause; try dsimp only
  repeat' first | with_reducible assumption | with_reducible refine k_ite ?_ ?_ | with_reducible refine State.enter_keeps ?_

theorem ok_keeps {s : State} {params : Bytes} {detail : Nat} (h0 : Memory.wf s.dram.mem = true) :
    Memory.wf (ok s params detail).state.dram.mem = true := h0

theorem refuse_keeps {s : State} {status : Nat} {detail : Nat} {params : Bytes} (h0 : Memory.wf s.dram.mem = true) :
    Memory.wf (refuse s status detail params).state.dram.mem = true := by
  unfold refuse; try dsimp only
  assumption

theorem badParam_keeps {s : State} {i : Nat} (h0 : Memory.wf s.dram.mem = true) : Memory.wf (badParam s i).state.dram.mem = true := h0

theorem needZero_keeps {s : State} {m : Msg} {l : List Nat} {go : Done} (h0 : Memory.wf s.dram.mem = true) (h1 : Memory.wf go.state.dram.mem = true) :
    Memory.wf (needZero s m l go).state.dram.mem = true := by
  unfold needZero; try dsimp only
  repeat' first | with_reducible assumption | with_reducible refine badParam_keeps ?_ | split

theorem outOfRange_keeps {s : State} {i : Nat} (h0 : Memory.wf s.dram.mem = true) : Memory.wf (outOfRange s i).state.dram.mem = true := h0

theorem runRecords_keeps {batch : Bool} {k : Nat} {f : State → Bytes → Nat → RecAns} {x3 : List Bytes} {x4 : Nat} {x5 : State} {x6 : Bytes} (h0 : ∀ s b i, Memory.wf s.dram.mem = true → RecKeeps (f s b i)) (h1 : Memory.wf x5.dram.mem = true) :
    Memory.wf (runRecords batch k f x3 x4 x5 x6).state.dram.mem = true := by
  induction x3 generalizing x4 x5 x6 with
  | nil =>
    unfold runRecords
    exact ok_keeps h1
  | cons a l ih =>
    unfold runRecords
    split
    · rename_i e
      exact ih (k_rec_ok e (h0 _ _ _ h1))
    · exact h1
    · rename_i e
      exact k_rec_with e (h0 _ _ _ h1)
    · rename_i e
      exact k_rec_wait e (h0 _ _ _ h1)
    · rename_i e
      exact k_rec_hold e (h0 _ _ _ h1)

theorem records_keeps {m : Msg} {k : Nat} {f : State → Bytes → Nat → RecAns} {s : State} {from_ : Nat} (h0 : ∀ s b i, Memory.wf s.dram.mem = true → RecKeeps (f s b i)) (h1 : Memory.wf s.dram.mem = true) :
    Memory.wf (records m k f s from_).state.dram.mem = true := by
  unfold records; try dsimp only
  repeat' first | with_reducible assumption | with_reducible refine runRecords_keeps ?_ ?_

theorem recZero_keeps {b : Bytes} {base : Nat} {l : List Nat} {go : RecAns} (h0 : RecKeeps go) : RecKeeps (recZero b base l go) := by
  unfold recZero; try dsimp only
  repeat' first | with_reducible assumption | with_reducible exact k_refuse | split

theorem noStage_keeps : RecKeeps noStage := by
  unfold noStage; try dsimp only
  repeat' first | with_reducible exact k_refuse

theorem State.stageWith_keeps {s : State} {f : Staged → Staged} (h0 : Memory.wf s.dram.mem = true) :
    Memory.wf (State.stageWith s f).dram.mem = true := h0

theorem State.sendLane_keeps {s : State} {p : Nat} {x : PeerWord} (h0 : Memory.wf s.dram.mem = true) :
    Memory.wf (State.sendLane s p x).dram.mem = true := by
  unfold State.sendLane; try dsimp only
  repeat' first | with_reducible assumption | with_reducible refine k_ite ?_ ?_ | with_reducible refine State.send_keeps ?_

theorem State.onEach_keeps {s : State} {x : PeerWord} (h0 : Memory.wf s.dram.mem = true) :
    Memory.wf (State.onEach s x).dram.mem = true := by
  unfold State.onEach; try dsimp only
  repeat' first
    | with_reducible assumption
    | with_reducible refine State.sendLane_keeps ?_
    | with_reducible refine k_foldl ?_ (fun _ _ _ => ?_)

theorem State.peerWord_keeps {s : State} (h0 : Memory.wf s.dram.mem = true) : Memory.wf (State.peerWord s).dram.mem = true := by
  unfold State.peerWord; try dsimp only
  repeat' first | with_reducible assumption | with_reducible refine State.onEach_keeps ?_

theorem State.onPeer_keeps {s : State} {x : PeerWord} (h0 : Memory.wf s.dram.mem = true) :
    Memory.wf (State.onPeer s x).dram.mem = true := by
  unfold State.onPeer; try dsimp only
  repeat' first
    | with_reducible assumption
    | with_reducible refine State.sendLane_keeps ?_
    | with_reducible refine State.draw_keeps ?_
    | split

theorem State.peerPlaced_keeps {s : State} {was : Bool} (h0 : Memory.wf s.dram.mem = true) :
    Memory.wf (State.peerPlaced s was).dram.mem = true := by
  unfold State.peerPlaced; try dsimp only
  repeat' first
    | with_reducible assumption
    | with_reducible refine k_ite ?_ ?_
    | with_reducible refine State.peerWord_keeps ?_
    | with_reducible refine State.onPeer_keeps ?_

theorem State.reply_keeps {s : State} {ch : Nat} {r : Reply} (h0 : Memory.wf s.dram.mem = true) :
    Memory.wf (State.reply s ch r).dram.mem = true := by
  unfold State.reply; try dsimp only
  repeat' first
    | with_reducible assumption
    | with_reducible refine k_ite ?_ ?_
    | with_reducible refine State.setChan_keeps ?_
    | with_reducible refine State.peerPlaced_keeps ?_

theorem State.countForwarded_keeps {s : State} {ch : Nat} (h0 : Memory.wf s.dram.mem = true) :
    Memory.wf (State.countForwarded s ch).dram.mem = true := by
  unfold State.countForwarded; try dsimp only
  repeat' first | with_reducible assumption | with_reducible refine k_ite ?_ ?_

theorem State.sendBeat_keeps {s : State} {p : Nat} {h : Heartbeat} (h0 : Memory.wf s.dram.mem = true) :
    Memory.wf (State.sendBeat s p h).dram.mem = true := by
  unfold State.sendBeat; try dsimp only
  repeat' first | with_reducible assumption | with_reducible refine State.send_keeps ?_ | split

theorem State.pushRecord_keeps {s : State} {kind : Nat} {tile : Nat} {payload : Bytes} (h0 : Memory.wf s.dram.mem = true) :
    Memory.wf (State.pushRecord s kind tile payload).dram.mem = true := by
  unfold State.pushRecord; try dsimp only
  assumption

theorem State.journalAdd_keeps {s : State} {kind : Nat} {tile : Nat} {payload : Bytes} (h0 : Memory.wf s.dram.mem = true) :
    Memory.wf (State.journalAdd s kind tile payload).dram.mem = true := by
  unfold State.journalAdd; try dsimp only
  repeat' first
    | with_reducible assumption
    | with_reducible refine State.onPeer_keeps ?_
    | with_reducible refine State.pushRecord_keeps ?_

theorem State.memCount_keeps {s : State} {i : Nat} {n : Nat} (h0 : Memory.wf s.dram.mem = true) :
    Memory.wf (State.memCount s i n).dram.mem = true := by
  unfold State.memCount; try dsimp only
  assumption

theorem State.issueRead_keeps {s : State} {channel : Nat} (h0 : Memory.wf s.dram.mem = true) :
    Memory.wf (State.issueRead s channel).dram.mem = true := by
  unfold State.issueRead; try dsimp only
  repeat' first | with_reducible assumption | split

theorem State.realTimeFirst_keeps {channel : Nat} {x1 : Nat} {x2 : State} (h0 : Memory.wf x2.dram.mem = true) :
    Memory.wf (State.realTimeFirst channel x1 x2).dram.mem = true := by
  induction x1 generalizing x2 with
  | zero =>
    unfold State.realTimeFirst; try dsimp only
    assumption
  | succ n ih =>
    unfold State.realTimeFirst; try dsimp only
    repeat' first
      | with_reducible assumption
      | with_reducible refine k_ite ?_ ?_
      | with_reducible apply ih
      | with_reducible refine State.issueRead_keeps ?_

theorem State.readSlot_keeps {s : State} {i : Nat} (h0 : Memory.wf s.dram.mem = true) : Memory.wf (State.readSlot s i).dram.mem = true := by
  unfold State.readSlot; try dsimp only
  repeat' first | with_reducible assumption | with_reducible refine State.realTimeFirst_keeps ?_

theorem State.lifeCount_keeps {s : State} {i : Nat} {n : Nat} (h0 : Memory.wf s.dram.mem = true) :
    Memory.wf (State.lifeCount s i n).dram.mem = true := h0

theorem State.judgeDrain_keeps {s : State} (h0 : Memory.wf s.dram.mem = true) : Memory.wf (State.judgeDrain s).dram.mem = true := h0

theorem State.journalLive_keeps {s : State} {i : Nat} {payload : Bytes} {kind : Nat} (h0 : Memory.wf s.dram.mem = true) :
    Memory.wf (State.journalLive s i payload kind).dram.mem = true := by
  unfold State.journalLive; try dsimp only
  repeat' first
    | with_reducible assumption
    | with_reducible refine k_ite ?_ ?_
    | with_reducible refine State.journalAdd_keeps ?_
    | with_reducible refine State.setPair_keeps ?_
    | with_reducible refine State.pairEvent_keeps ?_
    | with_reducible refine State.pairChange_keeps ?_

theorem State.queueWrite_keeps {s : State} {i : Nat} {payload : Bytes} (h0 : Memory.wf s.dram.mem = true) :
    Memory.wf (State.queueWrite s i payload).dram.mem = true := by
  unfold State.queueWrite; try dsimp only
  repeat' first
    | with_reducible assumption
    | with_reducible refine k_ite ?_ ?_
    | with_reducible refine State.judgeDrain_keeps ?_
    | with_reducible refine State.journalLive_keeps ?_

theorem State.quarantineTile_keeps {s : State} {i : Nat} (h0 : Memory.wf s.dram.mem = true) :
    Memory.wf (State.quarantineTile s i).dram.mem = true := by
  unfold State.quarantineTile; try dsimp only
  repeat' first
    | with_reducible assumption
    | with_reducible refine k_ite ?_ ?_
    | with_reducible refine State.lifeCount_keeps ?_
    | with_reducible refine State.queueWrite_keeps ?_

theorem State.retireIndex_keeps {s : State} {space : Nat} {i : Nat} (h0 : Memory.wf s.dram.mem = true) :
    Memory.wf (State.retireIndex s space i).dram.mem = true := by
  unfold State.retireIndex; try dsimp only
  repeat' first
    | with_reducible assumption
    | with_reducible refine State.logError_keeps ?_
    | with_reducible refine State.lifeCount_keeps ?_

theorem State.countFault_keeps {s : State} {space : Nat} {i : Nat} (h0 : Memory.wf s.dram.mem = true) :
    Memory.wf (State.countFault s space i).dram.mem = true := by
  unfold State.countFault; try dsimp only
  repeat' first
    | with_reducible assumption
    | with_reducible refine k_ite ?_ ?_
    | with_reducible refine State.retireIndex_keeps ?_
    | with_reducible refine State.lifeCount_keeps ?_
    | split

theorem State.logAssay_keeps {s : State} {space : Nat} {i : Nat} {who : Consumer} {kind : Nat} (h0 : Memory.wf s.dram.mem = true) :
    Memory.wf (State.logAssay s space i who kind).dram.mem = true := by
  unfold State.logAssay; try dsimp only
  repeat' first
    | with_reducible assumption
    | with_reducible refine State.logError_keeps ?_
    | with_reducible refine State.countFault_keeps ?_

theorem State.taskWrite_keeps {s : State} {i : Nat} {payload : Bytes} (h0 : Memory.wf s.dram.mem = true) :
    Memory.wf (State.taskWrite s i payload).dram.mem = true := by
  unfold State.taskWrite; try dsimp only
  repeat' first
    | with_reducible assumption
    | with_reducible refine State.queueWrite_keeps ?_
    | with_reducible refine State.waitRoom_keeps ?_

theorem State.putTailing_keeps {s : State} {x : Tailing} (h0 : Memory.wf s.dram.mem = true) :
    Memory.wf (State.putTailing s x).dram.mem = true := by
  unfold State.putTailing; try dsimp only
  repeat' first | with_reducible assumption | with_reducible refine State.taskWrite_keeps ?_

theorem State.emitTailing_keeps {s : State} {flow : Bytes} {reason : Nat} {flags : Nat} {home : Nat} {displaced : Bytes} (h0 : Memory.wf s.dram.mem = true) :
    Memory.wf (State.emitTailing s flow reason flags home displaced).dram.mem = true := by
  unfold State.emitTailing; try dsimp only
  repeat' first
    | with_reducible assumption
    | with_reducible refine k_ite ?_ ?_
    | with_reducible refine State.logError_keeps ?_
    | with_reducible refine State.lifeCount_keeps ?_
    | with_reducible refine State.putTailing_keeps ?_

theorem State.faultTile_keeps {s : State} {i : Nat} {who : Consumer} (h0 : Memory.wf s.dram.mem = true) :
    Memory.wf (State.faultTile s i who).dram.mem = true := by
  unfold State.faultTile; try dsimp only
  repeat' first
    | with_reducible assumption
    | with_reducible refine k_ite ?_ ?_
    | with_reducible refine State.quarantineTile_keeps ?_
    | with_reducible refine State.logAssay_keeps ?_
    | with_reducible refine State.emitTailing_keeps ?_
    | split

theorem State.readTileIn_keeps {s : State} {v : Staged} {i : Nat} {who : Consumer} (h0 : Memory.wf s.dram.mem = true) :
    Memory.wf (State.readTileIn s v i who).2.dram.mem = true := by
  unfold State.readTileIn; try dsimp only
  repeat' first
    | with_reducible assumption
    | with_reducible refine k_ite ?_ ?_
    | with_reducible refine k_pair_ite ?_ ?_
    | with_reducible refine State.memCount_keeps ?_
    | with_reducible refine State.readSlot_keeps ?_
    | with_reducible refine State.faultTile_keeps ?_
    | split

theorem State.readTile_keeps {s : State} {i : Nat} {who : Consumer} (h0 : Memory.wf s.dram.mem = true) :
    Memory.wf (State.readTile s i who).2.dram.mem = true := by
  unfold State.readTile; try dsimp only
  repeat' first | with_reducible assumption | with_reducible refine State.readTileIn_keeps ?_

theorem readTiles_keeps {who : Consumer} {x1 : List Nat} {x2 : State} (h0 : Memory.wf x2.dram.mem = true) :
    Memory.wf (readTiles who x1 x2).2.dram.mem = true := by
  induction x1 generalizing x2 with
  | nil =>
    unfold readTiles; try dsimp only
    assumption
  | cons a l ih =>
    unfold readTiles; try dsimp only
    repeat' first | with_reducible assumption | with_reducible apply ih | with_reducible refine State.readTile_keeps ?_

theorem State.newSeam_keeps {s : State} {x : Seam} (h0 : Memory.wf s.dram.mem = true) :
    Memory.wf (State.newSeam s x).2.dram.mem = true := by
  unfold State.newSeam; try dsimp only
  assumption

theorem State.newRuns_keeps {s : State} {rs : List (Nat × Nat)} {host : Bool} (h0 : Memory.wf s.dram.mem = true) :
    Memory.wf (State.newRuns s rs host).2.dram.mem = true := by
  unfold State.newRuns; try dsimp only
  repeat' first
    | with_reducible assumption
    | with_reducible refine State.newSeam_keeps ?_
    | with_reducible refine k_foldl2 ?_ (fun _ _ _ => ?_)
    | split

theorem State.panicLevel_keeps {s : State} (h0 : Memory.wf s.dram.mem = true) : Memory.wf (State.panicLevel s).dram.mem = true := by
  unfold State.panicLevel; try dsimp only
  repeat' first
    | with_reducible assumption
    | with_reducible refine k_ite ?_ ?_
    | with_reducible refine State.judgeDrain_keeps ?_
    | with_reducible refine State.memCount_keeps ?_
    | split

theorem State.storeFault_keeps {s : State} {i : Nat} {who : Consumer} (h0 : Memory.wf s.dram.mem = true) :
    Memory.wf (State.storeFault s i who).dram.mem = true := by
  unfold State.storeFault; try dsimp only
  repeat' first
    | with_reducible assumption
    | with_reducible refine State.lifeCount_keeps ?_
    | with_reducible refine State.logAssay_keeps ?_

theorem State.releaseRun_keeps {s : State} {r : Nat × Nat} (h0 : Memory.wf s.dram.mem = true) :
    Memory.wf (State.releaseRun s r).dram.mem = true := by
  unfold State.releaseRun; try dsimp only
  assumption

theorem State.dropSeam_keeps {x0 : Nat} {x1 : Nat} {x2 : State} (h0 : Memory.wf x2.dram.mem = true) :
    Memory.wf (State.dropSeam x0 x1 x2).dram.mem = true := by
  induction x0 generalizing x1 x2 with
  | zero =>
    unfold State.dropSeam; try dsimp only
    assumption
  | succ n ih =>
    unfold State.dropSeam; try dsimp only
    repeat' first
      | with_reducible assumption
      | with_reducible refine k_ite ?_ ?_
      | with_reducible apply ih
      | with_reducible refine State.releaseRun_keeps ?_
      | with_reducible refine k_foldl ?_ (fun _ _ _ => ?_)
      | split

theorem State.retireSeam_keeps {s : State} {i : Nat} (h0 : Memory.wf s.dram.mem = true) :
    Memory.wf (State.retireSeam s i).dram.mem = true := by
  unfold State.retireSeam; try dsimp only
  repeat' first | with_reducible assumption | with_reducible refine State.dropSeam_keeps ?_

theorem State.addFree_keeps {s : State} {r : Nat × Nat} (h0 : Memory.wf s.dram.mem = true) :
    Memory.wf (State.addFree s r).dram.mem = true := h0

theorem State.setMiner_keeps {s : State} {m : Nat} {x : Miner} (h0 : Memory.wf s.dram.mem = true) :
    Memory.wf (State.setMiner s m x).dram.mem = true := by
  unfold State.setMiner; try dsimp only
  assumption

theorem State.request_keeps {s : State} {slot : Nat} (h0 : Memory.wf s.dram.mem = true) :
    Memory.wf (State.request s slot).dram.mem = true := by
  unfold State.request; try dsimp only
  repeat' first
    | with_reducible assumption
    | with_reducible refine k_ite ?_ ?_
    | with_reducible refine State.setMiner_keeps ?_
    | split

theorem State.requests_keeps {s : State} (h0 : Memory.wf s.dram.mem = true) : Memory.wf (State.requests s).dram.mem = true := by
  unfold State.requests; try dsimp only
  repeat' first
    | with_reducible assumption
    | with_reducible refine k_ite ?_ ?_
    | with_reducible refine State.request_keeps ?_
    | with_reducible refine k_foldl ?_ (fun _ _ _ => ?_)

theorem State.setTask_keeps {s : State} {slot : Nat} {t : Task} (h0 : Memory.wf s.dram.mem = true) :
    Memory.wf (State.setTask s slot t).dram.mem = true := h0

theorem State.enlist_keeps {s : State} {slot : Nat} {front : Bool} (h0 : Memory.wf s.dram.mem = true) :
    Memory.wf (State.enlist s slot front).dram.mem = true := by
  unfold State.enlist; try dsimp only
  repeat' first | with_reducible assumption | with_reducible refine State.setTask_keeps ?_ | split

theorem State.makeReady_keeps {s : State} {slot : Nat} {front : Bool} (h0 : Memory.wf s.dram.mem = true) :
    Memory.wf (State.makeReady s slot front).dram.mem = true := by
  unfold State.makeReady; try dsimp only
  repeat' first
    | with_reducible assumption
    | with_reducible refine State.requests_keeps ?_
    | with_reducible refine State.enlist_keeps ?_

theorem State.wake_keeps {s : State} {type : Nat} (h0 : Memory.wf s.dram.mem = true) : Memory.wf (State.wake s type).dram.mem = true := by
  unfold State.wake; try dsimp only
  repeat' first
    | with_reducible assumption
    | with_reducible refine State.makeReady_keeps ?_
    | with_reducible refine k_foldl ?_ (fun _ _ _ => ?_)

theorem State.addTask_keeps {s : State} {type : Nat} {work : Work} (h0 : Memory.wf s.dram.mem = true) :
    OptKeeps (·.2) (State.addTask s type work) := by
  unfold State.addTask; try dsimp only
  repeat' first
    | with_reducible assumption
    | with_reducible refine k_map (fun _ => ?_)
    | with_reducible refine State.makeReady_keeps ?_
    | with_reducible refine State.setTask_keeps ?_

theorem State.wakeAll_keeps {s : State} (h0 : Memory.wf s.dram.mem = true) : Memory.wf (State.wakeAll s).dram.mem = true := by
  unfold State.wakeAll; try dsimp only
  repeat' first
    | with_reducible assumption
    | with_reducible refine State.wake_keeps ?_
    | with_reducible refine State.addTask_keeps ?_
    | with_reducible refine k_foldl ?_ (fun _ _ _ => ?_)
    | with_reducible refine k_opt2 (by with_reducible assumption) ?_
    | split

theorem State.newTask_keeps {s : State} {type : Nat} {work : Work} (h0 : Memory.wf s.dram.mem = true) :
    OptKeeps (·.2) (State.newTask s type work) := by
  unfold State.newTask; try dsimp only
  repeat' first | with_reducible assumption | with_reducible refine State.addTask_keeps ?_

theorem State.newTasks_keeps {type : Nat} {work : Work} {x2 : Nat} {x3 : State} (h0 : Memory.wf x3.dram.mem = true) :
    OptKeeps (fun s => s) (State.newTasks type work x2 x3) := by
  induction x2 generalizing x3 with
  | zero =>
    unfold State.newTasks; try dsimp only
    repeat' first | with_reducible assumption | with_reducible refine k_some ?_
  | succ n ih =>
    unfold State.newTasks; try dsimp only
    repeat' first
      | with_reducible assumption
      | with_reducible exact k_none
      | with_reducible refine k_some ?_
      | with_reducible apply ih
      | with_reducible refine State.newTask_keeps ?_
      | with_reducible refine k_opt2 (by with_reducible assumption) ?_
      | with_reducible refine k_getD ?_ ?_
      | split

theorem State.answer_keeps {s : State} {slot : Nat} (h0 : Memory.wf s.dram.mem = true) :
    Memory.wf (State.answer s slot).dram.mem = true := by
  unfold State.answer; try dsimp only
  assumption

theorem State.unready_keeps {s : State} {slot : Nat} (h0 : Memory.wf s.dram.mem = true) :
    Memory.wf (State.unready s slot).dram.mem = true := h0

theorem State.dropWork_keeps {s : State} {w : Work → Bool} (h0 : Memory.wf s.dram.mem = true) :
    Memory.wf (State.dropWork s w).dram.mem = true := by
  unfold State.dropWork; try dsimp only
  repeat' first
    | with_reducible assumption
    | with_reducible refine k_ite ?_ ?_
    | with_reducible refine State.setTask_keeps ?_
    | with_reducible refine State.answer_keeps ?_
    | with_reducible refine State.unready_keeps ?_
    | with_reducible refine k_foldl ?_ (fun _ _ _ => ?_)
    | split

theorem State.finishWork_keeps {s : State} {w : Work → Bool} (h0 : Memory.wf s.dram.mem = true) :
    Memory.wf (State.finishWork s w).dram.mem = true := h0

theorem State.dropCopy_keeps {s : State} (h0 : Memory.wf s.dram.mem = true) : Memory.wf (State.dropCopy s).dram.mem = true := by
  unfold State.dropCopy; try dsimp only
  repeat' first | with_reducible assumption | with_reducible refine State.finishWork_keeps ?_

theorem State.relevel_keeps {s : State} {type : Nat} (h0 : Memory.wf s.dram.mem = true) :
    Memory.wf (State.relevel s type).dram.mem = true := by
  unfold State.relevel; try dsimp only
  repeat' first
    | with_reducible assumption
    | with_reducible refine State.requests_keeps ?_
    | with_reducible refine State.enlist_keeps ?_
    | with_reducible refine State.unready_keeps ?_
    | with_reducible refine k_foldl ?_ (fun _ _ _ => ?_)

theorem State.applyTaskPlan_keeps {old : State} {s : State} (_h0 : Memory.wf old.dram.mem = true) (h1 : Memory.wf s.dram.mem = true) :
    Memory.wf (State.applyTaskPlan old s).dram.mem = true := by
  unfold State.applyTaskPlan; try dsimp only
  repeat' first
    | with_reducible assumption
    | with_reducible refine k_ite ?_ ?_
    | with_reducible refine State.requests_keeps ?_
    | with_reducible refine State.relevel_keeps ?_
    | with_reducible refine k_foldl ?_ (fun _ _ _ => ?_)

theorem State.trace_keeps {s : State} {reason : Nat} {miner : Nat} {slot : Nat} {t : Task} {address : Nat} {wait : Nat} (h0 : Memory.wf s.dram.mem = true) :
    Memory.wf (State.trace s reason miner slot t address wait).dram.mem = true := by
  unfold State.trace; try dsimp only
  repeat' first | with_reducible assumption | with_reducible refine k_ite ?_ ?_

theorem State.minerCount_keeps {s : State} {i : Nat} {n : Nat} (h0 : Memory.wf s.dram.mem = true) :
    Memory.wf (State.minerCount s i n).dram.mem = true := h0

theorem State.release_keeps {s : State} {m : Nat} {t : Task} (h0 : Memory.wf s.dram.mem = true) :
    Memory.wf (State.release s m t).dram.mem = true := h0

theorem State.failMiner_keeps {s : State} {miner : Nat} {slot : Nat} {t : Task} {cause : Nat} {address : Nat} {wait : Nat} (h0 : Memory.wf s.dram.mem = true) :
    Memory.wf (State.failMiner s miner slot t cause address wait).dram.mem = true := by
  unfold State.failMiner; try dsimp only
  repeat' first
    | with_reducible assumption
    | with_reducible refine State.setMiner_keeps ?_
    | with_reducible refine State.release_keeps ?_
    | with_reducible refine State.trace_keeps ?_
    | with_reducible refine State.makeReady_keeps ?_
    | with_reducible refine State.setTask_keeps ?_
    | with_reducible refine State.setFault_keeps ?_
    | with_reducible refine State.logError_keeps ?_

theorem State.standingTasks_keeps {s : State} (h0 : Memory.wf s.dram.mem = true) : Memory.wf (State.standingTasks s).dram.mem = true := by
  unfold State.standingTasks; try dsimp only
  repeat' first
    | with_reducible assumption
    | with_reducible refine State.makeReady_keeps ?_
    | with_reducible refine State.setTask_keeps ?_
    | with_reducible refine k_foldl ?_ (fun _ _ _ => ?_)

theorem State.dispatchTo_keeps {s : State} {m : Nat} {slot : Nat} (h0 : Memory.wf s.dram.mem = true) :
    Memory.wf (State.dispatchTo s m slot).dram.mem = true := by
  unfold State.dispatchTo; try dsimp only
  repeat' first
    | with_reducible assumption
    | with_reducible refine State.setTask_keeps ?_
    | with_reducible refine State.answer_keeps ?_
    | with_reducible refine State.unready_keeps ?_
    | with_reducible refine State.setMiner_keeps ?_
    | with_reducible refine State.requests_keeps ?_
    | with_reducible refine State.trace_keeps ?_
    | split

theorem State.parkTask_keeps {s : State} {miner : Nat} {slot : Nat} {t : Task} {address : Nat} {stack : List Nat} (h0 : Memory.wf s.dram.mem = true) :
    Memory.wf (State.parkTask s miner slot t address stack).dram.mem = true := by
  unfold State.parkTask; try dsimp only
  repeat' first
    | with_reducible assumption
    | with_reducible refine State.trace_keeps ?_
    | with_reducible refine State.setTask_keeps ?_
    | with_reducible refine State.release_keeps ?_

theorem State.preempt_keeps {s : State} {miner : Nat} {slot : Nat} {t : Task} {address : Nat} {wait : Nat} {stack : List Nat} (h0 : Memory.wf s.dram.mem = true) :
    Memory.wf (State.preempt s miner slot t address wait stack).dram.mem = true := by
  unfold State.preempt; try dsimp only
  repeat' first
    | with_reducible assumption
    | with_reducible refine State.setMiner_keeps ?_
    | with_reducible refine State.release_keeps ?_
    | with_reducible refine State.trace_keeps ?_
    | with_reducible refine State.enlist_keeps ?_
    | with_reducible refine State.setTask_keeps ?_
    | with_reducible refine State.dispatchTo_keeps ?_
    | split

theorem done_keeps {old : State} {s : State} (h0 : Memory.wf old.dram.mem = true) (h1 : Memory.wf s.dram.mem = true) :
    OutKeeps (done old s) := by
  unfold done; try dsimp only
  repeat' first
    | with_reducible assumption
    | with_reducible refine State.wakeAll_keeps ?_
    | with_reducible refine settle_keeps ?_ ?_
    | with_reducible refine countStep_keeps ?_ ?_
    | with_reducible refine k_next ?_

theorem State.enters_keeps {s : State} {d : Option DevState} (h0 : Memory.wf s.dram.mem = true) :
    Memory.wf (State.enters s d).dram.mem = true := by
  unfold State.enters; try dsimp only
  repeat' first | with_reducible assumption | with_reducible refine State.enter_keeps ?_ | split

theorem State.forwardCommand_keeps {s : State} {op : Nat} {fm : Msg} (h0 : Memory.wf s.dram.mem = true) :
    Memory.wf (State.forwardCommand s op fm).dram.mem = true := by
  unfold State.forwardCommand; try dsimp only
  repeat' first
    | with_reducible assumption
    | with_reducible refine State.onPeer_keeps ?_
    | with_reducible refine State.pushRecord_keeps ?_

theorem finish_keeps {c : Cmd} {m : Msg} {old : State} {d : Done} {recSize : Nat} (_h0 : Memory.wf old.dram.mem = true) (h1 : Memory.wf d.state.dram.mem = true) :
    Memory.wf (finish c m old d recSize).dram.mem = true := by
  unfold finish; try dsimp only
  repeat' first
    | with_reducible assumption
    | with_reducible refine k_ite ?_ ?_
    | with_reducible refine State.enters_keeps ?_
    | with_reducible refine State.setChan_keeps ?_
    | with_reducible refine State.forwardCommand_keeps ?_
    | with_reducible refine State.countForwarded_keeps ?_
    | with_reducible refine State.journalAdd_keeps ?_
    | with_reducible refine State.reply_keeps ?_
    | split

/-- A command whose body keeps the canonical form. -/
def CmdKeeps (c : Cmd) : Prop := ∀ m s, Memory.wf s.dram.mem = true → Memory.wf (c.body m s).state.dram.mem = true
theorem interpret_keeps {c : Cmd} {m : Msg} {s : State} (hb : CmdKeeps c) (h0 : Memory.wf s.dram.mem = true) :
    Memory.wf (interpret c m s).dram.mem = true := by
  unfold interpret
  dsimp only
  split
  · exact State.reply_keeps h0
  · exact finish_keeps h0 (hb _ _ h0)

theorem runCommand_keeps {c : Cmd} {m : Msg} {s : State} (hb : CmdKeeps c) (h0 : Memory.wf s.dram.mem = true) :
    OutKeeps (runCommand c m s) := by
  unfold runCommand
  split
  · exact done_keeps h0 (interpret_keeps hb h0)
  · exact k_next h0

end Sys2Proof.Laws
end

