-- ==== Sys2Proof/Laws/KeepsTraffic.lean ====
section
/-!
SUPPORT. What keeps device memory in its canonical form, one lemma per definition: the way of a packet (parsing, rules, verdicts, flow entries, translation, forwarding, buffer, rings) and the stacks.
-/
namespace Sys2Proof.Laws
open Sys2Proof.Machine Sys2Proof.Claims

theorem State.telemCount_keeps {s : State} {i : Nat} {n : Nat} (h0 : Memory.wf s.dram.mem = true) :
    Memory.wf (State.telemCount s i n).dram.mem = true := h0

theorem State.askFlowEnd_keeps {s : State} {a : Assembly} (h0 : Memory.wf s.dram.mem = true) :
    Memory.wf (State.askFlowEnd s a).dram.mem = true := by
  unfold State.askFlowEnd; try dsimp only
  repeat' first | with_reducible assumption | with_reducible refine k_ite ?_ ?_ | with_reducible refine State.telemCount_keeps ?_

theorem State.stageRecord_keeps {s : State} {template : Nat} {bytes : Bytes} (h0 : Memory.wf s.dram.mem = true) :
    Memory.wf (State.stageRecord s template bytes).dram.mem = true := h0

theorem State.askSample_keeps {s : State} {a : Assembly} (h0 : Memory.wf s.dram.mem = true) :
    Memory.wf (State.askSample s a).dram.mem = true := by
  unfold State.askSample; try dsimp only
  repeat' first | with_reducible assumption | with_reducible refine k_ite ?_ ?_ | with_reducible refine State.telemCount_keeps ?_

theorem State.flowDev_keeps {s : State} {i : Nat} {n : Nat} (h0 : Memory.wf s.dram.mem = true) :
    Memory.wf (State.flowDev s i n).dram.mem = true := h0

theorem State.readBucket_keeps {s : State} {b : Nat} {who : Consumer} (h0 : Memory.wf s.dram.mem = true) :
    Memory.wf (State.readBucket s b who).2.dram.mem = true := by
  unfold State.readBucket; try dsimp only
  repeat' first
    | with_reducible assumption
    | with_reducible refine k_ite ?_ ?_
    | with_reducible refine readTiles_keeps ?_
    | with_reducible refine State.flowDev_keeps ?_

theorem State.findFlow_keeps {s : State} {key : Bytes} {who : Consumer} (h0 : Memory.wf s.dram.mem = true) :
    Memory.wf (State.findFlow s key who).2.dram.mem = true := by
  unfold State.findFlow; try dsimp only
  repeat' first | with_reducible assumption | with_reducible refine State.readBucket_keeps ?_ | split

theorem State.setHot_keeps {s : State} {way : Nat} {e : HotEntry} (h0 : Memory.wf s.dram.mem = true) :
    Memory.wf (State.setHot s way e).dram.mem = true := h0

theorem State.choosePlace_keeps {s : State} {v : Staged} {key : Bytes} {cls : Nat} (h0 : Memory.wf s.dram.mem = true) :
    Memory.wf (State.choosePlace s v key cls).2.dram.mem = true := by
  unfold State.choosePlace; try dsimp only
  repeat' first
    | with_reducible assumption
    | with_reducible refine k_pair_ite ?_ ?_
    | with_reducible refine State.draw_keeps ?_
    | split

theorem State.countNoRoom_keeps {s : State} {active : Bool} (h0 : Memory.wf s.dram.mem = true) :
    Memory.wf (State.countNoRoom s active).dram.mem = true := by
  unfold State.countNoRoom; try dsimp only
  repeat' first | with_reducible assumption | with_reducible refine k_ite ?_ ?_ | with_reducible refine State.lifeCount_keeps ?_

theorem State.evict_keeps {s : State} {t : Nat} {displacing : Bytes} (h0 : Memory.wf s.dram.mem = true) :
    Memory.wf (State.evict s t displacing).dram.mem = true := by
  unfold State.evict; try dsimp only
  repeat' first
    | with_reducible assumption
    | with_reducible refine State.lifeCount_keeps ?_
    | with_reducible refine State.emitTailing_keeps ?_
    | split

theorem State.freeHot_keeps {s : State} {way : Nat} (h0 : Memory.wf s.dram.mem = true) :
    Memory.wf (State.freeHot s way).dram.mem = true := h0

theorem State.endFlow_keeps {s : State} {w : Newest} {reason : Nat} (h0 : Memory.wf s.dram.mem = true) :
    Memory.wf (State.endFlow s w reason).dram.mem = true := by
  unfold State.endFlow; try dsimp only
  repeat' first
    | with_reducible assumption
    | with_reducible refine State.lifeCount_keeps ?_
    | with_reducible refine State.queueWrite_keeps ?_
    | with_reducible refine State.freeHot_keeps ?_
    | with_reducible refine State.askFlowEnd_keeps ?_
    | split

theorem State.setRequest_keeps {s : State} {r : Request} (h0 : Memory.wf s.dram.mem = true) :
    Memory.wf (State.setRequest s r).dram.mem = true := h0

theorem State.cacheLoad_keeps {s : State} {entry : Nat} (h0 : Memory.wf s.dram.mem = true) :
    Memory.wf (State.cacheLoad s entry).dram.mem = true := by
  unfold State.cacheLoad; try dsimp only
  repeat' first | with_reducible assumption | with_reducible refine k_ite ?_ ?_ | split

theorem State.noteFaulted_keeps {s : State} {idx : Nat} (h0 : Memory.wf s.dram.mem = true) :
    Memory.wf (State.noteFaulted s idx).dram.mem = true := by
  unfold State.noteFaulted; try dsimp only
  repeat' first | with_reducible assumption | with_reducible refine k_ite ?_ ?_

theorem State.hotFault_keeps {s : State} {who : Consumer} {way : Nat} (h0 : Memory.wf s.dram.mem = true) :
    Memory.wf (State.hotFault s who way).dram.mem = true := by
  unfold State.hotFault; try dsimp only
  repeat' first
    | with_reducible assumption
    | with_reducible refine k_ite ?_ ?_
    | with_reducible refine State.freeHot_keeps ?_
    | with_reducible refine State.logAssay_keeps ?_
    | with_reducible refine State.emitTailing_keeps ?_
    | with_reducible refine State.quarantineTile_keeps ?_
    | split

theorem State.homeFault_keeps {s : State} {who : Consumer} {way : Nat} (h0 : Memory.wf s.dram.mem = true) :
    Memory.wf (State.homeFault s who way).dram.mem = true := by
  unfold State.homeFault; try dsimp only
  repeat' first
    | with_reducible assumption
    | with_reducible refine State.flowDev_keeps ?_
    | with_reducible refine State.freeHot_keeps ?_
    | with_reducible refine State.logAssay_keeps ?_
    | split

theorem State.cacheFault_keeps {s : State} {who : Consumer} {way : Nat} (h0 : Memory.wf s.dram.mem = true) :
    Memory.wf (State.cacheFault s who way).dram.mem = true := by
  unfold State.cacheFault; try dsimp only
  repeat' first
    | with_reducible assumption
    | with_reducible refine k_ite ?_ ?_
    | with_reducible refine State.quarantineTile_keeps ?_
    | with_reducible refine State.logAssay_keeps ?_
    | with_reducible refine State.noteFaulted_keeps ?_
    | split

theorem State.struck_keeps {s : State} {hurt : Upsets} {who : Consumer} (h0 : Memory.wf s.dram.mem = true) :
    Memory.wf (State.struck s hurt who).dram.mem = true := by
  unfold State.struck; try dsimp only
  repeat' first
    | with_reducible assumption
    | with_reducible refine State.hotFault_keeps ?_
    | with_reducible refine State.upset_keeps ?_
    | with_reducible refine State.homeFault_keeps ?_
    | with_reducible refine State.cacheFault_keeps ?_
    | with_reducible refine k_foldl ?_ (fun _ _ _ => ?_)

theorem State.endRequest_keeps {s : State} {key : Bytes} (h0 : Memory.wf s.dram.mem = true) :
    Memory.wf (State.endRequest s key).dram.mem = true := h0

theorem State.flowPipe_keeps {s : State} {pipe : Bool} {i : Nat} (h0 : Memory.wf s.dram.mem = true) :
    Memory.wf (State.flowPipe s pipe i).dram.mem = true := h0

theorem State.placeAnew_keeps {s : State} {way : Nat} {e : HotEntry} (h0 : Memory.wf s.dram.mem = true) :
    Memory.wf (State.placeAnew s way e).2.dram.mem = true := by
  unfold State.placeAnew; try dsimp only
  repeat' first
    | with_reducible assumption
    | with_reducible refine k_pair_ite ?_ ?_
    | with_reducible refine State.setHot_keeps ?_
    | with_reducible refine State.readBucket_keeps ?_
    | with_reducible refine State.choosePlace_keeps ?_
    | with_reducible refine State.flowDev_keeps ?_
    | with_reducible refine State.freeHot_keeps ?_
    | with_reducible refine State.queueWrite_keeps ?_
    | with_reducible refine State.evict_keeps ?_
    | with_reducible refine State.countNoRoom_keeps ?_
    | with_reducible refine State.emitTailing_keeps ?_
    | with_reducible refine k_pair (by with_reducible assumption) ?_
    | split

theorem State.leaveHot_keeps {s : State} {way : Nat} {e : HotEntry} (h0 : Memory.wf s.dram.mem = true) :
    Memory.wf (State.leaveHot s way e).2.dram.mem = true := by
  unfold State.leaveHot; try dsimp only
  repeat' first
    | with_reducible assumption
    | with_reducible refine k_pair_ite ?_ ?_
    | with_reducible refine State.freeHot_keeps ?_
    | with_reducible refine State.placeAnew_keeps ?_
    | with_reducible refine State.flowDev_keeps ?_
    | with_reducible refine State.queueWrite_keeps ?_
    | with_reducible refine State.setHot_keeps ?_

theorem State.makeWay_keeps {s : State} {key : Bytes} {x2 : Nat} (h0 : Memory.wf s.dram.mem = true) :
    Memory.wf (State.makeWay s key x2).2.dram.mem = true := by
  induction x2 generalizing s with
  | zero =>
    unfold State.makeWay; try dsimp only
    assumption
  | succ n ih =>
    unfold State.makeWay; try dsimp only
    repeat' first
      | with_reducible assumption
      | with_reducible refine k_pair_ite ?_ ?_
      | with_reducible apply ih
      | with_reducible refine State.leaveHot_keeps ?_
      | split

theorem State.wayFor_keeps {s : State} {key : Bytes} (h0 : Memory.wf s.dram.mem = true) :
    Memory.wf (State.wayFor s key).2.dram.mem = true := by
  unfold State.wayFor; try dsimp only
  repeat' first | with_reducible assumption | with_reducible refine State.makeWay_keeps ?_

theorem State.subCount_keeps {s : State} {sub : Nat} {f : SubCount → SubCount} (h0 : Memory.wf s.dram.mem = true) :
    Memory.wf (State.subCount s sub f).dram.mem = true := h0

theorem State.subDiscard_keeps {s : State} {sub : Nat} {upstream : Bool} (h0 : Memory.wf s.dram.mem = true) :
    Memory.wf (State.subDiscard s sub upstream).dram.mem = true := h0

theorem State.setLive_keeps {s : State} {idx : Nat} (h0 : Memory.wf s.dram.mem = true) :
    Memory.wf (State.setLive s idx).dram.mem = true := by
  unfold State.setLive; try dsimp only
  repeat' first | with_reducible assumption | with_reducible refine k_ite ?_ ?_

theorem State.readBinding_keeps {s : State} {idx : Nat} {who : Consumer} (h0 : Memory.wf s.dram.mem = true) :
    Memory.wf (State.readBinding s idx who).2.dram.mem = true := by
  unfold State.readBinding; try dsimp only
  repeat' first
    | with_reducible assumption
    | with_reducible refine k_pair_ite ?_ ?_
    | with_reducible refine State.readTile_keeps ?_

theorem State.readBindings_keeps {who : Consumer} {x1 : List Nat} {x2 : State} (h0 : Memory.wf x2.dram.mem = true) :
    Memory.wf (State.readBindings who x1 x2).2.dram.mem = true := by
  induction x1 generalizing x2 with
  | nil =>
    unfold State.readBindings; try dsimp only
    assumption
  | cons a l ih =>
    unfold State.readBindings; try dsimp only
    repeat' first | with_reducible assumption | with_reducible apply ih | with_reducible refine State.readBinding_keeps ?_

theorem State.meetSub_keeps {s : State} {v : Staged} {sub : Nat} {who : Consumer} (h0 : Memory.wf s.dram.mem = true) :
    Memory.wf (State.meetSub s v sub who).dram.mem = true := by
  unfold State.meetSub; try dsimp only
  repeat' first | with_reducible assumption | with_reducible refine k_ite ?_ ?_ | with_reducible refine State.faultTile_keeps ?_

theorem State.rebuildTile1_keeps {s : State} {v : Staged} {sub : Nat} (h0 : Memory.wf s.dram.mem = true) :
    Memory.wf (State.rebuildTile1 s v sub).2.dram.mem = true := by
  unfold State.rebuildTile1; try dsimp only
  repeat' first | with_reducible assumption | with_reducible refine k_ite ?_ ?_ | with_reducible refine State.taskWrite_keeps ?_

theorem State.readTile1_keeps {s : State} {v : Staged} {sub : Nat} {who : Consumer} (h0 : Memory.wf s.dram.mem = true) :
    Memory.wf (State.readTile1 s v sub who).2.dram.mem = true := by
  unfold State.readTile1; try dsimp only
  repeat' first
    | with_reducible assumption
    | with_reducible refine k_pair_ite ?_ ?_
    | with_reducible refine State.readTile_keeps ?_
    | with_reducible refine State.rebuildTile1_keeps ?_
    | with_reducible refine k_pair (by with_reducible assumption) ?_
    | split

theorem State.natCount_keeps {s : State} {i : Nat} {n : Nat} (h0 : Memory.wf s.dram.mem = true) :
    Memory.wf (State.natCount s i n).dram.mem = true := by
  unfold State.natCount; try dsimp only
  assumption

theorem State.freeBinding_keeps {s : State} {idx : Nat} (h0 : Memory.wf s.dram.mem = true) :
    Memory.wf (State.freeBinding s idx).dram.mem = true := by
  unfold State.freeBinding; try dsimp only
  repeat' first
    | with_reducible assumption
    | with_reducible refine State.natCount_keeps ?_
    | with_reducible refine State.taskWrite_keeps ?_

theorem State.setBlock_keeps {s : State} {slot : Nat} {b : Option Block} (h0 : Memory.wf s.dram.mem = true) :
    Memory.wf (State.setBlock s slot b).dram.mem = true := by
  unfold State.setBlock; try dsimp only
  repeat' first
    | with_reducible assumption
    | with_reducible refine k_ite ?_ ?_
    | with_reducible refine State.journalLive_keeps ?_

theorem State.releaseBlock_keeps {s : State} {slot : Nat} {cause : Nat} (h0 : Memory.wf s.dram.mem = true) :
    Memory.wf (State.releaseBlock s slot cause).dram.mem = true := by
  unfold State.releaseBlock; try dsimp only
  repeat' first
    | with_reducible assumption
    | with_reducible refine k_ite ?_ ?_
    | with_reducible refine State.natCount_keeps ?_
    | with_reducible refine State.meetSub_keeps ?_
    | with_reducible refine State.readTile1_keeps ?_
    | with_reducible refine State.taskWrite_keeps ?_
    | with_reducible refine State.setBlock_keeps ?_
    | with_reducible refine State.stageRecord_keeps ?_
    | split

theorem State.entryRead_keeps {s : State} {v : Staged} {idx : Nat} {who : Consumer} (h0 : Memory.wf s.dram.mem = true) :
    Memory.wf (State.entryRead s v idx who).2.dram.mem = true := by
  unfold State.entryRead; try dsimp only
  repeat' first | with_reducible assumption | with_reducible refine State.readTileIn_keeps ?_

theorem readWindow_keeps {v : Staged} {x1 : List (Nat × Nat × Nat)} {x2 : State} (h0 : Memory.wf x2.dram.mem = true) :
    Memory.wf (readWindow v x1 x2).2.dram.mem = true := by
  induction x1 generalizing x2 with
  | nil =>
    unfold readWindow; try dsimp only
    assumption
  | cons a l ih =>
    unfold readWindow; try dsimp only
    repeat' first | with_reducible assumption | with_reducible apply ih | with_reducible refine State.entryRead_keeps ?_

theorem State.readSlotTile_keeps {s : State} {v : Staged} {g : Nat} {key : Bytes} {who : Consumer} (h0 : Memory.wf s.dram.mem = true) :
    Memory.wf (State.readSlotTile s v g key who).2.dram.mem = true := by
  unfold State.readSlotTile; try dsimp only
  repeat' first | with_reducible assumption | with_reducible refine State.readTileIn_keeps ?_ | split

theorem State.blockFault_keeps {s : State} {slot : Nat} (h0 : Memory.wf s.dram.mem = true) :
    Memory.wf (State.blockFault s slot).dram.mem = true := by
  unfold State.blockFault; try dsimp only
  repeat' first
    | with_reducible assumption
    | with_reducible refine State.setBlock_keeps ?_
    | with_reducible refine State.readTile1_keeps ?_
    | with_reducible refine State.draw_keeps ?_
    | split

theorem State.struckOn_keeps {s : State} {hurt : Upsets} {who : Consumer} (h0 : Memory.wf s.dram.mem = true) :
    Memory.wf (State.struckOn s hurt who).dram.mem = true := by
  unfold State.struckOn; try dsimp only
  repeat' first
    | with_reducible assumption
    | with_reducible refine State.blockFault_keeps ?_
    | with_reducible refine State.struck_keeps ?_
    | with_reducible refine k_foldl ?_ (fun _ _ _ => ?_)

theorem State.subPacket_keeps {s : State} {sub : Nat} {cls : Nat} {upstream : Bool} {len : Nat} (h0 : Memory.wf s.dram.mem = true) :
    Memory.wf (State.subPacket s sub cls upstream len).dram.mem = true := h0

theorem State.newMember_keeps {s : State} {v : Staged} {e : Option Bytes} {key : Bytes} {who : Consumer} (h0 : Memory.wf s.dram.mem = true) :
    Memory.wf (State.newMember s v e key who).2.dram.mem = true := by
  unfold State.newMember; try dsimp only
  repeat' first | with_reducible assumption | with_reducible refine State.readSlotTile_keeps ?_ | split

theorem State.putBinding_keeps {s : State} {idx : Nat} {p : Bytes} (h0 : Memory.wf s.dram.mem = true) :
    Memory.wf (State.putBinding s idx p).dram.mem = true := by
  unfold State.putBinding; try dsimp only
  repeat' first
    | with_reducible assumption
    | with_reducible refine State.natCount_keeps ?_
    | with_reducible refine State.setLive_keeps ?_
    | with_reducible refine State.taskWrite_keeps ?_

theorem State.allocBlock_keeps {s0 : State} {v : Staged} {sub : Nat} {trans : Bytes} {from_ : Nat} {key : Bytes} {r : Bytes} {tile1 : Bytes} (h0 : Memory.wf s0.dram.mem = true) :
    Memory.wf (State.allocBlock s0 v sub trans from_ key r tile1).2.dram.mem = true := by
  unfold State.allocBlock; try dsimp only
  repeat' first
    | with_reducible assumption
    | with_reducible refine k_pair_ite ?_ ?_
    | with_reducible refine State.meetSub_keeps ?_
    | with_reducible refine State.setBlock_keeps ?_
    | with_reducible refine State.taskWrite_keeps ?_
    | with_reducible refine State.natCount_keeps ?_
    | with_reducible refine State.stageRecord_keeps ?_
    | with_reducible refine State.putBinding_keeps ?_
    | split

theorem State.setupBinding_keeps {s : State} {v : Staged} {trans : Bytes} {from_ : Nat} {key : Bytes} (h0 : Memory.wf s.dram.mem = true) :
    Memory.wf (State.setupBinding s v trans from_ key).2.dram.mem = true := by
  unfold State.setupBinding; try dsimp only
  repeat' first
    | with_reducible assumption
    | with_reducible refine k_pair_ite ?_ ?_
    | with_reducible refine State.readTile1_keeps ?_
    | with_reducible refine readWindow_keeps ?_
    | with_reducible refine State.setLive_keeps ?_
    | with_reducible refine State.allocBlock_keeps ?_
    | with_reducible refine State.putBinding_keeps ?_
    | split

theorem State.setLearned_keeps {s : State} {pipe : Bool} {t : Table Learned} (h0 : Memory.wf s.dram.mem = true) :
    Memory.wf (State.setLearned s pipe t).dram.mem = true := by
  unfold State.setLearned; try dsimp only
  assumption

theorem State.makeCopy_keeps {s : State} {x : FwdItem} (h0 : Memory.wf s.dram.mem = true) :
    Memory.wf (State.makeCopy s x).dram.mem = true := by
  unfold State.makeCopy; try dsimp only
  repeat' first | with_reducible assumption | with_reducible refine State.putTile_keeps ?_ | split

theorem State.settleCopies_keeps {s : State} (h0 : Memory.wf s.dram.mem = true) : Memory.wf (State.settleCopies s).dram.mem = true := by
  unfold State.settleCopies; try dsimp only
  repeat' first
    | with_reducible assumption
    | with_reducible refine State.releaseRun_keeps ?_
    | with_reducible refine State.makeCopy_keeps ?_
    | with_reducible refine k_foldl ?_ (fun _ _ _ => ?_)

theorem State.remakeCopies_keeps {s : State} (h0 : Memory.wf s.dram.mem = true) : Memory.wf (State.remakeCopies s).dram.mem = true := by
  unfold State.remakeCopies; try dsimp only
  repeat' first | with_reducible assumption | with_reducible refine State.settleCopies_keeps ?_

theorem State.fwdDev_keeps {s : State} {i : Nat} {n : Nat} (h0 : Memory.wf s.dram.mem = true) :
    Memory.wf (State.fwdDev s i n).dram.mem = true := h0

theorem State.fwdFault_keeps {s : State} {pipe : Bool} {h : Nat × Nat} (h0 : Memory.wf s.dram.mem = true) :
    Memory.wf (State.fwdFault s pipe h).dram.mem = true := by
  unfold State.fwdFault; try dsimp only
  repeat' first
    | with_reducible assumption
    | with_reducible refine k_ite ?_ ?_
    | with_reducible refine State.fwdDev_keeps ?_
    | with_reducible refine State.logError_keeps ?_
    | with_reducible refine State.setLearned_keeps ?_

theorem State.struckFwd_keeps {s : State} {pipe : Bool} {hurt : Upsets} (h0 : Memory.wf s.dram.mem = true) :
    Memory.wf (State.struckFwd s pipe hurt).dram.mem = true := by
  unfold State.struckFwd; try dsimp only
  repeat' first
    | with_reducible assumption
    | with_reducible refine k_ite ?_ ?_
    | with_reducible refine State.fwdFault_keeps ?_
    | with_reducible refine State.fwdDev_keeps ?_
    | with_reducible refine k_foldl ?_ (fun _ _ _ => ?_)

theorem State.hitHost_keeps {s : State} {pipe : Bool} {key : Nat} (h0 : Memory.wf s.dram.mem = true) :
    Memory.wf (State.hitHost s pipe key).dram.mem = true := by
  unfold State.hitHost; try dsimp only
  repeat' first | with_reducible assumption | with_reducible refine k_ite ?_ ?_

theorem State.fwdCount_keeps {s : State} {pipe : Bool} {i : Nat} (h0 : Memory.wf s.dram.mem = true) :
    Memory.wf (State.fwdCount s pipe i).dram.mem = true := h0

theorem State.noteRaised_keeps {s : State} {key : Nat} {port : Nat} {kind : Nat} (h0 : Memory.wf s.dram.mem = true) :
    Memory.wf (State.noteRaised s key port kind).dram.mem = true := h0

theorem State.refreshSource_keeps {s : State} {pipe : Bool} {way : Nat} {e : Learned} (h0 : Memory.wf s.dram.mem = true) :
    Memory.wf (State.refreshSource s pipe way e).dram.mem = true := h0

theorem State.queueLearn_keeps {s : State} {pipe : Bool} {e : LearnEvent} (h0 : Memory.wf s.dram.mem = true) :
    Memory.wf (State.queueLearn s pipe e).dram.mem = true := by
  unfold State.queueLearn; try dsimp only
  repeat' first | with_reducible assumption | with_reducible refine k_ite ?_ ?_ | with_reducible refine State.fwdCount_keeps ?_

theorem State.route_keeps {s : State} {v : Staged} {p : Pkt} (h0 : Memory.wf s.dram.mem = true) :
    Memory.wf (State.route s v p).2.dram.mem = true := by
  unfold State.route; try dsimp only
  repeat' first
    | with_reducible assumption
    | with_reducible refine k_pair_ite ?_ ?_
    | with_reducible refine State.fwdCount_keeps ?_
    | split

theorem State.bridge_keeps {s : State} {v : Staged} {p : Pkt} {domain : Nat} {d : Domain} (h0 : Memory.wf s.dram.mem = true) :
    Memory.wf (State.bridge s v p domain d).2.dram.mem = true := by
  unfold State.bridge; try dsimp only
  repeat' first
    | with_reducible assumption
    | with_reducible refine k_pair_ite ?_ ?_
    | with_reducible refine State.fwdCount_keeps ?_
    | split

theorem State.forward_keeps {s : State} {v : Staged} {p : Pkt} (h0 : Memory.wf s.dram.mem = true) :
    Memory.wf (State.forward s v p).2.dram.mem = true := by
  unfold State.forward; try dsimp only
  repeat' first
    | with_reducible assumption
    | with_reducible refine k_pair_ite ?_ ?_
    | with_reducible refine State.fwdCount_keeps ?_
    | with_reducible refine State.route_keeps ?_
    | with_reducible refine State.bridge_keeps ?_
    | split

theorem State.applyLearn_keeps {s : State} {pipe : Bool} {e : LearnEvent} (h0 : Memory.wf s.dram.mem = true) :
    Memory.wf (State.applyLearn s pipe e).dram.mem = true := by
  unfold State.applyLearn; try dsimp only
  repeat' first
    | with_reducible assumption
    | with_reducible refine k_ite ?_ ?_
    | with_reducible refine State.fwdCount_keeps ?_
    | with_reducible refine State.setLearned_keeps ?_
    | split

theorem execLearnEventApply_keeps {pipe : Bool} {s : State} (h0 : Memory.wf s.dram.mem = true) : OutKeeps (execLearnEventApply pipe s) := by
  unfold execLearnEventApply; try dsimp only
  repeat' first
    | with_reducible assumption
    | with_reducible refine done_keeps ?_ ?_
    | with_reducible refine State.applyLearn_keeps ?_
    | with_reducible refine k_next ?_
    | split

theorem execForwardingRepair_keeps {s : State} (h0 : Memory.wf s.dram.mem = true) : OutKeeps (execForwardingRepair s) := by
  unfold execForwardingRepair; try dsimp only
  repeat' first
    | with_reducible assumption
    | with_reducible refine k_out_ite ?_ ?_
    | with_reducible refine State.readTile_keeps ?_
    | with_reducible refine done_keeps ?_ ?_
    | with_reducible refine k_next ?_
    | split

theorem State.setRing_keeps {s : State} {r : Nat} {x : HostRing} (h0 : Memory.wf s.dram.mem = true) :
    Memory.wf (State.setRing s r x).dram.mem = true := by
  unfold State.setRing; try dsimp only
  assumption

theorem State.setQueue_keeps {s : State} {q : Nat} {x : QueueLive} (h0 : Memory.wf s.dram.mem = true) :
    Memory.wf (State.setQueue s q x).dram.mem = true := h0

theorem State.countDiscard_keeps {s : State} {p : Pkt} (h0 : Memory.wf s.dram.mem = true) :
    Memory.wf (State.countDiscard s p).dram.mem = true := by
  unfold State.countDiscard; try dsimp only
  repeat' first
    | with_reducible assumption
    | with_reducible refine k_ite ?_ ?_
    | with_reducible refine State.subDiscard_keeps ?_
    | split

theorem State.bufCount_keeps {s : State} {i : Nat} {n : Nat} (h0 : Memory.wf s.dram.mem = true) :
    Memory.wf (State.bufCount s i n).dram.mem = true := h0

theorem State.ringCount_keeps {s : State} {r : Nat} {i : Nat} (h0 : Memory.wf s.dram.mem = true) :
    Memory.wf (State.ringCount s r i).dram.mem = true := h0

theorem State.notePeak_keeps {s : State} (h0 : Memory.wf s.dram.mem = true) : Memory.wf (State.notePeak s).dram.mem = true := h0

theorem State.enqueue_keeps {s : State} {q : Nat} {e : Queued} (h0 : Memory.wf s.dram.mem = true) :
    Memory.wf (State.enqueue s q e).dram.mem = true := h0

theorem State.queueDiscard_keeps {s : State} {q : Nat} (h0 : Memory.wf s.dram.mem = true) :
    Memory.wf (State.queueDiscard s q).dram.mem = true := h0

theorem State.offerRing_keeps {s : State} {v : Staged} {r : Nat} {p : Pkt} {record : Option Bytes} (h0 : Memory.wf s.dram.mem = true) :
    Memory.wf (State.offerRing s v r p record).2.dram.mem = true := by
  unfold State.offerRing; try dsimp only
  repeat' first
    | with_reducible assumption
    | with_reducible refine k_pair_ite ?_ ?_
    | with_reducible refine State.countDiscard_keeps ?_
    | with_reducible refine State.bufCount_keeps ?_
    | with_reducible refine State.ringCount_keeps ?_
    | with_reducible refine State.queueDiscard_keeps ?_
    | with_reducible refine State.enqueue_keeps ?_

theorem State.setIng_keeps {s : State} {pipe : Bool} {n : Nat} (h0 : Memory.wf s.dram.mem = true) :
    Memory.wf (State.setIng s pipe n).dram.mem = true := h0

theorem State.dropIngress_keeps {s : State} {pipe : Bool} {c : Nat} (h0 : Memory.wf s.dram.mem = true) :
    Memory.wf (State.dropIngress s pipe c).dram.mem = true := h0

theorem State.pipeEvent_keeps {s : State} {pipe : Bool} {i : Nat} {n : Nat} (h0 : Memory.wf s.dram.mem = true) :
    Memory.wf (State.pipeEvent s pipe i n).dram.mem = true := h0

theorem State.copyTo_keeps {s : State} {v : Staged} {r : Nat} {reason : Nat} {p : Pkt} (h0 : Memory.wf s.dram.mem = true) :
    Memory.wf (State.copyTo s v r reason p).dram.mem = true := by
  unfold State.copyTo; try dsimp only
  repeat' first | with_reducible assumption | with_reducible refine State.offerRing_keeps ?_

theorem State.offer_keeps {s : State} {v : Staged} {q : Nat} {p : Pkt} (h0 : Memory.wf s.dram.mem = true) :
    Memory.wf (State.offer s v q p).2.dram.mem = true := by
  unfold State.offer; try dsimp only
  repeat' first
    | with_reducible assumption
    | with_reducible refine k_pair_ite ?_ ?_
    | with_reducible refine State.countDiscard_keeps ?_
    | with_reducible refine State.queueDiscard_keeps ?_
    | with_reducible refine State.bufCount_keeps ?_
    | with_reducible refine State.enqueue_keeps ?_

theorem State.mirror_keeps {s : State} {v : Staged} {k : Nat} {p : Pkt} (h0 : Memory.wf s.dram.mem = true) :
    Memory.wf (State.mirror s v k p).dram.mem = true := by
  unfold State.mirror; try dsimp only
  repeat' first
    | with_reducible assumption
    | with_reducible refine k_ite ?_ ?_
    | with_reducible refine k_pair_ite ?_ ?_
    | with_reducible refine State.bufCount_keeps ?_
    | with_reducible refine State.offerRing_keeps ?_
    | with_reducible refine State.offer_keeps ?_
    | split

theorem State.passCopies_keeps {s : State} {v : Staged} {p : Pkt} (h0 : Memory.wf s.dram.mem = true) :
    Memory.wf (State.passCopies s v p).dram.mem = true := by
  unfold State.passCopies; try dsimp only
  repeat' first
    | with_reducible assumption
    | with_reducible refine State.copyTo_keeps ?_
    | with_reducible refine State.mirror_keeps ?_
    | split

theorem State.toHost_keeps {s : State} {v : Staged} {p : Pkt} {r : Nat} {reason : Nat} (h0 : Memory.wf s.dram.mem = true) :
    Memory.wf (State.toHost s v p r reason).dram.mem = true := by
  unfold State.toHost; try dsimp only
  repeat' first | with_reducible assumption | with_reducible refine State.offerRing_keeps ?_

theorem State.queueFor_keeps {s : State} {v : Staged} {p : Pkt} {port : Nat} {shapes : Bool} (h0 : Memory.wf s.dram.mem = true) :
    Memory.wf (State.queueFor s v p port shapes).2.dram.mem = true := by
  unfold State.queueFor; try dsimp only
  repeat' first
    | with_reducible assumption
    | with_reducible refine k_pair_ite ?_ ?_
    | with_reducible refine State.bufCount_keeps ?_
    | split

theorem State.toPort_keeps {s : State} {v : Staged} {p : Pkt} {port : Nat} {shapes : Bool} (h0 : Memory.wf s.dram.mem = true) :
    Memory.wf (State.toPort s v p port shapes).dram.mem = true := by
  unfold State.toPort; try dsimp only
  repeat' first
    | with_reducible assumption
    | with_reducible refine State.queueFor_keeps ?_
    | with_reducible refine State.offer_keeps ?_

theorem State.floodTo_keeps {s : State} {v : Staged} {p : Pkt} {mask : BitVec 26} (h0 : Memory.wf s.dram.mem = true) :
    Memory.wf (State.floodTo s v p mask).dram.mem = true := by
  unfold State.floodTo; try dsimp only
  repeat' first
    | with_reducible assumption
    | with_reducible refine k_ite ?_ ?_
    | with_reducible refine State.bufCount_keeps ?_
    | with_reducible refine State.offer_keeps ?_
    | with_reducible refine k_foldl ?_ (fun _ _ _ => ?_)

theorem State.chargeIngress_keeps {s : State} {pipe : Bool} {c : Nat} (h0 : Memory.wf s.dram.mem = true) :
    OptKeeps (fun s => s) (State.chargeIngress s pipe c) := by
  unfold State.chargeIngress; try dsimp only
  repeat' first
    | with_reducible assumption
    | with_reducible refine k_opt_ite ?_ ?_
    | with_reducible exact k_none
    | with_reducible refine k_some ?_
    | with_reducible refine State.notePeak_keeps ?_
    | with_reducible refine State.setIng_keeps ?_

theorem State.grant_keeps {s : State} {pipe : Bool} {i : Nat} (h0 : Memory.wf s.dram.mem = true) :
    Memory.wf (State.grant s pipe i).dram.mem = true := h0

theorem State.setHostRing_keeps {s : State} {n : Nat} {x : HostRing} (h0 : Memory.wf s.dram.mem = true) :
    Memory.wf (State.setHostRing s n x).dram.mem = true := by
  unfold State.setHostRing; try dsimp only
  repeat' first | with_reducible assumption | with_reducible refine k_ite ?_ ?_ | with_reducible refine State.setRing_keeps ?_

theorem State.takeSlot_keeps {s : State} {n : Nat} {bytes : Bytes} (h0 : Memory.wf s.dram.mem = true) :
    Memory.wf (State.takeSlot s n bytes).dram.mem = true := by
  unfold State.takeSlot; try dsimp only
  repeat' first | with_reducible assumption | with_reducible refine State.setHostRing_keeps ?_

theorem State.timeCount_keeps {s : State} {i : Nat} (h0 : Memory.wf s.dram.mem = true) :
    Memory.wf (State.timeCount s i).dram.mem = true := h0

theorem State.writeParts_keeps {pf1 : Bool} {s : State} {x2 : Nat} {x3 : Nat} {x4 : Bytes} (h0 : Memory.wf s.dram.mem = true) :
    Memory.wf (State.writeParts pf1 s x2 x3 x4).dram.mem = true := by
  induction x2 generalizing s x3 x4 with
  | zero => exact h0
  | succ n ih =>
    unfold State.writeParts
    exact k_ite h0 (ih (State.send_keeps h0))

theorem State.hostWrites_keeps {s : State} {pf1 : Bool} {at_ : Nat} {bytes : Bytes} (h0 : Memory.wf s.dram.mem = true) :
    Memory.wf (State.hostWrites s pf1 at_ bytes).dram.mem = true := by
  unfold State.hostWrites; try dsimp only
  repeat' first | with_reducible assumption | with_reducible refine State.writeParts_keeps ?_

theorem State.cellFault_keeps {s : State} {pipe : Nat} {h : Nat × Nat} (h0 : Memory.wf s.dram.mem = true) :
    Memory.wf (State.cellFault s pipe h).dram.mem = true := by
  unfold State.cellFault; try dsimp only
  repeat' first | with_reducible assumption | with_reducible refine State.logError_keeps ?_

theorem State.ringIrq_keeps {s : State} {n : Nat} (h0 : Memory.wf s.dram.mem = true) : Memory.wf (State.ringIrq s n).dram.mem = true := by
  unfold State.ringIrq; try dsimp only
  repeat' first
    | with_reducible assumption
    | with_reducible refine k_ite ?_ ?_
    | with_reducible refine State.setHostRing_keeps ?_
    | with_reducible refine State.raiseVector_keeps ?_
    | split

theorem State.slotWritten_keeps {s : State} {n : Nat} (h0 : Memory.wf s.dram.mem = true) :
    Memory.wf (State.slotWritten s n).dram.mem = true := by
  unfold State.slotWritten; try dsimp only
  repeat' first
    | with_reducible assumption
    | with_reducible refine k_ite ?_ ?_
    | with_reducible refine State.setHostRing_keeps ?_
    | with_reducible refine State.ringCount_keeps ?_
    | with_reducible refine State.setQueue_keeps ?_
    | with_reducible refine State.ringIrq_keeps ?_

theorem State.ringBurst_keeps {s : State} {n : Nat} (h0 : Memory.wf s.dram.mem = true) :
    Memory.wf (State.ringBurst s n).dram.mem = true := by
  unfold State.ringBurst; try dsimp only
  repeat' first
    | with_reducible assumption
    | with_reducible refine k_ite ?_ ?_
    | with_reducible refine State.setDma_keeps ?_
    | with_reducible refine State.setHostRing_keeps ?_
    | with_reducible refine State.hostWrites_keeps ?_
    | with_reducible refine State.slotWritten_keeps ?_
    | with_reducible refine State.send_keeps ?_
    | split

theorem State.spoiled_keeps {s : State} {data : Bytes} {x2 : Nat} (h0 : Memory.wf s.dram.mem = true) :
    Memory.wf (State.spoiled s data x2).2.dram.mem = true := by
  induction x2 generalizing s data with
  | zero => exact h0
  | succ n ih => exact ih (State.draw_keeps (State.draw_keeps (State.draw_keeps h0)))

theorem State.makeRecord_keeps {s : State} {n : Nat} {hurt : Upsets} (h0 : Memory.wf s.dram.mem = true) :
    Memory.wf (State.makeRecord s n hurt).dram.mem = true := by
  unfold State.makeRecord; try dsimp only
  repeat' first
    | with_reducible assumption
    | with_reducible refine k_ite ?_ ?_
    | with_reducible refine State.cellFault_keeps ?_
    | with_reducible refine State.countDiscard_keeps ?_
    | with_reducible refine State.bufCount_keeps ?_
    | with_reducible refine State.setQueue_keeps ?_
    | with_reducible refine State.timeCount_keeps ?_
    | with_reducible refine State.spoiled_keeps ?_
    | with_reducible refine State.takeSlot_keeps ?_
    | with_reducible refine State.ringCount_keeps ?_
    | with_reducible refine k_foldl ?_ (fun _ _ _ => ?_)
    | split

theorem State.serveRing_keeps {s : State} {n : Nat} {hurt : Upsets} (h0 : Memory.wf s.dram.mem = true) :
    Memory.wf (State.serveRing s n hurt).dram.mem = true := by
  unfold State.serveRing; try dsimp only
  repeat' first
    | with_reducible assumption
    | with_reducible refine k_ite ?_ ?_
    | with_reducible refine State.ringBurst_keeps ?_
    | with_reducible refine State.makeRecord_keeps ?_

theorem execRingConsumerPoll_keeps {ring : Nat} {consumed : W32} {s : State} (h0 : Memory.wf s.dram.mem = true) :
    OutKeeps (execRingConsumerPoll ring consumed s) := by
  unfold execRingConsumerPoll; try dsimp only
  repeat' first
    | with_reducible assumption
    | with_reducible refine k_out_ite ?_ ?_
    | with_reducible refine done_keeps ?_ ?_
    | with_reducible refine State.setHostRing_keeps ?_
    | with_reducible refine State.send_keeps ?_
    | with_reducible refine k_next ?_

theorem execRingHoldoffExpire_keeps {ring : Nat} {s : State} (h0 : Memory.wf s.dram.mem = true) :
    OutKeeps (execRingHoldoffExpire ring s) := by
  unfold execRingHoldoffExpire; try dsimp only
  repeat' first
    | with_reducible assumption
    | with_reducible refine k_ite ?_ ?_
    | with_reducible refine k_out_ite ?_ ?_
    | with_reducible refine State.setHostRing_keeps ?_
    | with_reducible refine done_keeps ?_ ?_
    | with_reducible refine State.ringIrq_keeps ?_
    | with_reducible refine k_next ?_
    | split

theorem State.readParts_keeps {pf1 : Bool} {kind : Nat} {s : State} {x3 : Nat} {x4 : Nat} {x5 : Nat} (h0 : Memory.wf s.dram.mem = true) :
    Memory.wf (State.readParts pf1 kind s x3 x4 x5).dram.mem = true := by
  induction x3 generalizing s x4 x5 with
  | zero => exact h0
  | succ n ih =>
    unfold State.readParts
    exact k_ite h0 (ih (State.send_keeps h0))

theorem State.clearLive_keeps {s : State} {runs : List (Nat × Nat)} (h0 : Memory.wf s.dram.mem = true) :
    Memory.wf (State.clearLive s runs).dram.mem = true := by
  unfold State.clearLive; try dsimp only
  repeat' first
    | with_reducible assumption
    | with_reducible refine State.clearRun_keeps ?_
    | with_reducible refine k_foldl ?_ (fun _ _ _ => ?_)

theorem bodyMemPlanRead_keeps {m : Msg} {s : State} (h0 : Memory.wf s.dram.mem = true) :
    Memory.wf (bodyMemPlanRead m s).state.dram.mem = true := by
  unfold bodyMemPlanRead; try dsimp only
  repeat' first | with_reducible assumption | with_reducible refine ok_keeps ?_

theorem cmdMemPlanRead_keeps : CmdKeeps cmdMemPlanRead := fun _ _ h => bodyMemPlanRead_keeps h
theorem execMemPlanRead_keeps {m : Msg} {s : State} (h0 : Memory.wf s.dram.mem = true) :
    OutKeeps (execMemPlanRead m s) := runCommand_keeps cmdMemPlanRead_keeps h0

theorem bodyMemRegionGrow_keeps {m : Msg} {s : State} (h0 : Memory.wf s.dram.mem = true) :
    Memory.wf (bodyMemRegionGrow m s).state.dram.mem = true := by
  unfold bodyMemRegionGrow; try dsimp only
  repeat' first
    | with_reducible assumption
    | with_reducible refine k_done_ite ?_ ?_
    | with_reducible refine refuse_keeps ?_
    | with_reducible refine badParam_keeps ?_
    | with_reducible refine outOfRange_keeps ?_
    | with_reducible refine needZero_keeps ?_ ?_
    | with_reducible refine ok_keeps ?_
    | with_reducible refine State.stageWith_keeps ?_
    | split

theorem cmdMemRegionGrow_keeps : CmdKeeps cmdMemRegionGrow := fun _ _ h => bodyMemRegionGrow_keeps h
theorem execMemRegionGrow_keeps {m : Msg} {s : State} (h0 : Memory.wf s.dram.mem = true) :
    OutKeeps (execMemRegionGrow m s) := runCommand_keeps cmdMemRegionGrow_keeps h0

theorem State.clearMemStatus_keeps {s : State} (h0 : Memory.wf s.dram.mem = true) : Memory.wf (State.clearMemStatus s).dram.mem = true := h0

theorem bodyMemStatus_keeps {m : Msg} {s : State} (h0 : Memory.wf s.dram.mem = true) :
    Memory.wf (bodyMemStatus m s).state.dram.mem = true := by
  unfold bodyMemStatus; try dsimp only
  repeat' first
    | with_reducible assumption
    | with_reducible refine k_ite ?_ ?_
    | with_reducible refine k_done_ite ?_ ?_
    | with_reducible refine badParam_keeps ?_
    | with_reducible refine needZero_keeps ?_ ?_
    | with_reducible refine outOfRange_keeps ?_
    | with_reducible refine ok_keeps ?_
    | with_reducible refine State.judgeDrain_keeps ?_
    | with_reducible refine State.panicLevel_keeps ?_
    | with_reducible refine State.clearMemStatus_keeps ?_

theorem cmdMemStatus_keeps : CmdKeeps cmdMemStatus := fun _ _ h => bodyMemStatus_keeps h
theorem execMemStatus_keeps {m : Msg} {s : State} (h0 : Memory.wf s.dram.mem = true) :
    OutKeeps (execMemStatus m s) := runCommand_keeps cmdMemStatus_keeps h0

theorem bodyMemRetiredRead_keeps {m : Msg} {s : State} (h0 : Memory.wf s.dram.mem = true) :
    Memory.wf (bodyMemRetiredRead m s).state.dram.mem = true := by
  unfold bodyMemRetiredRead; try dsimp only
  repeat' first
    | with_reducible assumption
    | with_reducible refine k_done_ite ?_ ?_
    | with_reducible refine outOfRange_keeps ?_
    | with_reducible refine needZero_keeps ?_ ?_
    | with_reducible refine ok_keeps ?_

theorem cmdMemRetiredRead_keeps : CmdKeeps cmdMemRetiredRead := fun _ _ h => bodyMemRetiredRead_keeps h
theorem execMemRetiredRead_keeps {m : Msg} {s : State} (h0 : Memory.wf s.dram.mem = true) :
    OutKeeps (execMemRetiredRead m s) := runCommand_keeps cmdMemRetiredRead_keeps h0

theorem bodySeamCreate_keeps {m : Msg} {s : State} (h0 : Memory.wf s.dram.mem = true) :
    Memory.wf (bodySeamCreate m s).state.dram.mem = true := by
  unfold bodySeamCreate; try dsimp only
  repeat' first
    | with_reducible assumption
    | with_reducible refine k_done_ite ?_ ?_
    | with_reducible refine badParam_keeps ?_
    | with_reducible refine needZero_keeps ?_ ?_
    | with_reducible refine outOfRange_keeps ?_
    | with_reducible refine refuse_keeps ?_
    | with_reducible refine State.newRuns_keeps ?_
    | with_reducible refine ok_keeps ?_
    | with_reducible refine State.newSeam_keeps ?_
    | split

theorem cmdSeamCreate_keeps : CmdKeeps cmdSeamCreate := fun _ _ h => bodySeamCreate_keeps h
theorem execSeamCreate_keeps {m : Msg} {s : State} (h0 : Memory.wf s.dram.mem = true) :
    OutKeeps (execSeamCreate m s) := runCommand_keeps cmdSeamCreate_keeps h0

theorem bodySeamGroup_keeps {m : Msg} {s : State} (h0 : Memory.wf s.dram.mem = true) :
    Memory.wf (bodySeamGroup m s).state.dram.mem = true := by
  unfold bodySeamGroup; try dsimp only
  repeat' first
    | with_reducible assumption
    | with_reducible refine k_done_ite ?_ ?_
    | with_reducible refine refuse_keeps ?_
    | with_reducible refine outOfRange_keeps ?_
    | with_reducible refine State.newSeam_keeps ?_
    | with_reducible refine ok_keeps ?_
    | split

theorem cmdSeamGroup_keeps : CmdKeeps cmdSeamGroup := fun _ _ h => bodySeamGroup_keeps h
theorem execSeamGroup_keeps {m : Msg} {s : State} (h0 : Memory.wf s.dram.mem = true) :
    OutKeeps (execSeamGroup m s) := runCommand_keeps cmdSeamGroup_keeps h0

theorem State.readCell_keeps {s : State} {v : Staged} {hurt : Upsets} {c : Bool × Nat} {who : Consumer} (h0 : Memory.wf s.dram.mem = true) :
    Memory.wf (State.readCell s v hurt c who).2.dram.mem = true := by
  unfold State.readCell; try dsimp only
  repeat' first
    | with_reducible assumption
    | with_reducible refine k_pair_ite ?_ ?_
    | with_reducible refine State.storeFault_keeps ?_
    | with_reducible refine State.readTileIn_keeps ?_

theorem readCells_keeps {v : Staged} {hurt : Upsets} {who : Consumer} {x3 : List (Bool × Nat)} {x4 : State} (h0 : Memory.wf x4.dram.mem = true) :
    Memory.wf (readCells v hurt who x3 x4).2.dram.mem = true := by
  induction x3 generalizing x4 with
  | nil =>
    unfold readCells; try dsimp only
    assumption
  | cons a l ih =>
    unfold readCells; try dsimp only
    repeat' first | with_reducible assumption | with_reducible apply ih | with_reducible refine State.readCell_keeps ?_

theorem bodySeamRead_keeps {m : Msg} {s : State} (h0 : Memory.wf s.dram.mem = true) :
    Memory.wf (bodySeamRead m s).state.dram.mem = true := by
  unfold bodySeamRead; try dsimp only
  repeat' first
    | with_reducible assumption
    | with_reducible refine k_done_ite ?_ ?_
    | with_reducible refine badParam_keeps ?_
    | with_reducible refine outOfRange_keeps ?_
    | with_reducible refine needZero_keeps ?_ ?_
    | with_reducible refine readCells_keeps ?_
    | with_reducible refine ok_keeps ?_
    | split

theorem cmdSeamRead_keeps : CmdKeeps cmdSeamRead := fun _ _ h => bodySeamRead_keeps h
theorem execSeamRead_keeps {m : Msg} {s : State} (h0 : Memory.wf s.dram.mem = true) :
    OutKeeps (execSeamRead m s) := runCommand_keeps cmdSeamRead_keeps h0

theorem State.setJob_keeps {s : State} {j : Nat} {x : Job} (h0 : Memory.wf s.dram.mem = true) :
    Memory.wf (State.setJob s j x).dram.mem = true := by
  unfold State.setJob; try dsimp only
  assumption

theorem State.startJob_keeps {s : State} {op : JobOp} {a : Nat} {b : Option Nat} {pattern : Bytes} (h0 : Memory.wf s.dram.mem = true) :
    Memory.wf (State.startJob s op a b pattern).state.dram.mem = true := by
  unfold State.startJob
  split
  · exact refuse_keeps h0
  · split
    · exact refuse_keeps h0
    · rename_i s1 e
      have h1 : Memory.wf s1.dram.mem = true := k_opt2 e (State.newTask_keeps h0)
      exact ok_keeps h1

theorem bodySeamFill_keeps {m : Msg} {s : State} (h0 : Memory.wf s.dram.mem = true) :
    Memory.wf (bodySeamFill m s).state.dram.mem = true := by
  unfold bodySeamFill; try dsimp only
  repeat' first
    | with_reducible assumption
    | with_reducible refine k_done_ite ?_ ?_
    | with_reducible refine badParam_keeps ?_
    | with_reducible refine State.startJob_keeps ?_
    | split

theorem cmdSeamFill_keeps : CmdKeeps cmdSeamFill := fun _ _ h => bodySeamFill_keeps h
theorem execSeamFill_keeps {m : Msg} {s : State} (h0 : Memory.wf s.dram.mem = true) :
    OutKeeps (execSeamFill m s) := runCommand_keeps cmdSeamFill_keeps h0

theorem bodySeamCompare_keeps {m : Msg} {s : State} (h0 : Memory.wf s.dram.mem = true) :
    Memory.wf (bodySeamCompare m s).state.dram.mem = true := by
  unfold bodySeamCompare; try dsimp only
  repeat' first
    | with_reducible assumption
    | with_reducible refine k_done_ite ?_ ?_
    | with_reducible refine badParam_keeps ?_
    | with_reducible refine State.startJob_keeps ?_
    | with_reducible refine needZero_keeps ?_ ?_
    | with_reducible refine outOfRange_keeps ?_
    | split

theorem cmdSeamCompare_keeps : CmdKeeps cmdSeamCompare := fun _ _ h => bodySeamCompare_keeps h
theorem execSeamCompare_keeps {m : Msg} {s : State} (h0 : Memory.wf s.dram.mem = true) :
    OutKeeps (execSeamCompare m s) := runCommand_keeps cmdSeamCompare_keeps h0

theorem bodySeamCheck_keeps {m : Msg} {s : State} (h0 : Memory.wf s.dram.mem = true) :
    Memory.wf (bodySeamCheck m s).state.dram.mem = true := by
  unfold bodySeamCheck; try dsimp only
  repeat' first
    | with_reducible assumption
    | with_reducible refine badParam_keeps ?_
    | with_reducible refine State.startJob_keeps ?_
    | split

theorem cmdSeamCheck_keeps : CmdKeeps cmdSeamCheck := fun _ _ h => bodySeamCheck_keeps h
theorem execSeamCheck_keeps {m : Msg} {s : State} (h0 : Memory.wf s.dram.mem = true) :
    OutKeeps (execSeamCheck m s) := runCommand_keeps cmdSeamCheck_keeps h0

theorem bodySeamRetire_keeps {m : Msg} {s : State} (h0 : Memory.wf s.dram.mem = true) :
    Memory.wf (bodySeamRetire m s).state.dram.mem = true := by
  unfold bodySeamRetire; try dsimp only
  repeat' first
    | with_reducible assumption
    | with_reducible refine k_done_ite ?_ ?_
    | with_reducible refine badParam_keeps ?_
    | with_reducible refine ok_keeps ?_
    | with_reducible refine State.retireSeam_keeps ?_
    | split

theorem cmdSeamRetire_keeps : CmdKeeps cmdSeamRetire := fun _ _ h => bodySeamRetire_keeps h
theorem execSeamRetire_keeps {m : Msg} {s : State} (h0 : Memory.wf s.dram.mem = true) :
    OutKeeps (execSeamRetire m s) := runCommand_keeps cmdSeamRetire_keeps h0

theorem bodySeamSwapRoot_keeps {m : Msg} {s : State} (h0 : Memory.wf s.dram.mem = true) :
    Memory.wf (bodySeamSwapRoot m s).state.dram.mem = true := by
  unfold bodySeamSwapRoot; try dsimp only
  repeat' first
    | with_reducible assumption
    | with_reducible refine k_done_ite ?_ ?_
    | with_reducible refine badParam_keeps ?_
    | with_reducible refine outOfRange_keeps ?_
    | with_reducible refine ok_keeps ?_
    | split

theorem cmdSeamSwapRoot_keeps : CmdKeeps cmdSeamSwapRoot := fun _ _ h => bodySeamSwapRoot_keeps h
theorem execSeamSwapRoot_keeps {m : Msg} {s : State} (h0 : Memory.wf s.dram.mem = true) :
    OutKeeps (execSeamSwapRoot m s) := runCommand_keeps cmdSeamSwapRoot_keeps h0

theorem bodySeamInfo_keeps {m : Msg} {s : State} (h0 : Memory.wf s.dram.mem = true) :
    Memory.wf (bodySeamInfo m s).state.dram.mem = true := by
  unfold bodySeamInfo; try dsimp only
  repeat' first
    | with_reducible assumption
    | with_reducible refine k_done_ite ?_ ?_
    | with_reducible refine badParam_keeps ?_
    | with_reducible refine needZero_keeps ?_ ?_
    | with_reducible refine ok_keeps ?_
    | with_reducible refine outOfRange_keeps ?_
    | split

theorem cmdSeamInfo_keeps : CmdKeeps cmdSeamInfo := fun _ _ h => bodySeamInfo_keeps h
theorem execSeamInfo_keeps {m : Msg} {s : State} (h0 : Memory.wf s.dram.mem = true) :
    OutKeeps (execSeamInfo m s) := runCommand_keeps cmdSeamInfo_keeps h0

theorem State.setPlan_keeps {s : State} {plan : List (Nat × Nat)} (h0 : Memory.wf s.dram.mem = true) :
    Memory.wf (State.setPlan s plan).dram.mem = true := by
  unfold State.setPlan; try dsimp only
  assumption

theorem bodySecureMemPlan_keeps {m : Msg} {s : State} (h0 : Memory.wf s.dram.mem = true) :
    Memory.wf (bodySecureMemPlan m s).state.dram.mem = true := by
  unfold bodySecureMemPlan; try dsimp only
  repeat' first
    | with_reducible assumption
    | with_reducible refine k_done_ite ?_ ?_
    | with_reducible refine badParam_keeps ?_
    | with_reducible refine needZero_keeps ?_ ?_
    | with_reducible refine outOfRange_keeps ?_
    | with_reducible refine State.setPlan_keeps ?_
    | with_reducible refine State.clearLive_keeps ?_
    | with_reducible refine ok_keeps ?_
    | split

theorem cmdSecureMemPlan_keeps : CmdKeeps cmdSecureMemPlan := fun _ _ h => bodySecureMemPlan_keeps h
theorem execSecureMemPlan_keeps {m : Msg} {s : State} (h0 : Memory.wf s.dram.mem = true) :
    OutKeeps (execSecureMemPlan m s) := runCommand_keeps cmdSecureMemPlan_keeps h0

theorem State.applyGrowth_keeps {s : State} (h0 : Memory.wf s.dram.mem = true) : Memory.wf (State.applyGrowth s).dram.mem = true := by
  unfold State.applyGrowth; try dsimp only
  repeat' first
    | with_reducible assumption
    | with_reducible refine State.newSeam_keeps ?_
    | with_reducible refine k_foldl ?_ (fun _ _ _ => ?_)
    | with_reducible refine k_foldl2 ?_ (fun _ _ _ => ?_)
    | split

theorem State.dropGrowth_keeps {s : State} (h0 : Memory.wf s.dram.mem = true) : Memory.wf (State.dropGrowth s).dram.mem = true := by
  unfold State.dropGrowth; try dsimp only
  repeat' first | with_reducible assumption | with_reducible refine k_foldl ?_ (fun _ _ _ => ?_)

theorem execFreeTileClear_keeps {s : State} (h0 : Memory.wf s.dram.mem = true) : OutKeeps (execFreeTileClear s) := by
  unfold execFreeTileClear; try dsimp only
  repeat' first
    | with_reducible assumption
    | with_reducible refine k_out_ite ?_ ?_
    | with_reducible refine done_keeps ?_ ?_
    | with_reducible refine State.addFree_keeps ?_
    | with_reducible refine State.clearRun_keeps ?_
    | with_reducible refine k_next ?_
    | split

theorem compareCells_keeps {hurt : Upsets} {pattern : Bytes} {x2 : List (Bool × Nat)} {x3 : List (Option (Bool × Nat))} {x4 : State} {x5 : JobTally} (h0 : Memory.wf x4.dram.mem = true) :
    Memory.wf (compareCells hurt pattern x2 x3 x4 x5).2.dram.mem = true := by
  induction x2 generalizing x3 x4 x5 with
  | nil =>
    unfold compareCells; try dsimp only
    assumption
  | cons a l ih =>
    unfold compareCells; try dsimp only
    repeat' first | with_reducible assumption | with_reducible apply ih | with_reducible refine State.readCell_keeps ?_ | split

theorem State.loseChannel_keeps {s : State} {c : Nat} {source : Nat} {cause : Nat} (h0 : Memory.wf s.dram.mem = true) :
    Memory.wf (State.loseChannel s c source cause).dram.mem = true := by
  unfold State.loseChannel; try dsimp only
  repeat' first | with_reducible assumption | with_reducible refine State.logError_keeps ?_

theorem State.buildRegions_keeps {s : State} {plan : List (Nat × Nat)} (h0 : Memory.wf s.dram.mem = true) :
    Memory.wf (State.buildRegions s plan).dram.mem = true := h0

theorem State.retryQuarantine_keeps {s : State} (h0 : Memory.wf s.dram.mem = true) :
    Memory.wf (State.retryQuarantine s).dram.mem = true := by
  unfold State.retryQuarantine; try dsimp only
  repeat' first
    | with_reducible assumption
    | with_reducible refine k_ite ?_ ?_
    | with_reducible refine State.queueWrite_keeps ?_
    | with_reducible refine k_foldl ?_ (fun _ _ _ => ?_)

theorem execWriteBatchIssue_keeps {channel : Nat} {s : State} (h0 : Memory.wf s.dram.mem = true) :
    OutKeeps (execWriteBatchIssue channel s) := by
  unfold execWriteBatchIssue; try dsimp only
  repeat' first
    | with_reducible assumption
    | with_reducible refine k_out_ite ?_ ?_
    | with_reducible refine State.issueBatch_keeps ?_
    | with_reducible refine done_keeps ?_ ?_
    | with_reducible refine State.retryQuarantine_keeps ?_
    | with_reducible refine k_next ?_

theorem execRefreshBanks_keeps {s : State} (h0 : Memory.wf s.dram.mem = true) : OutKeeps (execRefreshBanks s) := by
  unfold execRefreshBanks; try dsimp only
  repeat' first
    | with_reducible assumption
    | with_reducible refine k_out_ite ?_ ?_
    | with_reducible refine State.memCount_keeps ?_
    | with_reducible refine done_keeps ?_ ?_
    | with_reducible refine k_next ?_

theorem execChannelLost_keeps {channel : Nat} {s : State} (h0 : Memory.wf s.dram.mem = true) : OutKeeps (execChannelLost channel s) := by
  unfold execChannelLost; try dsimp only
  repeat' first
    | with_reducible assumption
    | with_reducible refine k_ite ?_ ?_
    | with_reducible refine k_out_ite ?_ ?_
    | with_reducible refine State.loseChannel_keeps ?_
    | with_reducible refine State.setFault_keeps ?_
    | with_reducible refine State.lifeCount_keeps ?_
    | with_reducible refine done_keeps ?_ ?_
    | with_reducible refine State.raiseCause_keeps ?_
    | with_reducible refine k_next ?_
    | split

theorem fillCells_keeps {pattern : Bytes} {x1 : List (Bool × Nat)} {x2 : State} (h0 : Memory.wf x2.dram.mem = true) :
    Memory.wf (fillCells pattern x1 x2).dram.mem = true := by
  induction x1 generalizing x2 with
  | nil =>
    unfold fillCells; try dsimp only
    assumption
  | cons a l ih =>
    unfold fillCells; try dsimp only
    repeat' first
      | with_reducible assumption
      | with_reducible refine k_ite ?_ ?_
      | with_reducible apply ih
      | with_reducible refine State.putTile_keeps ?_

theorem checkCells_keeps {hurt : Upsets} {x1 : List (Bool × Nat)} {x2 : State} {x3 : JobTally} (h0 : Memory.wf x2.dram.mem = true) :
    Memory.wf (checkCells hurt x1 x2 x3).2.dram.mem = true := by
  induction x1 generalizing x2 x3 with
  | nil =>
    unfold checkCells; try dsimp only
    assumption
  | cons a l ih =>
    unfold checkCells; try dsimp only
    repeat' first | with_reducible assumption | with_reducible apply ih | with_reducible refine State.readCell_keeps ?_

theorem State.runJob_keeps {s : State} {x : Job} {hurt : Upsets} (h0 : Memory.wf s.dram.mem = true) :
    Memory.wf (State.runJob s x hurt).2.dram.mem = true := by
  unfold State.runJob; try dsimp only
  repeat' first
    | with_reducible assumption
    | with_reducible refine fillCells_keeps ?_
    | with_reducible refine compareCells_keeps ?_
    | with_reducible refine checkCells_keeps ?_
    | split

theorem execSeamJobComplete_keeps {job : Nat} {hurt : Upsets} {s : State} (h0 : Memory.wf s.dram.mem = true) :
    OutKeeps (execSeamJobComplete job hurt s) := by
  unfold execSeamJobComplete; try dsimp only
  repeat' first
    | with_reducible assumption
    | with_reducible refine k_out_ite ?_ ?_
    | with_reducible refine State.runJob_keeps ?_
    | with_reducible refine State.upset_keeps ?_
    | with_reducible refine State.setJob_keeps ?_
    | with_reducible refine done_keeps ?_ ?_
    | with_reducible refine State.finishWork_keeps ?_
    | with_reducible refine k_next ?_

theorem State.stageParse_keeps {s : State} {f : ParseGraph → ParseGraph} (h0 : Memory.wf s.dram.mem = true) :
    Memory.wf (State.stageParse s f).dram.mem = true := by
  unfold State.stageParse; try dsimp only
  repeat' first | with_reducible assumption | with_reducible refine State.stageWith_keeps ?_

theorem recParseNodeWrite_keeps {m : Msg} {s : State} {b : Bytes} {base : Nat} (h0 : Memory.wf s.dram.mem = true) :
    RecKeeps (recParseNodeWrite m s b base) := by
  unfold recParseNodeWrite; try dsimp only
  repeat' first
    | with_reducible assumption
    | with_reducible refine k_rec_ite ?_ ?_
    | with_reducible refine noStage_keeps
    | with_reducible refine State.stageParse_keeps ?_
    | with_reducible exact k_refuse
    | with_reducible refine k_ok ?_
    | split

theorem cmdParseNodeWrite_keeps : CmdKeeps cmdParseNodeWrite := fun _ _ h => records_keeps (fun _ _ _ h => recParseNodeWrite_keeps h) h
theorem execParseNodeWrite_keeps {m : Msg} {s : State} (h0 : Memory.wf s.dram.mem = true) :
    OutKeeps (execParseNodeWrite m s) := runCommand_keeps cmdParseNodeWrite_keeps h0

theorem recParseNodeRead_keeps {m : Msg} {s : State} {b : Bytes} {base : Nat} (h0 : Memory.wf s.dram.mem = true) :
    RecKeeps (recParseNodeRead m s b base) := by
  unfold recParseNodeRead; try dsimp only
  repeat' first | with_reducible assumption | with_reducible refine recZero_keeps ?_ | with_reducible refine k_ok ?_

theorem cmdParseNodeRead_keeps : CmdKeeps cmdParseNodeRead := fun _ _ h => records_keeps (fun _ _ _ h => recParseNodeRead_keeps h) h
theorem execParseNodeRead_keeps {m : Msg} {s : State} (h0 : Memory.wf s.dram.mem = true) :
    OutKeeps (execParseNodeRead m s) := runCommand_keeps cmdParseNodeRead_keeps h0

theorem bodyParseLimits_keeps {m : Msg} {s : State} (h0 : Memory.wf s.dram.mem = true) :
    Memory.wf (bodyParseLimits m s).state.dram.mem = true := by
  unfold bodyParseLimits; try dsimp only
  repeat' first
    | with_reducible assumption
    | with_reducible refine k_done_ite ?_ ?_
    | with_reducible refine badParam_keeps ?_
    | with_reducible refine needZero_keeps ?_ ?_
    | with_reducible refine ok_keeps ?_
    | with_reducible refine refuse_keeps ?_
    | with_reducible refine outOfRange_keeps ?_
    | with_reducible refine State.stageParse_keeps ?_

theorem cmdParseLimits_keeps : CmdKeeps cmdParseLimits := fun _ _ h => bodyParseLimits_keeps h
theorem execParseLimits_keeps {m : Msg} {s : State} (h0 : Memory.wf s.dram.mem = true) :
    OutKeeps (execParseLimits m s) := runCommand_keeps cmdParseLimits_keeps h0

theorem parseLoadSeam_keeps {m : Msg} {s : State} (h0 : Memory.wf s.dram.mem = true) :
    Memory.wf (parseLoadSeam m s).state.dram.mem = true := by
  unfold parseLoadSeam; try dsimp only
  repeat' first
    | with_reducible assumption
    | with_reducible refine k_done_ite ?_ ?_
    | with_reducible refine badParam_keeps ?_
    | with_reducible refine outOfRange_keeps ?_
    | with_reducible refine State.newTask_keeps ?_
    | with_reducible refine refuse_keeps ?_
    | with_reducible refine ok_keeps ?_
    | with_reducible refine k_opt2 (by with_reducible assumption) ?_
    | split

theorem bodyParseGraphLoad_keeps {m : Msg} {s : State} (h0 : Memory.wf s.dram.mem = true) :
    Memory.wf (bodyParseGraphLoad m s).state.dram.mem = true := by
  unfold bodyParseGraphLoad; try dsimp only
  repeat' first
    | with_reducible assumption
    | with_reducible refine k_done_ite ?_ ?_
    | with_reducible refine badParam_keeps ?_
    | with_reducible refine needZero_keeps ?_ ?_
    | with_reducible refine ok_keeps ?_
    | with_reducible refine refuse_keeps ?_
    | with_reducible refine State.stageParse_keeps ?_
    | with_reducible refine parseLoadSeam_keeps ?_

theorem cmdParseGraphLoad_keeps : CmdKeeps cmdParseGraphLoad := fun _ _ h => bodyParseGraphLoad_keeps h
theorem execParseGraphLoad_keeps {m : Msg} {s : State} (h0 : Memory.wf s.dram.mem = true) :
    OutKeeps (execParseGraphLoad m s) := runCommand_keeps cmdParseGraphLoad_keeps h0

theorem bodyParseCounters_keeps {m : Msg} {s : State} (h0 : Memory.wf s.dram.mem = true) :
    Memory.wf (bodyParseCounters m s).state.dram.mem = true := by
  unfold bodyParseCounters; try dsimp only
  repeat' first
    | with_reducible assumption
    | with_reducible refine k_ite ?_ ?_
    | with_reducible refine k_done_ite ?_ ?_
    | with_reducible refine badParam_keeps ?_
    | with_reducible refine needZero_keeps ?_ ?_
    | with_reducible refine ok_keeps ?_

theorem cmdParseCounters_keeps : CmdKeeps cmdParseCounters := fun _ _ h => bodyParseCounters_keeps h
theorem execParseCounters_keeps {m : Msg} {s : State} (h0 : Memory.wf s.dram.mem = true) :
    OutKeeps (execParseCounters m s) := runCommand_keeps cmdParseCounters_keeps h0

theorem State.nodeCount_keeps {s : State} {n : Nat} {i : Nat} (h0 : Memory.wf s.dram.mem = true) :
    Memory.wf (State.nodeCount s n i).dram.mem = true := h0

theorem State.parseCount_keeps {s : State} {pipe : Bool} {i : Nat} (h0 : Memory.wf s.dram.mem = true) :
    Memory.wf (State.parseCount s pipe i).dram.mem = true := h0

theorem loadNodes_keeps {m : Msg} {s : State} (h0 : Memory.wf s.dram.mem = true) : Memory.wf (loadNodes m s).state.dram.mem = true := by
  unfold loadNodes; try dsimp only
  repeat' first
    | with_reducible assumption
    | with_reducible refine badParam_keeps ?_
    | with_reducible refine readCells_keeps ?_
    | with_reducible refine refuse_keeps ?_
    | with_reducible refine ok_keeps ?_
    | with_reducible refine State.stageParse_keeps ?_
    | split

theorem State.walkCounts_keeps {s : State} {pipe : Bool} {w : Walk} (h0 : Memory.wf s.dram.mem = true) :
    Memory.wf (State.walkCounts s pipe w).dram.mem = true := by
  unfold State.walkCounts; try dsimp only
  repeat' first
    | with_reducible assumption
    | with_reducible refine State.nodeCount_keeps ?_
    | with_reducible refine State.parseCount_keeps ?_
    | with_reducible refine k_foldl ?_ (fun _ _ _ => ?_)

theorem State.newSource_keeps {s : State} {ts : List Nat} (h0 : Memory.wf s.dram.mem = true) :
    Memory.wf (State.newSource s ts).2.dram.mem = true := by
  unfold State.newSource; try dsimp only
  repeat' first
    | with_reducible assumption
    | with_reducible refine k_pair_ite ?_ ?_
    | with_reducible refine State.newSeam_keeps ?_

theorem State.cowPlace_keeps {x : RuleTable × State} {p : Nat} (h0 : Memory.wf x.2.dram.mem = true) :
    Memory.wf (State.cowPlace x p).2.dram.mem = true := by
  unfold State.cowPlace; try dsimp only
  repeat' first | with_reducible assumption | with_reducible refine k_pair_ite ?_ ?_ | split

theorem State.cowRoot_keeps {s : State} {t : RuleTable} (h0 : Memory.wf s.dram.mem = true) :
    Memory.wf (State.cowRoot s t).2.dram.mem = true := by
  unfold State.cowRoot; try dsimp only
  repeat' first
    | with_reducible assumption
    | with_reducible refine k_pair_ite ?_ ?_
    | with_reducible refine State.newSeam_keeps ?_
    | split

theorem State.editStore_keeps {s : State} {t : RuleTable} {i : Nat} {r : Bytes} {rules : List Bytes} (h0 : Memory.wf s.dram.mem = true) :
    Memory.wf (State.editStore s t i r rules).2.dram.mem = true := by
  unfold State.editStore; try dsimp only
  repeat' first
    | with_reducible assumption
    | with_reducible refine State.cowPlace_keeps ?_
    | with_reducible refine State.cowRoot_keeps ?_

theorem State.settleRules_keeps {s : State} (h0 : Memory.wf s.dram.mem = true) : Memory.wf (State.settleRules s).dram.mem = true := by
  unfold State.settleRules; try dsimp only
  repeat' first
    | with_reducible assumption
    | with_reducible refine State.releaseRun_keeps ?_
    | with_reducible refine k_foldl ?_ (fun _ _ _ => ?_)

theorem State.stageRule_keeps {s : State} {t : Nat} {x : RuleTable} (h0 : Memory.wf s.dram.mem = true) :
    Memory.wf (State.stageRule s t x).dram.mem = true := h0

theorem State.deleteRule_keeps {s : State} {t : Nat} {x : RuleTable} {i : Nat} (h0 : Memory.wf s.dram.mem = true) :
    RecKeeps (State.deleteRule s t x i) := by
  unfold State.deleteRule; try dsimp only
  repeat' first
    | with_reducible assumption
    | with_reducible refine k_rec_ite ?_ ?_
    | with_reducible refine State.newSource_keeps ?_
    | with_reducible refine State.editStore_keeps ?_
    | with_reducible refine State.cowRoot_keeps ?_
    | with_reducible refine State.settleRules_keeps ?_
    | with_reducible refine State.stageRule_keeps ?_
    | with_reducible exact k_refuse
    | with_reducible refine k_ok ?_

theorem State.takeTiles_keeps {s : State} {n : Nat} (h0 : Memory.wf s.dram.mem = true) : OptKeeps (·.2) (State.takeTiles s n) := by
  unfold State.takeTiles; try dsimp only
  repeat' first
    | with_reducible assumption
    | with_reducible refine k_opt_ite ?_ ?_
    | with_reducible refine k_some ?_
    | with_reducible refine k_map (fun _ => ?_)

theorem State.putRule_keeps {s : State} {a : Nat} {b : Nat} {r : Bytes} (h0 : Memory.wf s.dram.mem = true) :
    Memory.wf (State.putRule s a b r).dram.mem = true := by
  unfold State.putRule; try dsimp only
  repeat' first | with_reducible assumption | with_reducible refine State.putTile_keeps ?_

theorem State.insertRule_keeps {s : State} {t : Nat} {x : RuleTable} {r : Bytes} (h0 : Memory.wf s.dram.mem = true) :
    RecKeeps (State.insertRule s t x r) := by
  unfold State.insertRule; try dsimp only
  repeat' first
    | with_reducible assumption
    | with_reducible refine k_rec_ite ?_ ?_
    | with_reducible refine k_opt_ite ?_ ?_
    | with_reducible refine k_some ?_
    | with_reducible refine State.takeTiles_keeps ?_
    | with_reducible refine State.newSource_keeps ?_
    | with_reducible refine State.putRule_keeps ?_
    | with_reducible refine State.editStore_keeps ?_
    | with_reducible refine State.settleRules_keeps ?_
    | with_reducible refine State.stageRule_keeps ?_
    | with_reducible exact k_refuse
    | with_reducible refine k_ok ?_
    | with_reducible refine k_opt2 (by with_reducible assumption) ?_
    | split

theorem recRuleLoad_keeps {m : Msg} {s : State} {b : Bytes} {base : Nat} (h0 : Memory.wf s.dram.mem = true) :
    RecKeeps (recRuleLoad m s b base) := by
  unfold recRuleLoad; try dsimp only
  repeat' first
    | with_reducible assumption
    | with_reducible refine k_rec_ite ?_ ?_
    | with_reducible refine noStage_keeps
    | with_reducible refine recZero_keeps ?_
    | with_reducible refine State.deleteRule_keeps ?_
    | with_reducible refine State.insertRule_keeps ?_
    | with_reducible exact k_refuse
    | split

theorem cmdRuleLoad_keeps : CmdKeeps cmdRuleLoad := fun _ _ h => records_keeps (fun _ _ _ h => recRuleLoad_keeps h) h
theorem execRuleLoad_keeps {m : Msg} {s : State} (h0 : Memory.wf s.dram.mem = true) :
    OutKeeps (execRuleLoad m s) := runCommand_keeps cmdRuleLoad_keeps h0

theorem State.setBuild_keeps {s : State} {t : Nat} {b : Build} (h0 : Memory.wf s.dram.mem = true) :
    Memory.wf (State.setBuild s t b).dram.mem = true := by
  unfold State.setBuild; try dsimp only
  assumption

theorem State.startBuild_keeps {s : State} {m : Msg} {list : Option Nat} (h0 : Memory.wf s.dram.mem = true) :
    Memory.wf (State.startBuild s m list).state.dram.mem = true := by
  unfold State.startBuild
  dsimp only
  split
  · exact refuse_keeps h0
  · refine k_done_ite (refuse_keeps h0) ?_
    split
    · exact refuse_keeps h0
    · rename_i s1 e
      have h1 : Memory.wf s1.dram.mem = true := k_opt e (State.newTasks_keeps h0)
      exact ok_keeps h1

theorem bodyRuleBuild_keeps {m : Msg} {s : State} (h0 : Memory.wf s.dram.mem = true) :
    Memory.wf (bodyRuleBuild m s).state.dram.mem = true := by
  unfold bodyRuleBuild; try dsimp only
  repeat' first
    | with_reducible assumption
    | with_reducible refine k_done_ite ?_ ?_
    | with_reducible refine refuse_keeps ?_
    | with_reducible refine badParam_keeps ?_
    | with_reducible refine ok_keeps ?_
    | with_reducible refine State.settleRules_keeps ?_
    | with_reducible refine State.stageWith_keeps ?_
    | with_reducible refine outOfRange_keeps ?_
    | with_reducible refine State.startBuild_keeps ?_
    | split

theorem cmdRuleBuild_keeps : CmdKeeps cmdRuleBuild := fun _ _ h => bodyRuleBuild_keeps h
theorem execRuleBuild_keeps {m : Msg} {s : State} (h0 : Memory.wf s.dram.mem = true) :
    OutKeeps (execRuleBuild m s) := runCommand_keeps cmdRuleBuild_keeps h0

theorem bodyRuleBuildStatus_keeps {m : Msg} {s : State} (h0 : Memory.wf s.dram.mem = true) :
    Memory.wf (bodyRuleBuildStatus m s).state.dram.mem = true := by
  unfold bodyRuleBuildStatus; try dsimp only
  repeat' first
    | with_reducible assumption
    | with_reducible refine k_done_ite ?_ ?_
    | with_reducible refine badParam_keeps ?_
    | with_reducible refine needZero_keeps ?_ ?_
    | with_reducible refine ok_keeps ?_

theorem cmdRuleBuildStatus_keeps : CmdKeeps cmdRuleBuildStatus := fun _ _ h => bodyRuleBuildStatus_keeps h
theorem execRuleBuildStatus_keeps {m : Msg} {s : State} (h0 : Memory.wf s.dram.mem = true) :
    OutKeeps (execRuleBuildStatus m s) := runCommand_keeps cmdRuleBuildStatus_keeps h0

theorem bodyRuleRead_keeps {m : Msg} {s : State} (h0 : Memory.wf s.dram.mem = true) :
    Memory.wf (bodyRuleRead m s).state.dram.mem = true := by
  unfold bodyRuleRead; try dsimp only
  repeat' first
    | with_reducible assumption
    | with_reducible refine k_done_ite ?_ ?_
    | with_reducible refine badParam_keeps ?_
    | with_reducible refine outOfRange_keeps ?_
    | with_reducible refine needZero_keeps ?_ ?_
    | with_reducible refine ok_keeps ?_
    | split

theorem cmdRuleRead_keeps : CmdKeeps cmdRuleRead := fun _ _ h => bodyRuleRead_keeps h
theorem execRuleRead_keeps {m : Msg} {s : State} (h0 : Memory.wf s.dram.mem = true) :
    OutKeeps (execRuleRead m s) := runCommand_keeps cmdRuleRead_keeps h0

theorem bodyRuleDefault_keeps {m : Msg} {s : State} (h0 : Memory.wf s.dram.mem = true) :
    Memory.wf (bodyRuleDefault m s).state.dram.mem = true := by
  unfold bodyRuleDefault; try dsimp only
  repeat' first
    | with_reducible assumption
    | with_reducible refine k_done_ite ?_ ?_
    | with_reducible refine refuse_keeps ?_
    | with_reducible refine badParam_keeps ?_
    | with_reducible refine needZero_keeps ?_ ?_
    | with_reducible refine outOfRange_keeps ?_
    | with_reducible refine ok_keeps ?_
    | with_reducible refine State.stageRule_keeps ?_
    | split

theorem cmdRuleDefault_keeps : CmdKeeps cmdRuleDefault := fun _ _ h => bodyRuleDefault_keeps h
theorem execRuleDefault_keeps {m : Msg} {s : State} (h0 : Memory.wf s.dram.mem = true) :
    OutKeeps (execRuleDefault m s) := runCommand_keeps cmdRuleDefault_keeps h0

theorem ruleCountersFrom_keeps {s : State} {m : Msg} (h0 : Memory.wf s.dram.mem = true) :
    Memory.wf (ruleCountersFrom s m).state.dram.mem = true := by
  unfold ruleCountersFrom; try dsimp only
  repeat' first | with_reducible assumption | with_reducible refine k_ite ?_ ?_ | with_reducible refine ok_keeps ?_

theorem bodyRuleCounters_keeps {m : Msg} {s : State} (h0 : Memory.wf s.dram.mem = true) :
    Memory.wf (bodyRuleCounters m s).state.dram.mem = true := by
  unfold bodyRuleCounters; try dsimp only
  repeat' first
    | with_reducible assumption
    | with_reducible refine k_ite ?_ ?_
    | with_reducible refine k_done_ite ?_ ?_
    | with_reducible refine badParam_keeps ?_
    | with_reducible refine outOfRange_keeps ?_
    | with_reducible refine ruleCountersFrom_keeps ?_
    | with_reducible refine needZero_keeps ?_ ?_
    | with_reducible refine ok_keeps ?_

theorem cmdRuleCounters_keeps : CmdKeeps cmdRuleCounters := fun _ _ h => bodyRuleCounters_keeps h
theorem execRuleCounters_keeps {m : Msg} {s : State} (h0 : Memory.wf s.dram.mem = true) :
    OutKeeps (execRuleCounters m s) := runCommand_keeps cmdRuleCounters_keeps h0

theorem bodyRecircConfig_keeps {m : Msg} {s : State} (h0 : Memory.wf s.dram.mem = true) :
    Memory.wf (bodyRecircConfig m s).state.dram.mem = true := by
  unfold bodyRecircConfig; try dsimp only
  repeat' first
    | with_reducible assumption
    | with_reducible refine k_done_ite ?_ ?_
    | with_reducible refine badParam_keeps ?_
    | with_reducible refine needZero_keeps ?_ ?_
    | with_reducible refine ok_keeps ?_
    | with_reducible refine refuse_keeps ?_
    | with_reducible refine outOfRange_keeps ?_
    | with_reducible refine State.stageWith_keeps ?_

theorem cmdRecircConfig_keeps : CmdKeeps cmdRecircConfig := fun _ _ h => bodyRecircConfig_keeps h
theorem execRecircConfig_keeps {m : Msg} {s : State} (h0 : Memory.wf s.dram.mem = true) :
    OutKeeps (execRecircConfig m s) := runCommand_keeps cmdRecircConfig_keeps h0

theorem State.applyBuilds_keeps {s : State} (h0 : Memory.wf s.dram.mem = true) : Memory.wf (State.applyBuilds s).dram.mem = true := h0

theorem State.endBuild_keeps {s : State} {t : Nat} {b : Build} (h0 : Memory.wf s.dram.mem = true) :
    Memory.wf (State.endBuild s t b).dram.mem = true := by
  unfold State.endBuild; try dsimp only
  repeat' first
    | with_reducible assumption
    | with_reducible refine k_ite ?_ ?_
    | with_reducible refine State.setBuild_keeps ?_
    | with_reducible refine State.dropWork_keeps ?_
    | with_reducible refine State.finishWork_keeps ?_

theorem State.abandonBuilds_keeps {s : State} (h0 : Memory.wf s.dram.mem = true) : Memory.wf (State.abandonBuilds s).dram.mem = true := by
  unfold State.abandonBuilds; try dsimp only
  repeat' first
    | with_reducible assumption
    | with_reducible refine k_ite ?_ ?_
    | with_reducible refine State.endBuild_keeps ?_
    | with_reducible refine State.setBuild_keeps ?_
    | with_reducible refine k_foldl ?_ (fun _ _ _ => ?_)

theorem State.rulePipeCount_keeps {s : State} {pipe : Bool} {i : Nat} (h0 : Memory.wf s.dram.mem = true) :
    Memory.wf (State.rulePipeCount s pipe i).dram.mem = true := h0

theorem State.ruleTableCount_keeps {s : State} {t : Nat} {i : Nat} (h0 : Memory.wf s.dram.mem = true) :
    Memory.wf (State.ruleTableCount s t i).dram.mem = true := h0

theorem State.ruleCount_keeps {s : State} {table : Nat} {r : Bytes} {len : Nat} (h0 : Memory.wf s.dram.mem = true) :
    Memory.wf (State.ruleCount s table r len).dram.mem = true := by
  unfold State.ruleCount; try dsimp only
  repeat' first | with_reducible assumption | with_reducible refine k_ite ?_ ?_

theorem State.lookup_keeps {s : State} {table : Nat} {t : RuleTable} {mv : Bytes} {len : Nat} (h0 : Memory.wf s.dram.mem = true) :
    Memory.wf (State.lookup s table t mv len).2.dram.mem = true := by
  unfold State.lookup; try dsimp only
  repeat' first
    | with_reducible assumption
    | with_reducible refine k_pair_ite ?_ ?_
    | with_reducible refine State.ruleTableCount_keeps ?_
    | with_reducible refine State.ruleCount_keeps ?_
    | split

theorem runLookups_keeps {mv : Bytes} {len : Nat} {x2 : List (Nat × RuleTable)} {x3 : State} (h0 : Memory.wf x3.dram.mem = true) :
    Memory.wf (runLookups mv len x2 x3).2.dram.mem = true := by
  induction x2 generalizing x3 with
  | nil =>
    unfold runLookups; try dsimp only
    assumption
  | cons a l ih =>
    unfold runLookups; try dsimp only
    repeat' first | with_reducible assumption | with_reducible apply ih | with_reducible refine State.lookup_keeps ?_

theorem State.addOctets_keeps {s : State} {keys : List Nat} {len : Nat} (h0 : Memory.wf s.dram.mem = true) :
    Memory.wf (State.addOctets s keys len).dram.mem = true := by
  unfold State.addOctets; try dsimp only
  repeat' first | with_reducible assumption | with_reducible refine k_foldl ?_ (fun _ _ _ => ?_) | split

theorem State.failBuild_keeps {s : State} {t : Nat} {b : Build} {reason : Nat} {ordinal : Option Nat} {checked : Nat} (h0 : Memory.wf s.dram.mem = true) :
    Memory.wf (State.failBuild s t b reason ordinal checked).dram.mem = true := by
  unfold State.failBuild; try dsimp only
  repeat' first
    | with_reducible assumption
    | with_reducible refine State.settleRules_keeps ?_
    | with_reducible refine State.endBuild_keeps ?_

theorem putRules_keeps {x0 : List Nat} {x1 : List Bytes} {x2 : State} (h0 : Memory.wf x2.dram.mem = true) :
    Memory.wf (putRules x0 x1 x2).dram.mem = true :=
  match x0, x1 with
  | a :: b :: ts, r :: rs => putRules_keeps (x0 := ts) (x1 := rs) (x2 := x2.putRule a b r) (State.putRule_keeps h0)
  | [], _ => by unfold putRules; exact h0
  | [_], _ => by unfold putRules; exact h0
  | _ :: _ :: _, [] => by unfold putRules; exact h0
termination_by structural x1

theorem State.stageBuild_keeps {s : State} {t : Nat} {b : Build} {p : RuleTable} {rules : List Bytes} (h0 : Memory.wf s.dram.mem = true) :
    Memory.wf (State.stageBuild s t b p rules).dram.mem = true := by
  unfold State.stageBuild; try dsimp only
  repeat' first
    | with_reducible assumption
    | with_reducible refine k_ite ?_ ?_
    | with_reducible refine State.takeTiles_keeps ?_
    | with_reducible refine State.failBuild_keeps ?_
    | with_reducible refine State.endBuild_keeps ?_
    | with_reducible refine State.newSource_keeps ?_
    | with_reducible refine putRules_keeps ?_
    | with_reducible refine State.settleRules_keeps ?_
    | with_reducible refine State.stageRule_keeps ?_
    | with_reducible refine k_opt2 (by with_reducible assumption) ?_
    | split

theorem execRuleBuildComplete_keeps {table : Nat} {hurt : Upsets} {s : State} (h0 : Memory.wf s.dram.mem = true) :
    OutKeeps (execRuleBuildComplete table hurt s) := by
  unfold execRuleBuildComplete; try dsimp only
  repeat' first
    | with_reducible assumption
    | with_reducible refine k_out_ite ?_ ?_
    | with_reducible refine readCells_keeps ?_
    | with_reducible refine State.upset_keeps ?_
    | with_reducible refine done_keeps ?_ ?_
    | with_reducible refine State.failBuild_keeps ?_
    | with_reducible refine State.stageBuild_keeps ?_
    | with_reducible refine k_next ?_
    | split

theorem State.mapRoot_keeps {s : State} {root : Nat} {f : RuleTable → RuleTable} (h0 : Memory.wf s.dram.mem = true) :
    Memory.wf (State.mapRoot s root f).dram.mem = true := h0

theorem State.mendTile_keeps {root : Nat} {s : State} {tile : Nat} (h0 : Memory.wf s.dram.mem = true) :
    Memory.wf (State.mendTile root s tile).dram.mem = true := by
  unfold State.mendTile; try dsimp only
  repeat' first
    | with_reducible assumption
    | with_reducible refine k_ite ?_ ?_
    | with_reducible refine State.mapRoot_keeps ?_
    | split

theorem State.rebuildRoot_keeps {s : State} {root : Nat} {bad : List Nat} (h0 : Memory.wf s.dram.mem = true) :
    Memory.wf (State.rebuildRoot s root bad).dram.mem = true := by
  unfold State.rebuildRoot; try dsimp only
  repeat' first
    | with_reducible assumption
    | with_reducible refine State.mendTile_keeps ?_
    | with_reducible refine k_foldl ?_ (fun _ _ _ => ?_)
    | split

theorem execRuleStoreRepair_keeps {tile : Nat} {s : State} (h0 : Memory.wf s.dram.mem = true) : OutKeeps (execRuleStoreRepair tile s) := by
  unfold execRuleStoreRepair; try dsimp only
  repeat' first
    | with_reducible assumption
    | with_reducible refine k_out_ite ?_ ?_
    | with_reducible refine readTiles_keeps ?_
    | with_reducible refine done_keeps ?_ ?_
    | with_reducible refine State.rebuildRoot_keeps ?_
    | with_reducible refine k_next ?_
    | split

theorem State.askRepair_keeps {s : State} {v : Staged} {idx : Nat} {key : Bytes} {stamp : W16} (h0 : Memory.wf s.dram.mem = true) :
    Memory.wf (State.askRepair s v idx key stamp).dram.mem = true := by
  unfold State.askRepair; try dsimp only
  repeat' first
    | with_reducible assumption
    | with_reducible refine k_ite ?_ ?_
    | with_reducible refine State.newTask_keeps ?_
    | with_reducible refine k_opt2 (by with_reducible assumption) ?_
    | split
    | dsimp only

theorem State.meetFault_keeps {s : State} {v : Staged} {idx : Nat} {key : Bytes} {stamp : W16} (h0 : Memory.wf s.dram.mem = true) :
    Memory.wf (State.meetFault s v idx key stamp).dram.mem = true := by
  unfold State.meetFault; try dsimp only
  repeat' first | with_reducible assumption | with_reducible refine k_ite ?_ ?_ | with_reducible refine State.askRepair_keeps ?_

theorem State.unhold_keeps {s : State} {key : Bytes} (h0 : Memory.wf s.dram.mem = true) :
    Memory.wf (State.unhold s key).dram.mem = true := by
  unfold State.unhold; try dsimp only
  repeat' first
    | with_reducible assumption
    | with_reducible refine k_ite ?_ ?_
    | with_reducible refine State.setHot_keeps ?_
    | split

theorem State.eachParked_keeps {s : State} {key : Bytes} {f : Parked → Parked} (h0 : Memory.wf s.dram.mem = true) :
    Memory.wf (State.eachParked s key f).dram.mem = true := h0

theorem State.deliver_keeps {s : State} {key : Bytes} {st : Stage} {whole : Bool} (h0 : Memory.wf s.dram.mem = true) :
    Memory.wf (State.deliver s key st whole).dram.mem = true := h0

theorem State.sendLearn_keeps {s : State} {pipe : Bool} {port : Nat} {data : Bytes} (h0 : Memory.wf s.dram.mem = true) :
    Memory.wf (State.sendLearn s pipe port data).dram.mem = true := by
  unfold State.sendLearn; try dsimp only
  repeat' first
    | with_reducible assumption
    | with_reducible refine k_ite ?_ ?_
    | with_reducible refine State.offerRing_keeps ?_
    | with_reducible refine State.notePeak_keeps ?_
    | with_reducible refine State.fwdCount_keeps ?_

theorem State.raiseLearn_keeps {s : State} {pipe : Bool} {domain : Nat} {mac : Nat} {port : Nat} {kind : Nat} (h0 : Memory.wf s.dram.mem = true) :
    Memory.wf (State.raiseLearn s pipe domain mac port kind).dram.mem = true := by
  unfold State.raiseLearn; try dsimp only
  repeat' first
    | with_reducible assumption
    | with_reducible refine k_ite ?_ ?_
    | with_reducible refine State.noteRaised_keeps ?_
    | with_reducible refine State.sendLearn_keeps ?_

theorem State.learn_keeps {s : State} {v : Staged} {p : Pkt} (h0 : Memory.wf s.dram.mem = true) :
    Memory.wf (State.learn s v p).2.dram.mem = true := by
  unfold State.learn; try dsimp only
  repeat' first
    | with_reducible assumption
    | with_reducible refine k_pair_ite ?_ ?_
    | with_reducible refine State.hitHost_keeps ?_
    | with_reducible refine State.fwdCount_keeps ?_
    | with_reducible refine State.raiseLearn_keeps ?_
    | with_reducible refine State.refreshSource_keeps ?_
    | with_reducible refine State.queueLearn_keeps ?_
    | split

theorem State.entryNow_keeps {s : State} {v : Staged} {idx : Nat} {who : Consumer} (h0 : Memory.wf s.dram.mem = true) :
    Memory.wf (State.entryNow s v idx who).2.2.dram.mem = true := by
  unfold State.entryNow; try dsimp only
  repeat' first
    | with_reducible assumption
    | with_reducible refine k_ite ?_ ?_
    | with_reducible refine State.entryRead_keeps ?_
    | with_reducible refine State.cacheLoad_keeps ?_
    | split

theorem State.countInterval_keeps {s : State} {n : Nat} {stateless : Nat} {limited : Nat} (h0 : Memory.wf s.dram.mem = true) :
    Memory.wf (State.countInterval s n stateless limited).dram.mem = true := by
  unfold State.countInterval; try dsimp only
  repeat' first | with_reducible assumption | with_reducible refine k_ite ?_ ?_

theorem State.intervalCount_keeps {s : State} {sub : Option Nat} {stateless : Nat} {limited : Nat} (h0 : Memory.wf s.dram.mem = true) :
    Memory.wf (State.intervalCount s sub stateless limited).dram.mem = true := by
  unfold State.intervalCount; try dsimp only
  repeat' first
    | with_reducible assumption
    | with_reducible refine k_ite ?_ ?_
    | with_reducible refine State.countInterval_keeps ?_
    | split

theorem State.updateFlow_keeps {s : State} {v : Staged} {way : Nat} {p : Pkt} (h0 : Memory.wf s.dram.mem = true) :
    Memory.wf (State.updateFlow s v way p).dram.mem = true := by
  unfold State.updateFlow; try dsimp only
  repeat' first
    | with_reducible assumption
    | with_reducible refine k_ite ?_ ?_
    | with_reducible refine State.setHot_keeps ?_
    | with_reducible refine State.flowDev_keeps ?_
    | with_reducible refine State.askSample_keeps ?_
    | split

theorem State.member_keeps {s : State} {v : Staged} {b : Bound} (h0 : Memory.wf s.dram.mem = true) :
    Memory.wf (State.member s v b).2.dram.mem = true := by
  unfold State.member; try dsimp only
  repeat' first
    | with_reducible assumption
    | with_reducible refine State.natCount_keeps ?_
    | with_reducible refine State.setHot_keeps ?_
    | split

theorem State.viaHop_keeps {s : State} {v : Staged} {p : Pkt} {n : Nat} {shapes : Bool} (h0 : Memory.wf s.dram.mem = true) :
    Memory.wf (State.viaHop s v p n shapes).dram.mem = true := by
  unfold State.viaHop; try dsimp only
  repeat' first
    | with_reducible assumption
    | with_reducible refine k_ite ?_ ?_
    | with_reducible refine State.fwdCount_keeps ?_
    | with_reducible refine State.toHost_keeps ?_
    | with_reducible refine State.toPort_keeps ?_
    | split

theorem State.recirculate_keeps {s : State} {v : Staged} {p : Pkt} (h0 : Memory.wf s.dram.mem = true) :
    Memory.wf (State.recirculate s v p).dram.mem = true := by
  unfold State.recirculate; try dsimp only
  repeat' first
    | with_reducible assumption
    | with_reducible refine k_ite ?_ ?_
    | with_reducible refine State.rulePipeCount_keeps ?_
    | with_reducible refine State.toHost_keeps ?_
    | with_reducible refine State.toPort_keeps ?_

theorem State.byForwarding_keeps {s : State} {v : Staged} {p : Pkt} {shapes : Bool} (h0 : Memory.wf s.dram.mem = true) :
    Memory.wf (State.byForwarding s v p shapes).dram.mem = true := by
  unfold State.byForwarding; try dsimp only
  repeat' first
    | with_reducible assumption
    | with_reducible refine State.forward_keeps ?_
    | with_reducible refine State.toPort_keeps ?_
    | with_reducible refine State.floodTo_keeps ?_
    | with_reducible refine State.viaHop_keeps ?_
    | with_reducible refine k_pair (by with_reducible assumption) ?_
    | split

theorem State.dispose_keeps {s : State} {v : Staged} {p : Pkt} {b : Bound} {mem : Option Nat} {shapes : Bool} (h0 : Memory.wf s.dram.mem = true) :
    Memory.wf (State.dispose s v p b mem shapes).dram.mem = true := by
  unfold State.dispose; try dsimp only
  repeat' first
    | with_reducible assumption
    | with_reducible refine k_ite ?_ ?_
    | with_reducible refine State.natCount_keeps ?_
    | with_reducible refine State.toPort_keeps ?_
    | with_reducible refine State.viaHop_keeps ?_
    | with_reducible refine State.recirculate_keeps ?_
    | with_reducible refine State.toHost_keeps ?_
    | with_reducible refine State.meetSub_keeps ?_
    | with_reducible refine State.byForwarding_keeps ?_
    | split

theorem State.discard_keeps {s : State} {p : Pkt} (h0 : Memory.wf s.dram.mem = true) : Memory.wf (State.discard s p).dram.mem = true := h0

theorem State.verdict_keeps {s : State} {v : Staged} {p0 : Pkt} {b0 : Bound} (h0 : Memory.wf s.dram.mem = true) :
    Memory.wf (State.verdict s v p0 b0).dram.mem = true := by
  unfold State.verdict; try dsimp only
  repeat' first
    | with_reducible assumption
    | with_reducible refine k_ite ?_ ?_
    | with_reducible refine k_pair_ite ?_ ?_
    | with_reducible refine State.pipeEvent_keeps ?_
    | with_reducible refine State.rulePipeCount_keeps ?_
    | with_reducible refine State.meetSub_keeps ?_
    | with_reducible refine State.updateFlow_keeps ?_
    | with_reducible refine State.subPacket_keeps ?_
    | with_reducible refine State.member_keeps ?_
    | with_reducible refine State.learn_keeps ?_
    | with_reducible refine State.passCopies_keeps ?_
    | with_reducible refine State.toHost_keeps ?_
    | with_reducible refine State.dispose_keeps ?_
    | with_reducible refine State.discard_keeps ?_
    | split

theorem State.carry_keeps {s : State} {v : Staged} {p : Pkt} {key : Bytes} (h0 : Memory.wf s.dram.mem = true) :
    Memory.wf (State.carry s v p key).dram.mem = true := by
  unfold State.carry; try dsimp only
  repeat' first
    | with_reducible assumption
    | with_reducible refine State.entryNow_keeps ?_
    | with_reducible refine State.intervalCount_keeps ?_
    | with_reducible refine State.verdict_keeps ?_
    | split

theorem State.struckPass_keeps {s : State} {pipe : Bool} {hurt : Upsets} (h0 : Memory.wf s.dram.mem = true) :
    Memory.wf (State.struckPass s pipe hurt).dram.mem = true := by
  unfold State.struckPass; try dsimp only
  repeat' first
    | with_reducible assumption
    | with_reducible refine State.storeFault_keeps ?_
    | with_reducible refine State.struckFwd_keeps ?_
    | with_reducible refine State.struckOn_keeps ?_
    | with_reducible refine k_foldl ?_ (fun _ _ _ => ?_)

theorem State.noteClaims_keeps {s : State} {id : Nat} {cs : List Claim} (h0 : Memory.wf s.dram.mem = true) :
    Memory.wf (State.noteClaims s id cs).dram.mem = true := h0

theorem State.lateClaims_keeps {s : State} {pipe : Bool} {claims : List Claim} {len : Nat} (h0 : Memory.wf s.dram.mem = true) :
    Memory.wf (State.lateClaims s pipe claims len).2.dram.mem = true := by
  unfold State.lateClaims; try dsimp only
  repeat' first
    | with_reducible assumption
    | with_reducible refine k_pair_ite ?_ ?_
    | with_reducible refine State.nodeCount_keeps ?_
    | with_reducible refine State.parseCount_keeps ?_
    | with_reducible refine k_foldl ?_ (fun _ _ _ => ?_)

theorem State.noteCounts_keeps {s : State} {id : Nat} {keys : List Nat} (h0 : Memory.wf s.dram.mem = true) :
    Memory.wf (State.noteCounts s id keys).dram.mem = true := by
  unfold State.noteCounts; try dsimp only
  assumption

theorem State.setHeld_keeps {s : State} {pipe : Bool} {l : List Parked} (h0 : Memory.wf s.dram.mem = true) :
    Memory.wf (State.setHeld s pipe l).dram.mem = true := h0

theorem State.park_keeps {s : State} {x : Parked} {pos : Option Nat} (h0 : Memory.wf s.dram.mem = true) :
    OptKeeps (fun s => s) (State.park s x pos) := by
  unfold State.park; try dsimp only
  repeat' first
    | with_reducible assumption
    | with_reducible refine k_opt_ite ?_ ?_
    | with_reducible exact k_none
    | with_reducible refine k_some ?_
    | with_reducible refine State.panicLevel_keeps ?_
    | with_reducible refine State.setHeld_keeps ?_

theorem State.ask_keeps {s : State} {v : Staged} {key : Bytes} {pipe : Bool} {st : Stage} (h0 : Memory.wf s.dram.mem = true) :
    Memory.wf (State.ask s v key pipe st).dram.mem = true := by
  unfold State.ask; try dsimp only
  repeat' first | with_reducible assumption | with_reducible refine k_ite ?_ ?_ | with_reducible refine State.setRequest_keeps ?_

theorem State.overflow_keeps {s : State} {v : Staged} {p : Pkt} {key : Bytes} {cls : Nat} (h0 : Memory.wf s.dram.mem = true) :
    Memory.wf (State.overflow s v p key cls).dram.mem = true := by
  unfold State.overflow; try dsimp only
  repeat' first
    | with_reducible assumption
    | with_reducible refine k_ite ?_ ?_
    | with_reducible refine State.discard_keeps ?_
    | with_reducible refine State.flowPipe_keeps ?_
    | with_reducible refine State.carry_keeps ?_

theorem State.holdFor_keeps {s : State} {v : Staged} {p : Pkt} {key : Bytes} {w : Nat} {e : HotEntry} {st : Stage} {r : Resuming} (h0 : Memory.wf s.dram.mem = true) :
    Memory.wf (State.holdFor s v p key w e st r).dram.mem = true := by
  unfold State.holdFor; try dsimp only
  repeat' first
    | with_reducible assumption
    | with_reducible refine State.park_keeps ?_
    | with_reducible refine State.overflow_keeps ?_
    | with_reducible refine State.ask_keeps ?_
    | with_reducible refine State.setHot_keeps ?_
    | with_reducible refine k_opt (by with_reducible assumption) ?_
    | split

theorem State.hit_keeps {s : State} {v : Staged} {p : Pkt} {key : Bytes} {w : Nat} {e : HotEntry} {r : Resuming} (h0 : Memory.wf s.dram.mem = true) :
    Memory.wf (State.hit s v p key w e r).dram.mem = true := by
  unfold State.hit; try dsimp only
  repeat' first
    | with_reducible assumption
    | with_reducible refine k_ite ?_ ?_
    | with_reducible refine State.verdict_keeps ?_
    | with_reducible refine State.holdFor_keeps ?_
    | with_reducible refine State.meetFault_keeps ?_
    | split

theorem State.lookupFlow_keeps {s : State} {v : Staged} {p : Pkt} {key : Bytes} {r : Resuming} (h0 : Memory.wf s.dram.mem = true) :
    Memory.wf (State.lookupFlow s v p key r).dram.mem = true := by
  unfold State.lookupFlow; try dsimp only
  repeat' first
    | with_reducible assumption
    | with_reducible refine k_ite ?_ ?_
    | with_reducible refine State.flowPipe_keeps ?_
    | with_reducible refine State.park_keeps ?_
    | with_reducible refine State.overflow_keeps ?_
    | with_reducible refine State.hit_keeps ?_
    | with_reducible refine State.verdict_keeps ?_
    | with_reducible refine State.ask_keeps ?_
    | with_reducible refine k_opt (by with_reducible assumption) ?_
    | split

theorem State.flowStage_keeps {s : State} {v : Staged} {p : Pkt} {rs : Resuming} (h0 : Memory.wf s.dram.mem = true) :
    Memory.wf (State.flowStage s v p rs).dram.mem = true := by
  unfold State.flowStage; try dsimp only
  repeat' first
    | with_reducible assumption
    | with_reducible refine k_ite ?_ ?_
    | with_reducible refine State.verdict_keeps ?_
    | with_reducible refine State.flowPipe_keeps ?_
    | with_reducible refine State.natCount_keeps ?_
    | with_reducible refine State.park_keeps ?_
    | with_reducible refine State.ask_keeps ?_
    | with_reducible refine State.overflow_keeps ?_
    | with_reducible refine State.lookupFlow_keeps ?_
    | with_reducible refine k_opt (by with_reducible assumption) ?_
    | split

theorem State.pass_keeps {s : State} {p : Pkt} {port : Nat} (h0 : Memory.wf s.dram.mem = true) :
    OptKeeps (fun s => s) (State.pass s p port) := by
  unfold State.pass; try dsimp only
  repeat' first
    | with_reducible assumption
    | with_reducible refine k_ite ?_ ?_
    | with_reducible refine k_pair_ite ?_ ?_
    | with_reducible refine k_opt_ite ?_ ?_
    | with_reducible exact k_none
    | with_reducible refine k_some ?_
    | with_reducible refine State.noteClaims_keeps ?_
    | with_reducible refine State.lateClaims_keeps ?_
    | with_reducible refine State.rulePipeCount_keeps ?_
    | with_reducible refine State.walkCounts_keeps ?_
    | with_reducible refine State.discard_keeps ?_
    | with_reducible refine State.draw_keeps ?_
    | with_reducible refine runLookups_keeps ?_
    | with_reducible refine State.noteCounts_keeps ?_
    | with_reducible refine State.flowStage_keeps ?_
    | split

theorem State.readyParked_keeps {s : State} {key : Bytes} (h0 : Memory.wf s.dram.mem = true) :
    Memory.wf (State.readyParked s key).dram.mem = true := h0

theorem State.entryBack_keeps {s : State} {v : Staged} {r : Request} (h0 : Memory.wf s.dram.mem = true) :
    Memory.wf (State.entryBack s v r).2.dram.mem = true := by
  unfold State.entryBack; try dsimp only
  repeat' first
    | with_reducible assumption
    | with_reducible refine k_ite ?_ ?_
    | with_reducible refine State.entryRead_keeps ?_
    | with_reducible refine State.cacheLoad_keeps ?_
    | with_reducible refine State.meetFault_keeps ?_
    | with_reducible refine State.noteFaulted_keeps ?_
    | with_reducible refine State.readSlotTile_keeps ?_
    | split

theorem State.issued_keeps {s : State} {r : Request} (h0 : Memory.wf s.dram.mem = true) : Memory.wf (State.issued s r).dram.mem = true := by
  unfold State.issued; try dsimp only
  repeat' first
    | with_reducible assumption
    | with_reducible refine k_ite ?_ ?_
    | with_reducible refine State.issueRead_keeps ?_
    | split

theorem execActionEntryReadReturn_keeps {key : Bytes} {hurt : Upsets} {s : State} (h0 : Memory.wf s.dram.mem = true) :
    OutKeeps (execActionEntryReadReturn key hurt s) := by
  unfold execActionEntryReadReturn; try dsimp only
  repeat' first
    | with_reducible assumption
    | with_reducible refine k_out_ite ?_ ?_
    | with_reducible refine State.entryBack_keeps ?_
    | with_reducible refine State.struckOn_keeps ?_
    | with_reducible refine State.issued_keeps ?_
    | with_reducible refine done_keeps ?_ ?_
    | with_reducible refine State.unhold_keeps ?_
    | with_reducible refine State.deliver_keeps ?_
    | with_reducible refine State.endRequest_keeps ?_
    | with_reducible refine k_next ?_
    | split

theorem State.setLaneQ_keeps {s : State} {pipe : Bool} {l : List Pkt} (h0 : Memory.wf s.dram.mem = true) :
    Memory.wf (State.setLaneQ s pipe l).dram.mem = true := h0

theorem execLaneFrameAdmit_keeps {pipe : Bool} {hurt : Upsets} {s : State} (h0 : Memory.wf s.dram.mem = true) :
    OutKeeps (execLaneFrameAdmit pipe hurt s) := by
  unfold execLaneFrameAdmit; try dsimp only
  repeat' first
    | with_reducible assumption
    | with_reducible refine k_ite ?_ ?_
    | with_reducible refine State.setLaneQ_keeps ?_
    | with_reducible refine State.struckPass_keeps ?_
    | with_reducible refine State.grant_keeps ?_
    | with_reducible refine State.pass_keeps ?_
    | with_reducible refine done_keeps ?_ ?_
    | with_reducible refine k_next ?_
    | with_reducible refine k_opt (by with_reducible assumption) ?_
    | split

theorem State.dropOld_keeps {s : State} {p : Pkt} (h0 : Memory.wf s.dram.mem = true) : Memory.wf (State.dropOld s p).dram.mem = true := by
  unfold State.dropOld; try dsimp only
  repeat' first
    | with_reducible assumption
    | with_reducible refine State.discard_keeps ?_
    | with_reducible refine State.countDiscard_keeps ?_
    | with_reducible refine State.bufCount_keeps ?_

theorem State.resume_keeps {s : State} {x : Parked} {pos : Nat} (h0 : Memory.wf s.dram.mem = true) :
    Memory.wf (State.resume s x pos).dram.mem = true := by
  unfold State.resume; try dsimp only
  repeat' first
    | with_reducible assumption
    | with_reducible refine k_ite ?_ ?_
    | with_reducible refine State.verdict_keeps ?_
    | with_reducible refine State.carry_keeps ?_
    | with_reducible refine State.flowStage_keeps ?_

theorem execMissResume_keeps {pipe : Bool} {hurt : Upsets} {s : State} (h0 : Memory.wf s.dram.mem = true) :
    OutKeeps (execMissResume pipe hurt s) := by
  unfold execMissResume; try dsimp only
  repeat' first
    | with_reducible assumption
    | with_reducible refine k_ite ?_ ?_
    | with_reducible refine k_out_ite ?_ ?_
    | with_reducible refine State.struckPass_keeps ?_
    | with_reducible refine State.setHeld_keeps ?_
    | with_reducible refine State.dropOld_keeps ?_
    | with_reducible refine State.resume_keeps ?_
    | with_reducible refine State.grant_keeps ?_
    | with_reducible refine done_keeps ?_ ?_
    | with_reducible refine State.panicLevel_keeps ?_
    | with_reducible refine State.unhold_keeps ?_
    | with_reducible refine k_next ?_
    | split

theorem State.setRecircQ_keeps {s : State} {pipe : Bool} {l : List Pkt} (h0 : Memory.wf s.dram.mem = true) :
    Memory.wf (State.setRecircQ s pipe l).dram.mem = true := h0

theorem execRecircAdmit_keeps {pipe : Bool} {hurt : Upsets} {s : State} (h0 : Memory.wf s.dram.mem = true) :
    OutKeeps (execRecircAdmit pipe hurt s) := by
  unfold execRecircAdmit; try dsimp only
  repeat' first
    | with_reducible assumption
    | with_reducible refine k_out_ite ?_ ?_
    | with_reducible refine State.setRecircQ_keeps ?_
    | with_reducible refine done_keeps ?_ ?_
    | with_reducible refine State.dropOld_keeps ?_
    | with_reducible refine State.pass_keeps ?_
    | with_reducible refine State.struckPass_keeps ?_
    | with_reducible refine State.grant_keeps ?_
    | with_reducible refine k_next ?_
    | with_reducible refine k_opt (by with_reducible assumption) ?_
    | split

theorem State.setReinjectQ_keeps {s : State} {pipe : Bool} {l : List (Pkt × Bytes)} (h0 : Memory.wf s.dram.mem = true) :
    Memory.wf (State.setReinjectQ s pipe l).dram.mem = true := h0

theorem State.releaseBehind_keeps {s : State} {p : Pkt} {key : Bytes} (h0 : Memory.wf s.dram.mem = true) :
    Memory.wf (State.releaseBehind s p key).dram.mem = true := by
  unfold State.releaseBehind; try dsimp only
  repeat' first
    | with_reducible assumption
    | with_reducible refine State.unhold_keeps ?_
    | with_reducible refine State.eachParked_keeps ?_

theorem execReinjectAdmit_keeps {pipe : Bool} {hurt : Upsets} {s : State} (h0 : Memory.wf s.dram.mem = true) :
    OutKeeps (execReinjectAdmit pipe hurt s) := by
  unfold execReinjectAdmit; try dsimp only
  repeat' first
    | with_reducible assumption
    | with_reducible refine k_ite ?_ ?_
    | with_reducible refine k_out_ite ?_ ?_
    | with_reducible refine State.struckPass_keeps ?_
    | with_reducible refine State.setReinjectQ_keeps ?_
    | with_reducible refine State.dropOld_keeps ?_
    | with_reducible refine State.flowStage_keeps ?_
    | with_reducible refine State.grant_keeps ?_
    | with_reducible refine done_keeps ?_ ?_
    | with_reducible refine State.releaseBehind_keeps ?_
    | with_reducible refine k_next ?_
    | split

theorem State.installFound_keeps {s : State} {r : Request} {tile : Nat} {p : Bytes} {count : Nat} (h0 : Memory.wf s.dram.mem = true) :
    Memory.wf (State.installFound s r tile p count).dram.mem = true := by
  unfold State.installFound; try dsimp only
  repeat' first
    | with_reducible assumption
    | with_reducible refine k_ite ?_ ?_
    | with_reducible refine State.wayFor_keeps ?_
    | with_reducible refine State.setRequest_keeps ?_
    | with_reducible refine State.flowPipe_keeps ?_
    | with_reducible refine State.setHot_keeps ?_
    | with_reducible refine State.readyParked_keeps ?_
    | with_reducible refine State.endRequest_keeps ?_
    | with_reducible refine k_pair (by with_reducible assumption) ?_
    | split

theorem State.endInFallback_keeps {s : State} {r : Request} (h0 : Memory.wf s.dram.mem = true) :
    Memory.wf (State.endInFallback s r).dram.mem = true := h0

theorem State.waitPlace_keeps {s : State} {r : Request} {claim : Option Nat} (h0 : Memory.wf s.dram.mem = true) :
    Memory.wf (State.waitPlace s r claim).dram.mem = true := h0

theorem State.installNew_keeps {s : State} {v : Staged} {p : Pkt} {key : Bytes} {cls : Nat} {action : Nat} {member : Nat} {tile : Nat} {way : Nat} (h0 : Memory.wf s.dram.mem = true) :
    Memory.wf (State.installNew s v p key cls action member tile way).dram.mem = true := by
  unfold State.installNew; try dsimp only
  repeat' first
    | with_reducible assumption
    | with_reducible refine State.queueWrite_keeps ?_
    | with_reducible refine State.setHot_keeps ?_

theorem State.createAt_keeps {s : State} {v : Staged} {r : Request} {x : Parked} {cls : Nat} {idx : Nat} {e : Option Bytes} {tile : Nat} (h0 : Memory.wf s.dram.mem = true) :
    Memory.wf (State.createAt s v r x cls idx e tile).dram.mem = true := by
  unfold State.createAt; try dsimp only
  repeat' first
    | with_reducible assumption
    | with_reducible refine k_ite ?_ ?_
    | with_reducible refine State.newTask_keeps ?_
    | with_reducible refine State.setRequest_keeps ?_
    | with_reducible refine State.endInFallback_keeps ?_
    | with_reducible refine State.minerCount_keeps ?_
    | with_reducible refine State.waitPlace_keeps ?_
    | with_reducible refine State.wayFor_keeps ?_
    | with_reducible refine State.newMember_keeps ?_
    | with_reducible refine State.evict_keeps ?_
    | with_reducible refine State.installNew_keeps ?_
    | with_reducible refine State.readyParked_keeps ?_
    | with_reducible refine State.endRequest_keeps ?_
    | with_reducible refine State.lifeCount_keeps ?_
    | with_reducible refine k_pair (by with_reducible assumption) ?_
    | with_reducible refine k_opt2 (by with_reducible assumption) ?_
    | split

theorem State.endWithout_keeps {s : State} {r : Request} {id : Nat} {first : Parked → Parked} (h0 : Memory.wf s.dram.mem = true) :
    Memory.wf (State.endWithout s r id first).dram.mem = true := h0

theorem State.noPlace_keeps {s : State} {r : Request} {id : Nat} (h0 : Memory.wf s.dram.mem = true) :
    Memory.wf (State.noPlace s r id).dram.mem = true := h0

theorem State.placeNew_keeps {s : State} {v : Staged} {r : Request} {x : Parked} {cls : Nat} {idx : Nat} {e : Option Bytes} (h0 : Memory.wf s.dram.mem = true) :
    Memory.wf (State.placeNew s v r x cls idx e).dram.mem = true := by
  unfold State.placeNew; try dsimp only
  repeat' first
    | with_reducible assumption
    | with_reducible refine k_ite ?_ ?_
    | with_reducible refine State.setRequest_keeps ?_
    | with_reducible refine State.createAt_keeps ?_
    | with_reducible refine State.noPlace_keeps ?_
    | with_reducible refine State.lifeCount_keeps ?_
    | with_reducible refine State.waitPlace_keeps ?_
    | with_reducible refine State.choosePlace_keeps ?_
    | with_reducible refine State.countNoRoom_keeps ?_
    | with_reducible refine k_pair (by with_reducible assumption) ?_
    | split

theorem State.takeToken_keeps {s : State} {v : Staged} {sub : Option Nat} (h0 : Memory.wf s.dram.mem = true) :
    Memory.wf (State.takeToken s v sub).2.2.dram.mem = true := by
  unfold State.takeToken; try dsimp only
  repeat' first
    | with_reducible assumption
    | with_reducible refine State.meetSub_keeps ?_
    | with_reducible refine State.intervalCount_keeps ?_
    | with_reducible refine State.lifeCount_keeps ?_
    | split

theorem State.unpark_keeps {s : State} {id : Nat} (h0 : Memory.wf s.dram.mem = true) : Memory.wf (State.unpark s id).dram.mem = true := h0

theorem State.admitNew_keeps {s : State} {r : Request} {x : Parked} (h0 : Memory.wf s.dram.mem = true) :
    Memory.wf (State.admitNew s r x).dram.mem = true := by
  unfold State.admitNew; try dsimp only
  repeat' first
    | with_reducible assumption
    | with_reducible refine k_ite ?_ ?_
    | with_reducible refine State.readyParked_keeps ?_
    | with_reducible refine State.endRequest_keeps ?_
    | with_reducible refine State.entryNow_keeps ?_
    | with_reducible refine State.placeNew_keeps ?_
    | with_reducible refine State.takeToken_keeps ?_
    | with_reducible refine State.discard_keeps ?_
    | with_reducible refine State.unpark_keeps ?_
    | with_reducible refine State.noPlace_keeps ?_
    | with_reducible refine k_pair3 (by with_reducible assumption) ?_
    | split

theorem State.bucketBack_keeps {s : State} {r : Request} (h0 : Memory.wf s.dram.mem = true) :
    Memory.wf (State.bucketBack s r).dram.mem = true := by
  unfold State.bucketBack; try dsimp only
  repeat' first
    | with_reducible assumption
    | with_reducible refine k_ite ?_ ?_
    | with_reducible refine k_pair_ite ?_ ?_
    | with_reducible refine State.readBucket_keeps ?_
    | with_reducible refine State.installFound_keeps ?_
    | with_reducible refine State.setRequest_keeps ?_
    | with_reducible refine State.endRequest_keeps ?_
    | with_reducible refine State.admitNew_keeps ?_
    | with_reducible refine State.pipeEvent_keeps ?_
    | with_reducible refine State.flowPipe_keeps ?_
    | split

theorem execBucketReadReturn_keeps {key : Bytes} {hurt : Upsets} {s : State} (h0 : Memory.wf s.dram.mem = true) :
    OutKeeps (execBucketReadReturn key hurt s) := by
  unfold execBucketReadReturn; try dsimp only
  repeat' first
    | with_reducible assumption
    | with_reducible refine k_out_ite ?_ ?_
    | with_reducible refine done_keeps ?_ ?_
    | with_reducible refine State.panicLevel_keeps ?_
    | with_reducible refine State.unhold_keeps ?_
    | with_reducible refine State.bucketBack_keeps ?_
    | with_reducible refine State.struckOn_keeps ?_
    | with_reducible refine State.issued_keeps ?_
    | with_reducible refine k_next ?_
    | split

theorem execPendingWriteBack_keeps {way : Nat} {s : State} (h0 : Memory.wf s.dram.mem = true) : OutKeeps (execPendingWriteBack way s) := by
  unfold execPendingWriteBack; try dsimp only
  repeat' first
    | with_reducible assumption
    | with_reducible refine k_out_ite ?_ ?_
    | with_reducible refine done_keeps ?_ ?_
    | with_reducible refine State.leaveHot_keeps ?_
    | with_reducible refine k_next ?_
    | split

theorem State.demote_keeps {s : State} {x1 : List Nat} (h0 : Memory.wf s.dram.mem = true) :
    Memory.wf (State.demote s x1).dram.mem = true := by
  induction x1 generalizing s with
  | nil =>
    unfold State.demote; try dsimp only
    assumption
  | cons a l ih =>
    unfold State.demote; try dsimp only
    repeat' first
      | with_reducible assumption
      | with_reducible refine k_ite ?_ ?_
      | with_reducible apply ih
      | with_reducible refine State.leaveHot_keeps ?_
      | with_reducible refine State.flowDev_keeps ?_
      | split

theorem execHotIdleDemote_keeps {set : Nat} {s : State} (h0 : Memory.wf s.dram.mem = true) : OutKeeps (execHotIdleDemote set s) := by
  unfold execHotIdleDemote; try dsimp only
  repeat' first
    | with_reducible assumption
    | with_reducible refine k_out_ite ?_ ?_
    | with_reducible refine done_keeps ?_ ?_
    | with_reducible refine State.demote_keeps ?_
    | with_reducible refine k_next ?_

theorem State.setupSlot_keeps {s : State} {v : Staged} {r : Request} {p : Pkt} {cls : Nat} (h0 : Memory.wf s.dram.mem = true) :
    Memory.wf (State.setupSlot s v r p cls).2.dram.mem = true := by
  unfold State.setupSlot; try dsimp only
  repeat' first
    | with_reducible assumption
    | with_reducible refine k_pair_ite ?_ ?_
    | with_reducible refine State.readTile_keeps ?_
    | with_reducible refine State.setRequest_keeps ?_
    | with_reducible refine State.finishWork_keeps ?_
    | with_reducible refine State.noPlace_keeps ?_
    | with_reducible refine State.readBucket_keeps ?_
    | with_reducible refine State.choosePlace_keeps ?_
    | with_reducible refine State.countNoRoom_keeps ?_
    | with_reducible refine State.lifeCount_keeps ?_
    | with_reducible refine k_pair (by with_reducible assumption) ?_
    | split

theorem State.setupEntry_keeps {s : State} {v : Staged} {idx : Nat} {key : Bytes} (h0 : Memory.wf s.dram.mem = true) :
    Memory.wf (State.setupEntry s v idx key).2.dram.mem = true := by
  unfold State.setupEntry; try dsimp only
  repeat' first
    | with_reducible assumption
    | with_reducible refine k_pair_ite ?_ ?_
    | with_reducible refine State.entryRead_keeps ?_
    | with_reducible refine State.setupBinding_keeps ?_
    | with_reducible refine k_pair (by with_reducible assumption) ?_
    | split

theorem State.setupAt_keeps {s : State} {v : Staged} {r : Request} {p : Pkt} {cls : Nat} {idx : Nat} {t : Nat} (h0 : Memory.wf s.dram.mem = true) :
    Memory.wf (State.setupAt s v r p cls idx t).dram.mem = true := by
  unfold State.setupAt; try dsimp only
  repeat' first
    | with_reducible assumption
    | with_reducible refine k_ite ?_ ?_
    | with_reducible refine State.setupEntry_keeps ?_
    | with_reducible refine State.finishWork_keeps ?_
    | with_reducible refine State.endInFallback_keeps ?_
    | with_reducible refine State.natCount_keeps ?_
    | with_reducible refine State.wayFor_keeps ?_
    | with_reducible refine State.newMember_keeps ?_
    | with_reducible refine State.evict_keeps ?_
    | with_reducible refine State.lifeCount_keeps ?_
    | with_reducible refine State.cacheLoad_keeps ?_
    | with_reducible refine State.setLive_keeps ?_
    | with_reducible refine State.installNew_keeps ?_
    | with_reducible refine State.setReinjectQ_keeps ?_
    | with_reducible refine State.unpark_keeps ?_
    | with_reducible refine State.readyParked_keeps ?_
    | with_reducible refine State.panicLevel_keeps ?_
    | with_reducible refine State.unhold_keeps ?_
    | with_reducible refine State.endRequest_keeps ?_
    | with_reducible refine k_pair (by with_reducible assumption) ?_
    | split

theorem execFlowSetup_keeps {slot : Nat} {hurt : Upsets} {s : State} (h0 : Memory.wf s.dram.mem = true) :
    OutKeeps (execFlowSetup slot hurt s) := by
  unfold execFlowSetup; try dsimp only
  repeat' first
    | with_reducible assumption
    | with_reducible refine k_ite ?_ ?_
    | with_reducible refine k_out_ite ?_ ?_
    | with_reducible refine done_keeps ?_ ?_
    | with_reducible refine State.finishWork_keeps ?_
    | with_reducible refine State.setupSlot_keeps ?_
    | with_reducible refine State.struckOn_keeps ?_
    | with_reducible refine State.setupAt_keeps ?_
    | with_reducible refine k_next ?_
    | with_reducible refine k_pair (by with_reducible assumption) ?_
    | split

end Sys2Proof.Laws
end

