-- ==== Sys2Proof/Laws/KeepsTables.lean ====
section
/-!
SUPPORT. What keeps device memory in its canonical form, one lemma per definition: the commands of the flow store, of translation and balancing, of forwarding and of the buffer, with the lanes, the clock, egress and telemetry.
-/
namespace Sys2Proof.Laws
open Sys2Proof.Machine Sys2Proof.Claims

theorem State.readByKey_keeps {s : State} {key : Bytes} (h0 : Memory.wf s.dram.mem = true) :
    Memory.wf (State.readByKey s key).2.dram.mem = true := by
  unfold State.readByKey; try dsimp only
  repeat' first
    | with_reducible assumption
    | with_reducible refine State.findFlow_keeps ?_
    | with_reducible refine k_pair (by with_reducible assumption) ?_
    | split

theorem State.readByTile_keeps {s : State} {t : Nat} (h0 : Memory.wf s.dram.mem = true) :
    Memory.wf (State.readByTile s t).2.dram.mem = true := by
  unfold State.readByTile; try dsimp only
  repeat' first
    | with_reducible assumption
    | with_reducible refine State.readTile_keeps ?_
    | with_reducible refine k_pair (by with_reducible assumption) ?_
    | split

theorem recFlowRead_keeps {m : Msg} {s : State} {b : Bytes} {base : Nat} (h0 : Memory.wf s.dram.mem = true) :
    RecKeeps (recFlowRead m s b base) := by
  unfold recFlowRead; try dsimp only
  repeat' first
    | with_reducible assumption
    | with_reducible refine k_rec_ite ?_ ?_
    | with_reducible refine recZero_keeps ?_
    | with_reducible refine State.readByKey_keeps ?_
    | with_reducible refine State.readByTile_keeps ?_
    | with_reducible exact k_refuse
    | with_reducible refine k_ok ?_

theorem cmdFlowRead_keeps : CmdKeeps cmdFlowRead := fun _ _ h => records_keeps (fun _ _ _ h => recFlowRead_keeps h) h
theorem execFlowRead_keeps {m : Msg} {s : State} (h0 : Memory.wf s.dram.mem = true) :
    OutKeeps (execFlowRead m s) := runCommand_keeps cmdFlowRead_keeps h0

theorem bodyFlowSettings_keeps {m : Msg} {s : State} (h0 : Memory.wf s.dram.mem = true) :
    Memory.wf (bodyFlowSettings m s).state.dram.mem = true := by
  unfold bodyFlowSettings; try dsimp only
  repeat' first
    | with_reducible assumption
    | with_reducible refine k_done_ite ?_ ?_
    | with_reducible refine refuse_keeps ?_
    | with_reducible refine outOfRange_keeps ?_
    | with_reducible refine needZero_keeps ?_ ?_
    | with_reducible refine ok_keeps ?_
    | with_reducible refine State.stageWith_keeps ?_
    | split

theorem State.applyFlow_keeps {s : State} {w : Newest} {f : HotEntry → HotEntry} {t : Bytes → Bytes} (h0 : Memory.wf s.dram.mem = true) :
    Memory.wf (State.applyFlow s w f t).dram.mem = true := by
  unfold State.applyFlow; try dsimp only
  repeat' first
    | with_reducible assumption
    | with_reducible refine State.setHot_keeps ?_
    | with_reducible refine State.taskWrite_keeps ?_
    | split

theorem State.keepBinding_keeps {s : State} {idx : Nat} (h0 : Memory.wf s.dram.mem = true) :
    Memory.wf (State.keepBinding s idx).dram.mem = true := by
  unfold State.keepBinding; try dsimp only
  repeat' first | with_reducible assumption | with_reducible refine k_ite ?_ ?_ | with_reducible refine State.setLive_keeps ?_

theorem State.storeNew_keeps {s : State} {b : Bytes} (h0 : Memory.wf s.dram.mem = true) : RecKeeps (State.storeNew s b) := by
  unfold State.storeNew; try dsimp only
  repeat' first
    | with_reducible assumption
    | with_reducible refine k_rec_ite ?_ ?_
    | with_reducible refine State.choosePlace_keeps ?_
    | with_reducible refine State.countNoRoom_keeps ?_
    | with_reducible refine State.keepBinding_keeps ?_
    | with_reducible refine State.taskWrite_keeps ?_
    | with_reducible refine State.evict_keeps ?_
    | with_reducible refine k_ok ?_
    | with_reducible refine k_refuseWith ?_
    | with_reducible refine k_hold ?_
    | with_reducible refine k_pair (by with_reducible assumption) ?_
    | split

theorem recFlowWrite_keeps {s : State} {b : Bytes} {base : Nat} (h0 : Memory.wf s.dram.mem = true) : RecKeeps (recFlowWrite s b base) := by
  unfold recFlowWrite; try dsimp only
  repeat' first
    | with_reducible assumption
    | with_reducible refine k_rec_ite ?_ ?_
    | with_reducible refine State.findFlow_keeps ?_
    | with_reducible refine State.applyFlow_keeps ?_
    | with_reducible refine State.storeNew_keeps ?_
    | with_reducible exact k_refuse
    | with_reducible refine k_ok ?_
    | with_reducible refine k_refuseWith ?_
    | with_reducible refine k_wait ?_
    | split

theorem cmdFlowWrite_keeps : CmdKeeps cmdFlowWrite := by
  intro m s h
  show Memory.wf (if m.p 0 = 3 then bodyFlowSettings m s else records m 64 recFlowWrite s).state.dram.mem = true
  split
  · exact bodyFlowSettings_keeps h
  · exact records_keeps (fun _ _ _ h => recFlowWrite_keeps h) h
theorem execFlowWrite_keeps {m : Msg} {s : State} (h0 : Memory.wf s.dram.mem = true) :
    OutKeeps (execFlowWrite m s) := runCommand_keeps cmdFlowWrite_keeps h0

theorem recFlowDelete_keeps {s : State} {b : Bytes} {base : Nat} (h0 : Memory.wf s.dram.mem = true) :
    RecKeeps (recFlowDelete s b base) := by
  unfold recFlowDelete; try dsimp only
  repeat' first
    | with_reducible assumption
    | with_reducible refine k_rec_ite ?_ ?_
    | with_reducible refine recZero_keeps ?_
    | with_reducible refine State.findFlow_keeps ?_
    | with_reducible refine State.endFlow_keeps ?_
    | with_reducible refine State.waitRoom_keeps ?_
    | with_reducible exact k_refuse
    | with_reducible refine k_ok ?_
    | with_reducible refine k_refuseWith ?_
    | with_reducible refine k_wait ?_
    | split

theorem cmdFlowDelete_keeps : CmdKeeps cmdFlowDelete := fun _ _ h => records_keeps (fun _ _ _ h => recFlowDelete_keeps h) h
theorem execFlowDelete_keeps {m : Msg} {s : State} (h0 : Memory.wf s.dram.mem = true) :
    OutKeeps (execFlowDelete m s) := runCommand_keeps cmdFlowDelete_keeps h0

theorem recFlowPin_keeps {s : State} {b : Bytes} {base : Nat} (h0 : Memory.wf s.dram.mem = true) : RecKeeps (recFlowPin s b base) := by
  unfold recFlowPin; try dsimp only
  repeat' first
    | with_reducible assumption
    | with_reducible refine k_rec_ite ?_ ?_
    | with_reducible refine recZero_keeps ?_
    | with_reducible refine State.findFlow_keeps ?_
    | with_reducible refine State.applyFlow_keeps ?_
    | with_reducible exact k_refuse
    | with_reducible refine k_ok ?_
    | with_reducible refine k_refuseWith ?_
    | with_reducible refine k_wait ?_
    | split

theorem cmdFlowPin_keeps : CmdKeeps cmdFlowPin := fun _ _ h => records_keeps (fun _ _ _ h => recFlowPin_keeps h) h
theorem execFlowPin_keeps {m : Msg} {s : State} (h0 : Memory.wf s.dram.mem = true) :
    OutKeeps (execFlowPin m s) := runCommand_keeps cmdFlowPin_keeps h0

theorem State.startExport_keeps {s : State} {m : Msg} (h0 : Memory.wf s.dram.mem = true) :
    Memory.wf (State.startExport s m).state.dram.mem = true := by
  unfold State.startExport; try dsimp only
  repeat' first
    | with_reducible assumption
    | with_reducible refine k_done_ite ?_ ?_
    | with_reducible refine outOfRange_keeps ?_
    | with_reducible refine badParam_keeps ?_
    | with_reducible refine refuse_keeps ?_
    | with_reducible refine State.newTasks_keeps ?_
    | with_reducible refine ok_keeps ?_
    | with_reducible refine k_opt (by with_reducible assumption) ?_
    | split
    | dsimp only

theorem State.exportTile_keeps {s : State} {t : Nat} (h0 : Memory.wf s.dram.mem = true) :
    Memory.wf (State.exportTile s t).2.2.2.2.dram.mem = true := by
  unfold State.exportTile; try dsimp only
  repeat' first
    | with_reducible assumption
    | with_reducible refine State.readTile_keeps ?_
    | with_reducible refine k_pair (by with_reducible assumption) ?_
    | split

theorem State.exportTiles_keeps {dest : List (Nat × Nat)} {x1 : Nat} {x2 : Nat} {x3 : State} (h0 : Memory.wf x3.dram.mem = true) :
    Memory.wf (State.exportTiles dest x1 x2 x3).dram.mem = true := by
  induction x1 generalizing x2 x3 with
  | zero =>
    unfold State.exportTiles; try dsimp only
    assumption
  | succ n ih =>
    unfold State.exportTiles; try dsimp only
    repeat' first
      | with_reducible assumption
      | with_reducible apply ih
      | with_reducible refine State.exportTile_keeps ?_
      | with_reducible refine State.putTile_keeps ?_

theorem State.endExport_keeps {s : State} {n : Nat} {st : ExportState} (h0 : Memory.wf s.dram.mem = true) :
    Memory.wf (State.endExport s n st).dram.mem = true := by
  unfold State.endExport; try dsimp only
  repeat' first
    | with_reducible assumption
    | with_reducible refine k_ite ?_ ?_
    | with_reducible refine State.exportTiles_keeps ?_
    | with_reducible refine State.dropWork_keeps ?_
    | with_reducible refine State.finishWork_keeps ?_

theorem bodyFlowExport_keeps {m : Msg} {s : State} (h0 : Memory.wf s.dram.mem = true) :
    Memory.wf (bodyFlowExport m s).state.dram.mem = true := by
  unfold bodyFlowExport; try dsimp only
  repeat' first
    | with_reducible assumption
    | with_reducible refine k_ite ?_ ?_
    | with_reducible refine k_done_ite ?_ ?_
    | with_reducible refine badParam_keeps ?_
    | with_reducible refine needZero_keeps ?_ ?_
    | with_reducible refine State.startExport_keeps ?_
    | with_reducible refine ok_keeps ?_
    | with_reducible refine State.endExport_keeps ?_

theorem cmdFlowExport_keeps : CmdKeeps cmdFlowExport := fun _ _ h => bodyFlowExport_keeps h
theorem execFlowExport_keeps {m : Msg} {s : State} (h0 : Memory.wf s.dram.mem = true) :
    OutKeeps (execFlowExport m s) := runCommand_keeps cmdFlowExport_keeps h0

theorem bodyFlowStats_keeps {m : Msg} {s : State} (h0 : Memory.wf s.dram.mem = true) :
    Memory.wf (bodyFlowStats m s).state.dram.mem = true := by
  unfold bodyFlowStats; try dsimp only
  repeat' first
    | with_reducible assumption
    | with_reducible refine k_ite ?_ ?_
    | with_reducible refine k_done_ite ?_ ?_
    | with_reducible refine badParam_keeps ?_
    | with_reducible refine needZero_keeps ?_ ?_
    | with_reducible refine ok_keeps ?_

theorem cmdFlowStats_keeps : CmdKeeps cmdFlowStats := fun _ _ h => bodyFlowStats_keeps h
theorem execFlowStats_keeps {m : Msg} {s : State} (h0 : Memory.wf s.dram.mem = true) :
    OutKeeps (execFlowStats m s) := runCommand_keeps cmdFlowStats_keeps h0

theorem State.stageFlow_keeps {s : State} {f : FlowCfg → FlowCfg} (h0 : Memory.wf s.dram.mem = true) :
    Memory.wf (State.stageFlow s f).dram.mem = true := by
  unfold State.stageFlow; try dsimp only
  repeat' first | with_reducible assumption | with_reducible refine State.stageWith_keeps ?_

theorem recFlowClassSet_keeps {m : Msg} {s : State} {b : Bytes} {base : Nat} (h0 : Memory.wf s.dram.mem = true) :
    RecKeeps (recFlowClassSet m s b base) := by
  unfold recFlowClassSet; try dsimp only
  repeat' first
    | with_reducible assumption
    | with_reducible refine k_rec_ite ?_ ?_
    | with_reducible refine recZero_keeps ?_
    | with_reducible refine noStage_keeps
    | with_reducible refine State.stageFlow_keeps ?_
    | with_reducible exact k_refuse
    | with_reducible refine k_ok ?_
    | split

theorem cmdFlowClassSet_keeps : CmdKeeps cmdFlowClassSet := fun _ _ h => records_keeps (fun _ _ _ h => recFlowClassSet_keeps h) h
theorem execFlowClassSet_keeps {m : Msg} {s : State} (h0 : Memory.wf s.dram.mem = true) :
    OutKeeps (execFlowClassSet m s) := runCommand_keeps cmdFlowClassSet_keeps h0

theorem recFlowNewLimit_keeps {m : Msg} {s : State} {b : Bytes} {base : Nat} (h0 : Memory.wf s.dram.mem = true) :
    RecKeeps (recFlowNewLimit m s b base) := by
  unfold recFlowNewLimit; try dsimp only
  repeat' first
    | with_reducible assumption
    | with_reducible refine k_rec_ite ?_ ?_
    | with_reducible refine recZero_keeps ?_
    | with_reducible refine noStage_keeps
    | with_reducible refine State.stageFlow_keeps ?_
    | with_reducible exact k_refuse
    | with_reducible refine k_ok ?_

theorem cmdFlowNewLimit_keeps : CmdKeeps cmdFlowNewLimit := fun _ _ h => records_keeps (fun _ _ _ h => recFlowNewLimit_keeps h) h
theorem execFlowNewLimit_keeps {m : Msg} {s : State} (h0 : Memory.wf s.dram.mem = true) :
    OutKeeps (execFlowNewLimit m s) := runCommand_keeps cmdFlowNewLimit_keeps h0

theorem bodyFlowAgeConfig_keeps {m : Msg} {s : State} (h0 : Memory.wf s.dram.mem = true) :
    Memory.wf (bodyFlowAgeConfig m s).state.dram.mem = true := by
  unfold bodyFlowAgeConfig; try dsimp only
  repeat' first
    | with_reducible assumption
    | with_reducible refine k_ite ?_ ?_
    | with_reducible refine k_done_ite ?_ ?_
    | with_reducible refine badParam_keeps ?_
    | with_reducible refine needZero_keeps ?_ ?_
    | with_reducible refine ok_keeps ?_
    | with_reducible refine refuse_keeps ?_
    | with_reducible refine outOfRange_keeps ?_
    | with_reducible refine State.stageFlow_keeps ?_

theorem cmdFlowAgeConfig_keeps : CmdKeeps cmdFlowAgeConfig := fun _ _ h => bodyFlowAgeConfig_keeps h
theorem execFlowAgeConfig_keeps {m : Msg} {s : State} (h0 : Memory.wf s.dram.mem = true) :
    OutKeeps (execFlowAgeConfig m s) := runCommand_keeps cmdFlowAgeConfig_keeps h0

theorem bodyFlowHashSeed_keeps {m : Msg} {s : State} (h0 : Memory.wf s.dram.mem = true) :
    Memory.wf (bodyFlowHashSeed m s).state.dram.mem = true := by
  unfold bodyFlowHashSeed; try dsimp only
  repeat' first
    | with_reducible assumption
    | with_reducible refine k_done_ite ?_ ?_
    | with_reducible refine badParam_keeps ?_
    | with_reducible refine needZero_keeps ?_ ?_
    | with_reducible refine ok_keeps ?_

theorem cmdFlowHashSeed_keeps : CmdKeeps cmdFlowHashSeed := fun _ _ h => bodyFlowHashSeed_keeps h
theorem execFlowHashSeed_keeps {m : Msg} {s : State} (h0 : Memory.wf s.dram.mem = true) :
    OutKeeps (execFlowHashSeed m s) := runCommand_keeps cmdFlowHashSeed_keeps h0

theorem State.applyPeriods_keeps {old : State} {s : State} (_h0 : Memory.wf old.dram.mem = true) (h1 : Memory.wf s.dram.mem = true) :
    Memory.wf (State.applyPeriods old s).dram.mem = true := by
  unfold State.applyPeriods; try dsimp only
  assumption

theorem State.setPromoted_keeps {s : State} {type : Nat} {on : Bool} (h0 : Memory.wf s.dram.mem = true) :
    Memory.wf (State.setPromoted s type on).dram.mem = true := by
  unfold State.setPromoted; try dsimp only
  repeat' first
    | with_reducible assumption
    | with_reducible refine k_ite ?_ ?_
    | with_reducible refine State.unready_keeps ?_
    | with_reducible refine State.makeReady_keeps ?_
    | with_reducible refine State.trace_keeps ?_
    | with_reducible refine State.minerCount_keeps ?_
    | split

theorem State.judgeLag_keeps {s : State} {type : Nat} (h0 : Memory.wf s.dram.mem = true) :
    Memory.wf (State.judgeLag s type).dram.mem = true := by
  unfold State.judgeLag; try dsimp only
  repeat' first
    | with_reducible assumption
    | with_reducible refine k_ite ?_ ?_
    | with_reducible refine State.setPromoted_keeps ?_

theorem State.resumeLoad_keeps {s : State} {ch : Nat} {m : Msg} (h0 : Memory.wf s.dram.mem = true) :
    Memory.wf (State.resumeLoad s ch m).dram.mem = true := by
  unfold State.resumeLoad; try dsimp only
  repeat' first
    | with_reducible assumption
    | with_reducible refine State.setChan_keeps ?_
    | with_reducible refine State.finishWork_keeps ?_
    | with_reducible refine finish_keeps ?_ ?_
    | with_reducible refine loadNodes_keeps ?_

theorem State.resumeFlow_keeps {s : State} {ch : Nat} {op : Nat} {m : Msg} {n : Nat} (h0 : Memory.wf s.dram.mem = true) :
    Memory.wf (State.resumeFlow s ch op m n).dram.mem = true := by
  unfold State.resumeFlow; try dsimp only
  repeat' first
    | with_reducible assumption
    | with_reducible refine recFlowWrite_keeps ?_
    | with_reducible refine recFlowDelete_keeps ?_
    | with_reducible refine recFlowPin_keeps ?_
    | with_reducible refine State.setChan_keeps ?_
    | with_reducible refine finish_keeps ?_ ?_
    | with_reducible refine records_keeps ?_ ?_
    | with_reducible refine fun _ _ _ _ => ?_
    | split

theorem execFlowCommandResume_keeps {ch : Nat} {s : State} (h0 : Memory.wf s.dram.mem = true) : OutKeeps (execFlowCommandResume ch s) := by
  unfold execFlowCommandResume; try dsimp only
  repeat' first
    | with_reducible assumption
    | with_reducible refine k_out_ite ?_ ?_
    | with_reducible refine done_keeps ?_ ?_
    | with_reducible refine State.resumeLoad_keeps ?_
    | with_reducible refine State.resumeFlow_keeps ?_
    | with_reducible refine k_next ?_
    | split

theorem execFlowExportDone_keeps {hurt : Upsets} {s : State} (h0 : Memory.wf s.dram.mem = true) : OutKeeps (execFlowExportDone hurt s) := by
  unfold execFlowExportDone; try dsimp only
  repeat' first
    | with_reducible assumption
    | with_reducible refine k_out_ite ?_ ?_
    | with_reducible refine State.endExport_keeps ?_
    | with_reducible refine State.upset_keeps ?_
    | with_reducible refine done_keeps ?_ ?_
    | with_reducible refine k_next ?_
    | split

theorem State.sweepTile_keeps {s : State} {t : Nat} {read : Option Bytes} (h0 : Memory.wf s.dram.mem = true) :
    Memory.wf (State.sweepTile s t read).2.dram.mem = true := by
  unfold State.sweepTile; try dsimp only
  repeat' first
    | with_reducible assumption
    | with_reducible refine k_pair_ite ?_ ?_
    | with_reducible refine State.endFlow_keeps ?_
    | with_reducible refine State.keepBinding_keeps ?_
    | split

theorem State.sweepTiles_keeps {x0 : List (Nat × Option Bytes)} {x1 : State} (h0 : Memory.wf x1.dram.mem = true) :
    Memory.wf (State.sweepTiles x0 x1).2.dram.mem = true := by
  induction x0 generalizing x1 with
  | nil =>
    unfold State.sweepTiles; try dsimp only
    assumption
  | cons a l ih =>
    unfold State.sweepTiles; try dsimp only
    repeat' first
      | with_reducible assumption
      | with_reducible apply ih
      | with_reducible refine State.sweepTile_keeps ?_
      | with_reducible refine k_pair (by with_reducible assumption) ?_
      | split

theorem State.sweepOn_keeps {s : State} (h0 : Memory.wf s.dram.mem = true) : Memory.wf (State.sweepOn s).dram.mem = true := by
  unfold State.sweepOn; try dsimp only
  repeat' first | with_reducible assumption | with_reducible refine k_ite ?_ ?_ | with_reducible refine State.lifeCount_keeps ?_

theorem execSweepBucketVisit_keeps {hurt : Upsets} {s : State} (h0 : Memory.wf s.dram.mem = true) :
    OutKeeps (execSweepBucketVisit hurt s) := by
  unfold execSweepBucketVisit; try dsimp only
  repeat' first
    | with_reducible assumption
    | with_reducible refine k_out_ite ?_ ?_
    | with_reducible refine State.readBucket_keeps ?_
    | with_reducible refine State.struckOn_keeps ?_
    | with_reducible refine State.sweepTiles_keeps ?_
    | with_reducible refine done_keeps ?_ ?_
    | with_reducible refine State.sweepOn_keeps ?_
    | with_reducible refine k_next ?_
    | with_reducible refine k_pair (by with_reducible assumption) ?_
    | split

theorem State.unqueue_keeps {s : State} {q : Nat} {i : Nat} (h0 : Memory.wf s.dram.mem = true) :
    Memory.wf (State.unqueue s q i).dram.mem = true := h0

theorem State.bufferFault_keeps {s : State} {h : Nat × Nat} (h0 : Memory.wf s.dram.mem = true) :
    Memory.wf (State.bufferFault s h).dram.mem = true := by
  unfold State.bufferFault; try dsimp only
  repeat' first
    | with_reducible assumption
    | with_reducible refine State.logError_keeps ?_
    | with_reducible refine State.countDiscard_keeps ?_
    | with_reducible refine State.bufCount_keeps ?_
    | with_reducible refine State.unqueue_keeps ?_
    | split

theorem execScrubRead_keeps {hurt : Upsets} {s : State} (h0 : Memory.wf s.dram.mem = true) : OutKeeps (execScrubRead hurt s) := by
  unfold execScrubRead; try dsimp only
  repeat' first
    | with_reducible assumption
    | with_reducible refine k_ite ?_ ?_
    | with_reducible refine k_out_ite ?_ ?_
    | with_reducible refine State.storeFault_keeps ?_
    | with_reducible refine State.bufferFault_keeps ?_
    | with_reducible refine State.struckOn_keeps ?_
    | with_reducible refine State.lifeCount_keeps ?_
    | with_reducible refine State.readTile_keeps ?_
    | with_reducible refine done_keeps ?_ ?_
    | with_reducible refine k_next ?_
    | with_reducible refine k_foldl ?_ (fun _ _ _ => ?_)

theorem execFaultHistoryExpire_keeps {s : State} (h0 : Memory.wf s.dram.mem = true) : OutKeeps (execFaultHistoryExpire s) := by
  unfold execFaultHistoryExpire; try dsimp only
  repeat' first | with_reducible assumption | with_reducible refine done_keeps ?_ ?_

theorem execTaskPromote_keeps {s : State} (h0 : Memory.wf s.dram.mem = true) : OutKeeps (execTaskPromote s) := by
  unfold execTaskPromote; try dsimp only
  repeat' first
    | with_reducible assumption
    | with_reducible refine k_out_ite ?_ ?_
    | with_reducible refine done_keeps ?_ ?_
    | with_reducible refine State.judgeLag_keeps ?_
    | with_reducible refine k_next ?_

theorem State.stageNat_keeps {s : State} {f : NatCfg → NatCfg} (h0 : Memory.wf s.dram.mem = true) :
    Memory.wf (State.stageNat s f).dram.mem = true := by
  unfold State.stageNat; try dsimp only
  repeat' first | with_reducible assumption | with_reducible refine State.stageWith_keeps ?_

theorem recPoolAddress_keeps {s : State} {b : Bytes} {base : Nat} (h0 : Memory.wf s.dram.mem = true) :
    RecKeeps (recPoolAddress s b base) := by
  unfold recPoolAddress; try dsimp only
  repeat' first
    | with_reducible assumption
    | with_reducible refine k_rec_ite ?_ ?_
    | with_reducible refine recZero_keeps ?_
    | with_reducible refine State.stageNat_keeps ?_
    | with_reducible exact k_refuse
    | with_reducible refine k_ok ?_
    | split

theorem recPoolSet_keeps {s : State} {b : Bytes} {base : Nat} (h0 : Memory.wf s.dram.mem = true) : RecKeeps (recPoolSet s b base) := by
  unfold recPoolSet; try dsimp only
  repeat' first
    | with_reducible assumption
    | with_reducible refine recZero_keeps ?_
    | with_reducible refine State.stageNat_keeps ?_
    | with_reducible exact k_refuse
    | with_reducible refine k_ok ?_
    | split

theorem recPoolRemove_keeps {s : State} {b : Bytes} {base : Nat} (h0 : Memory.wf s.dram.mem = true) :
    RecKeeps (recPoolRemove s b base) := by
  unfold recPoolRemove; try dsimp only
  repeat' first
    | with_reducible assumption
    | with_reducible refine k_rec_ite ?_ ?_
    | with_reducible refine recZero_keeps ?_
    | with_reducible refine State.stageNat_keeps ?_
    | with_reducible exact k_refuse
    | with_reducible refine k_ok ?_

theorem recNatPoolSet_keeps {m : Msg} {s : State} {b : Bytes} {base : Nat} (h0 : Memory.wf s.dram.mem = true) :
    RecKeeps (recNatPoolSet m s b base) := by
  unfold recNatPoolSet; try dsimp only
  repeat' first
    | with_reducible assumption
    | with_reducible refine k_rec_ite ?_ ?_
    | with_reducible refine noStage_keeps
    | with_reducible refine recPoolAddress_keeps ?_
    | with_reducible refine recPoolSet_keeps ?_
    | with_reducible refine recPoolRemove_keeps ?_
    | with_reducible exact k_refuse

theorem cmdNatPoolSet_keeps : CmdKeeps cmdNatPoolSet := fun _ _ h => records_keeps (fun _ _ _ h => recNatPoolSet_keeps h) h
theorem execNatPoolSet_keeps {m : Msg} {s : State} (h0 : Memory.wf s.dram.mem = true) :
    OutKeeps (execNatPoolSet m s) := runCommand_keeps cmdNatPoolSet_keeps h0

theorem bodyNatPoolRead_keeps {m : Msg} {s : State} (h0 : Memory.wf s.dram.mem = true) :
    Memory.wf (bodyNatPoolRead m s).state.dram.mem = true := by
  unfold bodyNatPoolRead; try dsimp only
  repeat' first
    | with_reducible assumption
    | with_reducible refine k_done_ite ?_ ?_
    | with_reducible refine badParam_keeps ?_
    | with_reducible refine needZero_keeps ?_ ?_
    | with_reducible refine State.readBindings_keeps ?_
    | with_reducible refine ok_keeps ?_
    | with_reducible refine outOfRange_keeps ?_
    | split

theorem cmdNatPoolRead_keeps : CmdKeeps cmdNatPoolRead := fun _ _ h => bodyNatPoolRead_keeps h
theorem execNatPoolRead_keeps {m : Msg} {s : State} (h0 : Memory.wf s.dram.mem = true) :
    OutKeeps (execNatPoolRead m s) := runCommand_keeps cmdNatPoolRead_keeps h0

theorem bodyNatBlockConfig_keeps {m : Msg} {s : State} (h0 : Memory.wf s.dram.mem = true) :
    Memory.wf (bodyNatBlockConfig m s).state.dram.mem = true := by
  unfold bodyNatBlockConfig; try dsimp only
  repeat' first
    | with_reducible assumption
    | with_reducible refine k_ite ?_ ?_
    | with_reducible refine k_done_ite ?_ ?_
    | with_reducible refine badParam_keeps ?_
    | with_reducible refine needZero_keeps ?_ ?_
    | with_reducible refine ok_keeps ?_
    | with_reducible refine refuse_keeps ?_
    | with_reducible refine outOfRange_keeps ?_
    | with_reducible refine State.stageNat_keeps ?_

theorem cmdNatBlockConfig_keeps : CmdKeeps cmdNatBlockConfig := fun _ _ h => bodyNatBlockConfig_keeps h
theorem execNatBlockConfig_keeps {m : Msg} {s : State} (h0 : Memory.wf s.dram.mem = true) :
    OutKeeps (execNatBlockConfig m s) := runCommand_keeps cmdNatBlockConfig_keeps h0

theorem State.bindingView_keeps {s : State} {idx : Nat} (h0 : Memory.wf s.dram.mem = true) :
    Memory.wf (State.bindingView s idx).2.dram.mem = true := by
  unfold State.bindingView; try dsimp only
  repeat' first
    | with_reducible assumption
    | with_reducible refine State.readTile_keeps ?_
    | with_reducible refine k_pair (by with_reducible assumption) ?_
    | split

theorem State.bindingViews_keeps {x0 : List Nat} {x1 : State} (h0 : Memory.wf x1.dram.mem = true) :
    Memory.wf (State.bindingViews x0 x1).2.dram.mem = true := by
  induction x0 generalizing x1 with
  | nil =>
    unfold State.bindingViews; try dsimp only
    assumption
  | cons a l ih =>
    unfold State.bindingViews; try dsimp only
    repeat' first | with_reducible assumption | with_reducible apply ih | with_reducible refine State.bindingView_keeps ?_

theorem bodyNatBindingRead_keeps {m : Msg} {s : State} (h0 : Memory.wf s.dram.mem = true) :
    Memory.wf (bodyNatBindingRead m s).state.dram.mem = true := by
  unfold bodyNatBindingRead; try dsimp only
  repeat' first
    | with_reducible assumption
    | with_reducible refine k_done_ite ?_ ?_
    | with_reducible refine outOfRange_keeps ?_
    | with_reducible refine needZero_keeps ?_ ?_
    | with_reducible refine State.bindingViews_keeps ?_
    | with_reducible refine ok_keeps ?_
    | with_reducible refine State.bindingView_keeps ?_
    | with_reducible refine State.meetSub_keeps ?_
    | with_reducible refine badParam_keeps ?_
    | with_reducible refine State.readTile1_keeps ?_
    | split

theorem cmdNatBindingRead_keeps : CmdKeeps cmdNatBindingRead := fun _ _ h => bodyNatBindingRead_keeps h
theorem execNatBindingRead_keeps {m : Msg} {s : State} (h0 : Memory.wf s.dram.mem = true) :
    OutKeeps (execNatBindingRead m s) := runCommand_keeps cmdNatBindingRead_keeps h0

theorem State.dropBlock_keeps {s : State} {slot : Nat} {cause : Nat} (h0 : Memory.wf s.dram.mem = true) :
    Memory.wf (State.dropBlock s slot cause).dram.mem = true := by
  unfold State.dropBlock; try dsimp only
  repeat' first
    | with_reducible assumption
    | with_reducible refine State.releaseBlock_keeps ?_
    | with_reducible refine State.readBinding_keeps ?_
    | with_reducible refine State.freeBinding_keeps ?_
    | with_reducible refine k_foldl ?_ (fun _ _ _ => ?_)
    | with_reducible refine k_pair (by with_reducible assumption) ?_
    | split

theorem recBindingRelease_keeps {s : State} {b : Bytes} {base : Nat} (h0 : Memory.wf s.dram.mem = true) :
    RecKeeps (recBindingRelease s b base) := by
  unfold recBindingRelease; try dsimp only
  repeat' first
    | with_reducible assumption
    | with_reducible refine k_rec_ite ?_ ?_
    | with_reducible refine recZero_keeps ?_
    | with_reducible refine State.readBinding_keeps ?_
    | with_reducible refine State.freeBinding_keeps ?_
    | with_reducible refine State.dropBlock_keeps ?_
    | with_reducible refine State.meetSub_keeps ?_
    | with_reducible exact k_refuse
    | with_reducible refine k_ok ?_
    | with_reducible refine k_refuseWith ?_
    | with_reducible refine k_foldl ?_ (fun _ _ _ => ?_)
    | with_reducible refine k_pair (by with_reducible assumption) ?_
    | split

theorem cmdNatBindingRelease_keeps :
    CmdKeeps cmdNatBindingRelease := fun _ _ h => records_keeps (fun _ _ _ h => recBindingRelease_keeps h) h
theorem execNatBindingRelease_keeps {m : Msg} {s : State} (h0 : Memory.wf s.dram.mem = true) :
    OutKeeps (execNatBindingRelease m s) := runCommand_keeps cmdNatBindingRelease_keeps h0

theorem recBalGroupSet_keeps {m : Msg} {s : State} {b : Bytes} {base : Nat} (h0 : Memory.wf s.dram.mem = true) :
    RecKeeps (recBalGroupSet m s b base) := by
  unfold recBalGroupSet; try dsimp only
  repeat' first
    | with_reducible assumption
    | with_reducible refine k_rec_ite ?_ ?_
    | with_reducible refine noStage_keeps
    | with_reducible refine recZero_keeps ?_
    | with_reducible refine State.stageNat_keeps ?_
    | with_reducible refine State.newRuns_keeps ?_
    | with_reducible exact k_refuse
    | with_reducible refine k_ok ?_
    | split

theorem cmdBalGroupSet_keeps : CmdKeeps cmdBalGroupSet := fun _ _ h => records_keeps (fun _ _ _ h => recBalGroupSet_keeps h) h
theorem execBalGroupSet_keeps {m : Msg} {s : State} (h0 : Memory.wf s.dram.mem = true) :
    OutKeeps (execBalGroupSet m s) := runCommand_keeps cmdBalGroupSet_keeps h0

theorem State.stageGroup_keeps {s : State} {g : Nat} {f : Group → Group} (h0 : Memory.wf s.dram.mem = true) :
    Memory.wf (State.stageGroup s g f).dram.mem = true := by
  unfold State.stageGroup; try dsimp only
  repeat' first | with_reducible assumption | with_reducible refine State.stageNat_keeps ?_ | split

theorem recBalMemberSet_keeps {m : Msg} {s : State} {b : Bytes} {base : Nat} (h0 : Memory.wf s.dram.mem = true) :
    RecKeeps (recBalMemberSet m s b base) := by
  unfold recBalMemberSet; try dsimp only
  repeat' first
    | with_reducible assumption
    | with_reducible refine k_rec_ite ?_ ?_
    | with_reducible refine noStage_keeps
    | with_reducible refine recZero_keeps ?_
    | with_reducible refine State.stageGroup_keeps ?_
    | with_reducible exact k_refuse
    | with_reducible refine k_ok ?_

theorem cmdBalMemberSet_keeps : CmdKeeps cmdBalMemberSet := fun _ _ h => records_keeps (fun _ _ _ h => recBalMemberSet_keeps h) h
theorem execBalMemberSet_keeps {m : Msg} {s : State} (h0 : Memory.wf s.dram.mem = true) :
    OutKeeps (execBalMemberSet m s) := runCommand_keeps cmdBalMemberSet_keeps h0

theorem recBalMemberDrain_keeps {m : Msg} {s : State} {b : Bytes} {base : Nat} (h0 : Memory.wf s.dram.mem = true) :
    RecKeeps (recBalMemberDrain m s b base) := by
  unfold recBalMemberDrain; try dsimp only
  repeat' first
    | with_reducible assumption
    | with_reducible refine k_rec_ite ?_ ?_
    | with_reducible refine noStage_keeps
    | with_reducible refine recZero_keeps ?_
    | with_reducible refine State.stageGroup_keeps ?_
    | with_reducible exact k_refuse
    | with_reducible refine k_ok ?_
    | split

theorem cmdBalMemberDrain_keeps : CmdKeeps cmdBalMemberDrain := fun _ _ h => records_keeps (fun _ _ _ h => recBalMemberDrain_keeps h) h
theorem execBalMemberDrain_keeps {m : Msg} {s : State} (h0 : Memory.wf s.dram.mem = true) :
    OutKeeps (execBalMemberDrain m s) := runCommand_keeps cmdBalMemberDrain_keeps h0

theorem bodyBalGroupRead_keeps {m : Msg} {s : State} (h0 : Memory.wf s.dram.mem = true) :
    Memory.wf (bodyBalGroupRead m s).state.dram.mem = true := by
  unfold bodyBalGroupRead; try dsimp only
  repeat' first
    | with_reducible assumption
    | with_reducible refine k_done_ite ?_ ?_
    | with_reducible refine badParam_keeps ?_
    | with_reducible refine needZero_keeps ?_ ?_
    | with_reducible refine ok_keeps ?_
    | split

theorem cmdBalGroupRead_keeps : CmdKeeps cmdBalGroupRead := fun _ _ h => bodyBalGroupRead_keeps h
theorem execBalGroupRead_keeps {m : Msg} {s : State} (h0 : Memory.wf s.dram.mem = true) :
    OutKeeps (execBalGroupRead m s) := runCommand_keeps cmdBalGroupRead_keeps h0

theorem State.mend_keeps {s : State} {t : Nat} (h0 : Memory.wf s.dram.mem = true) : Memory.wf (State.mend s t).dram.mem = true := by
  unfold State.mend; try dsimp only
  assumption

theorem recSubWrite_keeps {m : Msg} {s : State} {b : Bytes} {base : Nat} (h0 : Memory.wf s.dram.mem = true) :
    RecKeeps (recSubWrite m s b base) := by
  unfold recSubWrite; try dsimp only
  repeat' first
    | with_reducible assumption
    | with_reducible refine k_rec_ite ?_ ?_
    | with_reducible refine noStage_keeps
    | with_reducible refine State.mend_keeps ?_
    | with_reducible refine State.stageNat_keeps ?_
    | with_reducible refine recZero_keeps ?_
    | with_reducible exact k_refuse
    | with_reducible refine k_ok ?_
    | split

theorem cmdSubWrite_keeps : CmdKeeps cmdSubWrite := fun _ _ h => records_keeps (fun _ _ _ h => recSubWrite_keeps h) h
theorem execSubWrite_keeps {m : Msg} {s : State} (h0 : Memory.wf s.dram.mem = true) :
    OutKeeps (execSubWrite m s) := runCommand_keeps cmdSubWrite_keeps h0

theorem State.mergedCounts_keeps {s : State} {sub : Nat} {who : Consumer} (h0 : Memory.wf s.dram.mem = true) :
    Memory.wf (State.mergedCounts s sub who).2.2.dram.mem = true := by
  unfold State.mergedCounts; try dsimp only
  repeat' first | with_reducible assumption | with_reducible refine State.readTile_keeps ?_

theorem bodySubRead_keeps {m : Msg} {s : State} (h0 : Memory.wf s.dram.mem = true) : Memory.wf (bodySubRead m s).state.dram.mem = true := by
  unfold bodySubRead; try dsimp only
  repeat' first
    | with_reducible assumption
    | with_reducible refine k_ite ?_ ?_
    | with_reducible refine k_done_ite ?_ ?_
    | with_reducible refine badParam_keeps ?_
    | with_reducible refine needZero_keeps ?_ ?_
    | with_reducible refine ok_keeps ?_
    | with_reducible refine State.meetSub_keeps ?_
    | with_reducible refine State.readTile1_keeps ?_
    | with_reducible refine State.mergedCounts_keeps ?_
    | with_reducible refine State.taskWrite_keeps ?_
    | split

theorem cmdSubRead_keeps : CmdKeeps cmdSubRead := fun _ _ h => bodySubRead_keeps h
theorem execSubRead_keeps {m : Msg} {s : State} (h0 : Memory.wf s.dram.mem = true) :
    OutKeeps (execSubRead m s) := runCommand_keeps cmdSubRead_keeps h0

theorem recSubPolicySet_keeps {m : Msg} {s : State} {b : Bytes} {base : Nat} (h0 : Memory.wf s.dram.mem = true) :
    RecKeeps (recSubPolicySet m s b base) := by
  unfold recSubPolicySet; try dsimp only
  repeat' first
    | with_reducible assumption
    | with_reducible refine k_rec_ite ?_ ?_
    | with_reducible refine recZero_keeps ?_
    | with_reducible refine noStage_keeps
    | with_reducible refine State.stageNat_keeps ?_
    | with_reducible exact k_refuse
    | with_reducible refine k_ok ?_

theorem cmdSubPolicySet_keeps : CmdKeeps cmdSubPolicySet := fun _ _ h => records_keeps (fun _ _ _ h => recSubPolicySet_keeps h) h
theorem execSubPolicySet_keeps {m : Msg} {s : State} (h0 : Memory.wf s.dram.mem = true) :
    OutKeeps (execSubPolicySet m s) := runCommand_keeps cmdSubPolicySet_keeps h0

theorem recActionWrite_keeps {m : Msg} {s : State} {b : Bytes} {base : Nat} (h0 : Memory.wf s.dram.mem = true) :
    RecKeeps (recActionWrite m s b base) := by
  unfold recActionWrite; try dsimp only
  repeat' first
    | with_reducible assumption
    | with_reducible refine k_rec_ite ?_ ?_
    | with_reducible refine noStage_keeps
    | with_reducible refine State.mend_keeps ?_
    | with_reducible refine State.stageNat_keeps ?_
    | with_reducible refine recZero_keeps ?_
    | with_reducible exact k_refuse
    | with_reducible refine k_ok ?_
    | split

theorem cmdActionWrite_keeps : CmdKeeps cmdActionWrite := fun _ _ h => records_keeps (fun _ _ _ h => recActionWrite_keeps h) h
theorem execActionWrite_keeps {m : Msg} {s : State} (h0 : Memory.wf s.dram.mem = true) :
    OutKeeps (execActionWrite m s) := runCommand_keeps cmdActionWrite_keeps h0

theorem readEntries_keeps {v : Staged} {x1 : List Nat} {x2 : State} (h0 : Memory.wf x2.dram.mem = true) :
    Memory.wf (readEntries v x1 x2).2.dram.mem = true := by
  induction x1 generalizing x2 with
  | nil =>
    unfold readEntries; try dsimp only
    assumption
  | cons a l ih =>
    unfold readEntries; try dsimp only
    repeat' first | with_reducible assumption | with_reducible apply ih | with_reducible refine State.readTileIn_keeps ?_

theorem bodyActionRead_keeps {m : Msg} {s : State} (h0 : Memory.wf s.dram.mem = true) :
    Memory.wf (bodyActionRead m s).state.dram.mem = true := by
  unfold bodyActionRead; try dsimp only
  repeat' first
    | with_reducible assumption
    | with_reducible refine k_done_ite ?_ ?_
    | with_reducible refine outOfRange_keeps ?_
    | with_reducible refine needZero_keeps ?_ ?_
    | with_reducible refine readEntries_keeps ?_
    | with_reducible refine ok_keeps ?_

theorem cmdActionRead_keeps : CmdKeeps cmdActionRead := fun _ _ h => bodyActionRead_keeps h
theorem execActionRead_keeps {m : Msg} {s : State} (h0 : Memory.wf s.dram.mem = true) :
    OutKeeps (execActionRead m s) := runCommand_keeps cmdActionRead_keeps h0

theorem State.applyMended_keeps {s : State} (h0 : Memory.wf s.dram.mem = true) : Memory.wf (State.applyMended s).dram.mem = true := h0

theorem State.settleGroups_keeps {old : State} {s : State} (_h0 : Memory.wf old.dram.mem = true) (h1 : Memory.wf s.dram.mem = true) :
    Memory.wf (State.settleGroups old s).dram.mem = true := by
  unfold State.settleGroups; try dsimp only
  repeat' first
    | with_reducible assumption
    | with_reducible refine State.retireSeam_keeps ?_
    | with_reducible refine k_foldl ?_ (fun _ _ _ => ?_)

theorem State.dropMended_keeps {s : State} (h0 : Memory.wf s.dram.mem = true) : Memory.wf (State.dropMended s).dram.mem = true := by
  unfold State.dropMended; try dsimp only
  assumption

theorem State.repairBinding_keeps {s0 : State} {idx : Nat} {key : Bytes} {stamp : W16} (h0 : Memory.wf s0.dram.mem = true) :
    Memory.wf (State.repairBinding s0 idx key stamp).dram.mem = true := by
  unfold State.repairBinding; try dsimp only
  repeat' first
    | with_reducible assumption
    | with_reducible refine k_ite ?_ ?_
    | with_reducible refine State.meetSub_keeps ?_
    | with_reducible refine State.draw_keeps ?_
    | with_reducible refine State.natCount_keeps ?_
    | with_reducible refine State.setLive_keeps ?_
    | with_reducible refine State.taskWrite_keeps ?_
    | split

theorem State.visitBinding_keeps {s : State} {idx : Nat} (h0 : Memory.wf s.dram.mem = true) :
    Memory.wf (State.visitBinding s idx).dram.mem = true := by
  unfold State.visitBinding; try dsimp only
  repeat' first
    | with_reducible assumption
    | with_reducible refine k_ite ?_ ?_
    | with_reducible refine State.readBinding_keeps ?_
    | with_reducible refine State.taskWrite_keeps ?_
    | with_reducible refine State.freeBinding_keeps ?_
    | with_reducible refine k_pair (by with_reducible assumption) ?_
    | split

theorem State.visitBlock_keeps {s : State} {slot : Nat} (h0 : Memory.wf s.dram.mem = true) :
    Memory.wf (State.visitBlock s slot).dram.mem = true := by
  unfold State.visitBlock; try dsimp only
  repeat' first
    | with_reducible assumption
    | with_reducible refine k_ite ?_ ?_
    | with_reducible refine State.setBlock_keeps ?_
    | with_reducible refine State.releaseBlock_keeps ?_
    | split

theorem execBindingVisit_keeps {s : State} (h0 : Memory.wf s.dram.mem = true) : OutKeeps (execBindingVisit s) := by
  unfold execBindingVisit; try dsimp only
  repeat' first
    | with_reducible assumption
    | with_reducible refine k_out_ite ?_ ?_
    | with_reducible refine State.visitBinding_keeps ?_
    | with_reducible refine State.visitBlock_keeps ?_
    | with_reducible refine done_keeps ?_ ?_
    | with_reducible refine k_next ?_
    | with_reducible refine k_foldl ?_ (fun _ _ _ => ?_)

theorem execDeferredBlockRelease_keeps {s : State} (h0 : Memory.wf s.dram.mem = true) : OutKeeps (execDeferredBlockRelease s) := by
  unfold execDeferredBlockRelease; try dsimp only
  repeat' first
    | with_reducible assumption
    | with_reducible refine k_out_ite ?_ ?_
    | with_reducible refine done_keeps ?_ ?_
    | with_reducible refine State.dropBlock_keeps ?_
    | with_reducible refine k_next ?_
    | split

theorem execBindingRepair_keeps {hurt : Upsets} {s : State} (h0 : Memory.wf s.dram.mem = true) : OutKeeps (execBindingRepair hurt s) := by
  unfold execBindingRepair; try dsimp only
  repeat' first
    | with_reducible assumption
    | with_reducible refine k_out_ite ?_ ?_
    | with_reducible refine State.repairBinding_keeps ?_
    | with_reducible refine State.upset_keeps ?_
    | with_reducible refine done_keeps ?_ ?_
    | with_reducible refine State.finishWork_keeps ?_
    | with_reducible refine k_next ?_
    | split

theorem State.flushSub_keeps {s : State} {sub : Nat} (h0 : Memory.wf s.dram.mem = true) :
    Memory.wf (State.flushSub s sub).dram.mem = true := by
  unfold State.flushSub; try dsimp only
  repeat' first
    | with_reducible assumption
    | with_reducible refine State.mergedCounts_keeps ?_
    | with_reducible refine State.taskWrite_keeps ?_

theorem execSubCounterFlush_keeps {hurt : Upsets} {s : State} (h0 : Memory.wf s.dram.mem = true) :
    OutKeeps (execSubCounterFlush hurt s) := by
  unfold execSubCounterFlush; try dsimp only
  repeat' first
    | with_reducible assumption
    | with_reducible refine k_out_ite ?_ ?_
    | with_reducible refine done_keeps ?_ ?_
    | with_reducible refine State.flushSub_keeps ?_
    | with_reducible refine State.upset_keeps ?_
    | with_reducible refine k_next ?_
    | with_reducible refine k_foldl ?_ (fun _ _ _ => ?_)

theorem State.stageFwd_keeps {s : State} {f : FwdCfg → FwdCfg} (h0 : Memory.wf s.dram.mem = true) :
    Memory.wf (State.stageFwd s f).dram.mem = true := by
  unfold State.stageFwd; try dsimp only
  repeat' first | with_reducible assumption | with_reducible refine State.stageWith_keeps ?_

theorem recBridgeEntrySet_keeps {m : Msg} {s : State} {b : Bytes} {base : Nat} (h0 : Memory.wf s.dram.mem = true) :
    RecKeeps (recBridgeEntrySet m s b base) := by
  unfold recBridgeEntrySet; try dsimp only
  repeat' first
    | with_reducible assumption
    | with_reducible refine k_rec_ite ?_ ?_
    | with_reducible refine noStage_keeps
    | with_reducible refine recZero_keeps ?_
    | with_reducible refine State.stageFwd_keeps ?_
    | with_reducible exact k_refuse
    | with_reducible refine k_ok ?_
    | split

theorem cmdBridgeEntrySet_keeps : CmdKeeps cmdBridgeEntrySet := fun _ _ h => records_keeps (fun _ _ _ h => recBridgeEntrySet_keeps h) h
theorem execBridgeEntrySet_keeps {m : Msg} {s : State} (h0 : Memory.wf s.dram.mem = true) :
    OutKeeps (execBridgeEntrySet m s) := runCommand_keeps cmdBridgeEntrySet_keeps h0

theorem State.unlearn_keeps {s : State} {domain : Nat} {mac : Nat} {pipe : Bool} (h0 : Memory.wf s.dram.mem = true) :
    Memory.wf (State.unlearn s domain mac pipe).dram.mem = true := by
  unfold State.unlearn; try dsimp only
  repeat' first | with_reducible assumption | with_reducible refine State.setLearned_keeps ?_ | split

theorem recBridgeEntryDelete_keeps {m : Msg} {s : State} {b : Bytes} {base : Nat} (h0 : Memory.wf s.dram.mem = true) :
    RecKeeps (recBridgeEntryDelete m s b base) := by
  unfold recBridgeEntryDelete; try dsimp only
  repeat' first
    | with_reducible assumption
    | with_reducible refine k_rec_ite ?_ ?_
    | with_reducible refine recZero_keeps ?_
    | with_reducible refine State.stageFwd_keeps ?_
    | with_reducible refine State.unlearn_keeps ?_
    | with_reducible exact k_refuse
    | with_reducible refine k_ok ?_
    | with_reducible refine k_foldl ?_ (fun _ _ _ => ?_)

theorem cmdBridgeEntryDelete_keeps :
    CmdKeeps cmdBridgeEntryDelete := fun _ _ h => records_keeps (fun _ _ _ h => recBridgeEntryDelete_keeps h) h
theorem execBridgeEntryDelete_keeps {m : Msg} {s : State} (h0 : Memory.wf s.dram.mem = true) :
    OutKeeps (execBridgeEntryDelete m s) := runCommand_keeps cmdBridgeEntryDelete_keeps h0

theorem bodyBridgeRead_keeps {m : Msg} {s : State} (h0 : Memory.wf s.dram.mem = true) :
    Memory.wf (bodyBridgeRead m s).state.dram.mem = true := by
  unfold bodyBridgeRead; try dsimp only
  repeat' first
    | with_reducible assumption
    | with_reducible refine k_done_ite ?_ ?_
    | with_reducible refine badParam_keeps ?_
    | with_reducible refine needZero_keeps ?_ ?_
    | with_reducible refine outOfRange_keeps ?_
    | with_reducible refine ok_keeps ?_

theorem cmdBridgeRead_keeps : CmdKeeps cmdBridgeRead := fun _ _ h => bodyBridgeRead_keeps h
theorem execBridgeRead_keeps {m : Msg} {s : State} (h0 : Memory.wf s.dram.mem = true) :
    OutKeeps (execBridgeRead m s) := runCommand_keeps cmdBridgeRead_keeps h0

theorem recDomain_keeps {m : Msg} {s : State} {b : Bytes} {base : Nat} (h0 : Memory.wf s.dram.mem = true) :
    RecKeeps (recDomain m s b base) := by
  unfold recDomain; try dsimp only
  repeat' first
    | with_reducible assumption
    | with_reducible refine k_rec_ite ?_ ?_
    | with_reducible refine recZero_keeps ?_
    | with_reducible refine noStage_keeps
    | with_reducible refine State.stageFwd_keeps ?_
    | with_reducible exact k_refuse
    | with_reducible refine k_ok ?_

theorem recPortDomain_keeps {m : Msg} {s : State} {b : Bytes} {base : Nat} (h0 : Memory.wf s.dram.mem = true) :
    RecKeeps (recPortDomain m s b base) := by
  unfold recPortDomain; try dsimp only
  repeat' first
    | with_reducible assumption
    | with_reducible refine k_rec_ite ?_ ?_
    | with_reducible refine recZero_keeps ?_
    | with_reducible refine noStage_keeps
    | with_reducible refine State.stageFwd_keeps ?_
    | with_reducible exact k_refuse
    | with_reducible refine k_ok ?_

theorem recBridgeDomainSet_keeps {m : Msg} {s : State} {b : Bytes} {base : Nat} (h0 : Memory.wf s.dram.mem = true) :
    RecKeeps (recBridgeDomainSet m s b base) := by
  unfold recBridgeDomainSet; try dsimp only
  repeat' first
    | with_reducible assumption
    | with_reducible refine k_rec_ite ?_ ?_
    | with_reducible refine recDomain_keeps ?_
    | with_reducible refine recPortDomain_keeps ?_
    | with_reducible exact k_refuse

theorem cmdBridgeDomainSet_keeps : CmdKeeps cmdBridgeDomainSet := fun _ _ h => records_keeps (fun _ _ _ h => recBridgeDomainSet_keeps h) h
theorem execBridgeDomainSet_keeps {m : Msg} {s : State} (h0 : Memory.wf s.dram.mem = true) :
    OutKeeps (execBridgeDomainSet m s) := runCommand_keeps cmdBridgeDomainSet_keeps h0

theorem recLearnLimitSet_keeps {m : Msg} {s : State} {b : Bytes} {base : Nat} (h0 : Memory.wf s.dram.mem = true) :
    RecKeeps (recLearnLimitSet m s b base) := by
  unfold recLearnLimitSet; try dsimp only
  repeat' first
    | with_reducible assumption
    | with_reducible refine k_rec_ite ?_ ?_
    | with_reducible refine recZero_keeps ?_
    | with_reducible refine noStage_keeps
    | with_reducible refine State.stageFwd_keeps ?_
    | with_reducible exact k_refuse
    | with_reducible refine k_ok ?_

theorem cmdLearnLimitSet_keeps : CmdKeeps cmdLearnLimitSet := fun _ _ h => records_keeps (fun _ _ _ h => recLearnLimitSet_keeps h) h
theorem execLearnLimitSet_keeps {m : Msg} {s : State} (h0 : Memory.wf s.dram.mem = true) :
    OutKeeps (execLearnLimitSet m s) := runCommand_keeps cmdLearnLimitSet_keeps h0

theorem bodyLearnConfig_keeps {m : Msg} {s : State} (h0 : Memory.wf s.dram.mem = true) :
    Memory.wf (bodyLearnConfig m s).state.dram.mem = true := by
  unfold bodyLearnConfig; try dsimp only
  repeat' first
    | with_reducible assumption
    | with_reducible refine k_ite ?_ ?_
    | with_reducible refine k_done_ite ?_ ?_
    | with_reducible refine badParam_keeps ?_
    | with_reducible refine needZero_keeps ?_ ?_
    | with_reducible refine ok_keeps ?_
    | with_reducible refine refuse_keeps ?_
    | with_reducible refine outOfRange_keeps ?_
    | with_reducible refine State.stageFwd_keeps ?_

theorem cmdLearnConfig_keeps : CmdKeeps cmdLearnConfig := fun _ _ h => bodyLearnConfig_keeps h
theorem execLearnConfig_keeps {m : Msg} {s : State} (h0 : Memory.wf s.dram.mem = true) :
    OutKeeps (execLearnConfig m s) := runCommand_keeps cmdLearnConfig_keeps h0

theorem bodyRouteBuild_keeps {m : Msg} {s : State} (h0 : Memory.wf s.dram.mem = true) :
    Memory.wf (bodyRouteBuild m s).state.dram.mem = true := by
  unfold bodyRouteBuild
  dsimp only
  split
  · exact badParam_keeps h0
  · refine needZero_keeps h0 ?_
    split
    · exact badParam_keeps h0
    · split
      · exact outOfRange_keeps h0
      · split
        · exact refuse_keeps h0
        · split
          · exact refuse_keeps h0
          · rename_i s1 e
            have h1 : Memory.wf s1.dram.mem = true := k_opt e (State.newTasks_keeps h0)
            exact ok_keeps h1

theorem recRoute_keeps {s : State} {b : Bytes} {base : Nat} (h0 : Memory.wf s.dram.mem = true) : RecKeeps (recRoute s b base) := by
  unfold recRoute; try dsimp only
  repeat' first
    | with_reducible assumption
    | with_reducible refine k_rec_ite ?_ ?_
    | with_reducible refine State.stageFwd_keeps ?_
    | with_reducible exact k_refuse
    | with_reducible refine k_ok ?_
    | split

theorem bodyRouteLoad_keeps {m : Msg} {s : State} (h0 : Memory.wf s.dram.mem = true) :
    Memory.wf (bodyRouteLoad m s).state.dram.mem = true := by
  unfold bodyRouteLoad; try dsimp only
  repeat' first
    | with_reducible assumption
    | with_reducible refine k_done_ite ?_ ?_
    | with_reducible refine refuse_keeps ?_
    | with_reducible refine bodyRouteBuild_keeps ?_
    | with_reducible refine records_keeps ?_ ?_
    | with_reducible refine recRoute_keeps ?_
    | with_reducible refine fun _ _ _ _ => ?_

theorem cmdRouteLoad_keeps : CmdKeeps cmdRouteLoad := fun _ _ h => bodyRouteLoad_keeps h
theorem execRouteLoad_keeps {m : Msg} {s : State} (h0 : Memory.wf s.dram.mem = true) :
    OutKeeps (execRouteLoad m s) := runCommand_keeps cmdRouteLoad_keeps h0

theorem bodyRouteRead_keeps {m : Msg} {s : State} (h0 : Memory.wf s.dram.mem = true) :
    Memory.wf (bodyRouteRead m s).state.dram.mem = true := by
  unfold bodyRouteRead; try dsimp only
  repeat' first
    | with_reducible assumption
    | with_reducible refine k_done_ite ?_ ?_
    | with_reducible refine badParam_keeps ?_
    | with_reducible refine needZero_keeps ?_ ?_
    | with_reducible refine ok_keeps ?_
    | with_reducible refine outOfRange_keeps ?_
    | split

theorem cmdRouteRead_keeps : CmdKeeps cmdRouteRead := fun _ _ h => bodyRouteRead_keeps h
theorem execRouteRead_keeps {m : Msg} {s : State} (h0 : Memory.wf s.dram.mem = true) :
    OutKeeps (execRouteRead m s) := runCommand_keeps cmdRouteRead_keeps h0

theorem recNexthopSet_keeps {m : Msg} {s : State} {b : Bytes} {base : Nat} (h0 : Memory.wf s.dram.mem = true) :
    RecKeeps (recNexthopSet m s b base) := by
  unfold recNexthopSet; try dsimp only
  repeat' first
    | with_reducible assumption
    | with_reducible refine k_rec_ite ?_ ?_
    | with_reducible refine noStage_keeps
    | with_reducible refine State.stageFwd_keeps ?_
    | with_reducible exact k_refuse
    | with_reducible refine k_ok ?_
    | split

theorem cmdNexthopSet_keeps : CmdKeeps cmdNexthopSet := fun _ _ h => records_keeps (fun _ _ _ h => recNexthopSet_keeps h) h
theorem execNexthopSet_keeps {m : Msg} {s : State} (h0 : Memory.wf s.dram.mem = true) :
    OutKeeps (execNexthopSet m s) := runCommand_keeps cmdNexthopSet_keeps h0

theorem bodyNexthopRead_keeps {m : Msg} {s : State} (h0 : Memory.wf s.dram.mem = true) :
    Memory.wf (bodyNexthopRead m s).state.dram.mem = true := by
  unfold bodyNexthopRead; try dsimp only
  repeat' first
    | with_reducible assumption
    | with_reducible refine k_done_ite ?_ ?_
    | with_reducible refine outOfRange_keeps ?_
    | with_reducible refine needZero_keeps ?_ ?_
    | with_reducible refine ok_keeps ?_

theorem cmdNexthopRead_keeps : CmdKeeps cmdNexthopRead := fun _ _ h => bodyNexthopRead_keeps h
theorem execNexthopRead_keeps {m : Msg} {s : State} (h0 : Memory.wf s.dram.mem = true) :
    OutKeeps (execNexthopRead m s) := runCommand_keeps cmdNexthopRead_keeps h0

theorem State.boundaryLearned_keeps {old : State} {s : State} {pipe : Bool} (_h0 : Memory.wf old.dram.mem = true) (h1 : Memory.wf s.dram.mem = true) :
    Memory.wf (State.boundaryLearned old s pipe).dram.mem = true := by
  unfold State.boundaryLearned; try dsimp only
  repeat' first | with_reducible assumption | with_reducible refine State.setLearned_keeps ?_

theorem State.applyForwarding_keeps {old : State} {s : State} (h0 : Memory.wf old.dram.mem = true) (h1 : Memory.wf s.dram.mem = true) :
    Memory.wf (State.applyForwarding old s).dram.mem = true := by
  unfold State.applyForwarding; try dsimp only
  repeat' first | with_reducible assumption | with_reducible refine State.boundaryLearned_keeps ?_ ?_

theorem State.endRouteBuild_keeps {s : State} {b : Build} (h0 : Memory.wf s.dram.mem = true) :
    Memory.wf (State.endRouteBuild s b).dram.mem = true := by
  unfold State.endRouteBuild; try dsimp only
  repeat' first
    | with_reducible assumption
    | with_reducible refine k_ite ?_ ?_
    | with_reducible refine State.dropWork_keeps ?_
    | with_reducible refine State.finishWork_keeps ?_

theorem State.abandonRoutes_keeps {s : State} (h0 : Memory.wf s.dram.mem = true) : Memory.wf (State.abandonRoutes s).dram.mem = true := by
  unfold State.abandonRoutes; try dsimp only
  repeat' first
    | with_reducible assumption
    | with_reducible refine k_ite ?_ ?_
    | with_reducible refine State.endRouteBuild_keeps ?_

theorem State.ageWay_keeps {s : State} {pipe : Bool} {way : Nat} (h0 : Memory.wf s.dram.mem = true) :
    Memory.wf (State.ageWay s pipe way).dram.mem = true := by
  unfold State.ageWay; try dsimp only
  repeat' first
    | with_reducible assumption
    | with_reducible refine k_ite ?_ ?_
    | with_reducible refine State.setLearned_keeps ?_
    | with_reducible refine State.fwdCount_keeps ?_
    | with_reducible refine State.raiseLearn_keeps ?_
    | split

theorem execBridgeAgeVisit_keeps {pipe : Bool} {s : State} (h0 : Memory.wf s.dram.mem = true) : OutKeeps (execBridgeAgeVisit pipe s) := by
  unfold execBridgeAgeVisit; try dsimp only
  repeat' first
    | with_reducible assumption
    | with_reducible refine k_out_ite ?_ ?_
    | with_reducible refine State.ageWay_keeps ?_
    | with_reducible refine done_keeps ?_ ?_
    | with_reducible refine k_next ?_
    | split

theorem execBulkLearnedRemoval_keeps {s : State} (h0 : Memory.wf s.dram.mem = true) : OutKeeps (execBulkLearnedRemoval s) := by
  unfold execBulkLearnedRemoval; try dsimp only
  repeat' first
    | with_reducible assumption
    | with_reducible refine k_out_ite ?_ ?_
    | with_reducible refine done_keeps ?_ ?_
    | with_reducible refine State.setLearned_keeps ?_
    | with_reducible refine k_next ?_
    | with_reducible refine k_foldl ?_ (fun _ _ _ => ?_)
    | split

theorem execRouteBuildComplete_keeps {hurt : Upsets} {s : State} (h0 : Memory.wf s.dram.mem = true) :
    OutKeeps (execRouteBuildComplete hurt s) := by
  unfold execRouteBuildComplete; try dsimp only
  repeat' first
    | with_reducible assumption
    | with_reducible refine k_out_ite ?_ ?_
    | with_reducible refine readCells_keeps ?_
    | with_reducible refine State.upset_keeps ?_
    | with_reducible refine State.endRouteBuild_keeps ?_
    | with_reducible refine done_keeps ?_ ?_
    | with_reducible refine State.stageFwd_keeps ?_
    | with_reducible refine k_next ?_
    | split

theorem State.stageBuf_keeps {s : State} {f : BufCfg → BufCfg} (h0 : Memory.wf s.dram.mem = true) :
    Memory.wf (State.stageBuf s f).dram.mem = true := by
  unfold State.stageBuf; try dsimp only
  repeat' first | with_reducible assumption | with_reducible refine State.stageWith_keeps ?_

theorem recQueueConfig_keeps {m : Msg} {s : State} {b : Bytes} {base : Nat} (h0 : Memory.wf s.dram.mem = true) :
    RecKeeps (recQueueConfig m s b base) := by
  unfold recQueueConfig; try dsimp only
  repeat' first
    | with_reducible assumption
    | with_reducible refine k_rec_ite ?_ ?_
    | with_reducible refine recZero_keeps ?_
    | with_reducible refine noStage_keeps
    | with_reducible refine State.stageBuf_keeps ?_
    | with_reducible exact k_refuse
    | with_reducible refine k_ok ?_

theorem cmdQueueConfig_keeps : CmdKeeps cmdQueueConfig := fun _ _ h => records_keeps (fun _ _ _ h => recQueueConfig_keeps h) h
theorem execQueueConfig_keeps {m : Msg} {s : State} (h0 : Memory.wf s.dram.mem = true) :
    OutKeeps (execQueueConfig m s) := runCommand_keeps cmdQueueConfig_keeps h0

theorem recShaperNodeSet_keeps {m : Msg} {s : State} {b : Bytes} {base : Nat} (h0 : Memory.wf s.dram.mem = true) :
    RecKeeps (recShaperNodeSet m s b base) := by
  unfold recShaperNodeSet; try dsimp only
  repeat' first
    | with_reducible assumption
    | with_reducible refine k_rec_ite ?_ ?_
    | with_reducible refine noStage_keeps
    | with_reducible refine State.stageBuf_keeps ?_
    | with_reducible refine recZero_keeps ?_
    | with_reducible exact k_refuse
    | with_reducible refine k_ok ?_
    | split

theorem cmdShaperNodeSet_keeps : CmdKeeps cmdShaperNodeSet := fun _ _ h => records_keeps (fun _ _ _ h => recShaperNodeSet_keeps h) h
theorem execShaperNodeSet_keeps {m : Msg} {s : State} (h0 : Memory.wf s.dram.mem = true) :
    OutKeeps (execShaperNodeSet m s) := runCommand_keeps cmdShaperNodeSet_keeps h0

theorem bodyShaperNodeRead_keeps {m : Msg} {s : State} (h0 : Memory.wf s.dram.mem = true) :
    Memory.wf (bodyShaperNodeRead m s).state.dram.mem = true := by
  unfold bodyShaperNodeRead; try dsimp only
  repeat' first
    | with_reducible assumption
    | with_reducible refine k_done_ite ?_ ?_
    | with_reducible refine badParam_keeps ?_
    | with_reducible refine needZero_keeps ?_ ?_
    | with_reducible refine ok_keeps ?_

theorem cmdShaperNodeRead_keeps : CmdKeeps cmdShaperNodeRead := fun _ _ h => bodyShaperNodeRead_keeps h
theorem execShaperNodeRead_keeps {m : Msg} {s : State} (h0 : Memory.wf s.dram.mem = true) :
    OutKeeps (execShaperNodeRead m s) := runCommand_keeps cmdShaperNodeRead_keeps h0

theorem recSchedConfig_keeps {m : Msg} {s : State} {b : Bytes} {base : Nat} (h0 : Memory.wf s.dram.mem = true) :
    RecKeeps (recSchedConfig m s b base) := by
  unfold recSchedConfig; try dsimp only
  repeat' first
    | with_reducible assumption
    | with_reducible refine k_rec_ite ?_ ?_
    | with_reducible refine recZero_keeps ?_
    | with_reducible refine noStage_keeps
    | with_reducible refine State.stageBuf_keeps ?_
    | with_reducible exact k_refuse
    | with_reducible refine k_ok ?_
    | split

theorem cmdSchedConfig_keeps : CmdKeeps cmdSchedConfig := fun _ _ h => records_keeps (fun _ _ _ h => recSchedConfig_keeps h) h
theorem execSchedConfig_keeps {m : Msg} {s : State} (h0 : Memory.wf s.dram.mem = true) :
    OutKeeps (execSchedConfig m s) := runCommand_keeps cmdSchedConfig_keeps h0

theorem recMirrorSet_keeps {m : Msg} {s : State} {b : Bytes} {base : Nat} (h0 : Memory.wf s.dram.mem = true) :
    RecKeeps (recMirrorSet m s b base) := by
  unfold recMirrorSet; try dsimp only
  repeat' first
    | with_reducible assumption
    | with_reducible refine k_rec_ite ?_ ?_
    | with_reducible refine recZero_keeps ?_
    | with_reducible refine noStage_keeps
    | with_reducible refine State.stageBuf_keeps ?_
    | with_reducible exact k_refuse
    | with_reducible refine k_ok ?_
    | split

theorem cmdMirrorSet_keeps : CmdKeeps cmdMirrorSet := fun _ _ h => records_keeps (fun _ _ _ h => recMirrorSet_keeps h) h
theorem execMirrorSet_keeps {m : Msg} {s : State} (h0 : Memory.wf s.dram.mem = true) :
    OutKeeps (execMirrorSet m s) := runCommand_keeps cmdMirrorSet_keeps h0

theorem State.emptyRing_keeps {s : State} {r : Nat} (h0 : Memory.wf s.dram.mem = true) :
    Memory.wf (State.emptyRing s r).dram.mem = true := by
  unfold State.emptyRing; try dsimp only
  repeat' first
    | with_reducible assumption
    | with_reducible refine State.setQueue_keeps ?_
    | with_reducible refine State.countDiscard_keeps ?_
    | with_reducible refine State.bufCount_keeps ?_
    | with_reducible refine State.ringCount_keeps ?_
    | with_reducible refine k_foldl ?_ (fun _ _ _ => ?_)

theorem bodyHostringSet_keeps {m : Msg} {s : State} (h0 : Memory.wf s.dram.mem = true) :
    Memory.wf (bodyHostringSet m s).state.dram.mem = true := by
  unfold bodyHostringSet; try dsimp only
  repeat' first
    | with_reducible assumption
    | with_reducible refine k_ite ?_ ?_
    | with_reducible refine k_done_ite ?_ ?_
    | with_reducible refine badParam_keeps ?_
    | with_reducible refine needZero_keeps ?_ ?_
    | with_reducible refine ok_keeps ?_
    | with_reducible refine outOfRange_keeps ?_
    | with_reducible refine refuse_keeps ?_
    | with_reducible refine State.setRing_keeps ?_
    | with_reducible refine State.emptyRing_keeps ?_
    | split

theorem cmdHostringSet_keeps : CmdKeeps cmdHostringSet := fun _ _ h => bodyHostringSet_keeps h
theorem execHostringSet_keeps {m : Msg} {s : State} (h0 : Memory.wf s.dram.mem = true) :
    OutKeeps (execHostringSet m s) := runCommand_keeps cmdHostringSet_keeps h0

theorem State.clearQueue_keeps {s : State} {q : Nat} (h0 : Memory.wf s.dram.mem = true) :
    Memory.wf (State.clearQueue s q).dram.mem = true := by
  unfold State.clearQueue; try dsimp only
  repeat' first | with_reducible assumption | with_reducible refine State.setQueue_keeps ?_

theorem bodyBufferStatus_keeps {m : Msg} {s : State} (h0 : Memory.wf s.dram.mem = true) :
    Memory.wf (bodyBufferStatus m s).state.dram.mem = true := by
  unfold bodyBufferStatus; try dsimp only
  repeat' first
    | with_reducible assumption
    | with_reducible refine k_ite ?_ ?_
    | with_reducible refine k_done_ite ?_ ?_
    | with_reducible refine badParam_keeps ?_
    | with_reducible refine needZero_keeps ?_ ?_
    | with_reducible refine ok_keeps ?_
    | with_reducible refine State.clearQueue_keeps ?_
    | with_reducible refine k_foldl ?_ (fun _ _ _ => ?_)

theorem cmdBufferStatus_keeps : CmdKeeps cmdBufferStatus := fun _ _ h => bodyBufferStatus_keeps h
theorem execBufferStatus_keeps {m : Msg} {s : State} (h0 : Memory.wf s.dram.mem = true) :
    OutKeeps (execBufferStatus m s) := runCommand_keeps cmdBufferStatus_keeps h0

theorem bodyBufferThreshold_keeps {m : Msg} {s : State} (h0 : Memory.wf s.dram.mem = true) :
    Memory.wf (bodyBufferThreshold m s).state.dram.mem = true := by
  unfold bodyBufferThreshold; try dsimp only
  repeat' first
    | with_reducible assumption
    | with_reducible refine k_done_ite ?_ ?_
    | with_reducible refine badParam_keeps ?_
    | with_reducible refine needZero_keeps ?_ ?_
    | with_reducible refine ok_keeps ?_
    | with_reducible refine refuse_keeps ?_
    | with_reducible refine outOfRange_keeps ?_
    | with_reducible refine State.stageBuf_keeps ?_

theorem cmdBufferThreshold_keeps : CmdKeeps cmdBufferThreshold := fun _ _ h => bodyBufferThreshold_keeps h
theorem execBufferThreshold_keeps {m : Msg} {s : State} (h0 : Memory.wf s.dram.mem = true) :
    OutKeeps (execBufferThreshold m s) := runCommand_keeps cmdBufferThreshold_keeps h0

theorem State.applyNodes_keeps {old : State} {s : State} (_h0 : Memory.wf old.dram.mem = true) (h1 : Memory.wf s.dram.mem = true) :
    Memory.wf (State.applyNodes old s).dram.mem = true := by
  unfold State.applyNodes; try dsimp only
  assumption

theorem State.debit_keeps {s : State} {n : Nat} {len : Nat} (h0 : Memory.wf s.dram.mem = true) :
    Memory.wf (State.debit s n len).dram.mem = true := by
  unfold State.debit; try dsimp only
  repeat' first | with_reducible assumption | split

theorem State.expireRecirc_keeps {s : State} {pipe : Bool} {index : Nat} (h0 : Memory.wf s.dram.mem = true) :
    Memory.wf (State.expireRecirc s pipe index).dram.mem = true := by
  unfold State.expireRecirc; try dsimp only
  repeat' first
    | with_reducible assumption
    | with_reducible refine k_ite ?_ ?_
    | with_reducible refine State.dropOld_keeps ?_
    | with_reducible refine State.setRecircQ_keeps ?_
    | split

theorem State.expireReinject_keeps {s : State} {pipe : Bool} {index : Nat} (h0 : Memory.wf s.dram.mem = true) :
    Memory.wf (State.expireReinject s pipe index).dram.mem = true := by
  unfold State.expireReinject; try dsimp only
  repeat' first
    | with_reducible assumption
    | with_reducible refine k_ite ?_ ?_
    | with_reducible refine State.releaseBehind_keeps ?_
    | with_reducible refine State.dropOld_keeps ?_
    | with_reducible refine State.setReinjectQ_keeps ?_
    | split

theorem State.dropRecord_keeps {s : State} {queue : Nat} {index : Nat} (h0 : Memory.wf s.dram.mem = true) :
    Memory.wf (State.dropRecord s queue index).dram.mem = true := by
  unfold State.dropRecord; try dsimp only
  repeat' first | with_reducible assumption | with_reducible refine State.setRing_keeps ?_ | split

theorem execResidenceExpire_keeps {queue : Nat} {index : Nat} {s : State} (h0 : Memory.wf s.dram.mem = true) :
    OutKeeps (execResidenceExpire queue index s) := by
  unfold execResidenceExpire; try dsimp only
  repeat' first
    | with_reducible assumption
    | with_reducible refine k_out_ite ?_ ?_
    | with_reducible refine done_keeps ?_ ?_
    | with_reducible refine State.expireRecirc_keeps ?_
    | with_reducible refine State.expireReinject_keeps ?_
    | with_reducible refine State.setQueue_keeps ?_
    | with_reducible refine State.dropRecord_keeps ?_
    | with_reducible refine State.countDiscard_keeps ?_
    | with_reducible refine State.bufCount_keeps ?_
    | with_reducible refine k_next ?_
    | split

theorem State.setLoopback_keeps {s : State} {p : Nat} {mode : Nat} (h0 : Memory.wf s.dram.mem = true) :
    Memory.wf (State.setLoopback s p mode).dram.mem = true := by
  unfold State.setLoopback; try dsimp only
  repeat' first
    | with_reducible assumption
    | with_reducible refine k_ite ?_ ?_
    | with_reducible refine State.cutFrames_keeps ?_
    | with_reducible refine State.setPort_keeps ?_
    | with_reducible refine State.noteLinks_keeps ?_ ?_
    | with_reducible refine State.retrain_keeps ?_

theorem State.endLoopbacks_keeps {s : State} (h0 : Memory.wf s.dram.mem = true) : Memory.wf (State.endLoopbacks s).dram.mem = true := by
  unfold State.endLoopbacks; try dsimp only
  repeat' first
    | with_reducible assumption
    | with_reducible refine k_ite ?_ ?_
    | with_reducible refine State.setLoopback_keeps ?_
    | with_reducible refine k_foldl ?_ (fun _ _ _ => ?_)

theorem State.stagePorts_keeps {s : State} {f : PortTable → PortTable} (h0 : Memory.wf s.dram.mem = true) :
    Memory.wf (State.stagePorts s f).dram.mem = true := by
  unfold State.stagePorts; try dsimp only
  repeat' first | with_reducible assumption | with_reducible refine State.stageWith_keeps ?_

theorem recPortConfig_keeps {m : Msg} {s : State} {b : Bytes} {base : Nat} (h0 : Memory.wf s.dram.mem = true) :
    RecKeeps (recPortConfig m s b base) := by
  unfold recPortConfig; try dsimp only
  repeat' first
    | with_reducible assumption
    | with_reducible refine k_rec_ite ?_ ?_
    | with_reducible refine recZero_keeps ?_
    | with_reducible refine noStage_keeps
    | with_reducible refine State.stagePorts_keeps ?_
    | with_reducible exact k_refuse
    | with_reducible refine k_ok ?_

theorem cmdPortConfig_keeps : CmdKeeps cmdPortConfig := fun _ _ h => records_keeps (fun _ _ _ h => recPortConfig_keeps h) h
theorem execPortConfig_keeps {m : Msg} {s : State} (h0 : Memory.wf s.dram.mem = true) :
    OutKeeps (execPortConfig m s) := runCommand_keeps cmdPortConfig_keeps h0

theorem recPortEnable_keeps {m : Msg} {s : State} {b : Bytes} {base : Nat} (h0 : Memory.wf s.dram.mem = true) :
    RecKeeps (recPortEnable m s b base) := by
  unfold recPortEnable; try dsimp only
  repeat' first
    | with_reducible assumption
    | with_reducible refine k_rec_ite ?_ ?_
    | with_reducible refine recZero_keeps ?_
    | with_reducible refine noStage_keeps
    | with_reducible refine State.stagePorts_keeps ?_
    | with_reducible exact k_refuse
    | with_reducible refine k_ok ?_

theorem cmdPortEnable_keeps : CmdKeeps cmdPortEnable := fun _ _ h => records_keeps (fun _ _ _ h => recPortEnable_keeps h) h
theorem execPortEnable_keeps {m : Msg} {s : State} (h0 : Memory.wf s.dram.mem = true) :
    OutKeeps (execPortEnable m s) := runCommand_keeps cmdPortEnable_keeps h0

theorem recLaneTune_keeps {m : Msg} {s : State} {b : Bytes} {base : Nat} (h0 : Memory.wf s.dram.mem = true) :
    RecKeeps (recLaneTune m s b base) := by
  unfold recLaneTune; try dsimp only
  repeat' first
    | with_reducible assumption
    | with_reducible refine k_rec_ite ?_ ?_
    | with_reducible refine recZero_keeps ?_
    | with_reducible refine noStage_keeps
    | with_reducible refine State.stagePorts_keeps ?_
    | with_reducible exact k_refuse
    | with_reducible refine k_ok ?_
    | split

theorem cmdLaneTune_keeps : CmdKeeps cmdLaneTune := fun _ _ h => records_keeps (fun _ _ _ h => recLaneTune_keeps h) h
theorem execLaneTune_keeps {m : Msg} {s : State} (h0 : Memory.wf s.dram.mem = true) :
    OutKeeps (execLaneTune m s) := runCommand_keeps cmdLaneTune_keeps h0

theorem bodyPortStatus_keeps {m : Msg} {s : State} (h0 : Memory.wf s.dram.mem = true) :
    Memory.wf (bodyPortStatus m s).state.dram.mem = true := by
  unfold bodyPortStatus; try dsimp only
  repeat' first
    | with_reducible assumption
    | with_reducible refine k_done_ite ?_ ?_
    | with_reducible refine badParam_keeps ?_
    | with_reducible refine needZero_keeps ?_ ?_
    | with_reducible refine ok_keeps ?_

theorem cmdPortStatus_keeps : CmdKeeps cmdPortStatus := fun _ _ h => bodyPortStatus_keeps h
theorem execPortStatus_keeps {m : Msg} {s : State} (h0 : Memory.wf s.dram.mem = true) :
    OutKeeps (execPortStatus m s) := runCommand_keeps cmdPortStatus_keeps h0

theorem bodyPortCounters_keeps {m : Msg} {s : State} (h0 : Memory.wf s.dram.mem = true) :
    Memory.wf (bodyPortCounters m s).state.dram.mem = true := by
  unfold bodyPortCounters; try dsimp only
  repeat' first
    | with_reducible assumption
    | with_reducible refine k_ite ?_ ?_
    | with_reducible refine k_done_ite ?_ ?_
    | with_reducible refine badParam_keeps ?_
    | with_reducible refine needZero_keeps ?_ ?_
    | with_reducible refine ok_keeps ?_
    | with_reducible refine State.setPort_keeps ?_

theorem cmdPortCounters_keeps : CmdKeeps cmdPortCounters := fun _ _ h => bodyPortCounters_keeps h
theorem execPortCounters_keeps {m : Msg} {s : State} (h0 : Memory.wf s.dram.mem = true) :
    OutKeeps (execPortCounters m s) := runCommand_keeps cmdPortCounters_keeps h0

theorem bodyPortLoopback_keeps {m : Msg} {s : State} (h0 : Memory.wf s.dram.mem = true) :
    Memory.wf (bodyPortLoopback m s).state.dram.mem = true := by
  unfold bodyPortLoopback; try dsimp only
  repeat' first
    | with_reducible assumption
    | with_reducible refine k_done_ite ?_ ?_
    | with_reducible refine badParam_keeps ?_
    | with_reducible refine needZero_keeps ?_ ?_
    | with_reducible refine ok_keeps ?_
    | with_reducible refine State.setLoopback_keeps ?_

theorem cmdPortLoopback_keeps : CmdKeeps cmdPortLoopback := fun _ _ h => bodyPortLoopback_keeps h
theorem execPortLoopback_keeps {m : Msg} {s : State} (h0 : Memory.wf s.dram.mem = true) :
    OutKeeps (execPortLoopback m s) := runCommand_keeps cmdPortLoopback_keeps h0

theorem recRingConfig_keeps {m : Msg} {s : State} {b : Bytes} {base : Nat} (h0 : Memory.wf s.dram.mem = true) :
    RecKeeps (recRingConfig m s b base) := by
  unfold recRingConfig; try dsimp only
  repeat' first
    | with_reducible assumption
    | with_reducible refine k_rec_ite ?_ ?_
    | with_reducible refine noStage_keeps
    | with_reducible refine recZero_keeps ?_
    | with_reducible refine State.stagePorts_keeps ?_
    | with_reducible exact k_refuse
    | with_reducible refine k_ok ?_

theorem bodyRingConfig_keeps {m : Msg} {s : State} (h0 : Memory.wf s.dram.mem = true) :
    Memory.wf (bodyRingConfig m s).state.dram.mem = true := by
  unfold bodyRingConfig; try dsimp only
  repeat' first
    | with_reducible assumption
    | with_reducible refine k_done_ite ?_ ?_
    | with_reducible refine ok_keeps ?_
    | with_reducible refine records_keeps ?_ ?_
    | with_reducible refine recRingConfig_keeps ?_
    | with_reducible refine fun _ _ _ _ => ?_

theorem cmdRingConfig_keeps : CmdKeeps cmdRingConfig := fun _ _ h => bodyRingConfig_keeps h
theorem execRingConfig_keeps {m : Msg} {s : State} (h0 : Memory.wf s.dram.mem = true) :
    OutKeeps (execRingConfig m s) := runCommand_keeps cmdRingConfig_keeps h0

theorem bodyCanaryStatus_keeps {x0 : Msg} {s : State} (h0 : Memory.wf s.dram.mem = true) :
    Memory.wf (bodyCanaryStatus x0 s).state.dram.mem = true := by
  unfold bodyCanaryStatus; try dsimp only
  repeat' first | with_reducible assumption | with_reducible refine ok_keeps ?_

theorem cmdCanaryStatus_keeps : CmdKeeps cmdCanaryStatus := by
  intro m s h
  exact bodyCanaryStatus_keeps (x0 := m) h
theorem execCanaryStatus_keeps {m : Msg} {s : State} (h0 : Memory.wf s.dram.mem = true) :
    OutKeeps (execCanaryStatus m s) := runCommand_keeps cmdCanaryStatus_keeps h0

theorem State.canaryStart_keeps {s : State} (h0 : Memory.wf s.dram.mem = true) : Memory.wf (State.canaryStart s).dram.mem = true := by
  unfold State.canaryStart; try dsimp only
  repeat' first | with_reducible assumption | with_reducible refine k_ite ?_ ?_

theorem bodySecureCanaryArm_keeps {m : Msg} {s : State} (h0 : Memory.wf s.dram.mem = true) :
    Memory.wf (bodySecureCanaryArm m s).state.dram.mem = true := by
  unfold bodySecureCanaryArm; try dsimp only
  repeat' first
    | with_reducible assumption
    | with_reducible refine k_done_ite ?_ ?_
    | with_reducible refine needZero_keeps ?_ ?_
    | with_reducible refine badParam_keeps ?_
    | with_reducible refine refuse_keeps ?_
    | with_reducible refine ok_keeps ?_
    | with_reducible refine State.canaryStart_keeps ?_

theorem cmdSecureCanaryArm_keeps : CmdKeeps cmdSecureCanaryArm := fun _ _ h => bodySecureCanaryArm_keeps h
theorem execSecureCanaryArm_keeps {m : Msg} {s : State} (h0 : Memory.wf s.dram.mem = true) :
    OutKeeps (execSecureCanaryArm m s) := runCommand_keeps cmdSecureCanaryArm_keeps h0

theorem cmdSecureCanaryDisarm_keeps : CmdKeeps cmdSecureCanaryDisarm := fun _ _ h => ok_keeps (State.canaryStop_keeps h)
theorem execSecureCanaryDisarm_keeps {m : Msg} {s : State} (h0 : Memory.wf s.dram.mem = true) :
    OutKeeps (execSecureCanaryDisarm m s) := runCommand_keeps cmdSecureCanaryDisarm_keeps h0

theorem State.applyPorts_keeps {old : State} {s : State} (h0 : Memory.wf old.dram.mem = true) (h1 : Memory.wf s.dram.mem = true) :
    Memory.wf (State.applyPorts old s).dram.mem = true := by
  unfold State.applyPorts; try dsimp only
  repeat' first
    | with_reducible assumption
    | with_reducible refine k_ite ?_ ?_
    | with_reducible refine State.retrain_keeps ?_
    | with_reducible refine State.noteLinks_keeps ?_ ?_
    | with_reducible refine State.relock_keeps ?_
    | with_reducible refine State.canaryStop_keeps ?_
    | with_reducible refine k_foldl ?_ (fun _ _ _ => ?_)

theorem execCanaryHalfPeriod_keeps {s : State} (h0 : Memory.wf s.dram.mem = true) : OutKeeps (execCanaryHalfPeriod s) := by
  unfold execCanaryHalfPeriod; try dsimp only
  repeat' first
    | with_reducible assumption
    | with_reducible refine k_out_ite ?_ ?_
    | with_reducible refine done_keeps ?_ ?_
    | with_reducible refine k_next ?_

theorem State.heartbeatLost_keeps {s : State} {pipe : Nat} {armed : Bool} (h0 : Memory.wf s.dram.mem = true) :
    Memory.wf (State.heartbeatLost s pipe armed).dram.mem = true := by
  unfold State.heartbeatLost; try dsimp only
  repeat' first
    | with_reducible assumption
    | with_reducible refine k_ite ?_ ?_
    | with_reducible refine State.logError_keeps ?_
    | with_reducible refine State.canaryStop_keeps ?_

theorem execCanaryHeartbeatWindow_keeps {ran : Bool × Bool} {held : Bool × Bool} {s : State} (h0 : Memory.wf s.dram.mem = true) :
    OutKeeps (execCanaryHeartbeatWindow ran held s) := by
  unfold execCanaryHeartbeatWindow; try dsimp only
  repeat' first
    | with_reducible assumption
    | with_reducible refine k_ite ?_ ?_
    | with_reducible refine k_out_ite ?_ ?_
    | with_reducible refine State.heartbeatLost_keeps ?_
    | with_reducible refine done_keeps ?_ ?_
    | with_reducible refine State.canaryStart_keeps ?_
    | with_reducible refine k_next ?_

theorem State.peerLaneDown_keeps {s : State} {west : Bool} (h0 : Memory.wf s.dram.mem = true) :
    Memory.wf (State.peerLaneDown s west).dram.mem = true := by
  unfold State.peerLaneDown; try dsimp only
  repeat' first
    | with_reducible assumption
    | with_reducible refine State.setFault_keeps ?_
    | with_reducible refine State.logError_keeps ?_

theorem State.changeLink_keeps {s : State} {p : Nat} {l : Link} {cdr : BitVec 4} {sd : BitVec 4} (h0 : Memory.wf s.dram.mem = true) :
    Memory.wf (State.changeLink s p l cdr sd).dram.mem = true := by
  unfold State.changeLink; try dsimp only
  repeat' first
    | with_reducible assumption
    | with_reducible refine k_ite ?_ ?_
    | with_reducible refine State.setLink_keeps ?_
    | with_reducible refine State.peerLaneDown_keeps ?_

theorem execLinkStateChange_keeps {port : Nat} {link : Nat} {cdr : BitVec 4} {sd : BitVec 4} {s : State} (h0 : Memory.wf s.dram.mem = true) :
    OutKeeps (execLinkStateChange port link cdr sd s) := by
  unfold execLinkStateChange; try dsimp only
  repeat' first
    | with_reducible assumption
    | with_reducible refine k_out_ite ?_ ?_
    | with_reducible refine done_keeps ?_ ?_
    | with_reducible refine State.changeLink_keeps ?_
    | with_reducible refine k_next ?_
    | split

theorem execAnRetry_keeps {port : Nat} {common : Bool} {s : State} (h0 : Memory.wf s.dram.mem = true) :
    OutKeeps (execAnRetry port common s) := by
  unfold execAnRetry; try dsimp only
  repeat' first
    | with_reducible assumption
    | with_reducible refine k_ite ?_ ?_
    | with_reducible refine k_out_ite ?_ ?_
    | with_reducible refine State.setPort_keeps ?_
    | with_reducible refine done_keeps ?_ ?_
    | with_reducible refine State.setLink_keeps ?_
    | with_reducible refine k_next ?_

theorem execPeerLaneFail_keeps {west : Bool} {s : State} (h0 : Memory.wf s.dram.mem = true) : OutKeeps (execPeerLaneFail west s) := by
  unfold execPeerLaneFail; try dsimp only
  repeat' first
    | with_reducible assumption
    | with_reducible refine k_out_ite ?_ ?_
    | with_reducible refine done_keeps ?_ ?_
    | with_reducible refine State.changeLink_keeps ?_
    | with_reducible refine k_next ?_

theorem execPeerLaneRestore_keeps {west : Bool} {s : State} (h0 : Memory.wf s.dram.mem = true) : OutKeeps (execPeerLaneRestore west s) := by
  unfold execPeerLaneRestore; try dsimp only
  repeat' first
    | with_reducible assumption
    | with_reducible refine k_out_ite ?_ ?_
    | with_reducible refine State.logError_keeps ?_
    | with_reducible refine done_keeps ?_ ?_
    | with_reducible refine State.setFault_keeps ?_
    | with_reducible refine k_next ?_
    | split

theorem State.portCount_keeps {s : State} {p : Nat} {i : Nat} {n : Nat} (h0 : Memory.wf s.dram.mem = true) :
    Memory.wf (State.portCount s p i n).dram.mem = true := h0

theorem bodyTimeRead_keeps {x0 : Msg} {s : State} (h0 : Memory.wf s.dram.mem = true) :
    Memory.wf (bodyTimeRead x0 s).state.dram.mem = true := by
  unfold bodyTimeRead; try dsimp only
  repeat' first | with_reducible assumption | with_reducible refine ok_keeps ?_

theorem cmdTimeRead_keeps : CmdKeeps cmdTimeRead := by
  intro m s h
  exact bodyTimeRead_keeps (x0 := m) h
theorem execTimeRead_keeps {m : Msg} {s : State} (h0 : Memory.wf s.dram.mem = true) :
    OutKeeps (execTimeRead m s) := runCommand_keeps cmdTimeRead_keeps h0

theorem State.jumpRefused_keeps {s : State} {step : Int} (h0 : Memory.wf s.dram.mem = true) :
    Memory.wf (State.jumpRefused s step).dram.mem = true := by
  unfold State.jumpRefused; try dsimp only
  repeat' first
    | with_reducible assumption
    | with_reducible refine State.alert_keeps ?_
    | with_reducible refine State.logError_keeps ?_

theorem State.onTime_keeps {s : State} {f : Time → Time} (h0 : Memory.wf s.dram.mem = true) :
    Memory.wf (State.onTime s f).dram.mem = true := h0

theorem State.stepTo_keeps {s : State} {v : Nat} (h0 : Memory.wf s.dram.mem = true) : Memory.wf (State.stepTo s v).dram.mem = true := h0

theorem bodyTimeStep_keeps {m : Msg} {s : State} (h0 : Memory.wf s.dram.mem = true) :
    Memory.wf (bodyTimeStep m s).state.dram.mem = true := by
  unfold bodyTimeStep; try dsimp only
  repeat' first
    | with_reducible assumption
    | with_reducible refine k_done_ite ?_ ?_
    | with_reducible refine badParam_keeps ?_
    | with_reducible refine needZero_keeps ?_ ?_
    | with_reducible refine outOfRange_keeps ?_
    | with_reducible refine refuse_keeps ?_
    | with_reducible refine State.jumpRefused_keeps ?_
    | with_reducible refine ok_keeps ?_
    | with_reducible refine State.stepTo_keeps ?_

theorem cmdTimeStep_keeps : CmdKeeps cmdTimeStep := fun _ _ h => bodyTimeStep_keeps h
theorem execTimeStep_keeps {m : Msg} {s : State} (h0 : Memory.wf s.dram.mem = true) :
    OutKeeps (execTimeStep m s) := runCommand_keeps cmdTimeStep_keeps h0

theorem bodyTimeIncSet_keeps {m : Msg} {s : State} (h0 : Memory.wf s.dram.mem = true) :
    Memory.wf (bodyTimeIncSet m s).state.dram.mem = true := by
  unfold bodyTimeIncSet; try dsimp only
  repeat' first
    | with_reducible assumption
    | with_reducible refine k_done_ite ?_ ?_
    | with_reducible refine badParam_keeps ?_
    | with_reducible refine needZero_keeps ?_ ?_
    | with_reducible refine ok_keeps ?_
    | with_reducible refine outOfRange_keeps ?_
    | with_reducible refine State.onTime_keeps ?_

theorem cmdTimeIncSet_keeps : CmdKeeps cmdTimeIncSet := fun _ _ h => bodyTimeIncSet_keeps h
theorem execTimeIncSet_keeps {m : Msg} {s : State} (h0 : Memory.wf s.dram.mem = true) :
    OutKeeps (execTimeIncSet m s) := runCommand_keeps cmdTimeIncSet_keeps h0

theorem bodyTimeJumpLimit_keeps {m : Msg} {s : State} (h0 : Memory.wf s.dram.mem = true) :
    Memory.wf (bodyTimeJumpLimit m s).state.dram.mem = true := by
  unfold bodyTimeJumpLimit; try dsimp only
  repeat' first
    | with_reducible assumption
    | with_reducible refine k_done_ite ?_ ?_
    | with_reducible refine badParam_keeps ?_
    | with_reducible refine needZero_keeps ?_ ?_
    | with_reducible refine ok_keeps ?_
    | with_reducible refine outOfRange_keeps ?_
    | with_reducible refine State.onTime_keeps ?_

theorem cmdTimeJumpLimit_keeps : CmdKeeps cmdTimeJumpLimit := fun _ _ h => bodyTimeJumpLimit_keeps h
theorem execTimeJumpLimit_keeps {m : Msg} {s : State} (h0 : Memory.wf s.dram.mem = true) :
    OutKeeps (execTimeJumpLimit m s) := runCommand_keeps cmdTimeJumpLimit_keeps h0

theorem bodyTimePpsConfig_keeps {m : Msg} {s : State} (h0 : Memory.wf s.dram.mem = true) :
    Memory.wf (bodyTimePpsConfig m s).state.dram.mem = true := by
  unfold bodyTimePpsConfig; try dsimp only
  repeat' first
    | with_reducible assumption
    | with_reducible refine k_done_ite ?_ ?_
    | with_reducible refine badParam_keeps ?_
    | with_reducible refine needZero_keeps ?_ ?_
    | with_reducible refine ok_keeps ?_
    | with_reducible refine outOfRange_keeps ?_
    | with_reducible refine State.onTime_keeps ?_

theorem cmdTimePpsConfig_keeps : CmdKeeps cmdTimePpsConfig := fun _ _ h => bodyTimePpsConfig_keeps h
theorem execTimePpsConfig_keeps {m : Msg} {s : State} (h0 : Memory.wf s.dram.mem = true) :
    OutKeeps (execTimePpsConfig m s) := runCommand_keeps cmdTimePpsConfig_keeps h0

theorem State.stagePtp_keeps {s : State} {f : PtpCfg → PtpCfg} (h0 : Memory.wf s.dram.mem = true) :
    Memory.wf (State.stagePtp s f).dram.mem = true := h0

theorem recPtpDevice_keeps {m : Msg} {s : State} {b : Bytes} {base : Nat} (h0 : Memory.wf s.dram.mem = true) :
    RecKeeps (recPtpDevice m s b base) := by
  unfold recPtpDevice; try dsimp only
  repeat' first
    | with_reducible assumption
    | with_reducible refine k_rec_ite ?_ ?_
    | with_reducible refine recZero_keeps ?_
    | with_reducible refine noStage_keeps
    | with_reducible refine State.stagePtp_keeps ?_
    | with_reducible exact k_refuse
    | with_reducible refine k_ok ?_
    | split

theorem recPtpPort_keeps {m : Msg} {s : State} {b : Bytes} {base : Nat} (h0 : Memory.wf s.dram.mem = true) :
    RecKeeps (recPtpPort m s b base) := by
  unfold recPtpPort; try dsimp only
  repeat' first
    | with_reducible assumption
    | with_reducible refine k_rec_ite ?_ ?_
    | with_reducible refine recZero_keeps ?_
    | with_reducible refine noStage_keeps
    | with_reducible refine State.stagePtp_keeps ?_
    | with_reducible exact k_refuse
    | with_reducible refine k_ok ?_

theorem recTimePtpConfig_keeps {m : Msg} {s : State} {b : Bytes} {base : Nat} (h0 : Memory.wf s.dram.mem = true) :
    RecKeeps (recTimePtpConfig m s b base) := by
  unfold recTimePtpConfig; try dsimp only
  repeat' first
    | with_reducible assumption
    | with_reducible refine k_rec_ite ?_ ?_
    | with_reducible refine recPtpDevice_keeps ?_
    | with_reducible refine recPtpPort_keeps ?_
    | with_reducible exact k_refuse

theorem cmdTimePtpConfig_keeps : CmdKeeps cmdTimePtpConfig := fun _ _ h => records_keeps (fun _ _ _ h => recTimePtpConfig_keeps h) h
theorem execTimePtpConfig_keeps {m : Msg} {s : State} (h0 : Memory.wf s.dram.mem = true) :
    OutKeeps (execTimePtpConfig m s) := runCommand_keeps cmdTimePtpConfig_keeps h0

theorem State.setPtp_keeps {s : State} {p : Nat} {x : PtpLive} (h0 : Memory.wf s.dram.mem = true) :
    Memory.wf (State.setPtp s p x).dram.mem = true := by
  unfold State.setPtp; try dsimp only
  repeat' first | with_reducible assumption | with_reducible refine State.onTime_keeps ?_

theorem recTimeCal_keeps {s : State} {b : Bytes} {base : Nat} (h0 : Memory.wf s.dram.mem = true) : RecKeeps (recTimeCal s b base) := by
  unfold recTimeCal; try dsimp only
  repeat' first
    | with_reducible assumption
    | with_reducible refine k_rec_ite ?_ ?_
    | with_reducible refine recZero_keeps ?_
    | with_reducible refine State.setPtp_keeps ?_
    | with_reducible exact k_refuse
    | with_reducible refine k_ok ?_

theorem cmdTimeCal_keeps : CmdKeeps cmdTimeCal := fun _ _ h => records_keeps (fun _ _ _ h => recTimeCal_keeps h) h
theorem execTimeCal_keeps {m : Msg} {s : State} (h0 : Memory.wf s.dram.mem = true) :
    OutKeeps (execTimeCal m s) := runCommand_keeps cmdTimeCal_keeps h0

theorem bodyTimeRclkConfig_keeps {m : Msg} {s : State} (h0 : Memory.wf s.dram.mem = true) :
    Memory.wf (bodyTimeRclkConfig m s).state.dram.mem = true := by
  unfold bodyTimeRclkConfig; try dsimp only
  repeat' first
    | with_reducible assumption
    | with_reducible refine k_done_ite ?_ ?_
    | with_reducible refine badParam_keeps ?_
    | with_reducible refine needZero_keeps ?_ ?_
    | with_reducible refine ok_keeps ?_
    | with_reducible refine outOfRange_keeps ?_
    | with_reducible refine State.onTime_keeps ?_

theorem cmdTimeRclkConfig_keeps : CmdKeeps cmdTimeRclkConfig := fun _ _ h => bodyTimeRclkConfig_keeps h
theorem execTimeRclkConfig_keeps {m : Msg} {s : State} (h0 : Memory.wf s.dram.mem = true) :
    OutKeeps (execTimeRclkConfig m s) := runCommand_keeps cmdTimeRclkConfig_keeps h0

theorem State.onWindow_keeps {s : State} {p : Nat} {f : BwWindow → BwWindow} (h0 : Memory.wf s.dram.mem = true) :
    Memory.wf (State.onWindow s p f).dram.mem = true := by
  unfold State.onWindow; try dsimp only
  assumption

theorem State.applyPtp_keeps {old : State} {s : State} (_h0 : Memory.wf old.dram.mem = true) (h1 : Memory.wf s.dram.mem = true) :
    Memory.wf (State.applyPtp old s).dram.mem = true := by
  unfold State.applyPtp; try dsimp only
  repeat' first
    | with_reducible assumption
    | with_reducible refine k_ite ?_ ?_
    | with_reducible refine State.setPtp_keeps ?_
    | with_reducible refine k_foldl ?_ (fun _ _ _ => ?_)

theorem State.takeSnap_keeps {s : State} {pf1 : Bool} (h0 : Memory.wf s.dram.mem = true) :
    Memory.wf (State.takeSnap s pf1).dram.mem = true := by
  unfold State.takeSnap; try dsimp only
  repeat' first | with_reducible assumption | with_reducible refine State.setFn_keeps ?_

theorem State.writeInc_keeps {s : State} {v : W32} (h0 : Memory.wf s.dram.mem = true) : Memory.wf (State.writeInc s v).dram.mem = true := by
  have h1 : Memory.wf (s.onTime fun t => t.setInc t.inc.toNat).dram.mem = true := State.onTime_keeps h0
  simp only [State.writeInc]
  split
  · exact State.onTime_keeps h0
  · exact h1

theorem execPortCalibrationDone_keeps {port : Nat} {rx : Nat} {tx : Nat} {s : State} (h0 : Memory.wf s.dram.mem = true) :
    OutKeeps (execPortCalibrationDone port rx tx s) := by
  unfold execPortCalibrationDone; try dsimp only
  repeat' first
    | with_reducible assumption
    | with_reducible refine k_out_ite ?_ ?_
    | with_reducible refine done_keeps ?_ ?_
    | with_reducible refine State.setPtp_keeps ?_
    | with_reducible refine k_next ?_

theorem State.windowAdd_keeps {s : State} {p : Nat} {tx : Bool} {len : Nat} (h0 : Memory.wf s.dram.mem = true) :
    Memory.wf (State.windowAdd s p tx len).dram.mem = true := h0

theorem State.windowSent_keeps {s : State} {p : Nat} {len : Nat} {began : Nat} (h0 : Memory.wf s.dram.mem = true) :
    Memory.wf (State.windowSent s p len began).dram.mem = true := h0

theorem State.emitFrame_keeps {s : State} {p : Nat} {bytes : Bytes} {aborted : Bool} (h0 : Memory.wf s.dram.mem = true) :
    Memory.wf (State.emitFrame s p bytes aborted).dram.mem = true := by
  unfold State.emitFrame; try dsimp only
  repeat' first | with_reducible assumption | with_reducible refine State.send_keeps ?_ | split

theorem State.sentFrame_keeps {s : State} {p : Nat} {bytes : Bytes} {began : Nat} (h0 : Memory.wf s.dram.mem = true) :
    Memory.wf (State.sentFrame s p bytes began).dram.mem = true := by
  unfold State.sentFrame; try dsimp only
  repeat' first
    | with_reducible assumption
    | with_reducible refine State.windowSent_keeps ?_
    | with_reducible refine State.portCount_keeps ?_
    | with_reducible refine State.emitFrame_keeps ?_

theorem State.sendFrame_keeps {s : State} {p : Nat} {bytes : Bytes} (h0 : Memory.wf s.dram.mem = true) :
    Memory.wf (State.sendFrame s p bytes).dram.mem = true := by
  unfold State.sendFrame; try dsimp only
  repeat' first | with_reducible assumption | with_reducible refine State.sentFrame_keeps ?_

theorem State.answerPdelay_keeps {s : State} {p : Nat} {frame : Bytes} {m : PtpAt} (h0 : Memory.wf s.dram.mem = true) :
    Memory.wf (State.answerPdelay s p frame m).dram.mem = true := by
  unfold State.answerPdelay; try dsimp only
  repeat' first
    | with_reducible assumption
    | with_reducible refine State.draw_keeps ?_
    | with_reducible refine State.setPtp_keeps ?_
    | with_reducible refine State.sendFrame_keeps ?_

theorem State.rxStamp_keeps {s : State} {p : Nat} (h0 : Memory.wf s.dram.mem = true) : Memory.wf (State.rxStamp s p).2.dram.mem = true := h0

theorem State.takePdelay_keeps {s : State} {p : Nat} {t : Nat} {frame : Bytes} {m : PtpAt} (h0 : Memory.wf s.dram.mem = true) :
    Memory.wf (State.takePdelay s p t frame m).dram.mem = true := by
  unfold State.takePdelay; try dsimp only
  repeat' first
    | with_reducible assumption
    | with_reducible refine k_ite ?_ ?_
    | with_reducible refine State.rxStamp_keeps ?_
    | with_reducible refine State.setPtp_keeps ?_
    | split

theorem State.consumePdelay_keeps {s : State} {p : Nat} {t : Nat} {frame : Bytes} {m : PtpAt} (h0 : Memory.wf s.dram.mem = true) :
    Memory.wf (State.consumePdelay s p t frame m).dram.mem = true := by
  unfold State.consumePdelay; try dsimp only
  repeat' first
    | with_reducible assumption
    | with_reducible refine k_ite ?_ ?_
    | with_reducible refine State.timeCount_keeps ?_
    | with_reducible refine State.answerPdelay_keeps ?_
    | with_reducible refine State.takePdelay_keeps ?_

theorem execPdelayReceive_keeps {port : Nat} {frame : Bytes} {s : State} (h0 : Memory.wf s.dram.mem = true) :
    OutKeeps (execPdelayReceive port frame s) := by
  unfold execPdelayReceive; try dsimp only
  repeat' first
    | with_reducible assumption
    | with_reducible refine k_out_ite ?_ ?_
    | with_reducible refine done_keeps ?_ ?_
    | with_reducible refine State.consumePdelay_keeps ?_
    | with_reducible refine State.windowAdd_keeps ?_
    | with_reducible refine k_next ?_
    | split

theorem State.txStamp_keeps {s : State} {p : Nat} (h0 : Memory.wf s.dram.mem = true) : Memory.wf (State.txStamp s p).2.dram.mem = true := h0

theorem execPdelayReqSend_keeps {port : Nat} {s : State} (h0 : Memory.wf s.dram.mem = true) : OutKeeps (execPdelayReqSend port s) := by
  unfold execPdelayReqSend; try dsimp only
  repeat' first
    | with_reducible assumption
    | with_reducible refine k_out_ite ?_ ?_
    | with_reducible refine State.txStamp_keeps ?_
    | with_reducible refine State.setPtp_keeps ?_
    | with_reducible refine done_keeps ?_ ?_
    | with_reducible refine State.sendFrame_keeps ?_
    | with_reducible refine k_next ?_

theorem State.abortFrame_keeps {s : State} {p : Nat} {bytes : Bytes} {began : Nat} (h0 : Memory.wf s.dram.mem = true) :
    Memory.wf (State.abortFrame s p bytes began).dram.mem = true := by
  unfold State.abortFrame; try dsimp only
  repeat' first
    | with_reducible assumption
    | with_reducible refine State.windowSent_keeps ?_
    | with_reducible refine State.portCount_keeps ?_
    | with_reducible refine State.emitFrame_keeps ?_

theorem State.correctPtp_keeps {s : State} {modes : Nat × Bool} {p : Nat} {pkt : Pkt} {frame : Bytes} {tx : Nat} (h0 : Memory.wf s.dram.mem = true) :
    Memory.wf (State.correctPtp s modes p pkt frame tx).2.dram.mem = true := by
  unfold State.correctPtp; try dsimp only
  repeat' first
    | with_reducible assumption
    | with_reducible refine k_ite ?_ ?_
    | with_reducible refine k_pair_ite ?_ ?_
    | with_reducible refine State.timeCount_keeps ?_
    | with_reducible refine State.draw_keeps ?_
    | with_reducible refine State.setPtp_keeps ?_
    | split

theorem execTimeSnap_keeps {pf1 : Bool} {s : State} (h0 : Memory.wf s.dram.mem = true) : OutKeeps (execTimeSnap pf1 s) := by
  unfold execTimeSnap; try dsimp only
  repeat' first
    | with_reducible assumption
    | with_reducible refine k_out_ite ?_ ?_
    | with_reducible refine done_keeps ?_ ?_
    | with_reducible refine State.takeSnap_keeps ?_
    | with_reducible refine k_next ?_

theorem execTimeIncLoWrite_keeps {v : W32} {s : State} (h0 : Memory.wf s.dram.mem = true) : OutKeeps (execTimeIncLoWrite v s) := by
  unfold execTimeIncLoWrite; try dsimp only
  repeat' first
    | with_reducible assumption
    | with_reducible refine k_out_ite ?_ ?_
    | with_reducible refine done_keeps ?_ ?_
    | with_reducible refine State.writeInc_keeps ?_
    | with_reducible refine k_next ?_

theorem State.beforeCapture_keeps {s : State} (h0 : Memory.wf s.dram.mem = true) : Memory.wf (State.beforeCapture s).dram.mem = true := h0

theorem execPpsInCapture_keeps {rising : Bool} {s : State} (h0 : Memory.wf s.dram.mem = true) : OutKeeps (execPpsInCapture rising s) := by
  unfold execPpsInCapture; try dsimp only
  repeat' first
    | with_reducible assumption
    | with_reducible refine k_out_ite ?_ ?_
    | with_reducible refine State.onTime_keeps ?_
    | with_reducible refine done_keeps ?_ ?_
    | with_reducible refine State.beforeCapture_keeps ?_
    | with_reducible refine k_next ?_

theorem execPpsOutEdge_keeps {s : State} (h0 : Memory.wf s.dram.mem = true) : OutKeeps (execPpsOutEdge s) := by
  unfold execPpsOutEdge; try dsimp only
  repeat' first
    | with_reducible assumption
    | with_reducible refine k_out_ite ?_ ?_
    | with_reducible refine done_keeps ?_ ?_
    | with_reducible refine State.onTime_keeps ?_
    | with_reducible refine k_next ?_

theorem execRclkResume_keeps {s : State} (h0 : Memory.wf s.dram.mem = true) : OutKeeps (execRclkResume s) := by
  unfold execRclkResume; try dsimp only
  repeat' first
    | with_reducible assumption
    | with_reducible refine k_out_ite ?_ ?_
    | with_reducible refine done_keeps ?_ ?_
    | with_reducible refine State.onTime_keeps ?_
    | with_reducible refine k_next ?_
    | split

theorem execPpsOutFall_keeps {s : State} (h0 : Memory.wf s.dram.mem = true) : OutKeeps (execPpsOutFall s) := by
  unfold execPpsOutFall; try dsimp only
  repeat' first
    | with_reducible assumption
    | with_reducible refine k_out_ite ?_ ?_
    | with_reducible refine done_keeps ?_ ?_
    | with_reducible refine State.onTime_keeps ?_
    | with_reducible refine k_next ?_

theorem State.throughLoop_keeps {s : State} {port : Nat} {f : FrameIn} (h0 : Memory.wf s.dram.mem = true) :
    OptKeeps (·.2) (State.throughLoop s port f) := by
  unfold State.throughLoop; try dsimp only
  repeat' first
    | with_reducible assumption
    | with_reducible refine k_ite ?_ ?_
    | with_reducible refine k_some ?_
    | with_reducible refine k_map (fun _ => ?_)
    | with_reducible refine State.send_keeps ?_
    | split

theorem State.rxLine_keeps {s : State} {p : Nat} {f : FrameIn} (h0 : Memory.wf s.dram.mem = true) :
    Memory.wf (State.rxLine s p f).dram.mem = true := by
  unfold State.rxLine; try dsimp only
  repeat' first
    | with_reducible assumption
    | with_reducible refine k_ite ?_ ?_
    | with_reducible refine State.windowAdd_keeps ?_
    | with_reducible refine State.portCount_keeps ?_

theorem State.passOn_keeps {s : State} {port : Nat} {bytes : Bytes} {arriving : Bool} (h0 : Memory.wf s.dram.mem = true) :
    Memory.wf (State.passOn s port bytes arriving).dram.mem = true := by
  unfold State.passOn; try dsimp only
  repeat' first
    | with_reducible assumption
    | with_reducible refine k_ite ?_ ?_
    | with_reducible refine State.rxStamp_keeps ?_
    | with_reducible refine State.chargeIngress_keeps ?_
    | with_reducible refine State.bufCount_keeps ?_
    | with_reducible refine State.dropIngress_keeps ?_
    | with_reducible refine State.setLaneQ_keeps ?_
    | with_reducible refine k_opt (by with_reducible assumption) ?_
    | split

theorem State.rxGood_keeps {s : State} {p : Nat} {f : FrameIn} (h0 : Memory.wf s.dram.mem = true) :
    Memory.wf (State.rxGood s p f).dram.mem = true := h0

theorem State.receive_keeps {s : State} {port : Nat} {f : FrameIn} (h0 : Memory.wf s.dram.mem = true) :
    Memory.wf (State.receive s port f).dram.mem = true := by
  unfold State.receive; try dsimp only
  repeat' first
    | with_reducible assumption
    | with_reducible refine State.rxLine_keeps ?_
    | with_reducible refine State.portCount_keeps ?_
    | with_reducible refine State.consumePdelay_keeps ?_
    | with_reducible refine State.passOn_keeps ?_
    | with_reducible refine State.rxGood_keeps ?_
    | split

theorem State.beginFrame_keeps {s : State} {port : Nat} {f : FrameIn} (h0 : Memory.wf s.dram.mem = true) :
    Memory.wf (State.beginFrame s port f).dram.mem = true := by
  unfold State.beginFrame; try dsimp only
  repeat' first | with_reducible assumption | with_reducible refine k_ite ?_ ?_ | with_reducible refine State.passOn_keeps ?_

theorem execLaneFrameReceive_keeps {port : Nat} {frame : FrameIn} {s : State} (h0 : Memory.wf s.dram.mem = true) :
    OutKeeps (execLaneFrameReceive port frame s) := by
  unfold execLaneFrameReceive; try dsimp only
  repeat' first
    | with_reducible assumption
    | with_reducible refine k_out_ite ?_ ?_
    | with_reducible refine State.throughLoop_keeps ?_
    | with_reducible refine done_keeps ?_ ?_
    | with_reducible refine State.receive_keeps ?_
    | with_reducible refine State.beginFrame_keeps ?_
    | with_reducible refine k_next ?_
    | with_reducible refine k_opt2 (by with_reducible assumption) ?_
    | split

theorem State.loseFrame_keeps {s : State} {id : Nat} (h0 : Memory.wf s.dram.mem = true) :
    Memory.wf (State.loseFrame s id).dram.mem = true := by
  unfold State.loseFrame; try dsimp only
  repeat' first
    | with_reducible assumption
    | with_reducible refine State.discard_keeps ?_
    | with_reducible refine State.panicLevel_keeps ?_
    | with_reducible refine State.unhold_keeps ?_
    | with_reducible refine State.abortFrame_keeps ?_
    | with_reducible refine State.addOctets_keeps ?_
    | with_reducible refine k_foldl ?_ (fun _ _ _ => ?_)

theorem State.restCells_keeps {s : State} {id : Nat} {tail : Bytes} (h0 : Memory.wf s.dram.mem = true) :
    OptKeeps (fun s => s) (State.restCells s id tail) := by
  unfold State.restCells; try dsimp only
  repeat' first
    | with_reducible assumption
    | with_reducible refine k_opt_ite ?_ ?_
    | with_reducible refine k_some ?_
    | with_reducible refine k_mapS ?_ (fun _ _ => ?_)
    | with_reducible refine State.chargeIngress_keeps ?_
    | with_reducible refine State.dropIngress_keeps ?_
    | split

theorem State.eachWaiting_keeps {s : State} {id : Nat} {f : Pkt → Pkt} (h0 : Memory.wf s.dram.mem = true) :
    Memory.wf (State.eachWaiting s id f).dram.mem = true := h0

theorem State.setSched_keeps {s : State} {port : Nat} {x : SchedLive} (h0 : Memory.wf s.dram.mem = true) :
    Memory.wf (State.setSched s port x).dram.mem = true := h0

theorem State.chargeRest_keeps {s : State} {x : Sending} {more : Nat} (h0 : Memory.wf s.dram.mem = true) :
    Memory.wf (State.chargeRest s x more).dram.mem = true := by
  unfold State.chargeRest; try dsimp only
  repeat' first
    | with_reducible assumption
    | with_reducible refine k_ite ?_ ?_
    | with_reducible refine State.setQueue_keeps ?_
    | with_reducible refine State.setSched_keeps ?_
    | split

theorem State.endSending_keeps {s : State} {tail : Bytes} {x : Sending} (h0 : Memory.wf s.dram.mem = true) :
    Memory.wf (State.endSending s tail x).dram.mem = true := by
  unfold State.endSending; try dsimp only
  repeat' first
    | with_reducible assumption
    | with_reducible refine k_ite ?_ ?_
    | with_reducible refine State.chargeRest_keeps ?_
    | with_reducible refine State.addOctets_keeps ?_
    | with_reducible refine State.setSched_keeps ?_
    | with_reducible refine State.correctPtp_keeps ?_
    | with_reducible refine State.sentFrame_keeps ?_

theorem State.wholeFrame_keeps {s : State} {id : Nat} {tail : Bytes} (h0 : Memory.wf s.dram.mem = true) :
    Memory.wf (State.wholeFrame s id tail).dram.mem = true := by
  unfold State.wholeFrame; try dsimp only
  repeat' first
    | with_reducible assumption
    | with_reducible refine State.restCells_keeps ?_
    | with_reducible refine State.loseFrame_keeps ?_
    | with_reducible refine State.bufCount_keeps ?_
    | with_reducible refine State.eachWaiting_keeps ?_
    | with_reducible refine State.endSending_keeps ?_
    | with_reducible refine k_foldl ?_ (fun _ _ _ => ?_)
    | with_reducible refine k_opt (by with_reducible assumption) ?_
    | split

theorem State.endFrame_keeps {s : State} {a : Arriving} {f : FrameIn} (h0 : Memory.wf s.dram.mem = true) :
    Memory.wf (State.endFrame s a f).dram.mem = true := by
  unfold State.endFrame; try dsimp only
  repeat' first
    | with_reducible assumption
    | with_reducible refine k_ite ?_ ?_
    | with_reducible refine State.rxLine_keeps ?_
    | with_reducible refine State.loseFrame_keeps ?_
    | with_reducible refine State.portCount_keeps ?_
    | with_reducible refine State.lateClaims_keeps ?_
    | with_reducible refine State.rxGood_keeps ?_
    | with_reducible refine State.wholeFrame_keeps ?_
    | with_reducible refine State.consumePdelay_keeps ?_
    | with_reducible refine State.passOn_keeps ?_
    | split

theorem execCutThroughFrameEnd_keeps {id : Nat} {frame : FrameIn} {s : State} (h0 : Memory.wf s.dram.mem = true) :
    OutKeeps (execCutThroughFrameEnd id frame s) := by
  unfold execCutThroughFrameEnd; try dsimp only
  repeat' first
    | with_reducible assumption
    | with_reducible refine k_ite ?_ ?_
    | with_reducible refine k_out_ite ?_ ?_
    | with_reducible refine State.addOctets_keeps ?_
    | with_reducible refine done_keeps ?_ ?_
    | with_reducible refine State.loseFrame_keeps ?_
    | with_reducible refine State.portCount_keeps ?_
    | with_reducible refine State.send_keeps ?_
    | with_reducible refine State.endFrame_keeps ?_
    | with_reducible refine k_next ?_
    | split

theorem State.schedule_keeps {s : State} {port : Nat} (h0 : Memory.wf s.dram.mem = true) : OptKeeps (·.2.2) (State.schedule s port) := by
  unfold State.schedule; try dsimp only
  repeat' first
    | with_reducible assumption
    | with_reducible refine k_ite ?_ ?_
    | with_reducible exact k_none
    | with_reducible refine k_some ?_
    | with_reducible refine k_bind (fun _ => ?_)
    | with_reducible refine State.setQueue_keeps ?_
    | with_reducible refine State.setSched_keeps ?_
    | with_reducible refine State.debit_keeps ?_
    | with_reducible refine k_foldl ?_ (fun _ _ _ => ?_)
    | split

theorem State.egressCopies_keeps {s : State} {v : Staged} {p : Pkt} {r : RuleResult} (h0 : Memory.wf s.dram.mem = true) :
    Memory.wf (State.egressCopies s v p r).dram.mem = true := by
  unfold State.egressCopies; try dsimp only
  repeat' first
    | with_reducible assumption
    | with_reducible refine k_ite ?_ ?_
    | with_reducible refine State.copyTo_keeps ?_
    | with_reducible refine State.mirror_keeps ?_
    | split

theorem State.pace_keeps {s : State} {port : Nat} {len : Nat} (h0 : Memory.wf s.dram.mem = true) :
    Memory.wf (State.pace s port len).dram.mem = true := h0

theorem State.transmit_keeps {s : State} {v : Staged} {port : Nat} {p : Pkt} {by_ : Nat × Option Nat} {bad : Bool} (h0 : Memory.wf s.dram.mem = true) :
    Memory.wf (State.transmit s v port p by_ bad).dram.mem = true := by
  unfold State.transmit; try dsimp only
  repeat' first
    | with_reducible assumption
    | with_reducible refine k_ite ?_ ?_
    | with_reducible refine State.pace_keeps ?_
    | with_reducible refine State.txStamp_keeps ?_
    | with_reducible refine State.abortFrame_keeps ?_
    | with_reducible refine State.onWindow_keeps ?_
    | with_reducible refine State.correctPtp_keeps ?_
    | with_reducible refine State.sendFrame_keeps ?_

theorem State.egressResult_keeps {s : State} {v : Staged} {port : Nat} {p0 : Pkt} {r : RuleResult} {by_ : Nat × Option Nat} {bad : Bool} (h0 : Memory.wf s.dram.mem = true) :
    Memory.wf (State.egressResult s v port p0 r by_ bad).dram.mem = true := by
  unfold State.egressResult; try dsimp only
  repeat' first
    | with_reducible assumption
    | with_reducible refine State.egressCopies_keeps ?_
    | with_reducible refine State.countDiscard_keeps ?_
    | with_reducible refine State.bufCount_keeps ?_
    | with_reducible refine State.toHost_keeps ?_
    | with_reducible refine State.transmit_keeps ?_
    | split

theorem State.countAtEnd_keeps {s : State} {old : State} {id : Nat} {keys : List Nat} (h0 : Memory.wf s.dram.mem = true) (_h1 : Memory.wf old.dram.mem = true) :
    Memory.wf (State.countAtEnd s old id keys).dram.mem = true := by
  unfold State.countAtEnd; try dsimp only
  repeat' first | with_reducible assumption | with_reducible refine k_ite ?_ ?_ | with_reducible refine State.noteCounts_keeps ?_

theorem State.toRecirc_keeps {s : State} {pipe : Bool} {p : Pkt} (h0 : Memory.wf s.dram.mem = true) :
    Memory.wf (State.toRecirc s pipe p).dram.mem = true := by
  unfold State.toRecirc; try dsimp only
  repeat' first
    | with_reducible assumption
    | with_reducible refine k_ite ?_ ?_
    | with_reducible refine State.pipeEvent_keeps ?_
    | with_reducible refine State.countDiscard_keeps ?_
    | with_reducible refine State.rulePipeCount_keeps ?_
    | with_reducible refine State.chargeIngress_keeps ?_
    | with_reducible refine State.bufCount_keeps ?_
    | with_reducible refine State.setRecircQ_keeps ?_
    | with_reducible refine k_opt (by with_reducible assumption) ?_
    | split
    | dsimp only

theorem State.egress_keeps {s : State} {port : Nat} {e : Queued} {by_ : Nat × Option Nat} {hurt : Upsets} (h0 : Memory.wf s.dram.mem = true) :
    Memory.wf (State.egress s port e by_ hurt).dram.mem = true := by
  unfold State.egress; try dsimp only
  repeat' first
    | with_reducible assumption
    | with_reducible refine k_ite ?_ ?_
    | with_reducible refine k_pair_ite ?_ ?_
    | with_reducible refine State.countDiscard_keeps ?_
    | with_reducible refine State.portCount_keeps ?_
    | with_reducible refine State.cellFault_keeps ?_
    | with_reducible refine State.bufCount_keeps ?_
    | with_reducible refine State.draw_keeps ?_
    | with_reducible refine runLookups_keeps ?_
    | with_reducible refine State.egressResult_keeps ?_
    | with_reducible refine State.countAtEnd_keeps ?_ ?_
    | with_reducible refine State.pace_keeps ?_
    | with_reducible refine State.toRecirc_keeps ?_
    | with_reducible refine k_foldl ?_ (fun _ _ _ => ?_)

theorem execPacketDequeue_keeps {port : Nat} {hurt : Upsets} {s : State} (h0 : Memory.wf s.dram.mem = true) :
    OutKeeps (execPacketDequeue port hurt s) := by
  unfold execPacketDequeue; try dsimp only
  repeat' first
    | with_reducible assumption
    | with_reducible refine k_out_ite ?_ ?_
    | with_reducible refine State.schedule_keeps ?_
    | with_reducible refine State.storeFault_keeps ?_
    | with_reducible refine done_keeps ?_ ?_
    | with_reducible refine State.notePeak_keeps ?_
    | with_reducible refine State.egress_keeps ?_
    | with_reducible refine k_next ?_
    | with_reducible refine k_foldl ?_ (fun _ _ _ => ?_)
    | with_reducible refine k_opt3 (by with_reducible assumption) ?_
    | split

theorem bodyTelemCollectorSet_keeps {m : Msg} {s : State} (h0 : Memory.wf s.dram.mem = true) :
    Memory.wf (bodyTelemCollectorSet m s).state.dram.mem = true := by
  unfold bodyTelemCollectorSet; try dsimp only
  repeat' first
    | with_reducible assumption
    | with_reducible refine k_done_ite ?_ ?_
    | with_reducible refine badParam_keeps ?_
    | with_reducible refine needZero_keeps ?_ ?_
    | with_reducible refine ok_keeps ?_
    | with_reducible refine refuse_keeps ?_
    | split

theorem cmdTelemCollectorSet_keeps : CmdKeeps cmdTelemCollectorSet := fun _ _ h => bodyTelemCollectorSet_keeps h
theorem execTelemCollectorSet_keeps {m : Msg} {s : State} (h0 : Memory.wf s.dram.mem = true) :
    OutKeeps (execTelemCollectorSet m s) := runCommand_keeps cmdTelemCollectorSet_keeps h0

theorem State.settleStaging_keeps {s : State} (h0 : Memory.wf s.dram.mem = true) : Memory.wf (State.settleStaging s).dram.mem = true := by
  unfold State.settleStaging; try dsimp only
  assumption

theorem State.setPath_keeps {s : State} {ring : Bool} {x : Path} (h0 : Memory.wf s.dram.mem = true) :
    Memory.wf (State.setPath s ring x).dram.mem = true := h0

theorem State.holdPath_keeps {s : State} {ring : Bool} (h0 : Memory.wf s.dram.mem = true) :
    Memory.wf (State.holdPath s ring).dram.mem = true := by
  unfold State.holdPath; try dsimp only
  repeat' first
    | with_reducible assumption
    | with_reducible refine k_ite ?_ ?_
    | with_reducible refine State.setPath_keeps ?_
    | with_reducible refine State.telemCount_keeps ?_

theorem State.toTelemRing_keeps {s : State} {msg : Bytes} (h0 : Memory.wf s.dram.mem = true) :
    OptKeeps (fun s => s) (State.toTelemRing s msg) := by
  unfold State.toTelemRing; try dsimp only
  repeat' first
    | with_reducible assumption
    | with_reducible refine k_opt_ite ?_ ?_
    | with_reducible exact k_none
    | with_reducible refine k_some ?_
    | with_reducible refine State.takeSlot_keeps ?_

theorem State.toCollector_keeps {s : State} {msg : Bytes} (h0 : Memory.wf s.dram.mem = true) :
    OptKeeps (fun s => s) (State.toCollector s msg) := by
  unfold State.toCollector; try dsimp only
  repeat' first
    | with_reducible assumption
    | with_reducible refine k_opt_ite ?_ ?_
    | with_reducible exact k_none
    | with_reducible refine k_some ?_
    | with_reducible refine k_bind (fun _ => ?_)
    | with_reducible refine State.notePeak_keeps ?_
    | with_reducible refine State.enqueue_keeps ?_

theorem State.sendMessage_keeps {s : State} {ring : Bool} {msg : Bytes} (h0 : Memory.wf s.dram.mem = true) :
    OptKeeps (fun s => s) (State.sendMessage s ring msg) := by
  unfold State.sendMessage; try dsimp only
  repeat' first
    | with_reducible assumption
    | with_reducible refine k_opt_ite ?_ ?_
    | with_reducible refine k_mapS ?_ (fun _ _ => ?_)
    | with_reducible refine State.toTelemRing_keeps ?_
    | with_reducible refine State.telemCount_keeps ?_
    | with_reducible refine State.toCollector_keeps ?_

theorem State.sendWithdrawal_keeps {s : State} {ring : Bool} {t : Nat} (h0 : Memory.wf s.dram.mem = true) :
    OptKeeps (fun s => s) (State.sendWithdrawal s ring t) := by
  unfold State.sendWithdrawal; try dsimp only
  repeat' first
    | with_reducible assumption
    | with_reducible refine k_mapS ?_ (fun _ _ => ?_)
    | with_reducible refine State.telemCount_keeps ?_
    | with_reducible refine State.setPath_keeps ?_
    | with_reducible refine State.sendMessage_keeps ?_

theorem State.sendData_keeps {s : State} {ring : Bool} {t : Nat} (h0 : Memory.wf s.dram.mem = true) :
    OptKeeps (fun s => s) (State.sendData s ring t) := by
  unfold State.sendData; try dsimp only
  repeat' first
    | with_reducible assumption
    | with_reducible refine k_mapS ?_ (fun _ _ => ?_)
    | with_reducible refine State.setPath_keeps ?_
    | with_reducible refine State.settleStaging_keeps ?_
    | with_reducible refine State.sendMessage_keeps ?_

theorem State.sendTemplate_keeps {s : State} {ring : Bool} {t : Nat} (h0 : Memory.wf s.dram.mem = true) :
    OptKeeps (fun s => s) (State.sendTemplate s ring t) := by
  unfold State.sendTemplate; try dsimp only
  repeat' first
    | with_reducible assumption
    | with_reducible refine k_mapS ?_ (fun _ _ => ?_)
    | with_reducible refine State.telemCount_keeps ?_
    | with_reducible refine State.setPath_keeps ?_
    | with_reducible refine State.sendMessage_keeps ?_

theorem State.sendDue_keeps {ring : Bool} {x1 : Nat} {x2 : State} (h0 : Memory.wf x2.dram.mem = true) :
    Memory.wf (State.sendDue ring x1 x2).dram.mem = true := by
  induction x1 generalizing x2 with
  | zero =>
    unfold State.sendDue; try dsimp only
    assumption
  | succ n ih =>
    unfold State.sendDue; try dsimp only
    repeat' first
      | with_reducible assumption
      | with_reducible refine k_ite ?_ ?_
      | with_reducible apply ih
      | with_reducible refine State.setPath_keeps ?_
      | with_reducible refine State.holdPath_keeps ?_
      | with_reducible refine State.sendWithdrawal_keeps ?_
      | with_reducible refine State.sendData_keeps ?_
      | with_reducible refine State.sendTemplate_keeps ?_
      | with_reducible refine k_opt (by with_reducible assumption) ?_
      | split

theorem State.setDest_keeps {s : State} {t : Nat} {ring : Bool} {collector : Bool} (h0 : Memory.wf s.dram.mem = true) :
    Memory.wf (State.setDest s t ring collector).dram.mem = true := by
  unfold State.setDest; try dsimp only
  repeat' first
    | with_reducible assumption
    | with_reducible refine k_ite ?_ ?_
    | with_reducible refine State.settleStaging_keeps ?_
    | with_reducible refine State.sendDue_keeps ?_

theorem recTelemTemplate_keeps {s : State} {b : Bytes} {base : Nat} (h0 : Memory.wf s.dram.mem = true) :
    RecKeeps (recTelemTemplate s b base) := by
  unfold recTelemTemplate; try dsimp only
  repeat' first
    | with_reducible assumption
    | with_reducible refine k_rec_ite ?_ ?_
    | with_reducible refine recZero_keeps ?_
    | with_reducible refine State.setDest_keeps ?_
    | with_reducible exact k_refuse
    | with_reducible refine k_ok ?_
    | split

theorem recTelemSampling_keeps {s : State} {b : Bytes} {base : Nat} (h0 : Memory.wf s.dram.mem = true) :
    RecKeeps (recTelemSampling s b base) := by
  unfold recTelemSampling; try dsimp only
  repeat' first
    | with_reducible assumption
    | with_reducible refine k_rec_ite ?_ ?_
    | with_reducible refine recZero_keeps ?_
    | with_reducible exact k_refuse
    | with_reducible refine k_ok ?_
    | split

theorem State.setInterval_keeps {s : State} {n : Nat} (h0 : Memory.wf s.dram.mem = true) :
    Memory.wf (State.setInterval s n).dram.mem = true := by
  unfold State.setInterval; try dsimp only
  repeat' first | with_reducible assumption | with_reducible refine k_ite ?_ ?_

theorem recTelemInterval_keeps {s : State} {b : Bytes} {base : Nat} (h0 : Memory.wf s.dram.mem = true) :
    RecKeeps (recTelemInterval s b base) := by
  unfold recTelemInterval; try dsimp only
  repeat' first
    | with_reducible assumption
    | with_reducible refine k_rec_ite ?_ ?_
    | with_reducible refine recZero_keeps ?_
    | with_reducible refine State.setInterval_keeps ?_
    | with_reducible exact k_refuse
    | with_reducible refine k_ok ?_
    | split

theorem recTelemRing_keeps {m : Msg} {s : State} {b : Bytes} {base : Nat} (h0 : Memory.wf s.dram.mem = true) :
    RecKeeps (recTelemRing m s b base) := by
  unfold recTelemRing; try dsimp only
  repeat' first
    | with_reducible assumption
    | with_reducible refine k_rec_ite ?_ ?_
    | with_reducible refine recZero_keeps ?_
    | with_reducible exact k_refuse
    | with_reducible refine k_ok ?_
    | split

theorem recTelemEnable_keeps {m : Msg} {s : State} {b : Bytes} {base : Nat} (h0 : Memory.wf s.dram.mem = true) :
    RecKeeps (recTelemEnable m s b base) := by
  unfold recTelemEnable; try dsimp only
  repeat' first
    | with_reducible assumption
    | with_reducible refine recTelemTemplate_keeps ?_
    | with_reducible refine recTelemSampling_keeps ?_
    | with_reducible refine recTelemInterval_keeps ?_
    | with_reducible refine recTelemRing_keeps ?_
    | with_reducible exact k_refuse
    | split

theorem cmdTelemEnable_keeps : CmdKeeps cmdTelemEnable := fun _ _ h => records_keeps (fun _ _ _ h => recTelemEnable_keeps h) h
theorem execTelemEnable_keeps {m : Msg} {s : State} (h0 : Memory.wf s.dram.mem = true) :
    OutKeeps (execTelemEnable m s) := runCommand_keeps cmdTelemEnable_keeps h0

theorem bodyTelemStatus_keeps {m : Msg} {s : State} (h0 : Memory.wf s.dram.mem = true) :
    Memory.wf (bodyTelemStatus m s).state.dram.mem = true := by
  unfold bodyTelemStatus; try dsimp only
  repeat' first
    | with_reducible assumption
    | with_reducible refine k_ite ?_ ?_
    | with_reducible refine k_done_ite ?_ ?_
    | with_reducible refine badParam_keeps ?_
    | with_reducible refine needZero_keeps ?_ ?_
    | with_reducible refine ok_keeps ?_

theorem cmdTelemStatus_keeps : CmdKeeps cmdTelemStatus := fun _ _ h => bodyTelemStatus_keeps h
theorem execTelemStatus_keeps {m : Msg} {s : State} (h0 : Memory.wf s.dram.mem = true) :
    OutKeeps (execTelemStatus m s) := runCommand_keeps cmdTelemStatus_keeps h0

theorem State.setPerf_keeps {s : State} {i : Nat} {c : PerfCounter} (h0 : Memory.wf s.dram.mem = true) :
    Memory.wf (State.setPerf s i c).dram.mem = true := by
  unfold State.setPerf; try dsimp only
  assumption

theorem recCounterProgram_keeps {s : State} {b : Bytes} {base : Nat} (h0 : Memory.wf s.dram.mem = true) :
    RecKeeps (recCounterProgram s b base) := by
  unfold recCounterProgram; try dsimp only
  repeat' first
    | with_reducible assumption
    | with_reducible refine k_rec_ite ?_ ?_
    | with_reducible refine recZero_keeps ?_
    | with_reducible refine State.setPerf_keeps ?_
    | with_reducible exact k_refuse
    | with_reducible refine k_ok ?_
    | split

theorem bodyCounterProgram_keeps {m : Msg} {s : State} (h0 : Memory.wf s.dram.mem = true) :
    Memory.wf (bodyCounterProgram m s).state.dram.mem = true := by
  unfold bodyCounterProgram; try dsimp only
  repeat' first
    | with_reducible assumption
    | with_reducible refine badParam_keeps ?_
    | with_reducible refine records_keeps ?_ ?_
    | with_reducible refine recCounterProgram_keeps ?_
    | with_reducible refine fun _ _ _ _ => ?_
    | split

theorem cmdCounterProgram_keeps : CmdKeeps cmdCounterProgram := fun _ _ h => bodyCounterProgram_keeps h
theorem execCounterProgram_keeps {m : Msg} {s : State} (h0 : Memory.wf s.dram.mem = true) :
    OutKeeps (execCounterProgram m s) := runCommand_keeps cmdCounterProgram_keeps h0

theorem bodyCounterRead_keeps {m : Msg} {s : State} (h0 : Memory.wf s.dram.mem = true) :
    Memory.wf (bodyCounterRead m s).state.dram.mem = true := by
  unfold bodyCounterRead; try dsimp only
  repeat' first
    | with_reducible assumption
    | with_reducible refine k_ite ?_ ?_
    | with_reducible refine k_done_ite ?_ ?_
    | with_reducible refine outOfRange_keeps ?_
    | with_reducible refine badParam_keeps ?_
    | with_reducible refine needZero_keeps ?_ ?_
    | with_reducible refine ok_keeps ?_

theorem cmdCounterRead_keeps : CmdKeeps cmdCounterRead := fun _ _ h => bodyCounterRead_keeps h
theorem execCounterRead_keeps {m : Msg} {s : State} (h0 : Memory.wf s.dram.mem = true) :
    OutKeeps (execCounterRead m s) := runCommand_keeps cmdCounterRead_keeps h0

theorem bodyCounterDumpConfig_keeps {m : Msg} {s : State} (h0 : Memory.wf s.dram.mem = true) :
    Memory.wf (bodyCounterDumpConfig m s).state.dram.mem = true := by
  unfold bodyCounterDumpConfig; try dsimp only
  repeat' first
    | with_reducible assumption
    | with_reducible refine k_done_ite ?_ ?_
    | with_reducible refine needZero_keeps ?_ ?_
    | with_reducible refine ok_keeps ?_
    | with_reducible refine badParam_keeps ?_
    | with_reducible refine outOfRange_keeps ?_
    | with_reducible refine refuse_keeps ?_
    | split

theorem cmdCounterDumpConfig_keeps : CmdKeeps cmdCounterDumpConfig := fun _ _ h => bodyCounterDumpConfig_keeps h
theorem execCounterDumpConfig_keeps {m : Msg} {s : State} (h0 : Memory.wf s.dram.mem = true) :
    OutKeeps (execCounterDumpConfig m s) := runCommand_keeps cmdCounterDumpConfig_keeps h0

theorem State.setWindow_keeps {s : State} {p : Nat} {w : BwWindow} (h0 : Memory.wf s.dram.mem = true) :
    Memory.wf (State.setWindow s p w).dram.mem = true := by
  unfold State.setWindow; try dsimp only
  assumption

theorem recBwwinConfig_keeps {s : State} {b : Bytes} {base : Nat} (h0 : Memory.wf s.dram.mem = true) :
    RecKeeps (recBwwinConfig s b base) := by
  unfold recBwwinConfig; try dsimp only
  repeat' first
    | with_reducible assumption
    | with_reducible refine k_rec_ite ?_ ?_
    | with_reducible refine recZero_keeps ?_
    | with_reducible refine State.setWindow_keeps ?_
    | with_reducible exact k_refuse
    | with_reducible refine k_ok ?_

theorem cmdBwwinConfig_keeps : CmdKeeps cmdBwwinConfig := fun _ _ h => records_keeps (fun _ _ _ h => recBwwinConfig_keeps h) h
theorem execBwwinConfig_keeps {m : Msg} {s : State} (h0 : Memory.wf s.dram.mem = true) :
    OutKeeps (execBwwinConfig m s) := runCommand_keeps cmdBwwinConfig_keeps h0

theorem bodyBwwinRead_keeps {m : Msg} {s : State} (h0 : Memory.wf s.dram.mem = true) :
    Memory.wf (bodyBwwinRead m s).state.dram.mem = true := by
  unfold bodyBwwinRead; try dsimp only
  repeat' first
    | with_reducible assumption
    | with_reducible refine k_ite ?_ ?_
    | with_reducible refine k_done_ite ?_ ?_
    | with_reducible refine refuse_keeps ?_
    | with_reducible refine outOfRange_keeps ?_
    | with_reducible refine badParam_keeps ?_
    | with_reducible refine needZero_keeps ?_ ?_
    | with_reducible refine State.onWindow_keeps ?_
    | with_reducible refine ok_keeps ?_
    | with_reducible refine k_foldl ?_ (fun _ _ _ => ?_)

theorem cmdBwwinRead_keeps : CmdKeeps cmdBwwinRead := fun _ _ h => bodyBwwinRead_keeps h
theorem execBwwinRead_keeps {m : Msg} {s : State} (h0 : Memory.wf s.dram.mem = true) :
    OutKeeps (execBwwinRead m s) := runCommand_keeps cmdBwwinRead_keeps h0

theorem State.applyIntervals_keeps {old : State} {s : State} (_h0 : Memory.wf old.dram.mem = true) (h1 : Memory.wf s.dram.mem = true) :
    Memory.wf (State.applyIntervals old s).dram.mem = true := by
  unfold State.applyIntervals; try dsimp only
  assumption

theorem execTemplateIntervalExpire_keeps {s : State} (h0 : Memory.wf s.dram.mem = true) : OutKeeps (execTemplateIntervalExpire s) := by
  unfold execTemplateIntervalExpire; try dsimp only
  repeat' first
    | with_reducible assumption
    | with_reducible refine k_out_ite ?_ ?_
    | with_reducible refine k_foldlO ?_ (fun _ _ _ => ?_)
    | with_reducible refine k_some ?_
    | with_reducible refine k_bindS ?_ (fun _ _ => ?_)
    | with_reducible refine State.setPath_keeps ?_
    | with_reducible refine done_keeps ?_ ?_
    | with_reducible refine State.sendTemplate_keeps ?_
    | with_reducible refine State.holdPath_keeps ?_
    | with_reducible refine k_next ?_
    | with_reducible refine k_opt (by with_reducible assumption) ?_
    | split

theorem execCollectorRetry_keeps {s : State} (h0 : Memory.wf s.dram.mem = true) : OutKeeps (execCollectorRetry s) := by
  unfold execCollectorRetry; try dsimp only
  repeat' first
    | with_reducible assumption
    | with_reducible refine k_out_ite ?_ ?_
    | with_reducible refine done_keeps ?_ ?_
    | with_reducible refine State.sendDue_keeps ?_
    | with_reducible refine k_next ?_

theorem State.flowFacts_keeps {s : State} {action : Nat} {key : Bytes} (h0 : Memory.wf s.dram.mem = true) :
    Memory.wf (State.flowFacts s action key).2.dram.mem = true := by
  unfold State.flowFacts; try dsimp only
  repeat' first
    | with_reducible assumption
    | with_reducible refine k_pair_ite ?_ ?_
    | with_reducible refine State.entryRead_keeps ?_
    | split

theorem State.flowEndRecord_keeps {s : State} {key : Bytes} {action : Nat} {packets : Nat} {octets : Nat} {last : Nat} {first : Nat} {tcp : Byte} {control : Byte} {w : Nat} {home : Nat} {reason : Nat} {flags : Nat} {epoch : W16} (h0 : Memory.wf s.dram.mem = true) :
    Memory.wf (State.flowEndRecord s key action packets octets last first tcp control w home reason flags epoch).2.dram.mem = true := by
  unfold State.flowEndRecord; try dsimp only
  repeat' first | with_reducible assumption | with_reducible refine State.flowFacts_keeps ?_

theorem State.sampleRecord_keeps {s : State} {key : Bytes} {action : Nat} {packets : Nat} {octets : Nat} {first : Nat} {tcp : Byte} {control : Byte} {w : Nat} {home : Nat} {time : Nat} (h0 : Memory.wf s.dram.mem = true) :
    Memory.wf (State.sampleRecord s key action packets octets first tcp control w home time).2.dram.mem = true := by
  unfold State.sampleRecord; try dsimp only
  repeat' first | with_reducible assumption | with_reducible refine State.flowFacts_keeps ?_

theorem State.intervalRecord_keeps {s : State} {sub : Nat} {t : Bytes} (h0 : Memory.wf s.dram.mem = true) :
    Memory.wf (State.intervalRecord s sub t).2.dram.mem = true := by
  unfold State.intervalRecord; try dsimp only
  repeat' first
    | with_reducible assumption
    | with_reducible refine State.mergedCounts_keeps ?_
    | with_reducible refine State.readTile1_keeps ?_

theorem State.assemble_keeps {s : State} {x1 : Assembly} (h0 : Memory.wf s.dram.mem = true) :
    Memory.wf (State.assemble s x1).2.dram.mem = true := by
  unfold State.assemble; try dsimp only
  repeat' first
    | with_reducible assumption
    | with_reducible refine State.flowEndRecord_keeps ?_
    | with_reducible refine State.sampleRecord_keeps ?_
    | with_reducible refine State.meetSub_keeps ?_
    | with_reducible refine State.intervalRecord_keeps ?_
    | split

theorem State.sendAll_keeps {s : State} (h0 : Memory.wf s.dram.mem = true) : Memory.wf (State.sendAll s).dram.mem = true := by
  unfold State.sendAll; try dsimp only
  repeat' first | with_reducible assumption | with_reducible refine k_ite ?_ ?_ | with_reducible refine State.sendDue_keeps ?_

theorem execTelemetryAssemble_keeps {s : State} (h0 : Memory.wf s.dram.mem = true) : OutKeeps (execTelemetryAssemble s) := by
  unfold execTelemetryAssemble; try dsimp only
  repeat' first
    | with_reducible assumption
    | with_reducible refine k_out_ite ?_ ?_
    | with_reducible refine State.assemble_keeps ?_
    | with_reducible refine done_keeps ?_ ?_
    | with_reducible refine State.telemCount_keeps ?_
    | with_reducible refine State.sendAll_keeps ?_
    | with_reducible refine State.stageRecord_keeps ?_
    | with_reducible refine k_next ?_
    | with_reducible refine k_pair (by with_reducible assumption) ?_
    | split

theorem State.takeTailing_keeps {s : State} (h0 : Memory.wf s.dram.mem = true) : Memory.wf (State.takeTailing s).2.dram.mem = true := by
  unfold State.takeTailing; try dsimp only
  repeat' first | with_reducible assumption | with_reducible refine State.readTile_keeps ?_ | split

theorem execTailingsDrain_keeps {s : State} (h0 : Memory.wf s.dram.mem = true) : OutKeeps (execTailingsDrain s) := by
  unfold execTailingsDrain; try dsimp only
  repeat' first
    | with_reducible assumption
    | with_reducible refine k_out_ite ?_ ?_
    | with_reducible refine State.takeTailing_keeps ?_
    | with_reducible refine done_keeps ?_ ?_
    | with_reducible refine State.telemCount_keeps ?_
    | with_reducible refine State.flowEndRecord_keeps ?_
    | with_reducible refine State.sendAll_keeps ?_
    | with_reducible refine State.stageRecord_keeps ?_
    | with_reducible refine k_next ?_
    | with_reducible refine k_pair (by with_reducible assumption) ?_
    | split

theorem execSubIntervalRecord_keeps {s : State} (h0 : Memory.wf s.dram.mem = true) : OutKeeps (execSubIntervalRecord s) := by
  unfold execSubIntervalRecord; try dsimp only
  repeat' first
    | with_reducible assumption
    | with_reducible refine k_out_ite ?_ ?_
    | with_reducible refine done_keeps ?_ ?_
    | with_reducible refine State.telemCount_keeps ?_
    | with_reducible refine k_next ?_
    | split

theorem execTelemFlushExpire_keeps {ringPath : Bool} {s : State} (h0 : Memory.wf s.dram.mem = true) :
    OutKeeps (execTelemFlushExpire ringPath s) := by
  unfold execTelemFlushExpire; try dsimp only
  repeat' first
    | with_reducible assumption
    | with_reducible refine k_out_ite ?_ ?_
    | with_reducible refine done_keeps ?_ ?_
    | with_reducible refine State.sendDue_keeps ?_
    | with_reducible refine k_next ?_

theorem execCounterDump_keeps {s : State} (h0 : Memory.wf s.dram.mem = true) : OutKeeps (execCounterDump s) := by
  unfold execCounterDump; try dsimp only
  repeat' first
    | with_reducible assumption
    | with_reducible refine k_ite ?_ ?_
    | with_reducible refine k_out_ite ?_ ?_
    | with_reducible refine State.takeSlot_keeps ?_
    | with_reducible refine done_keeps ?_ ?_
    | with_reducible refine k_next ?_

theorem execBwwinEnd_keeps {port : Nat} {s : State} (h0 : Memory.wf s.dram.mem = true) : OutKeeps (execBwwinEnd port s) := by
  unfold execBwwinEnd; try dsimp only
  repeat' first
    | with_reducible assumption
    | with_reducible refine k_out_ite ?_ ?_
    | with_reducible refine done_keeps ?_ ?_
    | with_reducible refine State.onWindow_keeps ?_
    | with_reducible refine k_next ?_

end Sys2Proof.Laws
end

