-- ==== Sys2Proof/Laws/KeepsMachine.lean ====
section
/-!
SUPPORT. What keeps device memory in its canonical form, one lemma per definition: the host side, the life cycle, epochs, errors, the pair, the miners, the command interpreter, the pins and the tick.
-/
namespace Sys2Proof.Laws
open Sys2Proof.Machine Sys2Proof.Claims

theorem State.wakeChannels_keeps {s : State} (h0 : Memory.wf s.dram.mem = true) : Memory.wf (State.wakeChannels s).dram.mem = true := by
  unfold State.wakeChannels; try dsimp only
  repeat' first | with_reducible assumption | with_reducible refine k_ite ?_ ?_

theorem State.unhalt_keeps {s : State} (h0 : Memory.wf s.dram.mem = true) : Memory.wf (State.unhalt s).dram.mem = true := by
  unfold State.unhalt; try dsimp only
  repeat' first
    | with_reducible assumption
    | with_reducible refine k_ite ?_ ?_
    | with_reducible refine State.wakeChannels_keeps ?_

theorem State.haltRings_keeps {s : State} {c : Nat} {stop : Bool} (h0 : Memory.wf s.dram.mem = true) :
    Memory.wf (State.haltRings s c stop).dram.mem = true := by
  unfold State.haltRings; try dsimp only
  repeat' first
    | with_reducible assumption
    | with_reducible refine State.setHostRing_keeps ?_
    | with_reducible refine k_foldl ?_ (fun _ _ _ => ?_)

theorem State.resumeChannel_keeps {s : State} {c : Nat} (h0 : Memory.wf s.dram.mem = true) :
    Memory.wf (State.resumeChannel s c).dram.mem = true := by
  unfold State.resumeChannel; try dsimp only
  repeat' first
    | with_reducible assumption
    | with_reducible refine k_ite ?_ ?_
    | with_reducible refine State.setDma_keeps ?_
    | with_reducible refine State.haltRings_keeps ?_
    | split

theorem State.endSeamHolds_keeps {s : State} {desc : Nat} (h0 : Memory.wf s.dram.mem = true) :
    Memory.wf (State.endSeamHolds s desc).dram.mem = true := by
  unfold State.endSeamHolds; try dsimp only
  assumption

theorem State.holdSeam_keeps {s : State} {desc : Nat} {e : W16} (h0 : Memory.wf s.dram.mem = true) :
    Memory.wf (State.holdSeam s desc e).dram.mem = true := h0

theorem State.endHold_keeps {s : State} {c : Nat} {t : Transfer} {status : Nat} (h0 : Memory.wf s.dram.mem = true) :
    Memory.wf (State.endHold s c t status).dram.mem = true := by
  unfold State.endHold; try dsimp only
  repeat' first
    | with_reducible assumption
    | with_reducible refine k_ite ?_ ?_
    | with_reducible refine State.setDma_keeps ?_
    | with_reducible refine State.endSeamHolds_keeps ?_
    | with_reducible refine State.holdSeam_keeps ?_
    | split

theorem State.setIrq_keeps {s : State} {c : Nat} {done : Bool} {err : Bool} (h0 : Memory.wf s.dram.mem = true) :
    Memory.wf (State.setIrq s c done err).dram.mem = true := h0

theorem State.endDescriptor_keeps {s : State} {c : Nat} {t : Transfer} {status : Nat} (h0 : Memory.wf s.dram.mem = true) :
    Memory.wf (State.endDescriptor s c t status).dram.mem = true := by
  unfold State.endDescriptor; try dsimp only
  repeat' first
    | with_reducible assumption
    | with_reducible refine State.endHold_keeps ?_
    | with_reducible refine State.setDma_keeps ?_
    | with_reducible refine State.wakeChannels_keeps ?_
    | with_reducible refine State.setIrq_keeps ?_

theorem State.completeDescriptor_keeps {s : State} {c : Nat} {t : Transfer} {status : Nat} (h0 : Memory.wf s.dram.mem = true) :
    Memory.wf (State.completeDescriptor s c t status).dram.mem = true := by
  unfold State.completeDescriptor; try dsimp only
  repeat' first
    | with_reducible assumption
    | with_reducible refine State.send_keeps ?_
    | with_reducible refine State.endDescriptor_keeps ?_

theorem State.closeChannel_keeps {s : State} {c : Nat} (h0 : Memory.wf s.dram.mem = true) :
    Memory.wf (State.closeChannel s c).dram.mem = true := by
  unfold State.closeChannel; try dsimp only
  repeat' first
    | with_reducible assumption
    | with_reducible refine k_ite ?_ ?_
    | with_reducible refine State.completeDescriptor_keeps ?_
    | split

theorem bodyDmaResume_keeps {m : Msg} {s : State} (h0 : Memory.wf s.dram.mem = true) :
    Memory.wf (bodyDmaResume m s).state.dram.mem = true := by
  unfold bodyDmaResume; try dsimp only
  repeat' first
    | with_reducible assumption
    | with_reducible refine k_done_ite ?_ ?_
    | with_reducible refine refuse_keeps ?_
    | with_reducible refine badParam_keeps ?_
    | with_reducible refine needZero_keeps ?_ ?_
    | with_reducible refine State.unhalt_keeps ?_
    | with_reducible refine State.resumeChannel_keeps ?_
    | with_reducible refine State.closeChannel_keeps ?_
    | with_reducible refine ok_keeps ?_
    | with_reducible refine k_foldl ?_ (fun _ _ _ => ?_)

theorem cmdDmaResume_keeps : CmdKeeps cmdDmaResume := fun _ _ h => bodyDmaResume_keeps h
theorem execDmaResume_keeps {m : Msg} {s : State} (h0 : Memory.wf s.dram.mem = true) :
    OutKeeps (execDmaResume m s) := runCommand_keeps cmdDmaResume_keeps h0

theorem State.abandonRings_keeps {s : State} {c : Nat} (h0 : Memory.wf s.dram.mem = true) :
    Memory.wf (State.abandonRings s c).dram.mem = true := by
  unfold State.abandonRings; try dsimp only
  repeat' first
    | with_reducible assumption
    | with_reducible refine State.setHostRing_keeps ?_
    | with_reducible refine k_foldl ?_ (fun _ _ _ => ?_)

theorem State.abandonChannel_keeps {s : State} {c : Nat} (h0 : Memory.wf s.dram.mem = true) :
    Memory.wf (State.abandonChannel s c).dram.mem = true := by
  unfold State.abandonChannel; try dsimp only
  repeat' first
    | with_reducible assumption
    | with_reducible refine k_ite ?_ ?_
    | with_reducible refine State.setDma_keeps ?_
    | with_reducible refine State.abandonRings_keeps ?_
    | with_reducible refine State.endDescriptor_keeps ?_

theorem bodyDmaAbandon_keeps {m : Msg} {s : State} (h0 : Memory.wf s.dram.mem = true) :
    Memory.wf (bodyDmaAbandon m s).state.dram.mem = true := by
  unfold bodyDmaAbandon; try dsimp only
  repeat' first
    | with_reducible assumption
    | with_reducible refine k_done_ite ?_ ?_
    | with_reducible refine refuse_keeps ?_
    | with_reducible refine badParam_keeps ?_
    | with_reducible refine needZero_keeps ?_ ?_
    | with_reducible refine ok_keeps ?_
    | with_reducible refine State.unhalt_keeps ?_
    | with_reducible refine State.abandonChannel_keeps ?_
    | with_reducible refine k_foldl ?_ (fun _ _ _ => ?_)

theorem cmdDmaAbandon_keeps : CmdKeeps cmdDmaAbandon := fun _ _ h => bodyDmaAbandon_keeps h
theorem execDmaAbandon_keeps {m : Msg} {s : State} (h0 : Memory.wf s.dram.mem = true) :
    OutKeeps (execDmaAbandon m s) := runCommand_keeps cmdDmaAbandon_keeps h0

theorem bodyDmaStatus_keeps {m : Msg} {s : State} (h0 : Memory.wf s.dram.mem = true) :
    Memory.wf (bodyDmaStatus m s).state.dram.mem = true := by
  unfold bodyDmaStatus; try dsimp only
  repeat' first | with_reducible assumption | with_reducible refine needZero_keeps ?_ ?_ | with_reducible refine ok_keeps ?_

theorem cmdDmaStatus_keeps : CmdKeeps cmdDmaStatus := fun _ _ h => bodyDmaStatus_keeps h
theorem execDmaStatus_keeps {m : Msg} {s : State} (h0 : Memory.wf s.dram.mem = true) :
    OutKeeps (execDmaStatus m s) := runCommand_keeps cmdDmaStatus_keeps h0

theorem execDmaBusError_keeps {cause : Nat} {c : Nat} {address : W64} {s : State} (h0 : Memory.wf s.dram.mem = true) :
    OutKeeps (execDmaBusError cause c address s) := by
  unfold execDmaBusError; try dsimp only
  repeat' first
    | with_reducible assumption
    | with_reducible refine k_ite ?_ ?_
    | with_reducible refine k_out_ite ?_ ?_
    | with_reducible refine State.setIrq_keeps ?_
    | with_reducible refine State.setDma_keeps ?_
    | with_reducible refine State.haltRings_keeps ?_
    | with_reducible refine State.logError_keeps ?_
    | with_reducible refine State.alert_keeps ?_
    | with_reducible refine done_keeps ?_ ?_
    | with_reducible refine State.raiseCause_keeps ?_
    | with_reducible refine k_next ?_
    | with_reducible refine k_foldl ?_ (fun _ _ _ => ?_)

theorem State.writeDmaCtl_keeps {s : State} {c : Nat} {v : Nat} (h0 : Memory.wf s.dram.mem = true) :
    Memory.wf (State.writeDmaCtl s c v).dram.mem = true := by
  unfold State.writeDmaCtl; try dsimp only
  repeat' first
    | with_reducible assumption
    | with_reducible refine State.wakeChannels_keeps ?_
    | with_reducible refine State.setDma_keeps ?_

theorem State.writeDmaTail_keeps {s : State} {c : Nat} {v : Nat} (h0 : Memory.wf s.dram.mem = true) :
    Memory.wf (State.writeDmaTail s c v).dram.mem = true := by
  unfold State.writeDmaTail; try dsimp only
  repeat' first
    | with_reducible assumption
    | with_reducible refine State.wakeChannels_keeps ?_
    | with_reducible refine State.setDma_keeps ?_

theorem State.writeOwner_keeps {s : State} {v : Nat} (h0 : Memory.wf s.dram.mem = true) :
    Memory.wf (State.writeOwner s v).dram.mem = true := h0

theorem execRingRecordWrite_keeps {ring : RingRead} {s : State} (h0 : Memory.wf s.dram.mem = true) :
    OutKeeps (execRingRecordWrite ring s) := by
  unfold execRingRecordWrite; try dsimp only
  repeat' first
    | with_reducible assumption
    | with_reducible refine k_out_ite ?_ ?_
    | with_reducible refine State.serveRing_keeps ?_
    | with_reducible refine done_keeps ?_ ?_
    | with_reducible refine k_next ?_

theorem execDmaChTailWrite_keeps {pf1 : Bool} {c : Nat} {v : W32} {s : State} (h0 : Memory.wf s.dram.mem = true) :
    OutKeeps (execDmaChTailWrite pf1 c v s) := by
  unfold execDmaChTailWrite; try dsimp only
  repeat' first
    | with_reducible assumption
    | with_reducible refine k_out_ite ?_ ?_
    | with_reducible refine done_keeps ?_ ?_
    | with_reducible refine State.writeDmaTail_keeps ?_
    | with_reducible refine k_next ?_

theorem execDmaChEnable_keeps {pf1 : Bool} {c : Nat} {v : W32} {s : State} (h0 : Memory.wf s.dram.mem = true) :
    OutKeeps (execDmaChEnable pf1 c v s) := by
  unfold execDmaChEnable; try dsimp only
  repeat' first
    | with_reducible assumption
    | with_reducible refine k_out_ite ?_ ?_
    | with_reducible refine done_keeps ?_ ?_
    | with_reducible refine State.writeDmaCtl_keeps ?_
    | with_reducible refine k_next ?_

theorem execDmaChRestart_keeps {pf1 : Bool} {c : Nat} {s : State} (h0 : Memory.wf s.dram.mem = true) :
    OutKeeps (execDmaChRestart pf1 c s) := by
  unfold execDmaChRestart; try dsimp only
  repeat' first
    | with_reducible assumption
    | with_reducible refine k_out_ite ?_ ?_
    | with_reducible refine done_keeps ?_ ?_
    | with_reducible refine State.writeDmaCtl_keeps ?_
    | with_reducible refine k_next ?_

theorem execSecDmaOwnerWrite_keeps {pf1 : Bool} {v : W32} {s : State} (h0 : Memory.wf s.dram.mem = true) :
    OutKeeps (execSecDmaOwnerWrite pf1 v s) := by
  unfold execSecDmaOwnerWrite; try dsimp only
  repeat' first
    | with_reducible assumption
    | with_reducible refine k_out_ite ?_ ?_
    | with_reducible refine done_keeps ?_ ?_
    | with_reducible refine State.writeOwner_keeps ?_
    | with_reducible refine k_next ?_

theorem State.takeHold_keeps {s : State} {h : SeamHold} (h0 : Memory.wf s.dram.mem = true) :
    Memory.wf (State.takeHold s h).dram.mem = true := by
  unfold State.takeHold; try dsimp only
  assumption

theorem execDmaDescriptorStart_keeps {c : Nat} {desc : Bytes} {s : State} (h0 : Memory.wf s.dram.mem = true) :
    OutKeeps (execDmaDescriptorStart c desc s) := by
  unfold execDmaDescriptorStart; try dsimp only
  repeat' first
    | with_reducible assumption
    | with_reducible refine k_out_ite ?_ ?_
    | with_reducible refine State.send_keeps ?_
    | with_reducible refine State.holdSeam_keeps ?_
    | with_reducible refine State.takeHold_keeps ?_
    | with_reducible refine done_keeps ?_ ?_
    | with_reducible refine State.endDescriptor_keeps ?_
    | with_reducible refine State.setDma_keeps ?_
    | with_reducible refine k_next ?_
    | split

theorem State.timeReads_keeps {s : State} {c : Nat} (h0 : Memory.wf s.dram.mem = true) :
    Memory.wf (State.timeReads s c).dram.mem = true := by
  unfold State.timeReads; try dsimp only
  repeat' first | with_reducible assumption | with_reducible refine State.setDma_keeps ?_

theorem execDmaUnitConfirm_keeps {c : Nat} {units : Nat} {s : State} (h0 : Memory.wf s.dram.mem = true) :
    OutKeeps (execDmaUnitConfirm c units s) := by
  unfold execDmaUnitConfirm; try dsimp only
  repeat' first
    | with_reducible assumption
    | with_reducible refine k_out_ite ?_ ?_
    | with_reducible refine done_keeps ?_ ?_
    | with_reducible refine State.setDma_keeps ?_
    | with_reducible refine State.timeReads_keeps ?_
    | with_reducible refine k_next ?_
    | split

theorem execDmaDescriptorEnd_keeps {c : Nat} {s : State} (h0 : Memory.wf s.dram.mem = true) : OutKeeps (execDmaDescriptorEnd c s) := by
  unfold execDmaDescriptorEnd; try dsimp only
  repeat' first
    | with_reducible assumption
    | with_reducible refine k_out_ite ?_ ?_
    | with_reducible refine done_keeps ?_ ?_
    | with_reducible refine State.completeDescriptor_keeps ?_
    | with_reducible refine k_next ?_
    | split

theorem execSnapshotHoldExpire_keeps {desc : Nat} {s : State} (h0 : Memory.wf s.dram.mem = true) :
    OutKeeps (execSnapshotHoldExpire desc s) := by
  unfold execSnapshotHoldExpire; try dsimp only
  repeat' first
    | with_reducible assumption
    | with_reducible refine k_out_ite ?_ ?_
    | with_reducible refine done_keeps ?_ ?_
    | with_reducible refine k_next ?_

theorem fillUnits_keeps {tile : Nat → Nat} {pattern : Bytes} {x2 : Nat} {x3 : Nat} {x4 : State} (h0 : Memory.wf x4.dram.mem = true) :
    Memory.wf (fillUnits tile pattern x2 x3 x4).dram.mem = true := by
  induction x2 generalizing x3 x4 with
  | zero =>
    unfold fillUnits; try dsimp only
    assumption
  | succ n ih =>
    unfold fillUnits; try dsimp only
    repeat' first | with_reducible assumption | with_reducible apply ih | with_reducible refine State.putTile_keeps ?_

theorem compareUnits_keeps {a : Nat → Nat} {b : Option (Nat → Nat)} {first : Nat} {x3 : Nat} {x4 : Nat} {x5 : State} {x6 : Transfer} (h0 : Memory.wf x5.dram.mem = true) :
    Memory.wf (compareUnits a b first x3 x4 x5 x6).2.dram.mem = true := by
  induction x3 generalizing x4 x5 x6 with
  | zero =>
    unfold compareUnits; try dsimp only
    assumption
  | succ n ih =>
    unfold compareUnits; try dsimp only
    repeat' first | with_reducible assumption | with_reducible apply ih | with_reducible refine State.readTile_keeps ?_ | split

theorem deliverUnits_keeps {v : Staged} {tile : Nat → Nat} {x2 : Nat} {x3 : Nat} {x4 : State} {x5 : Mark} {x6 : Bytes} (h0 : Memory.wf x4.dram.mem = true) :
    Memory.wf (deliverUnits v tile x2 x3 x4 x5 x6).2.2.dram.mem = true := by
  induction x2 generalizing x3 x4 x5 x6 with
  | zero =>
    unfold deliverUnits; try dsimp only
    assumption
  | succ n ih =>
    unfold deliverUnits; try dsimp only
    repeat' first | with_reducible assumption | with_reducible apply ih | with_reducible refine State.readTileIn_keeps ?_

theorem State.burst_keeps {s : State} {c : Nat} {t : Transfer} (h0 : Memory.wf s.dram.mem = true) :
    Memory.wf (State.burst s c t).dram.mem = true := by
  unfold State.burst; try dsimp only
  repeat' first
    | with_reducible assumption
    | with_reducible refine k_ite ?_ ?_
    | with_reducible refine State.setDma_keeps ?_
    | with_reducible refine State.send_keeps ?_
    | with_reducible refine fillUnits_keeps ?_
    | with_reducible refine compareUnits_keeps ?_
    | with_reducible refine State.readParts_keeps ?_
    | with_reducible refine deliverUnits_keeps ?_
    | with_reducible refine State.hostWrites_keeps ?_

theorem State.serveRequester_keeps {s : State} {c : Nat} {hurt : Upsets} (h0 : Memory.wf s.dram.mem = true) :
    Memory.wf (State.serveRequester s c hurt).dram.mem = true := by
  unfold State.serveRequester; try dsimp only
  repeat' first
    | with_reducible assumption
    | with_reducible refine k_ite ?_ ?_
    | with_reducible refine State.serveRing_keeps ?_
    | with_reducible refine State.sendDue_keeps ?_
    | split

theorem execDmaBurst_keeps {hurt : Upsets} {s : State} (h0 : Memory.wf s.dram.mem = true) : OutKeeps (execDmaBurst hurt s) := by
  unfold execDmaBurst; try dsimp only
  repeat' first
    | with_reducible assumption
    | with_reducible refine k_ite ?_ ?_
    | with_reducible refine State.timeReads_keeps ?_
    | with_reducible refine State.burst_keeps ?_
    | with_reducible refine State.upset_keeps ?_
    | with_reducible refine State.serveRequester_keeps ?_
    | with_reducible refine done_keeps ?_ ?_
    | with_reducible refine k_next ?_
    | split

theorem storeUnits_keeps {tile : Nat → Nat} {x1 : Nat} {x2 : Nat} {x3 : Bytes} {x4 : State} {x5 : Mark} {x6 : List Mark} (h0 : Memory.wf x4.dram.mem = true) :
    Memory.wf (storeUnits tile x1 x2 x3 x4 x5 x6).2.2.dram.mem = true := by
  induction x1 generalizing x2 x3 x4 x5 x6 with
  | zero =>
    unfold storeUnits; try dsimp only
    assumption
  | succ n ih =>
    unfold storeUnits; try dsimp only
    repeat' first | with_reducible assumption | with_reducible apply ih | with_reducible refine State.putTile_keeps ?_

theorem execDmaReadCompletion_keeps {c : Nat} {pattern : Bool} {data : Bytes} {s : State} (h0 : Memory.wf s.dram.mem = true) :
    OutKeeps (execDmaReadCompletion c pattern data s) := by
  unfold execDmaReadCompletion; try dsimp only
  repeat' first
    | with_reducible assumption
    | with_reducible refine k_out_ite ?_ ?_
    | with_reducible refine done_keeps ?_ ?_
    | with_reducible refine State.timeReads_keeps ?_
    | with_reducible refine State.setDma_keeps ?_
    | with_reducible refine storeUnits_keeps ?_
    | with_reducible refine k_next ?_
    | split

theorem State.withdraw_keeps {s : State} {ch : Nat} (h0 : Memory.wf s.dram.mem = true) :
    Memory.wf (State.withdraw s ch).dram.mem = true := by
  unfold State.withdraw; try dsimp only
  repeat' first
    | with_reducible assumption
    | with_reducible refine k_ite ?_ ?_
    | with_reducible refine State.setChan_keeps ?_
    | with_reducible refine State.peerWord_keeps ?_

theorem cmdDeviceNop_keeps : CmdKeeps cmdDeviceNop := fun _ _ h => ok_keeps h
theorem execDeviceNop_keeps {m : Msg} {s : State} (h0 : Memory.wf s.dram.mem = true) :
    OutKeeps (execDeviceNop m s) := runCommand_keeps cmdDeviceNop_keeps h0

theorem bodyDeviceMbxTimeout_keeps {m : Msg} {s : State} (h0 : Memory.wf s.dram.mem = true) :
    Memory.wf (bodyDeviceMbxTimeout m s).state.dram.mem = true := by
  unfold bodyDeviceMbxTimeout; try dsimp only
  repeat' first
    | with_reducible assumption
    | with_reducible refine k_ite ?_ ?_
    | with_reducible refine k_done_ite ?_ ?_
    | with_reducible refine badParam_keeps ?_
    | with_reducible refine refuse_keeps ?_
    | with_reducible refine State.setChan_keeps ?_
    | with_reducible refine ok_keeps ?_

theorem cmdDeviceMbxTimeout_keeps : CmdKeeps cmdDeviceMbxTimeout := fun _ _ h => bodyDeviceMbxTimeout_keeps h
theorem execDeviceMbxTimeout_keeps {m : Msg} {s : State} (h0 : Memory.wf s.dram.mem = true) :
    OutKeeps (execDeviceMbxTimeout m s) := runCommand_keeps cmdDeviceMbxTimeout_keeps h0

theorem State.freed_keeps {s : State} {ch : Nat} (h0 : Memory.wf s.dram.mem = true) : Memory.wf (State.freed s ch).dram.mem = true := by
  unfold State.freed; try dsimp only
  repeat' first
    | with_reducible assumption
    | with_reducible refine k_ite ?_ ?_
    | with_reducible refine State.setChan_keeps ?_
    | with_reducible refine State.peerWord_keeps ?_

theorem execBmcFlagsRead_keeps {s : State} {pec : Bool} (h0 : Memory.wf s.dram.mem = true) : OutKeeps (execBmcFlagsRead s pec) := by
  unfold execBmcFlagsRead; try dsimp only
  repeat' first
    | with_reducible assumption
    | with_reducible refine k_out_ite ?_ ?_
    | with_reducible refine done_keeps ?_ ?_
    | with_reducible refine State.send_keeps ?_
    | with_reducible refine State.setChan_keeps ?_
    | with_reducible refine k_next ?_

theorem State.placed_keeps {s : State} {ch : Nat} (h0 : Memory.wf s.dram.mem = true) : Memory.wf (State.placed s ch).dram.mem = true := by
  unfold State.placed; try dsimp only
  repeat' first
    | with_reducible assumption
    | with_reducible refine k_ite ?_ ?_
    | with_reducible refine State.setChan_keeps ?_
    | with_reducible refine State.peerPlaced_keeps ?_

theorem State.releaseChan_keeps {s : State} {ch : Nat} (h0 : Memory.wf s.dram.mem = true) : OutKeeps (State.releaseChan s ch) := by
  unfold State.releaseChan; try dsimp only
  repeat' first
    | with_reducible assumption
    | with_reducible refine k_out_ite ?_ ?_
    | with_reducible refine done_keeps ?_ ?_
    | with_reducible refine State.freed_keeps ?_
    | with_reducible refine State.placed_keeps ?_
    | with_reducible refine k_next ?_

theorem execMbxInboundWrite_keeps {ch : Nat} {off : Nat} {v : W32} {s : State} (h0 : Memory.wf s.dram.mem = true) :
    OutKeeps (execMbxInboundWrite ch off v s) := by
  unfold execMbxInboundWrite; try dsimp only
  repeat' first
    | with_reducible assumption
    | with_reducible refine k_out_ite ?_ ?_
    | with_reducible refine done_keeps ?_ ?_
    | with_reducible refine State.setChan_keeps ?_
    | with_reducible refine k_next ?_

theorem State.ringChan_keeps {s : State} {ch : Nat} (h0 : Memory.wf s.dram.mem = true) :
    Memory.wf (State.ringChan s ch).dram.mem = true := by
  unfold State.ringChan; try dsimp only
  repeat' first | with_reducible assumption | with_reducible refine State.setChan_keeps ?_

theorem State.bmcControl_keeps {s : State} {byte : Byte} {pec : Bool} (h0 : Memory.wf s.dram.mem = true) :
    OutKeeps (State.bmcControl s byte pec) := by
  unfold State.bmcControl; try dsimp only
  repeat' first
    | with_reducible assumption
    | with_reducible refine k_out_ite ?_ ?_
    | with_reducible refine done_keeps ?_ ?_
    | with_reducible refine State.ringChan_keeps ?_
    | with_reducible refine State.releaseChan_keeps ?_
    | with_reducible refine State.send_keeps ?_

theorem execRingDoorbell_keeps {ask : ChannelAsk} {s : State} (h0 : Memory.wf s.dram.mem = true) : OutKeeps (execRingDoorbell ask s) := by
  unfold execRingDoorbell; try dsimp only
  repeat' first
    | with_reducible assumption
    | with_reducible refine k_out_ite ?_ ?_
    | with_reducible refine State.bmcControl_keeps ?_
    | with_reducible refine done_keeps ?_ ?_
    | with_reducible refine State.ringChan_keeps ?_
    | with_reducible refine k_next ?_

theorem execReleaseReply_keeps {ask : ChannelAsk} {s : State} (h0 : Memory.wf s.dram.mem = true) : OutKeeps (execReleaseReply ask s) := by
  unfold execReleaseReply; try dsimp only
  repeat' first
    | with_reducible assumption
    | with_reducible refine k_out_ite ?_ ?_
    | with_reducible refine State.bmcControl_keeps ?_
    | with_reducible refine State.releaseChan_keeps ?_
    | with_reducible refine k_next ?_

theorem execBmcBufferWrite_keeps {off : Nat} {data : Bytes} {pec : Bool} {s : State} (h0 : Memory.wf s.dram.mem = true) :
    OutKeeps (execBmcBufferWrite off data pec s) := by
  unfold execBmcBufferWrite; try dsimp only
  repeat' first
    | with_reducible assumption
    | with_reducible refine k_out_ite ?_ ?_
    | with_reducible refine done_keeps ?_ ?_
    | with_reducible refine State.setChan_keeps ?_
    | with_reducible refine State.send_keeps ?_
    | with_reducible refine k_next ?_

theorem execBmcReplyRead_keeps {ask : BufferAsk} {s : State} (h0 : Memory.wf s.dram.mem = true) : OutKeeps (execBmcReplyRead ask s) := by
  unfold execBmcReplyRead; try dsimp only
  repeat' first
    | with_reducible assumption
    | with_reducible refine k_out_ite ?_ ?_
    | with_reducible refine done_keeps ?_ ?_
    | with_reducible refine State.send_keeps ?_
    | with_reducible refine k_next ?_

theorem execSmbusAlertResponse_keeps {s : State} (h0 : Memory.wf s.dram.mem = true) : OutKeeps (execSmbusAlertResponse s) := by
  unfold execSmbusAlertResponse; try dsimp only
  repeat' first
    | with_reducible assumption
    | with_reducible refine k_out_ite ?_ ?_
    | with_reducible refine done_keeps ?_ ?_
    | with_reducible refine State.send_keeps ?_
    | with_reducible refine k_next ?_

theorem State.beforeWrite_keeps {s : State} {pf1 : Bool} {off : Nat} {v : Nat} (h0 : Memory.wf s.dram.mem = true) :
    Memory.wf (State.beforeWrite s pf1 off v).dram.mem = true := by
  unfold State.beforeWrite; try dsimp only
  repeat' first | with_reducible assumption | with_reducible refine k_ite ?_ ?_ | with_reducible refine State.freed_keeps ?_

theorem execPerstNRise_keeps {s : State} {pcieRef : Bool} (h0 : Memory.wf s.dram.mem = true) : OutKeeps (execPerstNRise s pcieRef) := by
  unfold execPerstNRise; try dsimp only
  repeat' first | with_reducible assumption | with_reducible refine k_ite ?_ ?_ | with_reducible refine done_keeps ?_ ?_

theorem State.flrChannel_keeps {s : State} {c : Nat} (h0 : Memory.wf s.dram.mem = true) :
    Memory.wf (State.flrChannel s c).dram.mem = true := by
  unfold State.flrChannel; try dsimp only
  repeat' first
    | with_reducible assumption
    | with_reducible refine State.abandonChannel_keeps ?_
    | with_reducible refine State.setDma_keeps ?_

theorem State.resetFunction_keeps {s : State} {pf1 : Bool} (h0 : Memory.wf s.dram.mem = true) :
    Memory.wf (State.resetFunction s pf1).dram.mem = true := by
  unfold State.resetFunction; try dsimp only
  repeat' first
    | with_reducible assumption
    | with_reducible refine State.flrChannel_keeps ?_
    | with_reducible refine State.setFn_keeps ?_
    | with_reducible refine State.unhalt_keeps ?_
    | with_reducible refine State.setChan_keeps ?_
    | with_reducible refine k_foldl ?_ (fun _ _ _ => ?_)

theorem execLinkReset_keeps {perst : Bool} {s : State} (h0 : Memory.wf s.dram.mem = true) : OutKeeps (execLinkReset perst s) := by
  unfold execLinkReset; try dsimp only
  repeat' first
    | with_reducible assumption
    | with_reducible refine k_ite ?_ ?_
    | with_reducible refine k_out_ite ?_ ?_
    | with_reducible refine State.resetFunction_keeps ?_
    | with_reducible refine done_keeps ?_ ?_
    | with_reducible refine k_next ?_

theorem execFunctionLevelReset_keeps {pf1 : Bool} {s : State} (h0 : Memory.wf s.dram.mem = true) :
    OutKeeps (execFunctionLevelReset pf1 s) := by
  unfold execFunctionLevelReset; try dsimp only
  repeat' first
    | with_reducible assumption
    | with_reducible refine k_out_ite ?_ ?_
    | with_reducible refine done_keeps ?_ ?_
    | with_reducible refine State.resetFunction_keeps ?_
    | with_reducible refine k_next ?_

theorem State.unlatch_keeps {old : State} {s : State} {pf1 : Bool} {off : Nat} (_h0 : Memory.wf old.dram.mem = true) (h1 : Memory.wf s.dram.mem = true) :
    Memory.wf (State.unlatch old s pf1 off).dram.mem = true := by
  unfold State.unlatch; try dsimp only
  repeat' first | with_reducible assumption | with_reducible refine k_ite ?_ ?_ | with_reducible refine State.setFn_keeps ?_

theorem State.writeMailbox_keeps {s : State} {pf1 : Bool} {o : Nat} {v : Nat} (h0 : Memory.wf s.dram.mem = true) :
    Memory.wf (State.writeMailbox s pf1 o v).dram.mem = true := by
  unfold State.writeMailbox; try dsimp only
  repeat' first
    | with_reducible assumption
    | with_reducible refine k_ite ?_ ?_
    | with_reducible refine State.setChan_keeps ?_
    | with_reducible refine State.placed_keeps ?_
    | with_reducible refine State.freed_keeps ?_
    | split

theorem State.writeChannel_keeps {s : State} {c : Nat} {o : Nat} {v : Nat} (h0 : Memory.wf s.dram.mem = true) :
    Memory.wf (State.writeChannel s c o v).dram.mem = true := by
  unfold State.writeChannel; try dsimp only
  repeat' first
    | with_reducible assumption
    | with_reducible refine k_ite ?_ ?_
    | with_reducible refine State.writeDmaCtl_keeps ?_
    | with_reducible refine State.setDma_keeps ?_
    | with_reducible refine State.writeDmaTail_keeps ?_
    | split

theorem State.selectEntry_keeps {s : State} {pf1 : Bool} {v : Nat} (h0 : Memory.wf s.dram.mem = true) :
    Memory.wf (State.selectEntry s pf1 v).dram.mem = true := by
  unfold State.selectEntry; try dsimp only
  repeat' first | with_reducible assumption | with_reducible refine State.setFn_keeps ?_

theorem State.writeTime_keeps {s : State} {pf1 : Bool} {o : Nat} {v : Nat} (h0 : Memory.wf s.dram.mem = true) :
    Memory.wf (State.writeTime s pf1 o v).dram.mem = true := by
  unfold State.writeTime; try dsimp only
  repeat' first
    | with_reducible assumption
    | with_reducible refine k_ite ?_ ?_
    | with_reducible refine State.setFn_keeps ?_
    | with_reducible refine State.takeSnap_keeps ?_
    | with_reducible refine State.writeInc_keeps ?_
    | with_reducible refine State.onTime_keeps ?_
    | split

theorem State.sendPending_keeps {s : State} {pf1 : Bool} {i : Nat} (h0 : Memory.wf s.dram.mem = true) :
    Memory.wf (State.sendPending s pf1 i).dram.mem = true := by
  unfold State.sendPending; try dsimp only
  repeat' first
    | with_reducible assumption
    | with_reducible refine k_ite ?_ ?_
    | with_reducible refine State.send_keeps ?_
    | with_reducible refine State.setFn_keeps ?_
    | split

theorem State.writeVector_keeps {s : State} {pf1 : Bool} {o : Nat} {v : Nat} (h0 : Memory.wf s.dram.mem = true) :
    Memory.wf (State.writeVector s pf1 o v).dram.mem = true := by
  unfold State.writeVector; try dsimp only
  repeat' first
    | with_reducible assumption
    | with_reducible refine State.setFn_keeps ?_
    | with_reducible refine State.sendPending_keeps ?_
    | split

theorem State.writeReg_keeps {s : State} {pf1 : Bool} {off : Nat} {v : Nat} (h0 : Memory.wf s.dram.mem = true) :
    Memory.wf (State.writeReg s pf1 off v).dram.mem = true := by
  unfold State.writeReg; try dsimp only
  repeat' first
    | with_reducible assumption
    | with_reducible refine k_ite ?_ ?_
    | with_reducible refine State.setFn_keeps ?_
    | with_reducible refine State.setChan_keeps ?_
    | with_reducible refine State.writeMailbox_keeps ?_
    | with_reducible refine State.writeChannel_keeps ?_
    | with_reducible refine State.selectEntry_keeps ?_
    | with_reducible refine State.writeTime_keeps ?_
    | with_reducible refine State.writeOwner_keeps ?_
    | with_reducible refine State.writeVector_keeps ?_

theorem execRegisterWrite_keeps {pf1 : Bool} {off : Nat} {v : W32} {s : State} {size : Nat} (h0 : Memory.wf s.dram.mem = true) :
    OutKeeps (execRegisterWrite pf1 off v s size) := by
  unfold execRegisterWrite; try dsimp only
  repeat' first
    | with_reducible assumption
    | with_reducible refine k_out_ite ?_ ?_
    | with_reducible refine done_keeps ?_ ?_
    | with_reducible refine State.beforeWrite_keeps ?_
    | with_reducible refine State.unlatch_keeps ?_ ?_
    | with_reducible refine State.writeReg_keeps ?_
    | with_reducible refine k_next ?_

theorem execErrlogSelectWrite_keeps {pf1 : Bool} {v : W32} {s : State} (h0 : Memory.wf s.dram.mem = true) :
    OutKeeps (execErrlogSelectWrite pf1 v s) := by
  unfold execErrlogSelectWrite; try dsimp only
  repeat' first
    | with_reducible assumption
    | with_reducible refine k_out_ite ?_ ?_
    | with_reducible refine done_keeps ?_ ?_
    | with_reducible refine State.selectEntry_keeps ?_
    | with_reducible refine k_next ?_

theorem State.readReg_keeps {s : State} {pf1 : Bool} {off : Nat} (h0 : Memory.wf s.dram.mem = true) :
    Memory.wf (State.readReg s pf1 off).2.dram.mem = true := by
  unfold State.readReg; try dsimp only
  repeat' first | with_reducible assumption | with_reducible refine k_pair_ite ?_ ?_ | with_reducible refine State.setFn_keeps ?_

theorem execRegisterRead_keeps {pf1 : Bool} {off : Nat} {s : State} {size : Nat} (h0 : Memory.wf s.dram.mem = true) :
    OutKeeps (execRegisterRead pf1 off s size) := by
  unfold execRegisterRead; try dsimp only
  repeat' first
    | with_reducible assumption
    | with_reducible refine k_pair_ite ?_ ?_
    | with_reducible refine k_out_ite ?_ ?_
    | with_reducible refine State.readReg_keeps ?_
    | with_reducible refine done_keeps ?_ ?_
    | with_reducible refine State.send_keeps ?_
    | with_reducible refine k_next ?_

theorem execConfigSpaceWrite_keeps {pf1 : Bool} {control : PciControl} {d3hot : Bool} {timeout : Nat} {s : State} (h0 : Memory.wf s.dram.mem = true) :
    OutKeeps (execConfigSpaceWrite pf1 control d3hot timeout s) := by
  unfold execConfigSpaceWrite; try dsimp only
  repeat' first
    | with_reducible assumption
    | with_reducible refine k_out_ite ?_ ?_
    | with_reducible refine State.setFn_keeps ?_
    | with_reducible refine done_keeps ?_ ?_
    | with_reducible refine State.sendPending_keeps ?_
    | with_reducible refine k_next ?_
    | with_reducible refine k_foldl ?_ (fun _ _ _ => ?_)

theorem State.setProfile_keeps {s : State} {n : Nat} (h0 : Memory.wf s.dram.mem = true) :
    Memory.wf (State.setProfile s n).dram.mem = true := by
  unfold State.setProfile; try dsimp only
  repeat' first
    | with_reducible assumption
    | with_reducible refine State.noteLinks_keeps ?_ ?_
    | with_reducible refine State.retrain_keeps ?_
    | with_reducible refine k_foldl ?_ (fun _ _ _ => ?_)

theorem bodySecurePowerProfile_keeps {m : Msg} {s : State} (h0 : Memory.wf s.dram.mem = true) :
    Memory.wf (bodySecurePowerProfile m s).state.dram.mem = true := by
  unfold bodySecurePowerProfile; try dsimp only
  repeat' first
    | with_reducible assumption
    | with_reducible refine k_ite ?_ ?_
    | with_reducible refine k_done_ite ?_ ?_
    | with_reducible refine badParam_keeps ?_
    | with_reducible refine needZero_keeps ?_ ?_
    | with_reducible refine State.setProfile_keeps ?_
    | with_reducible refine ok_keeps ?_

theorem cmdSecurePowerProfile_keeps : CmdKeeps cmdSecurePowerProfile := fun _ _ h => bodySecurePowerProfile_keeps h
theorem execSecurePowerProfile_keeps {m : Msg} {s : State} (h0 : Memory.wf s.dram.mem = true) :
    OutKeeps (execSecurePowerProfile m s) := runCommand_keeps cmdSecurePowerProfile_keeps h0

theorem State.clearPower_keeps {s : State} (h0 : Memory.wf s.dram.mem = true) : Memory.wf (State.clearPower s).dram.mem = true := by
  unfold State.clearPower; try dsimp only
  assumption

theorem bodyPowerStatus_keeps {m : Msg} {s : State} (h0 : Memory.wf s.dram.mem = true) :
    Memory.wf (bodyPowerStatus m s).state.dram.mem = true := by
  unfold bodyPowerStatus; try dsimp only
  repeat' first
    | with_reducible assumption
    | with_reducible refine k_ite ?_ ?_
    | with_reducible refine k_done_ite ?_ ?_
    | with_reducible refine badParam_keeps ?_
    | with_reducible refine needZero_keeps ?_ ?_
    | with_reducible refine State.draw_keeps ?_
    | with_reducible refine ok_keeps ?_
    | with_reducible refine State.clearPower_keeps ?_

theorem cmdPowerStatus_keeps : CmdKeeps cmdPowerStatus := fun _ _ h => bodyPowerStatus_keeps h
theorem execPowerStatus_keeps {m : Msg} {s : State} (h0 : Memory.wf s.dram.mem = true) :
    OutKeeps (execPowerStatus m s) := runCommand_keeps cmdPowerStatus_keeps h0

theorem cmdClockStatus_keeps : CmdKeeps cmdClockStatus := fun _ _ h => ok_keeps h
theorem execClockStatus_keeps {m : Msg} {s : State} (h0 : Memory.wf s.dram.mem = true) :
    OutKeeps (execClockStatus m s) := runCommand_keeps cmdClockStatus_keeps h0

theorem cmdThermalRead_keeps : CmdKeeps cmdThermalRead := fun _ _ h => ok_keeps h
theorem execThermalRead_keeps {m : Msg} {s : State} (h0 : Memory.wf s.dram.mem = true) :
    OutKeeps (execThermalRead m s) := runCommand_keeps cmdThermalRead_keeps h0

theorem State.setStage_keeps {s : State} {stage : Nat} (h0 : Memory.wf s.dram.mem = true) :
    Memory.wf (State.setStage s stage).dram.mem = true := by
  unfold State.setStage; try dsimp only
  assumption

theorem State.enterStage_keeps {s : State} {stage : Nat} (h0 : Memory.wf s.dram.mem = true) :
    Memory.wf (State.enterStage s stage).dram.mem = true := by
  unfold State.enterStage; try dsimp only
  repeat' first
    | with_reducible assumption
    | with_reducible refine State.setStage_keeps ?_
    | with_reducible refine State.logError_keeps ?_
    | with_reducible refine State.alert_keeps ?_

theorem State.judgeDroop_keeps {s : State} (h0 : Memory.wf s.dram.mem = true) : Memory.wf (State.judgeDroop s).dram.mem = true := by
  unfold State.judgeDroop; try dsimp only
  repeat' first | with_reducible assumption | with_reducible refine k_ite ?_ ?_ | with_reducible refine State.enterStage_keeps ?_

theorem bodyDroopConfig_keeps {m : Msg} {s : State} (h0 : Memory.wf s.dram.mem = true) :
    Memory.wf (bodyDroopConfig m s).state.dram.mem = true := by
  unfold bodyDroopConfig; try dsimp only
  repeat' first
    | with_reducible assumption
    | with_reducible refine k_done_ite ?_ ?_
    | with_reducible refine needZero_keeps ?_ ?_
    | with_reducible refine ok_keeps ?_
    | with_reducible refine badParam_keeps ?_
    | with_reducible refine outOfRange_keeps ?_
    | with_reducible refine State.judgeDroop_keeps ?_
    | split

theorem cmdDroopConfig_keeps : CmdKeeps cmdDroopConfig := fun _ _ h => bodyDroopConfig_keeps h
theorem execDroopConfig_keeps {m : Msg} {s : State} (h0 : Memory.wf s.dram.mem = true) :
    OutKeeps (execDroopConfig m s) := runCommand_keeps cmdDroopConfig_keeps h0

theorem State.judgeLimit_keeps {sensor : Nat} {t : Int} {s : State} {code : Nat} (h0 : Memory.wf s.dram.mem = true) :
    Memory.wf (State.judgeLimit sensor t s code).dram.mem = true := by
  unfold State.judgeLimit; try dsimp only
  repeat' first
    | with_reducible assumption
    | with_reducible refine k_ite ?_ ?_
    | with_reducible refine State.setFault_keeps ?_
    | with_reducible refine State.logError_keeps ?_
    | with_reducible refine State.alert_keeps ?_

theorem execStackTempRead_keeps {t0 : Int} {t1 : Int} {s : State} (h0 : Memory.wf s.dram.mem = true) :
    OutKeeps (execStackTempRead t0 t1 s) := by
  unfold execStackTempRead; try dsimp only
  repeat' first
    | with_reducible assumption
    | with_reducible refine k_ite ?_ ?_
    | with_reducible refine k_out_ite ?_ ?_
    | with_reducible refine done_keeps ?_ ?_
    | with_reducible refine State.judgeLimit_keeps ?_
    | with_reducible refine k_next ?_
    | with_reducible refine k_foldl ?_ (fun _ _ _ => ?_)

theorem State.droopFalls_keeps {s : State} (h0 : Memory.wf s.dram.mem = true) : Memory.wf (State.droopFalls s).dram.mem = true := by
  unfold State.droopFalls; try dsimp only
  repeat' first | with_reducible assumption | with_reducible refine State.judgeDroop_keeps ?_

theorem execDroopNFall_keeps {s : State} (h0 : Memory.wf s.dram.mem = true) : OutKeeps (execDroopNFall s) := by
  unfold execDroopNFall; try dsimp only
  repeat' first
    | with_reducible assumption
    | with_reducible refine k_out_ite ?_ ?_
    | with_reducible refine done_keeps ?_ ?_
    | with_reducible refine State.droopFalls_keeps ?_
    | with_reducible refine k_next ?_

theorem execDroopNRise_keeps {s : State} (h0 : Memory.wf s.dram.mem = true) : OutKeeps (execDroopNRise s) := by
  unfold execDroopNRise; try dsimp only
  repeat' first
    | with_reducible assumption
    | with_reducible refine done_keeps ?_ ?_
    | with_reducible refine State.judgeDroop_keeps ?_

theorem execDroopnDelayExpire_keeps {s : State} (h0 : Memory.wf s.dram.mem = true) : OutKeeps (execDroopnDelayExpire s) := by
  unfold execDroopnDelayExpire; try dsimp only
  repeat' first
    | with_reducible assumption
    | with_reducible refine k_out_ite ?_ ?_
    | with_reducible refine done_keeps ?_ ?_
    | with_reducible refine State.judgeDroop_keeps ?_
    | with_reducible refine k_next ?_

theorem execMonitorUndervoltage_keeps {monitor : Nat} {mv : Nat} {s : State} (h0 : Memory.wf s.dram.mem = true) :
    OutKeeps (execMonitorUndervoltage monitor mv s) := by
  unfold execMonitorUndervoltage; try dsimp only
  repeat' first
    | with_reducible assumption
    | with_reducible refine k_out_ite ?_ ?_
    | with_reducible refine done_keeps ?_ ?_
    | with_reducible refine State.judgeDroop_keeps ?_
    | with_reducible refine k_next ?_

theorem execDroopStageFall_keeps {s : State} (h0 : Memory.wf s.dram.mem = true) : OutKeeps (execDroopStageFall s) := by
  unfold execDroopStageFall; try dsimp only
  repeat' first
    | with_reducible assumption
    | with_reducible refine k_out_ite ?_ ?_
    | with_reducible refine done_keeps ?_ ?_
    | with_reducible refine State.setStage_keeps ?_
    | with_reducible refine k_next ?_
    | split

theorem execDieSensorRead_keeps {readings : DieSensors} {s : State} (h0 : Memory.wf s.dram.mem = true) :
    OutKeeps (execDieSensorRead readings s) := by
  unfold execDieSensorRead; try dsimp only
  repeat' first
    | with_reducible assumption
    | with_reducible refine k_out_ite ?_ ?_
    | with_reducible refine done_keeps ?_ ?_
    | with_reducible refine State.judgeLimit_keeps ?_
    | with_reducible refine k_next ?_
    | with_reducible refine k_foldl ?_ (fun _ _ _ => ?_)

theorem cmdDeviceIdentify_keeps : CmdKeeps cmdDeviceIdentify := fun _ _ h => ok_keeps h
theorem execDeviceIdentify_keeps {m : Msg} {s : State} (h0 : Memory.wf s.dram.mem = true) :
    OutKeeps (execDeviceIdentify m s) := runCommand_keeps cmdDeviceIdentify_keeps h0

theorem cmdDeviceStatus_keeps : CmdKeeps cmdDeviceStatus := fun _ _ h => ok_keeps h
theorem execDeviceStatus_keeps {m : Msg} {s : State} (h0 : Memory.wf s.dram.mem = true) :
    OutKeeps (execDeviceStatus m s) := runCommand_keeps cmdDeviceStatus_keeps h0

theorem enterService_keeps {s : State} (h0 : Memory.wf s.dram.mem = true) : Memory.wf (enterService s).state.dram.mem = true := h0

theorem bodyDeviceStart_keeps {m : Msg} {s : State} (h0 : Memory.wf s.dram.mem = true) :
    Memory.wf (bodyDeviceStart m s).state.dram.mem = true := by
  unfold bodyDeviceStart; try dsimp only
  repeat' first
    | with_reducible assumption
    | with_reducible refine k_done_ite ?_ ?_
    | with_reducible refine needZero_keeps ?_ ?_
    | with_reducible refine refuse_keeps ?_
    | with_reducible refine enterService_keeps ?_

theorem cmdDeviceStart_keeps : CmdKeeps cmdDeviceStart := fun _ _ h => bodyDeviceStart_keeps h
theorem execDeviceStart_keeps {m : Msg} {s : State} (h0 : Memory.wf s.dram.mem = true) :
    OutKeeps (execDeviceStart m s) := runCommand_keeps cmdDeviceStart_keeps h0

theorem cmdDeviceTestEnter_keeps : CmdKeeps cmdDeviceTestEnter := fun _ _ h => needZero_keeps h h
theorem execDeviceTestEnter_keeps {m : Msg} {s : State} (h0 : Memory.wf s.dram.mem = true) :
    OutKeeps (execDeviceTestEnter m s) := runCommand_keeps cmdDeviceTestEnter_keeps h0

theorem bodyDeviceTestExit_keeps {m : Msg} {s : State} (h0 : Memory.wf s.dram.mem = true) :
    Memory.wf (bodyDeviceTestExit m s).state.dram.mem = true := by
  unfold bodyDeviceTestExit; try dsimp only
  repeat' first
    | with_reducible assumption
    | with_reducible refine k_done_ite ?_ ?_
    | with_reducible refine badParam_keeps ?_
    | with_reducible refine needZero_keeps ?_ ?_
    | with_reducible refine State.endLoopbacks_keeps ?_
    | with_reducible refine State.clearLive_keeps ?_
    | with_reducible refine ok_keeps ?_

theorem cmdDeviceTestExit_keeps : CmdKeeps cmdDeviceTestExit := fun _ _ h => bodyDeviceTestExit_keeps h
theorem execDeviceTestExit_keeps {m : Msg} {s : State} (h0 : Memory.wf s.dram.mem = true) :
    OutKeeps (execDeviceTestExit m s) := runCommand_keeps cmdDeviceTestExit_keeps h0

theorem bodyDeviceResume_keeps {m : Msg} {s : State} (h0 : Memory.wf s.dram.mem = true) :
    Memory.wf (bodyDeviceResume m s).state.dram.mem = true := by
  unfold bodyDeviceResume; try dsimp only
  repeat' first
    | with_reducible assumption
    | with_reducible refine k_done_ite ?_ ?_
    | with_reducible refine needZero_keeps ?_ ?_
    | with_reducible refine refuse_keeps ?_
    | with_reducible refine enterService_keeps ?_

theorem cmdDeviceResume_keeps : CmdKeeps cmdDeviceResume := fun _ _ h => bodyDeviceResume_keeps h
theorem execDeviceResume_keeps {m : Msg} {s : State} (h0 : Memory.wf s.dram.mem = true) :
    OutKeeps (execDeviceResume m s) := runCommand_keeps cmdDeviceResume_keeps h0

theorem bodySecureConfigLock_keeps {m : Msg} {s : State} (h0 : Memory.wf s.dram.mem = true) :
    Memory.wf (bodySecureConfigLock m s).state.dram.mem = true := by
  unfold bodySecureConfigLock; try dsimp only
  repeat' first
    | with_reducible assumption
    | with_reducible refine k_done_ite ?_ ?_
    | with_reducible refine badParam_keeps ?_
    | with_reducible refine needZero_keeps ?_ ?_
    | with_reducible refine refuse_keeps ?_
    | with_reducible refine ok_keeps ?_

theorem cmdSecureConfigLock_keeps : CmdKeeps cmdSecureConfigLock := fun _ _ h => bodySecureConfigLock_keeps h
theorem execSecureConfigLock_keeps {m : Msg} {s : State} (h0 : Memory.wf s.dram.mem = true) :
    OutKeeps (execSecureConfigLock m s) := runCommand_keeps cmdSecureConfigLock_keeps h0

theorem bodySecureIdentity_keeps {m : Msg} {s : State} (h0 : Memory.wf s.dram.mem = true) :
    Memory.wf (bodySecureIdentity m s).state.dram.mem = true := by
  unfold bodySecureIdentity; try dsimp only
  repeat' first
    | with_reducible assumption
    | with_reducible refine k_done_ite ?_ ?_
    | with_reducible refine badParam_keeps ?_
    | with_reducible refine needZero_keeps ?_ ?_
    | with_reducible refine ok_keeps ?_

theorem cmdSecureIdentity_keeps : CmdKeeps cmdSecureIdentity := fun _ _ h => bodySecureIdentity_keeps h
theorem execSecureIdentity_keeps {m : Msg} {s : State} (h0 : Memory.wf s.dram.mem = true) :
    OutKeeps (execSecureIdentity m s) := runCommand_keeps cmdSecureIdentity_keeps h0

theorem bodySecureAttest_keeps {m : Msg} {s : State} (h0 : Memory.wf s.dram.mem = true) :
    Memory.wf (bodySecureAttest m s).state.dram.mem = true := by
  unfold bodySecureAttest; try dsimp only
  repeat' first | with_reducible assumption | with_reducible refine needZero_keeps ?_ ?_ | with_reducible refine ok_keeps ?_

theorem cmdSecureAttest_keeps : CmdKeeps cmdSecureAttest := fun _ _ h => bodySecureAttest_keeps h
theorem execSecureAttest_keeps {m : Msg} {s : State} (h0 : Memory.wf s.dram.mem = true) :
    OutKeeps (execSecureAttest m s) := runCommand_keeps cmdSecureAttest_keeps h0

theorem State.bootClass_keeps {s : State} {hb : Bool} (h0 : Memory.wf s.dram.mem = true) :
    Memory.wf (State.bootClass s hb).dram.mem = true := by
  unfold State.bootClass; try dsimp only
  repeat' first | with_reducible assumption | with_reducible refine k_ite ?_ ?_ | with_reducible refine State.logError_keeps ?_

theorem State.intoReset_keeps {s : State} (_h0 : Memory.wf s.dram.mem = true) : Memory.wf (State.intoReset s).dram.mem = true := by
  unfold State.intoReset; try dsimp only
  repeat' first | exact (rfl : Memory.wf [] = true)

theorem State.lowPulse_keeps {s : State} {ns : Nat} {pins : Pins} (h0 : Memory.wf s.dram.mem = true) :
    Memory.wf (State.lowPulse s ns pins).dram.mem = true := by
  unfold State.lowPulse; try dsimp only
  repeat' first
    | with_reducible assumption
    | with_reducible refine k_ite ?_ ?_
    | with_reducible refine State.intoReset_keeps ?_
    | with_reducible refine State.draw_keeps ?_

theorem execResetNFall_keeps {s : State} {low : Nat} (h0 : Memory.wf s.dram.mem = true) : OutKeeps (execResetNFall s low) := by
  unfold execResetNFall; try dsimp only
  repeat' first | with_reducible assumption | with_reducible refine State.lowPulse_keeps ?_ | with_reducible refine k_next ?_

theorem State.bootRetires_keeps {s : State} {kind : Nat} {space : Nat} {i : Nat} (h0 : Memory.wf s.dram.mem = true) :
    Memory.wf (State.bootRetires s kind space i).dram.mem = true := by
  unfold State.bootRetires; try dsimp only
  repeat' first
    | with_reducible assumption
    | with_reducible refine State.logError_keeps ?_
    | with_reducible refine State.lifeCount_keeps ?_

theorem execPowerOn_keeps {s : State} (h0 : Memory.wf s.dram.mem = true) : OutKeeps (execPowerOn s) := by
  unfold execPowerOn; try dsimp only
  repeat' first
    | with_reducible assumption
    | with_reducible refine k_out_ite ?_ ?_
    | with_reducible refine State.intoReset_keeps ?_
    | with_reducible refine k_next ?_

theorem execPwrOkFall_keeps {s : State} {low : Nat} (h0 : Memory.wf s.dram.mem = true) : OutKeeps (execPwrOkFall s low) := by
  unfold execPwrOkFall; try dsimp only
  repeat' first | with_reducible assumption | with_reducible refine State.lowPulse_keeps ?_ | with_reducible refine k_next ?_

theorem State.bootFails_keeps {s : State} {code : Nat} (h0 : Memory.wf s.dram.mem = true) :
    Memory.wf (State.bootFails s code).dram.mem = true := by
  unfold State.bootFails; try dsimp only
  repeat' first | with_reducible assumption | with_reducible refine State.logError_keeps ?_

theorem State.bootClocks_keeps {s : State} (h0 : Memory.wf s.dram.mem = true) : Memory.wf (State.bootClocks s).dram.mem = true := h0

theorem State.bootBist_keeps {s : State} {b : BootFacts} (h0 : Memory.wf s.dram.mem = true) :
    Memory.wf (State.bootBist s b).dram.mem = true := by
  unfold State.bootBist; try dsimp only
  repeat' first
    | with_reducible assumption
    | with_reducible refine State.bootRetires_keeps ?_
    | with_reducible refine k_foldl ?_ (fun _ _ _ => ?_)

theorem State.bootLoses_keeps {s : State} {c : Nat} {cause : Nat} (h0 : Memory.wf s.dram.mem = true) :
    Memory.wf (State.bootLoses s c cause).dram.mem = true := by
  unfold State.bootLoses; try dsimp only
  repeat' first
    | with_reducible assumption
    | with_reducible refine State.lifeCount_keeps ?_
    | with_reducible refine State.loseChannel_keeps ?_

theorem State.bootStacks_keeps {s : State} {b : BootFacts} (h0 : Memory.wf s.dram.mem = true) :
    Memory.wf (State.bootStacks s b).dram.mem = true := by
  unfold State.bootStacks; try dsimp only
  repeat' first
    | with_reducible assumption
    | with_reducible refine State.memCount_keeps ?_
    | with_reducible refine State.bootLoses_keeps ?_
    | with_reducible refine State.bootRetires_keeps ?_
    | with_reducible refine k_foldl ?_ (fun _ _ _ => ?_)

theorem State.boot_keeps {s : State} {b : BootFacts} (h0 : Memory.wf s.dram.mem = true) : Memory.wf (State.boot s b).dram.mem = true := by
  unfold State.boot; try dsimp only
  repeat' first
    | with_reducible assumption
    | with_reducible refine k_ite ?_ ?_
    | with_reducible refine State.bootFails_keeps ?_
    | with_reducible refine State.bootClocks_keeps ?_
    | with_reducible refine State.bootBist_keeps ?_
    | with_reducible refine State.bootStacks_keeps ?_
    | with_reducible refine State.bootClass_keeps ?_

theorem execResetNRise_keeps {pwrOk : Bool} {cfg : Nat} {b : BootFacts} {s : State} {highFor : Nat} (h0 : Memory.wf s.dram.mem = true) :
    OutKeeps (execResetNRise pwrOk cfg b s highFor) := by
  unfold execResetNRise; try dsimp only
  repeat' first
    | with_reducible assumption
    | with_reducible refine k_out_ite ?_ ?_
    | with_reducible refine done_keeps ?_ ?_
    | with_reducible refine State.boot_keeps ?_
    | with_reducible refine State.enter_keeps ?_
    | with_reducible refine k_next ?_

theorem State.startClocks_keeps {s : State} (h0 : Memory.wf s.dram.mem = true) : Memory.wf (State.startClocks s).dram.mem = true := h0

theorem State.drawSeeds_keeps {s : State} (h0 : Memory.wf s.dram.mem = true) : Memory.wf (State.drawSeeds s).dram.mem = true := h0

theorem execBootComplete_keeps {ms : Nat} {s : State} (h0 : Memory.wf s.dram.mem = true) : OutKeeps (execBootComplete ms s) := by
  unfold execBootComplete; try dsimp only
  repeat' first
    | with_reducible assumption
    | with_reducible refine k_ite ?_ ?_
    | with_reducible refine k_out_ite ?_ ?_
    | with_reducible refine State.standingTasks_keeps ?_
    | with_reducible refine State.startClocks_keeps ?_
    | with_reducible refine State.drawSeeds_keeps ?_
    | with_reducible refine State.buildRegions_keeps ?_
    | with_reducible refine State.enter_keeps ?_
    | with_reducible refine done_keeps ?_ ?_
    | with_reducible refine State.judgeDroop_keeps ?_
    | with_reducible refine k_next ?_

theorem execRootPllLockLost_keeps {s : State} (h0 : Memory.wf s.dram.mem = true) : OutKeeps (execRootPllLockLost s) := by
  unfold execRootPllLockLost; try dsimp only
  repeat' first
    | with_reducible assumption
    | with_reducible refine k_out_ite ?_ ?_
    | with_reducible refine State.intoReset_keeps ?_
    | with_reducible refine k_next ?_

theorem execClearingComplete_keeps {s : State} (h0 : Memory.wf s.dram.mem = true) : OutKeeps (execClearingComplete s) := by
  unfold execClearingComplete; try dsimp only
  repeat' first
    | with_reducible assumption
    | with_reducible refine k_ite ?_ ?_
    | with_reducible refine done_keeps ?_ ?_
    | with_reducible refine State.enter_keeps ?_
    | with_reducible refine State.remakeCopies_keeps ?_
    | with_reducible refine k_next ?_
    | split

theorem State.applyTokens_keeps {old : State} {s : State} (_h0 : Memory.wf old.dram.mem = true) (h1 : Memory.wf s.dram.mem = true) :
    Memory.wf (State.applyTokens old s).dram.mem = true := by
  unfold State.applyTokens; try dsimp only
  assumption

theorem State.applyTables_keeps {old : State} {s : State} (h0 : Memory.wf old.dram.mem = true) (h1 : Memory.wf s.dram.mem = true) :
    Memory.wf (State.applyTables old s).dram.mem = true := by
  unfold State.applyTables; try dsimp only
  repeat' first
    | with_reducible assumption
    | with_reducible refine State.applyBuilds_keeps ?_
    | with_reducible refine State.applyGrowth_keeps ?_
    | with_reducible refine State.applyTaskPlan_keeps ?_ ?_
    | with_reducible refine State.applyPorts_keeps ?_ ?_
    | with_reducible refine State.applyPeriods_keeps ?_ ?_
    | with_reducible refine State.applyForwarding_keeps ?_ ?_
    | with_reducible refine State.applyNodes_keeps ?_ ?_
    | with_reducible refine State.applyTokens_keeps ?_ ?_
    | with_reducible refine State.applyMended_keeps ?_
    | with_reducible refine State.notePeak_keeps ?_
    | with_reducible refine State.settleCopies_keeps ?_
    | with_reducible refine State.settleGroups_keeps ?_ ?_
    | with_reducible refine State.settleRules_keeps ?_
    | with_reducible refine State.applyIntervals_keeps ?_ ?_
    | with_reducible refine State.applyPtp_keeps ?_ ?_

theorem State.boundary_keeps {s : State} {new : W16} (h0 : Memory.wf s.dram.mem = true) :
    Memory.wf (State.boundary s new).dram.mem = true := by
  unfold State.boundary; try dsimp only
  repeat' first | with_reducible assumption | with_reducible refine State.applyTables_keeps ?_ ?_

theorem State.discardShadow_keeps {s : State} (h0 : Memory.wf s.dram.mem = true) : Memory.wf (State.discardShadow s).dram.mem = true := by
  unfold State.discardShadow; try dsimp only
  repeat' first
    | with_reducible assumption
    | with_reducible refine State.dropMended_keeps ?_
    | with_reducible refine State.dropGrowth_keeps ?_
    | with_reducible refine State.abandonRoutes_keeps ?_
    | with_reducible refine State.abandonBuilds_keeps ?_
    | with_reducible refine State.settleGroups_keeps ?_ ?_
    | with_reducible refine State.settleRules_keeps ?_

theorem bodyEpochStage_keeps {m : Msg} {s : State} (h0 : Memory.wf s.dram.mem = true) :
    Memory.wf (bodyEpochStage m s).state.dram.mem = true := by
  unfold bodyEpochStage; try dsimp only
  repeat' first
    | with_reducible assumption
    | with_reducible refine k_ite ?_ ?_
    | with_reducible refine k_done_ite ?_ ?_
    | with_reducible refine badParam_keeps ?_
    | with_reducible refine needZero_keeps ?_ ?_
    | with_reducible refine State.discardShadow_keeps ?_
    | with_reducible refine ok_keeps ?_

theorem cmdEpochStage_keeps : CmdKeeps cmdEpochStage := fun _ _ h => bodyEpochStage_keeps h
theorem execEpochStage_keeps {m : Msg} {s : State} (h0 : Memory.wf s.dram.mem = true) :
    OutKeeps (execEpochStage m s) := runCommand_keeps cmdEpochStage_keeps h0

theorem bodyEpochCommit_keeps {m : Msg} {s : State} (h0 : Memory.wf s.dram.mem = true) :
    Memory.wf (bodyEpochCommit m s).state.dram.mem = true := by
  unfold bodyEpochCommit; try dsimp only
  repeat' first
    | with_reducible assumption
    | with_reducible refine k_ite ?_ ?_
    | with_reducible refine k_done_ite ?_ ?_
    | with_reducible refine needZero_keeps ?_ ?_
    | with_reducible refine refuse_keeps ?_
    | with_reducible refine badParam_keeps ?_
    | with_reducible refine State.setChan_keeps ?_
    | with_reducible refine State.onEach_keeps ?_
    | with_reducible refine State.boundary_keeps ?_
    | with_reducible refine State.journalAdd_keeps ?_
    | split

theorem cmdEpochCommit_keeps : CmdKeeps cmdEpochCommit := fun _ _ h => bodyEpochCommit_keeps h
theorem execEpochCommit_keeps {m : Msg} {s : State} (h0 : Memory.wf s.dram.mem = true) :
    OutKeeps (execEpochCommit m s) := runCommand_keeps cmdEpochCommit_keeps h0

theorem cmdEpochStatus_keeps : CmdKeeps cmdEpochStatus := fun _ _ h => ok_keeps h
theorem execEpochStatus_keeps {m : Msg} {s : State} (h0 : Memory.wf s.dram.mem = true) :
    OutKeeps (execEpochStatus m s) := runCommand_keeps cmdEpochStatus_keeps h0

theorem execEpochDrained_keeps {s : State} (h0 : Memory.wf s.dram.mem = true) : OutKeeps (execEpochDrained s) := by
  unfold execEpochDrained; try dsimp only
  repeat' first
    | with_reducible assumption
    | with_reducible refine k_out_ite ?_ ?_
    | with_reducible refine done_keeps ?_ ?_
    | with_reducible refine State.settleCopies_keeps ?_
    | with_reducible refine State.settleGroups_keeps ?_ ?_
    | with_reducible refine State.settleRules_keeps ?_
    | with_reducible refine k_next ?_
    | split

theorem bodyErrlogRead_keeps {m : Msg} {s : State} (h0 : Memory.wf s.dram.mem = true) :
    Memory.wf (bodyErrlogRead m s).state.dram.mem = true := by
  unfold bodyErrlogRead; try dsimp only
  repeat' first
    | with_reducible assumption
    | with_reducible refine k_done_ite ?_ ?_
    | with_reducible refine outOfRange_keeps ?_
    | with_reducible refine needZero_keeps ?_ ?_
    | with_reducible refine ok_keeps ?_

theorem cmdErrlogRead_keeps : CmdKeeps cmdErrlogRead := fun _ _ h => bodyErrlogRead_keeps h
theorem execErrlogRead_keeps {m : Msg} {s : State} (h0 : Memory.wf s.dram.mem = true) :
    OutKeeps (execErrlogRead m s) := runCommand_keeps cmdErrlogRead_keeps h0

theorem State.dropEntries_keeps {s : State} {n : Nat} (h0 : Memory.wf s.dram.mem = true) :
    Memory.wf (State.dropEntries s n).dram.mem = true := by
  unfold State.dropEntries; try dsimp only
  assumption

theorem bodyErrlogClear_keeps {m : Msg} {s : State} (h0 : Memory.wf s.dram.mem = true) :
    Memory.wf (bodyErrlogClear m s).state.dram.mem = true := by
  unfold bodyErrlogClear; try dsimp only
  repeat' first
    | with_reducible assumption
    | with_reducible refine k_done_ite ?_ ?_
    | with_reducible refine ok_keeps ?_
    | with_reducible refine badParam_keeps ?_
    | with_reducible refine needZero_keeps ?_ ?_
    | with_reducible refine outOfRange_keeps ?_
    | with_reducible refine State.dropEntries_keeps ?_
    | split

theorem cmdErrlogClear_keeps : CmdKeeps cmdErrlogClear := fun _ _ h => bodyErrlogClear_keeps h
theorem execErrlogClear_keeps {m : Msg} {s : State} (h0 : Memory.wf s.dram.mem = true) :
    OutKeeps (execErrlogClear m s) := runCommand_keeps cmdErrlogClear_keeps h0

theorem bodyErrlogClassRead_keeps {m : Msg} {s : State} (h0 : Memory.wf s.dram.mem = true) :
    Memory.wf (bodyErrlogClassRead m s).state.dram.mem = true := by
  unfold bodyErrlogClassRead; try dsimp only
  repeat' first
    | with_reducible assumption
    | with_reducible refine k_done_ite ?_ ?_
    | with_reducible refine outOfRange_keeps ?_
    | with_reducible refine needZero_keeps ?_ ?_
    | with_reducible refine ok_keeps ?_

theorem cmdErrlogClassRead_keeps : CmdKeeps cmdErrlogClassRead := fun _ _ h => bodyErrlogClassRead_keeps h
theorem execErrlogClassRead_keeps {m : Msg} {s : State} (h0 : Memory.wf s.dram.mem = true) :
    OutKeeps (execErrlogClassRead m s) := runCommand_keeps cmdErrlogClassRead_keeps h0

theorem cmdErrlogStatus_keeps : CmdKeeps cmdErrlogStatus := fun _ _ h => ok_keeps h
theorem execErrlogStatus_keeps {m : Msg} {s : State} (h0 : Memory.wf s.dram.mem = true) :
    OutKeeps (execErrlogStatus m s) := runCommand_keeps cmdErrlogStatus_keeps h0

theorem State.adopt_keeps {s : State} {f : JoinFacts} (h0 : Memory.wf s.dram.mem = true) : Memory.wf (State.adopt s f).dram.mem = true := by
  unfold State.adopt; try dsimp only
  repeat' first
    | with_reducible assumption
    | with_reducible refine State.remakeCopies_keeps ?_
    | with_reducible refine State.setPlan_keeps ?_

theorem State.becomeJoined_keeps {s : State} {r : Role} (h0 : Memory.wf s.dram.mem = true) :
    Memory.wf (State.becomeJoined s r).dram.mem = true := by
  unfold State.becomeJoined; try dsimp only
  repeat' first
    | with_reducible assumption
    | with_reducible refine State.noteLinks_keeps ?_ ?_
    | with_reducible refine State.setPair_keeps ?_

theorem State.joins_keeps {s : State} {r : Role} (h0 : Memory.wf s.dram.mem = true) : Memory.wf (State.joins s r).dram.mem = true := by
  unfold State.joins; try dsimp only
  repeat' first | with_reducible assumption | with_reducible refine State.becomeJoined_keeps ?_

theorem bodyPairJoin_keeps {m : Msg} {s : State} (h0 : Memory.wf s.dram.mem = true) :
    Memory.wf (bodyPairJoin m s).state.dram.mem = true := by
  unfold bodyPairJoin; try dsimp only
  repeat' first
    | with_reducible assumption
    | with_reducible refine k_ite ?_ ?_
    | with_reducible refine k_done_ite ?_ ?_
    | with_reducible refine badParam_keeps ?_
    | with_reducible refine needZero_keeps ?_ ?_
    | with_reducible refine refuse_keeps ?_
    | with_reducible refine State.onEach_keeps ?_
    | with_reducible refine State.adopt_keeps ?_
    | with_reducible refine ok_keeps ?_
    | with_reducible refine State.pairChange_keeps ?_
    | with_reducible refine State.joins_keeps ?_
    | split

theorem cmdPairJoin_keeps : CmdKeeps cmdPairJoin := fun _ _ h => bodyPairJoin_keeps h
theorem execPairJoin_keeps {m : Msg} {s : State} (h0 : Memory.wf s.dram.mem = true) :
    OutKeeps (execPairJoin m s) := runCommand_keeps cmdPairJoin_keeps h0

theorem State.endWait_keeps {s : State} {ch : Nat} {r : Reply} {d : (Option DevState)} (h0 : Memory.wf s.dram.mem = true) :
    Memory.wf (State.endWait s ch r d).dram.mem = true := by
  unfold State.endWait; try dsimp only
  repeat' first
    | with_reducible assumption
    | with_reducible refine State.enters_keeps ?_
    | with_reducible refine State.reply_keeps ?_
    | with_reducible refine State.setChan_keeps ?_

theorem State.commitAlone_keeps {s : State} {ch : Nat} {m : Msg} {r : Option Reply} (h0 : Memory.wf s.dram.mem = true) :
    Memory.wf (State.commitAlone s ch m r).dram.mem = true := by
  unfold State.commitAlone; try dsimp only
  repeat' first
    | with_reducible assumption
    | with_reducible refine State.endWait_keeps ?_
    | with_reducible refine State.boundary_keeps ?_
    | split

theorem State.releaseWaiting_keeps {s : State} (h0 : Memory.wf s.dram.mem = true) : Memory.wf (State.releaseWaiting s).dram.mem = true := by
  unfold State.releaseWaiting; try dsimp only
  repeat' first
    | with_reducible assumption
    | with_reducible refine State.endWait_keeps ?_
    | with_reducible refine State.commitAlone_keeps ?_
    | with_reducible refine k_foldl ?_ (fun _ _ _ => ?_)
    | split

theorem State.leavePair_keeps {s : State} (h0 : Memory.wf s.dram.mem = true) : Memory.wf (State.leavePair s).dram.mem = true := by
  unfold State.leavePair; try dsimp only
  repeat' first
    | with_reducible assumption
    | with_reducible refine State.dropCopy_keeps ?_
    | with_reducible refine State.releaseWaiting_keeps ?_
    | with_reducible refine State.pairChange_keeps ?_
    | with_reducible refine State.noteLinks_keeps ?_ ?_
    | with_reducible refine State.setPair_keeps ?_

theorem bodyPairLeave_keeps {m : Msg} {s : State} (h0 : Memory.wf s.dram.mem = true) :
    Memory.wf (bodyPairLeave m s).state.dram.mem = true := by
  unfold bodyPairLeave; try dsimp only
  repeat' first
    | with_reducible assumption
    | with_reducible refine k_ite ?_ ?_
    | with_reducible refine needZero_keeps ?_ ?_
    | with_reducible refine State.onEach_keeps ?_
    | with_reducible refine ok_keeps ?_
    | with_reducible refine State.leavePair_keeps ?_

theorem cmdPairLeave_keeps : CmdKeeps cmdPairLeave := fun _ _ h => bodyPairLeave_keeps h
theorem execPairLeave_keeps {m : Msg} {s : State} (h0 : Memory.wf s.dram.mem = true) :
    OutKeeps (execPairLeave m s) := runCommand_keeps cmdPairLeave_keeps h0

theorem State.pairSeen_keeps {s : State} {ch : Nat} (h0 : Memory.wf s.dram.mem = true) :
    Memory.wf (State.pairSeen s ch).dram.mem = true := by
  unfold State.pairSeen; try dsimp only
  repeat' first | with_reducible assumption | with_reducible refine k_ite ?_ ?_ | with_reducible refine State.setFn_keeps ?_

theorem bodyPairStatus_keeps {m : Msg} {s : State} (h0 : Memory.wf s.dram.mem = true) :
    Memory.wf (bodyPairStatus m s).state.dram.mem = true := by
  unfold bodyPairStatus; try dsimp only
  repeat' first
    | with_reducible assumption
    | with_reducible refine k_ite ?_ ?_
    | with_reducible refine k_done_ite ?_ ?_
    | with_reducible refine badParam_keeps ?_
    | with_reducible refine needZero_keeps ?_ ?_
    | with_reducible refine State.draw_keeps ?_
    | with_reducible refine State.pairSeen_keeps ?_
    | with_reducible refine ok_keeps ?_

theorem cmdPairStatus_keeps : CmdKeeps cmdPairStatus := fun _ _ h => bodyPairStatus_keeps h
theorem execPairStatus_keeps {m : Msg} {s : State} (h0 : Memory.wf s.dram.mem = true) :
    OutKeeps (execPairStatus m s) := runCommand_keeps cmdPairStatus_keeps h0

theorem bodyPairConfig_keeps {m : Msg} {s : State} (h0 : Memory.wf s.dram.mem = true) :
    Memory.wf (bodyPairConfig m s).state.dram.mem = true := by
  unfold bodyPairConfig; try dsimp only
  repeat' first
    | with_reducible assumption
    | with_reducible refine k_done_ite ?_ ?_
    | with_reducible refine needZero_keeps ?_ ?_
    | with_reducible refine ok_keeps ?_
    | with_reducible refine badParam_keeps ?_
    | with_reducible refine outOfRange_keeps ?_
    | split

theorem cmdPairConfig_keeps : CmdKeeps cmdPairConfig := fun _ _ h => bodyPairConfig_keeps h
theorem execPairConfig_keeps {m : Msg} {s : State} (h0 : Memory.wf s.dram.mem = true) :
    OutKeeps (execPairConfig m s) := runCommand_keeps cmdPairConfig_keeps h0

theorem bodyPairRejoin_keeps {m : Msg} {s : State} (h0 : Memory.wf s.dram.mem = true) :
    Memory.wf (bodyPairRejoin m s).state.dram.mem = true := by
  unfold bodyPairRejoin; try dsimp only
  repeat' first
    | with_reducible assumption
    | with_reducible refine k_done_ite ?_ ?_
    | with_reducible refine needZero_keeps ?_ ?_
    | with_reducible refine refuse_keeps ?_
    | with_reducible refine State.newTasks_keeps ?_
    | with_reducible refine State.onPeer_keeps ?_
    | with_reducible refine State.onEach_keeps ?_
    | with_reducible refine ok_keeps ?_
    | with_reducible refine State.pairChange_keeps ?_
    | with_reducible refine State.setPair_keeps ?_
    | with_reducible refine k_opt (by with_reducible assumption) ?_
    | split
    | dsimp only

theorem cmdPairRejoin_keeps : CmdKeeps cmdPairRejoin := fun _ _ h => bodyPairRejoin_keeps h
theorem execPairRejoin_keeps {m : Msg} {s : State} (h0 : Memory.wf s.dram.mem = true) :
    OutKeeps (execPairRejoin m s) := runCommand_keeps cmdPairRejoin_keeps h0

theorem State.diverge_keeps {s : State} {yields : Bool} {cause : Nat} (h0 : Memory.wf s.dram.mem = true) :
    Memory.wf (State.diverge s yields cause).dram.mem = true := by
  unfold State.diverge; try dsimp only
  repeat' first
    | with_reducible assumption
    | with_reducible refine k_ite ?_ ?_
    | with_reducible refine State.pairEvent_keeps ?_
    | with_reducible refine State.releaseWaiting_keeps ?_
    | with_reducible refine State.raiseCause_keeps ?_
    | with_reducible refine State.setPair_keeps ?_
    | with_reducible refine State.dropCopy_keeps ?_

theorem execPeerMailboxFlags_keeps {taken : Bool} {timeout : Bool} {outStatus : Bool} {s : State} (h0 : Memory.wf s.dram.mem = true) :
    OutKeeps (execPeerMailboxFlags taken timeout outStatus s) := by
  unfold execPeerMailboxFlags; try dsimp only
  repeat' first
    | with_reducible assumption
    | with_reducible refine k_ite ?_ ?_
    | with_reducible refine done_keeps ?_ ?_
    | with_reducible refine State.diverge_keeps ?_

theorem execPeerReplyArrival_keeps {ch : Nat} {status : W16} {_detail : W16} {_params : Bytes} {s : State} (h0 : Memory.wf s.dram.mem = true) :
    OutKeeps (execPeerReplyArrival ch status _detail _params s) := by
  unfold execPeerReplyArrival; try dsimp only
  repeat' first
    | with_reducible assumption
    | with_reducible refine k_out_ite ?_ ?_
    | with_reducible refine done_keeps ?_ ?_
    | with_reducible refine State.endWait_keeps ?_
    | with_reducible refine State.diverge_keeps ?_
    | with_reducible refine k_next ?_
    | split

theorem execHeartbeatSend_keeps {s : State} (h0 : Memory.wf s.dram.mem = true) : OutKeeps (execHeartbeatSend s) := by
  unfold execHeartbeatSend; try dsimp only
  repeat' first
    | with_reducible assumption
    | with_reducible refine k_ite ?_ ?_
    | with_reducible refine k_out_ite ?_ ?_
    | with_reducible refine State.sendBeat_keeps ?_
    | with_reducible refine done_keeps ?_ ?_
    | with_reducible refine State.alert_keeps ?_
    | with_reducible refine k_next ?_
    | with_reducible refine k_foldl ?_ (fun _ _ _ => ?_)

theorem execJoinRequest_keeps {j : JoinFacts} {s : State} (h0 : Memory.wf s.dram.mem = true) : OutKeeps (execJoinRequest j s) := by
  unfold execJoinRequest; try dsimp only
  repeat' first
    | with_reducible assumption
    | with_reducible refine k_ite ?_ ?_
    | with_reducible refine k_out_ite ?_ ?_
    | with_reducible refine State.adopt_keeps ?_
    | with_reducible refine done_keeps ?_ ?_
    | with_reducible refine State.pairChange_keeps ?_
    | with_reducible refine State.joins_keeps ?_
    | with_reducible refine k_next ?_
    | split

theorem execPairPrepare_keeps {epoch : W16} {s : State} (h0 : Memory.wf s.dram.mem = true) : OutKeeps (execPairPrepare epoch s) := by
  unfold execPairPrepare; try dsimp only
  repeat' first
    | with_reducible assumption
    | with_reducible refine k_out_ite ?_ ?_
    | with_reducible refine done_keeps ?_ ?_
    | with_reducible refine State.onEach_keeps ?_
    | with_reducible refine k_next ?_

theorem execPairCommit_keeps {epoch : W16} {s : State} (h0 : Memory.wf s.dram.mem = true) : OutKeeps (execPairCommit epoch s) := by
  unfold execPairCommit; try dsimp only
  repeat' first
    | with_reducible assumption
    | with_reducible refine done_keeps ?_ ?_
    | with_reducible refine State.onEach_keeps ?_
    | with_reducible refine State.boundary_keeps ?_
    | with_reducible refine k_next ?_
    | split

theorem execPairReady_keeps {s : State} (h0 : Memory.wf s.dram.mem = true) : OutKeeps (execPairReady s) := by
  unfold execPairReady; try dsimp only
  repeat' first
    | with_reducible assumption
    | with_reducible refine k_out_ite ?_ ?_
    | with_reducible refine State.onEach_keeps ?_
    | with_reducible refine State.boundary_keeps ?_
    | with_reducible refine done_keeps ?_ ?_
    | with_reducible refine State.setChan_keeps ?_
    | with_reducible refine k_next ?_
    | split

theorem execPairApplyConfirm_keeps {s : State} (h0 : Memory.wf s.dram.mem = true) : OutKeeps (execPairApplyConfirm s) := by
  unfold execPairApplyConfirm; try dsimp only
  repeat' first
    | with_reducible assumption
    | with_reducible refine done_keeps ?_ ?_
    | with_reducible refine State.endWait_keeps ?_
    | with_reducible refine k_next ?_
    | split

theorem execRejoinRequest_keeps {j : JoinFacts} {s : State} (h0 : Memory.wf s.dram.mem = true) : OutKeeps (execRejoinRequest j s) := by
  unfold execRejoinRequest; try dsimp only
  repeat' first
    | with_reducible assumption
    | with_reducible refine k_ite ?_ ?_
    | with_reducible refine k_out_ite ?_ ?_
    | with_reducible refine State.adopt_keeps ?_
    | with_reducible refine done_keeps ?_ ?_
    | with_reducible refine State.pairChange_keeps ?_
    | with_reducible refine k_next ?_

theorem State.clearMinerFigures_keeps {s : State} (h0 : Memory.wf s.dram.mem = true) :
    Memory.wf (State.clearMinerFigures s).dram.mem = true := by
  unfold State.clearMinerFigures; try dsimp only
  assumption

theorem bodyMinerStatus_keeps {m : Msg} {s : State} (h0 : Memory.wf s.dram.mem = true) :
    Memory.wf (bodyMinerStatus m s).state.dram.mem = true := by
  unfold bodyMinerStatus; try dsimp only
  repeat' first
    | with_reducible assumption
    | with_reducible refine k_ite ?_ ?_
    | with_reducible refine k_done_ite ?_ ?_
    | with_reducible refine badParam_keeps ?_
    | with_reducible refine needZero_keeps ?_ ?_
    | with_reducible refine ok_keeps ?_
    | with_reducible refine State.clearMinerFigures_keeps ?_

theorem cmdMinerStatus_keeps : CmdKeeps cmdMinerStatus := fun _ _ h => bodyMinerStatus_keeps h
theorem execMinerStatus_keeps {m : Msg} {s : State} (h0 : Memory.wf s.dram.mem = true) :
    OutKeeps (execMinerStatus m s) := runCommand_keeps cmdMinerStatus_keeps h0

theorem recMinerTaskLevel_keeps {m : Msg} {s : State} {b : Bytes} {base : Nat} (h0 : Memory.wf s.dram.mem = true) :
    RecKeeps (recMinerTaskLevel m s b base) := by
  unfold recMinerTaskLevel; try dsimp only
  repeat' first
    | with_reducible assumption
    | with_reducible refine k_rec_ite ?_ ?_
    | with_reducible refine recZero_keeps ?_
    | with_reducible refine noStage_keeps
    | with_reducible refine State.stageWith_keeps ?_
    | with_reducible exact k_refuse
    | with_reducible refine k_ok ?_

theorem cmdMinerTaskLevel_keeps : CmdKeeps cmdMinerTaskLevel := fun _ _ h => records_keeps (fun _ _ _ h => recMinerTaskLevel_keeps h) h
theorem execMinerTaskLevel_keeps {m : Msg} {s : State} (h0 : Memory.wf s.dram.mem = true) :
    OutKeeps (execMinerTaskLevel m s) := runCommand_keeps cmdMinerTaskLevel_keeps h0

theorem bodyMinerTraceRead_keeps {m : Msg} {s : State} (h0 : Memory.wf s.dram.mem = true) :
    Memory.wf (bodyMinerTraceRead m s).state.dram.mem = true := by
  unfold bodyMinerTraceRead; try dsimp only
  repeat' first
    | with_reducible assumption
    | with_reducible refine k_ite ?_ ?_
    | with_reducible refine k_done_ite ?_ ?_
    | with_reducible refine badParam_keeps ?_
    | with_reducible refine needZero_keeps ?_ ?_
    | with_reducible refine outOfRange_keeps ?_
    | with_reducible refine ok_keeps ?_

theorem cmdMinerTraceRead_keeps : CmdKeeps cmdMinerTraceRead := fun _ _ h => bodyMinerTraceRead_keeps h
theorem execMinerTraceRead_keeps {m : Msg} {s : State} (h0 : Memory.wf s.dram.mem = true) :
    OutKeeps (execMinerTraceRead m s) := runCommand_keeps cmdMinerTraceRead_keeps h0

theorem bodyMinerTraceConfig_keeps {m : Msg} {s : State} (h0 : Memory.wf s.dram.mem = true) :
    Memory.wf (bodyMinerTraceConfig m s).state.dram.mem = true := by
  unfold bodyMinerTraceConfig; try dsimp only
  repeat' first
    | with_reducible assumption
    | with_reducible refine k_done_ite ?_ ?_
    | with_reducible refine needZero_keeps ?_ ?_
    | with_reducible refine ok_keeps ?_
    | with_reducible refine badParam_keeps ?_

theorem cmdMinerTraceConfig_keeps : CmdKeeps cmdMinerTraceConfig := fun _ _ h => bodyMinerTraceConfig_keeps h
theorem execMinerTraceConfig_keeps {m : Msg} {s : State} (h0 : Memory.wf s.dram.mem = true) :
    OutKeeps (execMinerTraceConfig m s) := runCommand_keeps cmdMinerTraceConfig_keeps h0

theorem execTaskComplete_keeps {miner : Nat} {trail : List MicroOp} {wait : Nat} {rom : Nat} {s : State} (h0 : Memory.wf s.dram.mem = true) :
    OutKeeps (execTaskComplete miner trail wait rom s) := by
  unfold execTaskComplete; try dsimp only
  repeat' first
    | with_reducible assumption
    | with_reducible refine k_out_ite ?_ ?_
    | with_reducible refine State.minerCount_keeps ?_
    | with_reducible refine done_keeps ?_ ?_
    | with_reducible refine State.failMiner_keeps ?_
    | with_reducible refine State.release_keeps ?_
    | with_reducible refine State.trace_keeps ?_
    | with_reducible refine k_next ?_
    | split

theorem execTaskPark_keeps {miner : Nat} {trail : List MicroOp} {rom : Nat} {s : State} (h0 : Memory.wf s.dram.mem = true) :
    OutKeeps (execTaskPark miner trail rom s) := by
  unfold execTaskPark; try dsimp only
  repeat' first
    | with_reducible assumption
    | with_reducible refine k_out_ite ?_ ?_
    | with_reducible refine State.minerCount_keeps ?_
    | with_reducible refine done_keeps ?_ ?_
    | with_reducible refine State.failMiner_keeps ?_
    | with_reducible refine State.parkTask_keeps ?_
    | with_reducible refine k_next ?_
    | split

theorem execMinerFault_keeps {miner : Nat} {rom : Nat} {trail : List MicroOp} {wait : Nat} {s : State} (h0 : Memory.wf s.dram.mem = true) :
    OutKeeps (execMinerFault miner rom trail wait s) := by
  unfold execMinerFault; try dsimp only
  repeat' first
    | with_reducible assumption
    | with_reducible refine done_keeps ?_ ?_
    | with_reducible refine State.failMiner_keeps ?_
    | with_reducible refine State.minerCount_keeps ?_
    | with_reducible refine k_next ?_
    | split

theorem commands_keep : ∀ c ∈ commands, CmdKeeps c := by
  simp only [commands, commands1, commands2, commands3, commands4, commands5, commands6, List.cons_append, List.nil_append, List.forall_mem_cons]
  exact ⟨cmdDeviceNop_keeps, cmdDeviceMbxTimeout_keeps, cmdDeviceIdentify_keeps, cmdDeviceStatus_keeps, cmdDeviceStart_keeps, cmdDeviceTestEnter_keeps, cmdDeviceTestExit_keeps, cmdDeviceResume_keeps, cmdEpochStage_keeps, cmdEpochCommit_keeps, cmdEpochStatus_keeps, cmdPortConfig_keeps, cmdPortEnable_keeps, cmdPortStatus_keeps, cmdPortCounters_keeps, cmdLaneTune_keeps, cmdPortLoopback_keeps, cmdRingConfig_keeps, cmdCanaryStatus_keeps, cmdSecureCanaryArm_keeps, cmdSecureCanaryDisarm_keeps, cmdParseNodeWrite_keeps, cmdParseNodeRead_keeps, cmdParseLimits_keeps, cmdParseGraphLoad_keeps, cmdParseCounters_keeps, cmdRuleLoad_keeps, cmdRuleBuild_keeps, cmdRuleBuildStatus_keeps, cmdRuleRead_keeps, cmdRuleDefault_keeps, cmdRuleCounters_keeps, cmdRecircConfig_keeps, cmdFlowRead_keeps, cmdFlowWrite_keeps, cmdFlowExport_keeps, cmdFlowStats_keeps, cmdFlowDelete_keeps, cmdFlowPin_keeps, cmdFlowClassSet_keeps, cmdFlowAgeConfig_keeps, cmdFlowNewLimit_keeps, cmdFlowHashSeed_keeps, cmdNatPoolSet_keeps, cmdNatPoolRead_keeps, cmdNatBlockConfig_keeps, cmdNatBindingRead_keeps, cmdNatBindingRelease_keeps, cmdBalGroupSet_keeps, cmdBalMemberSet_keeps, cmdBalMemberDrain_keeps, cmdBalGroupRead_keeps, cmdSubWrite_keeps, cmdSubRead_keeps, cmdSubPolicySet_keeps, cmdActionWrite_keeps, cmdActionRead_keeps, cmdBridgeEntrySet_keeps, cmdBridgeEntryDelete_keeps, cmdBridgeRead_keeps, cmdBridgeDomainSet_keeps, cmdLearnLimitSet_keeps, cmdLearnConfig_keeps, cmdRouteLoad_keeps, cmdRouteRead_keeps, cmdNexthopSet_keeps, cmdNexthopRead_keeps, cmdQueueConfig_keeps, cmdShaperNodeSet_keeps, cmdShaperNodeRead_keeps, cmdSchedConfig_keeps, cmdMirrorSet_keeps, cmdHostringSet_keeps, cmdBufferStatus_keeps, cmdBufferThreshold_keeps, cmdMinerStatus_keeps, cmdMinerTaskLevel_keeps, cmdMinerTraceRead_keeps, cmdMinerTraceConfig_keeps, cmdMemPlanRead_keeps, cmdMemRegionGrow_keeps, cmdMemStatus_keeps, cmdMemRetiredRead_keeps, cmdSeamCreate_keeps, cmdSeamGroup_keeps, cmdSeamRead_keeps, cmdSeamFill_keeps, cmdSeamCompare_keeps, cmdSeamCheck_keeps, cmdSeamRetire_keeps, cmdSeamSwapRoot_keeps, cmdSeamInfo_keeps, cmdSecureMemPlan_keeps, cmdTimeRead_keeps, cmdTimeStep_keeps, cmdTimeIncSet_keeps, cmdTimeJumpLimit_keeps, cmdTimePpsConfig_keeps, cmdTimePtpConfig_keeps, cmdTimeCal_keeps, cmdTimeRclkConfig_keeps, cmdTelemCollectorSet_keeps, cmdTelemEnable_keeps, cmdTelemStatus_keeps, cmdCounterProgram_keeps, cmdCounterRead_keeps, cmdCounterDumpConfig_keeps, cmdBwwinConfig_keeps, cmdBwwinRead_keeps, cmdDmaResume_keeps, cmdDmaAbandon_keeps, cmdDmaStatus_keeps, cmdPairJoin_keeps, cmdPairLeave_keeps, cmdPairStatus_keeps, cmdPairRejoin_keeps, cmdPairConfig_keeps, cmdErrlogRead_keeps, cmdErrlogClear_keeps, cmdErrlogClassRead_keeps, cmdErrlogStatus_keeps, cmdSecurePowerProfile_keeps, cmdPowerStatus_keeps, cmdClockStatus_keeps, cmdThermalRead_keeps, cmdDroopConfig_keeps, cmdSecureConfigLock_keeps, cmdSecureIdentity_keeps, cmdSecureAttest_keeps, fun _ h => absurd h List.not_mem_nil⟩
theorem State.runPacket_keeps {s : State} {op : Nat} {m : Msg} (h0 : Memory.wf s.dram.mem = true) :
    Memory.wf (State.runPacket s op m).dram.mem = true := by
  unfold State.runPacket
  split
  · rename_i c e; exact interpret_keeps (commands_keep c (List.mem_of_find?_eq_some e)) h0
  · exact State.reply_keeps h0

theorem State.taken_keeps {s : State} {ch : Nat} (h0 : Memory.wf s.dram.mem = true) : Memory.wf (State.taken s ch).dram.mem = true := by
  unfold State.taken; try dsimp only
  repeat' first
    | with_reducible assumption
    | with_reducible refine k_ite ?_ ?_
    | with_reducible refine State.setChan_keeps ?_
    | with_reducible refine State.peerWord_keeps ?_

theorem State.takeFrom_keeps {s : State} {ch : Nat} (h0 : Memory.wf s.dram.mem = true) :
    Memory.wf (State.takeFrom s ch).dram.mem = true := by
  unfold State.takeFrom; try dsimp only
  repeat' first
    | with_reducible assumption
    | with_reducible refine State.runPacket_keeps ?_
    | with_reducible refine State.taken_keeps ?_

theorem execMessageTake_keeps {s : State} (h0 : Memory.wf s.dram.mem = true) : OutKeeps (execMessageTake s) := by
  unfold execMessageTake; try dsimp only
  repeat' first
    | with_reducible assumption
    | with_reducible refine done_keeps ?_ ?_
    | with_reducible refine State.takeFrom_keeps ?_
    | with_reducible refine k_next ?_
    | split

theorem execMbxTimeoutExpire_keeps {ch : Nat} {s : State} (h0 : Memory.wf s.dram.mem = true) : OutKeeps (execMbxTimeoutExpire ch s) := by
  unfold execMbxTimeoutExpire; try dsimp only
  repeat' first
    | with_reducible assumption
    | with_reducible refine k_out_ite ?_ ?_
    | with_reducible refine done_keeps ?_ ?_
    | with_reducible refine State.takeFrom_keeps ?_
    | with_reducible refine State.withdraw_keeps ?_
    | with_reducible refine k_next ?_
    | split

theorem execGpio3Toggle_keeps {s : State} (h0 : Memory.wf s.dram.mem = true) : OutKeeps (execGpio3Toggle s) := by
  unfold execGpio3Toggle; try dsimp only
  repeat' first
    | with_reducible assumption
    | with_reducible refine k_out_ite ?_ ?_
    | with_reducible refine done_keeps ?_ ?_
    | with_reducible refine k_next ?_

theorem State.boundaryScan_keeps {s : State} {data : BitVec 294} (h0 : Memory.wf s.dram.mem = true) :
    Memory.wf (State.boundaryScan s data).dram.mem = true := h0

theorem execTapInstruction_keeps {code : Byte} {data : BitVec 294} {s : State} (h0 : Memory.wf s.dram.mem = true) :
    OutKeeps (execTapInstruction code data s) := by
  unfold execTapInstruction; try dsimp only
  repeat' first
    | with_reducible assumption
    | with_reducible refine k_out_ite ?_ ?_
    | with_reducible refine done_keeps ?_ ?_
    | with_reducible refine State.boundaryScan_keeps ?_
    | with_reducible refine State.send_keeps ?_
    | with_reducible refine k_next ?_

theorem State.applyCommand_keeps {s : State} {payload : Bytes} (h0 : Memory.wf s.dram.mem = true) :
    Memory.wf (State.applyCommand s payload).dram.mem = true := by
  unfold State.applyCommand
  dsimp only
  split
  · rename_i c e
    have hc := commands_keep c (List.mem_of_find?_eq_some e) (parsePacket 2 payload).2.norm s h0
    exact State.enters_keeps (k_done_ite (loadNodes_keeps (State.finishWork_keeps (w := (· == .loadSeam 2)) hc)) hc)
  · exact h0

theorem State.applyRecord_keeps {s : State} {kind : Nat} {tile : Nat} {payload : Bytes} (h0 : Memory.wf s.dram.mem = true) :
    Memory.wf (State.applyRecord s kind tile payload).dram.mem = true := by
  unfold State.applyRecord; try dsimp only
  repeat' first
    | with_reducible assumption
    | with_reducible refine State.taskWrite_keeps ?_
    | with_reducible refine State.applyCommand_keeps ?_
    | with_reducible refine State.boundary_keeps ?_
    | with_reducible refine State.setBlock_keeps ?_
    | split

theorem State.applyJournal_keeps {s : State} (h0 : Memory.wf s.dram.mem = true) : Memory.wf (State.applyJournal s).dram.mem = true := by
  unfold State.applyJournal; try dsimp only
  repeat' first
    | with_reducible assumption
    | with_reducible refine State.applyRecord_keeps ?_
    | with_reducible refine k_foldl ?_ (fun _ _ _ => ?_)

theorem State.declareLost_keeps {s : State} {cause : Nat} (h0 : Memory.wf s.dram.mem = true) :
    Memory.wf (State.declareLost s cause).dram.mem = true := by
  unfold State.declareLost; try dsimp only
  repeat' first
    | with_reducible assumption
    | with_reducible refine k_ite ?_ ?_
    | with_reducible refine State.applyJournal_keeps ?_
    | with_reducible refine State.pairEvent_keeps ?_
    | with_reducible refine State.releaseWaiting_keeps ?_
    | with_reducible refine State.dropCopy_keeps ?_
    | with_reducible refine State.setPair_keeps ?_
    | with_reducible refine State.retrainFront_keeps ?_

theorem State.judge_keeps {s : State} {h : Heartbeat} (h0 : Memory.wf s.dram.mem = true) : Memory.wf (State.judge s h).dram.mem = true := by
  unfold State.judge; try dsimp only
  repeat' first
    | with_reducible assumption
    | with_reducible refine k_ite ?_ ?_
    | with_reducible refine State.leavePair_keeps ?_
    | with_reducible refine State.declareLost_keeps ?_
    | with_reducible refine State.diverge_keeps ?_
    | with_reducible refine State.setPair_keeps ?_

theorem State.startPeer_keeps {s : State} (h0 : Memory.wf s.dram.mem = true) : Memory.wf (State.startPeer s).dram.mem = true := by
  unfold State.startPeer; try dsimp only
  repeat' first | with_reducible assumption | with_reducible refine State.onPeer_keeps ?_

theorem State.hear_keeps {s : State} {h : Heartbeat} (h0 : Memory.wf s.dram.mem = true) : Memory.wf (State.hear s h).dram.mem = true := h0

theorem execHeartbeatReceive_keeps {h : Heartbeat} {s : State} (h0 : Memory.wf s.dram.mem = true) :
    OutKeeps (execHeartbeatReceive h s) := by
  unfold execHeartbeatReceive; try dsimp only
  repeat' first
    | with_reducible assumption
    | with_reducible refine k_out_ite ?_ ?_
    | with_reducible refine done_keeps ?_ ?_
    | with_reducible refine State.judge_keeps ?_
    | with_reducible refine State.hear_keeps ?_
    | with_reducible refine k_next ?_
    | split

theorem execPeerLost_keeps {s : State} (h0 : Memory.wf s.dram.mem = true) : OutKeeps (execPeerLost s) := by
  unfold execPeerLost; try dsimp only
  repeat' first
    | with_reducible assumption
    | with_reducible refine k_out_ite ?_ ?_
    | with_reducible refine done_keeps ?_ ?_
    | with_reducible refine State.declareLost_keeps ?_
    | with_reducible refine k_next ?_

theorem execJournalApply_keeps {kind : Nat} {tile : Nat} {payload : Bytes} {s : State} (h0 : Memory.wf s.dram.mem = true) :
    OutKeeps (execJournalApply kind tile payload s) := by
  unfold execJournalApply; try dsimp only
  repeat' first
    | with_reducible assumption
    | with_reducible refine k_ite ?_ ?_
    | with_reducible refine k_out_ite ?_ ?_
    | with_reducible refine done_keeps ?_ ?_
    | with_reducible refine State.applyJournal_keeps ?_
    | with_reducible refine k_next ?_

theorem State.copyTile_keeps {s : State} {i : Nat} (h0 : Memory.wf s.dram.mem = true) :
    Memory.wf (State.copyTile s i).2.dram.mem = true := by
  unfold State.copyTile; try dsimp only
  repeat' first | with_reducible assumption | with_reducible refine State.readTile_keeps ?_ | split

theorem copyLive_keeps {x0 : List Nat} {x1 : State} (h0 : Memory.wf x1.dram.mem = true) : Memory.wf (copyLive x0 x1).2.dram.mem = true := by
  induction x0 generalizing x1 with
  | nil =>
    unfold copyLive; try dsimp only
    assumption
  | cons a l ih =>
    unfold copyLive; try dsimp only
    repeat' first | with_reducible assumption | with_reducible apply ih | with_reducible refine State.copyTile_keeps ?_

theorem State.sendLive_keeps {s : State} (h0 : Memory.wf s.dram.mem = true) : Memory.wf (State.sendLive s).dram.mem = true := by
  unfold State.sendLive; try dsimp only
  repeat' first
    | with_reducible assumption
    | with_reducible refine copyLive_keeps ?_
    | with_reducible refine State.onPeer_keeps ?_
    | with_reducible refine State.finishWork_keeps ?_

theorem State.resyncDone_keeps {s : State} (h0 : Memory.wf s.dram.mem = true) : Memory.wf (State.resyncDone s).dram.mem = true := by
  unfold State.resyncDone; try dsimp only
  repeat' first
    | with_reducible assumption
    | with_reducible refine State.pairChange_keeps ?_
    | with_reducible refine State.pairEvent_keeps ?_

theorem State.primaryRejoins_keeps {s : State} (h0 : Memory.wf s.dram.mem = true) : Memory.wf (State.primaryRejoins s).dram.mem = true := by
  unfold State.primaryRejoins; try dsimp only
  repeat' first
    | with_reducible assumption
    | with_reducible refine k_ite ?_ ?_
    | with_reducible refine State.sendLive_keeps ?_
    | with_reducible refine State.newTasks_keeps ?_
    | with_reducible refine State.becomeJoined_keeps ?_
    | with_reducible refine State.resyncDone_keeps ?_
    | with_reducible refine State.startPeer_keeps ?_
    | with_reducible refine State.pairChange_keeps ?_
    | with_reducible refine k_getD ?_ ?_

theorem State.copyTaken_keeps {s : State} (h0 : Memory.wf s.dram.mem = true) : Memory.wf (State.copyTaken s).dram.mem = true := by
  unfold State.copyTaken; try dsimp only
  repeat' first | with_reducible assumption | with_reducible refine State.applyJournal_keeps ?_

theorem State.takeLive_keeps {s : State} {c : PairCopy} (h0 : Memory.wf s.dram.mem = true) :
    Memory.wf (State.takeLive s c).dram.mem = true := by
  unfold State.takeLive; try dsimp only
  repeat' first
    | with_reducible assumption
    | with_reducible refine State.clearRun_keeps ?_
    | with_reducible refine State.putTile_keeps ?_
    | with_reducible refine k_foldl ?_ (fun _ _ _ => ?_)

theorem State.takeConfig_keeps {s : State} {c : PairCopy} (h0 : Memory.wf s.dram.mem = true) :
    Memory.wf (State.takeConfig s c).dram.mem = true := by
  unfold State.takeConfig; try dsimp only
  repeat' first
    | with_reducible assumption
    | with_reducible refine State.putTile_keeps ?_
    | with_reducible refine State.boundaryLearned_keeps ?_ ?_
    | with_reducible refine State.settleCopies_keeps ?_
    | with_reducible refine k_foldl ?_ (fun _ _ _ => ?_)

theorem State.peerRejoins_keeps {s : State} {copy : Option PairCopy} (h0 : Memory.wf s.dram.mem = true) :
    Memory.wf (State.peerRejoins s copy).dram.mem = true := by
  unfold State.peerRejoins; try dsimp only
  repeat' first
    | with_reducible assumption
    | with_reducible refine State.copyTaken_keeps ?_
    | with_reducible refine State.takeLive_keeps ?_
    | with_reducible refine State.takeConfig_keeps ?_
    | with_reducible refine State.becomeJoined_keeps ?_
    | with_reducible refine State.pairChange_keeps ?_
    | split

theorem State.secondaryResyncs_keeps {s : State} {copy : Option PairCopy} (h0 : Memory.wf s.dram.mem = true) :
    Memory.wf (State.secondaryResyncs s copy).dram.mem = true := by
  unfold State.secondaryResyncs; try dsimp only
  repeat' first
    | with_reducible assumption
    | with_reducible refine State.copyTaken_keeps ?_
    | with_reducible refine State.takeLive_keeps ?_
    | with_reducible refine State.pairChange_keeps ?_
    | with_reducible refine State.becomeJoined_keeps ?_
    | split

theorem execRejoinComplete_keeps {copy : Option PairCopy} {s : State} (h0 : Memory.wf s.dram.mem = true) :
    OutKeeps (execRejoinComplete copy s) := by
  unfold execRejoinComplete; try dsimp only
  repeat' first
    | with_reducible assumption
    | with_reducible refine k_out_ite ?_ ?_
    | with_reducible refine done_keeps ?_ ?_
    | with_reducible refine State.primaryRejoins_keeps ?_
    | with_reducible refine State.peerRejoins_keeps ?_
    | with_reducible refine State.secondaryResyncs_keeps ?_
    | with_reducible refine k_next ?_

theorem State.standingWork_keeps {s : State} {type : Nat} (h0 : Memory.wf s.dram.mem = true) :
    Memory.wf (State.standingWork s type).dram.mem = true := by
  unfold State.standingWork; try dsimp only
  repeat' first
    | with_reducible assumption
    | with_reducible refine k_ite ?_ ?_
    | with_reducible refine State.countInterval_keeps ?_
    | with_reducible refine State.sendLearn_keeps ?_
    | with_reducible refine State.applyJournal_keeps ?_
    | with_reducible refine k_foldl ?_ (fun _ _ _ => ?_)

theorem State.servedNow_keeps {s : State} (h0 : Memory.wf s.dram.mem = true) : Memory.wf (State.servedNow s).dram.mem = true := by
  unfold State.servedNow; try dsimp only
  repeat' first
    | with_reducible assumption
    | with_reducible refine k_ite ?_ ?_
    | with_reducible refine State.standingWork_keeps ?_
    | with_reducible refine k_foldl ?_ (fun _ _ _ => ?_)

theorem execTaskDispatch_keeps {s : State} (h0 : Memory.wf s.dram.mem = true) : OutKeeps (execTaskDispatch s) := by
  unfold execTaskDispatch; try dsimp only
  repeat' first
    | with_reducible assumption
    | with_reducible refine done_keeps ?_ ?_
    | with_reducible refine State.servedNow_keeps ?_
    | with_reducible refine State.dispatchTo_keeps ?_
    | with_reducible refine k_next ?_
    | split

theorem execTaskPreempt_keeps {miner : Nat} {trail : List MicroOp} {wait : Nat} {rom : Nat} {s : State} (h0 : Memory.wf s.dram.mem = true) :
    OutKeeps (execTaskPreempt miner trail wait rom s) := by
  unfold execTaskPreempt; try dsimp only
  repeat' first
    | with_reducible assumption
    | with_reducible refine k_out_ite ?_ ?_
    | with_reducible refine State.minerCount_keeps ?_
    | with_reducible refine done_keeps ?_ ?_
    | with_reducible refine State.failMiner_keeps ?_
    | with_reducible refine State.trace_keeps ?_
    | with_reducible refine State.setMiner_keeps ?_
    | with_reducible refine State.parkTask_keeps ?_
    | with_reducible refine State.servedNow_keeps ?_
    | with_reducible refine State.preempt_keeps ?_
    | with_reducible refine k_next ?_
    | split

theorem State.tick_keeps {s : State} (h0 : Memory.wf s.dram.mem = true) : Memory.wf (State.tick s).dram.mem = true := by
  unfold State.tick; try dsimp only
  repeat' first | with_reducible assumption | with_reducible refine k_ite ?_ ?_

end Sys2Proof.Laws
end

