-- ==== Sys2Proof/WellFormed.lean ====
section
/-!
DEFINITION. Well-formed commands and events: operands within the ranges the spec gives them.
-/
namespace Sys2Proof

/-- A packet as a sender can write it (R44): one of the four channels, six reserved header bytes, no more than 4,080 parameter bytes. -/
def Msg.wf (m : Msg) : Bool := decide (m.ch < 4) && m.resv.length == 6 && decide (m.params.length ≤ 4080)

/-- Faults name tiles, ways and words that exist. -/
def Upsets.wf (u : Upsets) : Bool :=
  u.tiles.all (· < 268435456) && u.hot.all (· < 1048576) && u.home.all (· < 1048576) && u.cache.all (· < 65536) && u.store.all (· < 196608) &&
    u.fwd.all (fun h => decide (1 ≤ h.1) && decide (h.1 ≤ 3)) && u.buffer.all (fun h => h.1 == 1 || h.1 == 2)

/-- A frame holds at least its addresses and EtherType, and no more than a MAC can receive. -/
def FrameIn.wf (f : FrameIn) : Bool := decide (f.bytes.length ≤ 16384)

/-- What boot finds names channels, ways and tiles that exist. -/
def BootFacts.wf (b : BootFacts) : Bool :=
  b.untrained.all (· < 32) && b.repaired.all (·.1 < 32) && b.hotRetired.all (· < 1048576) &&
    b.cacheRetired.all (· < 65536) && b.storeRetired.all (· < 196608) && b.badRows.all (fun r => decide (r.1 + r.2 ≤ 268435456))

/-- A command or event whose operands are within their ranges. -/
def Instr.wf : Instr → Bool
  | .powerOn => true
  | .resetNFall _ => true
  | .pwrOkFall _ => true
  | .resetNRise _ cfg b _ => decide (cfg < 16) && b.wf
  | .bootComplete _ => true
  | .rootPllLockLost => true
  | .perstNRise _ => true
  | .linkReset _ => true
  | .functionLevelReset _ => true
  | .tapInstruction _ _ => true
  | .registerWrite _ off _ size => decide (off < 131072) && [1, 2, 4, 8].contains size
  | .mbxInboundWrite ch off _ => decide (ch < 4) && decide (off < 4096)
  | .ringDoorbell ask => decide (ask.ch < 4)
  | .releaseReply ask => decide (ask.ch < 4)
  | .bmcBufferWrite off _ _ => decide (off < 4096)
  | .bmcFlagsRead _ => true
  | .bmcReplyRead ask => decide (ask.off < 4096)
  | .smbusAlertResponse => true
  | .messageTake => true
  | .mbxTimeoutExpire ch => decide (ch < 4)
  | .peerReplyArrival ch _ _ _ => decide (ch < 4)
  | .flowCommandResume ch => decide (ch < 4)
  | .deviceNop m => m.wf
  | .deviceMbxTimeout m => m.wf
  | .deviceIdentify m => m.wf
  | .deviceStatus m => m.wf
  | .deviceStart m => m.wf
  | .deviceTestEnter m => m.wf
  | .deviceTestExit m => m.wf
  | .clearingComplete => true
  | .deviceResume m => m.wf
  | .epochStage m => m.wf
  | .epochCommit m => m.wf
  | .epochDrained => true
  | .epochStatus m => m.wf
  | .portConfig m => m.wf
  | .portEnable m => m.wf
  | .portStatus m => m.wf
  | .portCounters m => m.wf
  | .laneTune m => m.wf
  | .portLoopback m => m.wf
  | .ringConfig m => m.wf
  | .canaryStatus m => m.wf
  | .secureCanaryArm m => m.wf
  | .secureCanaryDisarm m => m.wf
  | .canaryHalfPeriod => true
  | .canaryHeartbeatWindow _ _ => true
  | .linkStateChange port link _ _ => decide (port < 26) && decide (link < 8)
  | .anRetry port _ => decide (port < 26)
  | .portCalibrationDone port _ _ => decide (port < 26)
  | .peerLaneFail _ => true
  | .peerLaneRestore _ => true
  | .laneFrameReceive port frame => decide (port < 26) && frame.wf
  | .pdelayReceive port _ => decide (port < 26)
  | .pdelayReqSend port => decide (port < 26)
  | .laneFrameAdmit _ hurt => hurt.wf
  | .missResume _ hurt => hurt.wf
  | .recircAdmit _ hurt => hurt.wf
  | .reinjectAdmit _ hurt => hurt.wf
  | .cutThroughFrameEnd _ frame => frame.wf
  | .bucketReadReturn key hurt => (key.length == 40 || key.length == 4) && hurt.wf
  | .actionEntryReadReturn key hurt => (key.length == 40 || key.length == 4) && hurt.wf
  | .pendingWriteBack way => decide (way < 1048576)
  | .hotIdleDemote set => decide (set < 131072)
  | .packetDequeue port hurt => (decide (port < 26) || port == 32 || port == 33) && hurt.wf
  | .residenceExpire queue _ => decide (queue < 525316)
  | .ringRecordWrite ring => decide (ring.ring < 8)
  | .ringConsumerPoll ring _ => decide (ring < 10)
  | .ringHoldoffExpire ring => decide (ring < 10)
  | .learnEventApply _ => true
  | .bridgeAgeVisit _ => true
  | .forwardingRepair => true
  | .parseNodeWrite m => m.wf
  | .parseNodeRead m => m.wf
  | .parseLimits m => m.wf
  | .parseGraphLoad m => m.wf
  | .parseCounters m => m.wf
  | .ruleLoad m => m.wf
  | .ruleBuild m => m.wf
  | .ruleBuildComplete table hurt => decide (table < 20) && hurt.wf
  | .ruleStoreRepair tile => decide (tile < 196608)
  | .ruleBuildStatus m => m.wf
  | .ruleRead m => m.wf
  | .ruleDefault m => m.wf
  | .ruleCounters m => m.wf
  | .recircConfig m => m.wf
  | .flowRead m => m.wf
  | .flowWrite m => m.wf
  | .flowExport m => m.wf
  | .flowExportDone hurt => hurt.wf
  | .flowStats m => m.wf
  | .flowDelete m => m.wf
  | .flowPin m => m.wf
  | .flowClassSet m => m.wf
  | .flowAgeConfig m => m.wf
  | .flowNewLimit m => m.wf
  | .flowHashSeed m => m.wf
  | .sweepBucketVisit hurt => hurt.wf
  | .bindingVisit => true
  | .deferredBlockRelease => true
  | .scrubRead hurt => hurt.wf
  | .faultHistoryExpire => true
  | .flowSetup slot hurt => decide (slot < 4096) && hurt.wf
  | .bindingRepair hurt => hurt.wf
  | .natPoolSet m => m.wf
  | .natPoolRead m => m.wf
  | .natBlockConfig m => m.wf
  | .natBindingRead m => m.wf
  | .natBindingRelease m => m.wf
  | .balGroupSet m => m.wf
  | .balMemberSet m => m.wf
  | .balMemberDrain m => m.wf
  | .balGroupRead m => m.wf
  | .subWrite m => m.wf
  | .subRead m => m.wf
  | .subPolicySet m => m.wf
  | .actionWrite m => m.wf
  | .actionRead m => m.wf
  | .subCounterFlush hurt => hurt.wf
  | .bridgeEntrySet m => m.wf
  | .bridgeEntryDelete m => m.wf
  | .bulkLearnedRemoval => true
  | .bridgeRead m => m.wf
  | .bridgeDomainSet m => m.wf
  | .learnLimitSet m => m.wf
  | .learnConfig m => m.wf
  | .routeLoad m => m.wf
  | .routeBuildComplete hurt => hurt.wf
  | .routeRead m => m.wf
  | .nexthopSet m => m.wf
  | .nexthopRead m => m.wf
  | .queueConfig m => m.wf
  | .shaperNodeSet m => m.wf
  | .shaperNodeRead m => m.wf
  | .schedConfig m => m.wf
  | .mirrorSet m => m.wf
  | .hostringSet m => m.wf
  | .bufferStatus m => m.wf
  | .bufferThreshold m => m.wf
  | .taskDispatch => true
  | .taskPreempt miner _ wait _ => decide (miner < 16 && wait < 64)
  | .taskComplete miner _ wait _ => decide (miner < 16 && wait < 64)
  | .taskPark miner _ _ => decide (miner < 16)
  | .taskPromote => true
  | .minerFault miner _ _ wait => decide (miner < 16 && wait < 64)
  | .minerStatus m => m.wf
  | .minerTaskLevel m => m.wf
  | .minerTraceRead m => m.wf
  | .minerTraceConfig m => m.wf
  | .writeBatchIssue channel => decide (channel < 32)
  | .refreshBanks => true
  | .stackTempRead _ _ => true
  | .channelLost channel => decide (channel < 32)
  | .freeTileClear => true
  | .memPlanRead m => m.wf
  | .memRegionGrow m => m.wf
  | .memStatus m => m.wf
  | .memRetiredRead m => m.wf
  | .seamCreate m => m.wf
  | .seamGroup m => m.wf
  | .seamRead m => m.wf
  | .seamFill m => m.wf
  | .seamCompare m => m.wf
  | .seamCheck m => m.wf
  | .seamJobComplete job hurt => decide (job < 8) && hurt.wf
  | .seamRetire m => m.wf
  | .seamSwapRoot m => m.wf
  | .seamInfo m => m.wf
  | .secureMemPlan m => m.wf
  | .timeRead m => m.wf
  | .timeStep m => m.wf
  | .timeIncSet m => m.wf
  | .timeJumpLimit m => m.wf
  | .timePpsConfig m => m.wf
  | .timePtpConfig m => m.wf
  | .timeCal m => m.wf
  | .timeRclkConfig m => m.wf
  | .timeSnap _ => true
  | .timeIncLoWrite _ => true
  | .ppsInCapture _ => true
  | .ppsOutEdge => true
  | .rclkResume => true
  | .telemetryAssemble => true
  | .tailingsDrain => true
  | .subIntervalRecord => true
  | .telemFlushExpire _ => true
  | .templateIntervalExpire => true
  | .collectorRetry => true
  | .counterDump => true
  | .bwwinEnd port => decide (port < 26)
  | .telemCollectorSet m => m.wf
  | .telemEnable m => m.wf
  | .telemStatus m => m.wf
  | .counterProgram m => m.wf
  | .counterRead m => m.wf
  | .counterDumpConfig m => m.wf
  | .bwwinConfig m => m.wf
  | .bwwinRead m => m.wf
  | .dmaChTailWrite _ channel _ => decide (channel < 16)
  | .dmaChEnable _ channel _ => decide (channel < 16)
  | .dmaChRestart _ channel => decide (channel < 16)
  | .secDmaOwnerWrite _ _ => true
  | .errlogSelectWrite _ _ => true
  | .dmaDescriptorStart channel desc => decide (channel < 16) && desc.length == 32
  | .dmaUnitConfirm channel _ => decide (channel < 16)
  | .dmaDescriptorEnd channel => decide (channel < 16)
  | .dmaBusError _ channel _ => decide (channel < 16)
  | .snapshotHoldExpire desc => decide (desc < 65536)
  | .dmaResume m => m.wf
  | .dmaAbandon m => m.wf
  | .dmaStatus m => m.wf
  | .heartbeatSend => true
  | .heartbeatReceive _ => true
  | .peerLost => true
  | .joinRequest _ => true
  | .pairPrepare _ => true
  | .pairCommit _ => true
  | .journalApply _ tile _ => decide (tile < 268435456)
  | .rejoinComplete _ => true
  | .pairJoin m => m.wf
  | .pairLeave m => m.wf
  | .pairStatus m => m.wf
  | .pairRejoin m => m.wf
  | .pairConfig m => m.wf
  | .errlogRead m => m.wf
  | .errlogClear m => m.wf
  | .errlogClassRead m => m.wf
  | .errlogStatus m => m.wf
  | .droopNFall => true
  | .droopNRise => true
  | .droopnDelayExpire => true
  | .monitorUndervoltage monitor _ => decide (monitor < 4)
  | .droopStageFall => true
  | .dieSensorRead _ => true
  | .securePowerProfile m => m.wf
  | .powerStatus m => m.wf
  | .clockStatus m => m.wf
  | .thermalRead m => m.wf
  | .droopConfig m => m.wf
  | .secureConfigLock m => m.wf
  | .secureIdentity m => m.wf
  | .secureAttest m => m.wf
  | .gpio3Toggle => true
  | .registerRead _ off size => decide (off < 135168) && [1, 2, 4, 8].contains size
  | .configSpaceWrite _ _ _ _ => true
  | .dmaBurst hurt => hurt.wf
  | .dmaReadCompletion channel _ _ => decide (channel < 16)
  | .ppsOutFall => true
  | .peerMailboxFlags _ _ _ => true
  | .pairReady => true
  | .pairApplyConfirm => true
  | .rejoinRequest _ => true

end Sys2Proof
end

