-- ==== Sys2Proof/Tests/Slice0.lean ====
section
/-!
SUPPORT. Small checks of the model on concrete states: ill-formed operands are refused, the spec's worked examples, and, for each
obligation, a state and operands that meet the hypotheses of each of its clauses.
-/
open Sys2Proof Sys2Proof.Machine Sys2Proof.Claims
namespace Sys2Proof.Tests
set_option Elab.async false

/-- `n` bytes that are zero but for those listed. -/
def par (n : Nat) (l : List (Nat × Nat)) : Bytes := (List.range n).map fun i => BitVec.ofNat 8 ((l.lookup i).getD 0)
/-- A packet of HOST_S with those parameter bytes. -/
def pk (n : Nat) (l : List (Nat × Nat)) (flags : Byte := 0) : Msg :=
  { ch := 1, tag := 1, len := BitVec.ofNat 16 n, flags := flags, origin := 0, guard := 0xFFFF, resv := zeros 6, params := par n l }
/-- The device at reset but for its state, no refresh in progress. -/
def inState (d : DevState) : State := { State.reset with now := 1000, life := { State.reset.life with state := d } }
/-- In SERVICE, with every table empty. -/
def svc : State := inState .service
/-- In SERVICE, with the default plan of an HA device. -/
def live : State := { svc.buildRegions (defaultPlan false) with rule := { svc.rule with storeFree := [(0, 1000)] } }
def draining : State := { svc with drain := some { epoch := 0, since := 0, tables := Staged.reset } }
/-- A rule table with one rule, in the current version and the shadow. -/
def aTable : RuleTable :=
  { slot := 0, passMask := 1, segments := [(0, 1)], maxRules := 4, maxMasks := 4, rules := [zeros 120], miss := zeros 24, source := none, store := [], root := 0, build := 0 }
def withTable (v : Staged) : Staged := { v with rule := { v.rule with tables := [(0, aTable)] } }
def ruled : State := { live with cur := withTable live.cur, shadow := withTable live.shadow }
def aFlow : HotEntry :=
  { key := zeros 40, action := 0xFFFFFF, packets := 1, octets := 64, lastSeen := 0, firstSeen := 0, tcp := 0, member := 0xFF, control := 0,
    sampling := 0, w := 0, dirty := true, held := false, wbPending := false, home := 0 }
/-- A flow of the all-zero key in the hot tier. -/
def flowed : State := { live with flow := { live.flow with hot := [(live.hotSet (zeros 40) * 8, aFlow)] } }
def aSeam (f : Nat) : Seam := { body := .run f 16, host := true, owns := true }
def seamed : State := { live with dram := { live.dram with dir := { live.dram.dir with used := live.dram.dir.used ++ [(7, aSeam 0x9600000)], fresh := 8 } } }
/-- A task in the given state. -/
def aTask (t : Nat) (w : Work) (st : TaskState) : Task :=
  { type := t, state := st, work := w, address := 0x400, wait := 0, stack := [], since := 0, billed := 0, stamp := 0 }
/-- Miner 0 runs `w` in slot 40. -/
def atMiner (t : Nat) (w : Work) (s : State) : State :=
  { s with miners := { s.miners with
      miners := s.miners.miners.set 0 { Miner.reset with slot := some 40 }
      tasks := [(40, aTask t w (.running 0))] } }
def seamed2 : State := { seamed with dram := { seamed.dram with dir := { seamed.dram.dir with used := seamed.dram.dir.used ++ [(8, aSeam 0x9600010)], fresh := 9 } } }
def withNat (f : NatCfg → NatCfg) (s : State) : State :=
  { s with cur := { s.cur with nat := f s.cur.nat }, shadow := { s.shadow with nat := f s.shadow.nat } }
def pooled : State := withNat (fun c => { c with pools := [(0, par 32 [(6, 64), (9, 4), (10, 63), (11, 4), (20, 1), (24, 1)])] }) live
def grouped : State := withNat (fun c => { c with groups := [(0, { members := [(3, (0, 1, false))], slots := [], seam := none })] }) svc
def subbed : State := withNat (fun c => { c with subs := [(0, par 60 [(0, 128)])] }) live
def routed : State := { svc with shadow := { svc.shadow with fwd := { svc.shadow.fwd with routes := [(recordKey (par 28 [(0, 2), (1, 4)]), 0)] } } }

/-! How a hypothesis that names a result is met: the name is what the result is. -/
theorem someOf {α : Type} {x : Option α} (h : x.isSome = true) : x = some (x.get h) := (Option.some_get h).symm
theorem somePair {α β : Type} {x : Option (α × β)} (h : x.isSome = true) : x = some ((x.get h).1, (x.get h).2) := someOf h
theorem pairOf {α β : Type} {x : α × β} : x = (x.1, x.2) := rfl
theorem tripleOf {α β γ : Type} {x : α × β × γ} : x = (x.1, x.2.1, x.2.2) := rfl
def hotPart : Newest → Option (Nat × HotEntry) | .hot w e => some (w, e) | _ => none
theorem hotOf {x : Newest × State} (h : (hotPart x.1).isSome = true) :
    x = (.hot ((hotPart x.1).get h).1 ((hotPart x.1).get h).2, x.2) := by
  obtain ⟨a, b⟩ := x; cases a <;> first | rfl | cases h
def absentPart : Newest → Option Bool | .absent b => some b | _ => none
theorem absentOf {x : Newest × State} (h : (absentPart x.1).isSome = true) : x = (.absent ((absentPart x.1).get h), x.2) := by
  obtain ⟨a, b⟩ := x; cases a <;> first | rfl | cases h
def freePart : Place → Option Nat | .free t => some t | _ => none
theorem freeOf {x : Place × State} (h : (freePart x.1).isSome = true) : x = (.free ((freePart x.1).get h), x.2) := by
  obtain ⟨a, b⟩ := x; cases a <;> first | rfl | cases h
theorem okOf {ε α : Type} {x : Except ε α} (h : x.toOption.isSome = true) : x = .ok (x.toOption.get h) := by
  cases x <;> first | rfl | cases h
theorem spanOf {p : Nat → Prop} (h : ∀ i, i < 12 → 4 ≤ i → p i) : ∀ i, 4 ≤ i → i ≤ 11 → p i := fun i a _ => h i (by omega) a
/-- A block of subscriber 0 with one binding. -/
def bound : State :=
  { pooled with nat := { pooled.nat with blocks := [(0, { empty := false, desc := 0, sub := 0, emptySince := 0, base := 0 })] }
                dram := { pooled.dram with wq := [(pooled.entryTile 0, par 60 [(0, 2)])] } }
theorem joinsOf (a b : JoinFacts) (h : freshInit a = true) (g : freshInit b = true) (h1 : a.stepping = b.stepping)
    (h2 : a.classHB = b.classHB) (h3 : a.digest = b.digest) (h4 : a.strapFault = false) (h5 : b.strapFault = false)
    (h6 : b.hostSeams = false) (h7 : a.thisPrimary = true) : joinFails a b = none := by
  simp [joinFails, sameBuild, joinRole, *]
theorem rejoinsOf (a b : JoinFacts) (h : b.devState = 3) (h1 : a.stepping = b.stepping) (h2 : a.classHB = b.classHB)
    (h3 : a.digest = b.digest) (h4 : a.strapFault = false) (h5 : b.strapFault = false) (h6 : b.hostSeams = false) :
    rejoinFails a b = none := by
  simp [rejoinFails, sameBuild, *]


/-- The tiles where the all-zero key may live, waiting in the write queue. -/
def placed : State := { live with dram := { live.dram with wq := (List.range 16).map fun k => (54614496 + k, invalidPayload) } }
/-- The tiles of bucket 0 in the write queue. -/
def swept : State := { live with dram := { live.dram with wq := (List.range 8).map fun k => (k, invalidPayload) } }

/-! States for the events. -/
def linked : State := { svc with host := { svc.host with linkUp := true } }
/-- A device whose DMA channel 0 is `c`, its function able to issue requests. -/
def dmaOn (c : DmaChannel) : State :=
  { seamed with host := { seamed.host with linkUp := true, pf0 := { seamed.host.pf0 with busMaster := true, msixEnable := true }, channels := seamed.host.channels.set 0 c } }
/-- One unit filled, stored or loaded. -/
def fillDesc : Bytes := par 32 [(8, 7), (16, 1), (19, 1)]
def loadDesc : Bytes := par 32 [(8, 7), (16, 1), (19, 16)]
def aReply : Reply := { opcode := 0, tag := 0, status := 0, epoch := 0, detail := 0, params := [] }
/-- Port `p` enabled in a mode; ports 24 and 25 are the peer lanes. -/
def ported (p : Nat) : State :=
  { svc with cur := { svc.cur with port := { svc.cur.port with ports := svc.cur.port.ports.set p { PortCfg.reset with mode := 1, enable := true, maxFrame := 1518, cutThrough := true } } } }
def upPort (p : Nat) : State := { ported p with ports := (ported p).ports.set p { Port.reset with link := .up } }
def cutPort : State := upPort 23
/-- Port 25 up in the peer-to-peer PTP mode. -/
def p2p : State :=
  { upPort 25 with cur := { (upPort 25).cur with ptp := { PtpCfg.reset with ports := PtpCfg.reset.ports.set 25 { mode := 2, rxTs := false, transport := 0, logInt := 0 } } } }
/-- A Pdelay_Req over Ethernet. -/
def pdelayFrame : Bytes := par 68 [(12, 0x88), (13, 0xF7), (14, 2), (15, 2), (17, 54)]
def badFrame : FrameIn := { bytes := zeros 60, fcsOk := false, corrected := 0, uncorrected := 0, whole := true, ended := true }
def badList : State :=
  { atMiner 5 (.ruleBuild 0) ruled with
    rule := { ruled.rule with builds := ruled.rule.builds.set 0 { Build.reset with state := .running, profile := some aTable, list := some 7 } }
    dram := { seamed.dram with dir := { seamed.dram.dir with used := [(7, { body := .run 0x9600000 1, host := true, owns := true })] } } }
def aPkt : Pkt := { Pkt.blank with id := 1, bytes := zeros 60 }
def aParked : Parked := { pkt := aPkt, key := zeros 40, ready := true, fallback := false, stateless := false, gave := [] }
def aRequest (st : Stage) : Request := { key := zeros 40, pipe := false, stage := st, claim := some (live.regionTile 0 0), tile := none, issued := false }
def asking (st : Stage) : State := { live with flow := { live.flow with requests := [aRequest st] } }
/-- A task in slot 40, ready where listed. -/
def tasked (w : Work) (ready : List Nat) (t : Nat := 1) : State :=
  { live with miners := { live.miners with tasks := [(40, aTask t w .ready)], ready := live.miners.ready.set 5 ready } }
/-- Flow set-up of a packet whose rule binds action entry `i`. -/
def bindPkt (i : Nat) : Pkt := { aPkt with rule := { aPkt.rule with binding := some (0, 0, i, 0) } }
def setting (i : Nat) : State :=
  { atMiner 1 (.setup (bindPkt i) (zeros 40)) live with
    flow := (asking .setup).flow, nat := bound.nat, dram := bound.dram, cur := bound.cur, shadow := bound.shadow }
/-- Miner 0 runs a task in slot 40, asked to yield to slot 50. -/
def mining (w : Work) (t : Nat) : State :=
  { svc with miners := { svc.miners with
      miners := svc.miners.miners.set 0 { Miner.reset with slot := some 40, yield := some 50 }
      tasks := [(40, aTask t w (.running 0))] } }
/-- The same, its request answered by another miner. -/
def answered : State :=
  let s := mining .standing 7
  { s with miners := { s.miners with miners := s.miners.miners.set 0 { Miner.reset with slot := some 40, yield := some 50, answered := true } } }
/-- A heartbeat of a device that is in no pair, on lane 24. -/
def aBeat : Heartbeat :=
  { west := false, role := 0, pairState := 0, devState := 5, epoch := 0, commitSeq := 0, journal := 0, alive0 := true, alive1 := true,
    relinquish := false, cause := 0, draining := false, leaving := false, facts := svc.facts false }
def aQueued : Queued := { pkt := aPkt, len := 64, cells := 1, sec := 0, ns := 0, since := 0, record := none }
def queued (q : Nat) (t : Nat) : State := { { upPort 25 with now := t }.setQueue q { QueueLive.empty with items := [aQueued] } with life := svc.life }
/-- Ring 7 enabled on a request channel that may write. -/
def ringed : State :=
  ({ dmaOn { DmaChannel.reset with request := true, enable := true } with
      buf := { svc.buf with rings := svc.buf.rings.set 7 { HostRing.reset with enabled := true, j := 7, k := 8 } } }).setQueue (ringQueue 7)
    { QueueLive.empty with items := [aQueued] }
def fullRing : State := { ringed with buf := { ringed.buf with rings := ringed.buf.rings.set 7 { ringed.ring 7 with produced := 256 } } }
def aLearned : Learned := { domain := 0, mac := 1, port := 1, hit := false, portTime := 0, refreshed := 0 }
def aJob : Job := { state := .running, op := .fill, a := 7, b := none, pattern := zeros 60, done := 0, bad := 0, first := none, start := 0, elapsedMs := 0 }
/-- Template 256 goes to the ring. -/
def collecting : State := { live with telem := { live.telem with dests := [(true, false), (true, false), (true, false), (true, false)], ring := { HostRing.reset with enabled := true } } }
def tailed : State := { collecting with flow := { collecting.flow with tailings := [⟨zeros 60, zeros 60⟩] } }
/-- A flow long idle, whose end finds the write queue full. -/
def sweepStuck : State :=
  { flowed with
    time := { flowed.time with flow := 0x20000000000 }
    flow := { flowed.flow with hot := [(flowed.hotSet (zeros 40) * 8, { aFlow with home := flowed.regionTile 0 0 })] }
    dram := { flowed.dram with wq := (List.range 1024).map fun i => (if i < 7 then i + 1 else 0x9000000 + i, invalidPayload) } }
/-- A route build of the one-tile list 7. -/
def routing : State :=
  { atMiner 5 .routeBuild seamed with
    fwd := { seamed.fwd with build := { seamed.fwd.build with state := .running, list := some 7, count := 1 } }
    dram := { seamed.dram with wq := [(0x9600000, par 60 [(0, 1), (1, 4)])], dir := { seamed.dram.dir with used := [(7, { body := .run 0x9600000 1, host := true, owns := true })] } } }
/-- Port 23 negotiates and has met no common mode. -/
def negotiating : State :=
  { svc with
    now := 1000000000
    cur := { svc.cur with port := { svc.cur.port with ports := svc.cur.port.ports.set 23 { PortCfg.reset with mode := 1, enable := true, an := true } } }
    ports := svc.ports.set 23 { svc.port 23 with link := .anNoCommon } }
/-- A build of rule table 0 from an empty list, its task on a miner. -/
def building : State :=
  { atMiner 5 (.ruleBuild 0) live with
    rule := { live.rule with builds := live.rule.builds.set 0 { Build.reset with state := .running, profile := some { aTable with rules := [] } } } }
/-- The same from the list 7 of one rule. -/
def listed : State :=
  { badList with
    dram := { badList.dram with
      wq := [(0x9600000, par 60 [(0, 2), (6, 128)]), (0x9600001, par 60 [(31, 255), (36, 255), (37, 255), (38, 255)])]
      dir := { badList.dram.dir with used := [(7, { body := .run 0x9600000 2, host := true, owns := true })] } } }
/-- Rule-store tile 9 of table 0 is broken and its task on a miner. -/
def mending (source : Option Nat) : State :=
  { atMiner 5 (.ruleRepair 0) live with
    cur := { live.cur with rule := { live.cur.rule with tables := [(0, { aTable with store := [(9, 1)], source := source })] } }
    rule := { live.rule with storeBad := [9] }
    dram := listed.dram }
/-- Next hop 0 is broken and has a copy. -/
def unmended : State :=
  { atMiner 9 .fwdRepair live with
    fwd := { live.fwd with broken := [.nexthop 0 (zeros 32)], copies := [(.nexthop 0 (zeros 32), 0x9600000)] } }
/-- Two first packets whose flows may live in the same bucket. -/
def contending : State :=
  { atMiner 1 (.setup aPkt (zeros 40)) placed with
    flow := { live.flow with requests := [{ aRequest .setup with claim := none }, { aRequest .place with key := 1 :: zeros 39, claim := some 54614496 }] } }
def syncing : State := { svc with pair := { svc.pair with role := .primary, state := .syncing } }
def dumping : State :=
  { dmaOn { DmaChannel.reset with request := true, enable := true } with
    telem := { svc.telem with dumpRing := { HostRing.reset with enabled := true, j := 4, k := 8 }, dumpPeriod := 1 } }
/-- A rule of table 0 that matches, and one list record. -/
def interval : State :=
  { subbed with now := 1000000000, telem := { collecting.telem with interval := 1 } }
def errPart {ε α : Type} : Except ε α → Option ε | .error e => some e | .ok _ => none
theorem errOf {ε α β : Type} {x : Except ε α × β} (h : (errPart x.1).isSome = true) : x = (.error ((errPart x.1).get h), x.2) := by
  obtain ⟨a, _⟩ := x; cases a <;> first | rfl | cases h
theorem errPairOf {α β γ : Type} {x : Except (α × β) γ} (h : (errPart x).isSome = true) :
    x = .error (((errPart x).get h).1, ((errPart x).get h).2) := by
  cases x <;> first | rfl | cases h
theorem okFst {ε α β : Type} {x : Except ε α × β} (h : x.1.toOption.isSome = true) : x = (.ok (x.1.toOption.get h), x.2) := by
  obtain ⟨a, _⟩ := x; cases a <;> first | rfl | cases h
/-- What `some (a, b, c)`, a list that is not empty and a pair with one part known are. -/
theorem sweepOf {b : Bool} {α : Type} {x : Bool × α} (h : x.1 = b) : x = (b, x.2) := by obtain ⟨_, _⟩ := x; cases h; rfl
theorem tripleSome {α β γ : Type} {x : Option (α × β × γ)} (h : x.isSome = true) : x = some ((x.get h).1, (x.get h).2.1, (x.get h).2.2) := someOf h
theorem consOf {α : Type} {x : List α} (h : x ≠ []) : x = x.head h :: x.tail := by cases x with | nil => exact absurd rfl h | cons a l => rfl
theorem pairFalse {b : Bool} {α : Type} {x : α × Bool} (h : x.2 = b) : x = (x.1, b) := by obtain ⟨_, _⟩ := x; cases h; rfl
theorem somePairFst {α β γ : Type} {x : Option (α × β) × γ} (h : x.1.isSome = true) : x = (some ((x.1.get h).1, (x.1.get h).2), x.2) := by
  obtain ⟨a, _⟩ := x; cases a <;> first | rfl | cases h
theorem nonePair {α β : Type} {x : Option α × β} (h : x.1.isNone = true) : x = (none, x.2) := by
  obtain ⟨a, _⟩ := x; cases a <;> first | rfl | cases h
theorem someFst {α β : Type} {x : Option α × β} (h : x.1.isSome = true) : x = (some (x.1.get h), x.2) := by
  obtain ⟨a, _⟩ := x; cases a <;> first | rfl | cases h

/-! Ill-formed operands are refused (WellFormed). -/
theorem test_msg_channel_refused : ({ pk 0 [] with ch := 4 } : Msg).wf = false := by decide
theorem test_msg_reserved_refused : ({ pk 0 [] with resv := zeros 5 } : Msg).wf = false := by decide
theorem test_msg_length_refused : ({ pk 0 [] with params := List.replicate 4081 0 } : Msg).wf = false := by decide +kernel
theorem test_msg_accepted : (Instr.deviceNop (pk 8 [])).wf = true := by decide +kernel
theorem test_nop_ill_formed : (Instr.deviceNop { pk 0 [] with ch := 4 }).wf = false := by decide
theorem test_upset_tile_refused : Upsets.wf { tiles := [268435456] } = false := by decide
theorem test_upset_hot_refused : Upsets.wf { hot := [1048576] } = false := by decide
theorem test_upset_home_refused : Upsets.wf { home := [1048576] } = false := by decide
theorem test_upset_cache_refused : Upsets.wf { cache := [65536] } = false := by decide
theorem test_upset_store_refused : Upsets.wf { store := [196608] } = false := by decide
theorem test_upset_forwarding_refused : Upsets.wf { fwd := [(0, 0)] } = false := by decide
theorem test_upset_buffer_refused : Upsets.wf { buffer := [(3, 0)] } = false := by decide
theorem test_frame_refused : FrameIn.wf { badFrame with bytes := List.replicate 16385 0 } = false := by decide +kernel
theorem test_channel_refused : (Instr.ringDoorbell { ch := 4, byte := 1, pec := true }).wf = false := by decide
theorem test_offset_refused : (Instr.mbxInboundWrite 0 4096 0).wf = false := by decide
theorem test_register_refused : (Instr.registerRead true 135168).wf = false := by decide
theorem test_port_refused : (Instr.pdelayReqSend 26).wf = false := by decide
theorem test_dma_channel_refused : (Instr.dmaDescriptorEnd 16).wf = false := by decide
theorem test_descriptor_refused : (Instr.dmaDescriptorStart 0 (zeros 31)).wf = false := by decide

/-! The spec's worked examples. -/
/-- The CRC-32C of R16 over the nine digits, its published check value. -/
theorem test_crc32c : crc32c [0x31, 0x32, 0x33, 0x34, 0x35, 0x36, 0x37, 0x38, 0x39] = 0xE3069283 := by decide +kernel
/-- Spec 06, Table 6.21: write-backs 2 and 3. -/
theorem test_compress_rounds : compress 2225003 = 0x187CDB ∧ expand 0x187CDB = 2225004 := by decide +kernel
theorem test_compress_octets : compress 10884566272 = 0x7A2315 ∧ expand 0x7A2315 = 10884562944 := by decide +kernel
/-- Spec 12: tile 0x0A_5C13 lies in stack 1, channel 0. -/
theorem test_tile_channel : tileChannel 0x0A5C13 = 16 := by decide
/-- Spec 13, worked correction: the UDP checksum after the correctionField is rewritten. -/
theorem test_checksum : update16 0x3A5B [0x0120, 0x8000] [0x05F0, 0xDC00] = 0xD98A := by decide +kernel
def ofNats (l : List Nat) : Bytes := l.map (BitVec.ofNat 8)
/-- Spec 02: the commit of the example, laid out as the packet that HOST_S writes. -/
def commitWire : Bytes := ofNats [2, 2, 7, 0, 8, 0, 0, 0, 0x41, 0, 0, 0, 0, 0, 0, 0, 3, 0, 0, 0, 0, 0, 0, 0]
theorem test_commit_packet :
    parsePacket 1 (fit 4096 commitWire) =
      (0x0202, { ch := 1, tag := 7, len := 8, flags := 0, origin := 0, guard := 0x41, resv := zeros 6, params := ofNats [3, 0, 0, 0, 0, 0, 0, 0] }) := by
  decide +kernel
/-- Epoch 0x0041 with three changes staged. -/
def staged3 : State := { live with epoch := { live.epoch with current := 0x41, changes := 3 } }
/-- Spec 02: the reply header of the example, and new epoch, previous epoch and change count behind it. -/
theorem test_commit_reply :
    (match Sys2Proof.Machine.exec (.epochCommit (parsePacket 1 (fit 4096 commitWire)).2) staged3 with
     | .next t => (t.sec.outStatus, t.sec.outbound.take 24, t.epoch.current)
     | _ => (false, [], 0)) =
    (true, ofNats [2, 2, 7, 0, 0x14, 0, 0, 0, 0x42, 0, 0, 0, 0, 0, 0, 0, 0x42, 0, 0x41, 0, 3, 0, 0, 0], 0x42) := by decide +kernel
/-- Pool 2 and subscriber 4,321 of spec 08, at the time of the example of spec 14. -/
def allocated : State :=
  let v := { svc.cur with nat := { svc.cur.nat with
    pools := [(2, par 32 [(1, 2), (6, 0), (7, 2), (8, 0), (9, 4), (10, 255), (11, 255), (13, 64), (18, 64), (20, 128), (21, 31), (24, 64)])]
    addrs := [(2 * 4096 + 33, par 32 [(4, 33), (12, 203), (13, 0), (14, 113), (15, 33)])]
    subs := [(4321, par 60 [(0, 128), (4, 100), (5, 64), (6, 12), (7, 34)])] } }
  { svc with
    cur := v
    time := { svc.time with sec := 1700000037, ns := 250000000 }
    telem := { svc.telem with collector := (svc.telem.collector.set 48 7).set 54 37, collectorPath := { svc.telem.collectorPath with sequence := 1048576 } } }
/-- Spec 14: the message that carries the block allocation of Table 8.7, step 2. -/
theorem test_ipfix_block_record :
    allocated.ipfix false 258 (allocated.blockRecord allocated.cur 20547 { empty := false, desc := 0, sub := 4321, emptySince := 0, base := 0x545000 } true 0) =
      ofNats [0x00, 0x0A, 0x00, 0x39, 0x65, 0x53, 0xF1, 0x00, 0x00, 0x10, 0x00, 0x00, 0x00, 0x00, 0x00, 0x07,
        0x01, 0x02, 0x00, 0x29,
        0x00, 0x00, 0x01, 0x8B, 0xCF, 0xE5, 0x68, 0xFA, 0x0D, 0x64, 0x40, 0x0C, 0x22, 0xCB, 0x00, 0x71, 0x21,
        0x0E, 0x00, 0x0F, 0xFF, 0x00, 0x01, 0x02, 0x00, 0x00, 0x00, 0x00, 0x00, 0x10, 0xE1, 0x02, 0x00, 0x00,
        0x50, 0x43, 0x00] := by decide +kernel

/-- A node record (Table 4.4): control bits, L3 kind, select bit and width, length, container base and field, extractions and transitions. -/
def node (ctl l3 sel w len : Nat) (con : List (Nat × Nat)) (ext : List (Nat × Nat × Nat)) (tr : List (Nat × Nat)) : Bytes :=
  par 224 ([(1, ctl), (3, l3), (4, sel), (6, w), (7, tr.length), (8, len), (25, 0x80)] ++ con ++
    (ext.zipIdx.flatMap fun e => [(32 + 4 * e.2, e.1.1), (34 + 4 * e.2, e.1.2.1), (35 + 4 * e.2, e.1.2.2)]) ++
    (tr.zipIdx.flatMap fun t => [(64 + 10 * t.2, t.1.1 % 256), (65 + 10 * t.2, t.1.1 / 256), (68 + 10 * t.2, 0xFF),
      (69 + 10 * t.2, if w = 16 then 0xFF else 0), (72 + 10 * t.2, t.1.2)]))
/-- Nodes 0-5 and 8 of Table 4.12. -/
def graph : ParseGraph :=
  { ParseGraph.reset with nodes := [
    (0, node 0x80 0 96 16 14 [] [(0, 6, 8), (6, 6, 14), (12, 2, 20)] [(0x88A8, 1), (0x8100, 2), (0x8864, 3), (0x86DD, 4), (0x0800, 7)]),
    (1, node 0x80 0 16 16 4 [] [(0, 2, 22), (2, 2, 20)] [(0x8100, 2), (0x8864, 3), (0x86DD, 4), (0x0800, 7)]),
    (2, node 0x80 0 16 16 4 [] [(0, 2, 24), (2, 2, 20)] [(0x8864, 3), (0x86DD, 4), (0x0800, 7)]),
    (3, node 0x84 0 48 16 8 [(16, 6), (18, 32), (20, 16), (21, 1)] [(2, 2, 26)] [(0x0057, 4), (0x0021, 7)]),
    (4, node 0x84 0x20 48 8 40 [(16, 40), (18, 32), (20, 16), (21, 1)] [(8, 16, 0xA0), (24, 16, 0xB0), (6, 1, 0xC4), (7, 1, 0xC7)] [(17, 5), (6, 6), (44, 8)]),
    (5, node 0x84 0 16 16 8 [(18, 32), (20, 16), (21, 1)] [(0, 2, 0xC0), (2, 2, 0xC2)] [(4789, 9)])] }
/-- Frame A: two tags, PPPoE, IPv6 and UDP to port 53. -/
def frameA : Bytes :=
  par 110 [(12, 0x88), (13, 0xA8), (15, 100), (16, 0x81), (18, 0x07), (19, 0xD1), (20, 0x88), (21, 0x64), (22, 0x11), (24, 0x1A), (25, 0x2B), (27, 82), (29, 0x57),
    (30, 0x60), (35, 40), (36, 17), (37, 64), (53, 1), (69, 2), (70, 0xC3), (73, 53), (75, 40)]
/-- Table 4.13: 6 nodes, 78 bytes parsed, no flags. -/
theorem test_walk_frame_a :
    ((walkPacket graph frameA false none 5).map fun w => [w.walk.done, w.walk.parsed, w.walk.flags]) = some [6, 78, 0] := by decide +kernel
/-- Table 4.13: the tags and the PPPoE session at bytes 22-27; the ports and the protocol at 64-68. -/
theorem test_walk_frame_a_vector :
    ((walkPacket graph frameA false none 5).map fun w => slice w.walk.kv 22 6 ++ slice w.walk.kv 64 5) =
    some (ofNats [0, 100, 0x07, 0xD1, 0x1A, 0x2B, 0xC3, 0, 0, 53, 17]) := by decide +kernel
/-- R119: a PPPoE length of 74 makes node 4's claim of 110 pass the bound 102 that node 3 set: LEN_MISMATCH, and the frame is discarded. -/
theorem test_walk_mismatch : ((walkPacket graph (frameA.set 27 74) false none 5).map (·.dropped)) = some true := by decide +kernel

/-! One step on a small state. -/
/-- R53: taking a NOP from HOST_S clears PENDING and raises TAKEN. -/
def nopped : State := { linked with sec := { linked.sec with pending := true, inbound := [(0, 1), (1, 1)] }, pending := [.messageTake] }
theorem test_take_raises_taken :
    (match step nopped with
     | .next t => (t.sec.pending, t.sec.taken, t.pending)
     | _ => (true, false, [])) = (false, true, []) := by decide +kernel
theorem test_reset_memory : Memory.wf State.reset.dram.mem = true := by decide
theorem test_no_word_spells_a_command : decodeTableWord 32 0 = none := by decide

/-! For each obligation, a state and operands that meet the hypotheses of each clause. -/
/-- The hypotheses of IdleStepPassesOneCycle can be met. -/
theorem test_idleStepPassesOneCycle :
    ∃ (s : State), s.pending = [] :=
  ⟨svc, by decide +kernel⟩

/-- The hypotheses of ResetEventsEnterReset can be met, clauses 1 to 5. -/
theorem test_resetEventsEnterReset_1 :
    (∃ (s : State), (s.life.state = .off ∨ s.life.state = .reset)) ∧
    (∃ (s : State), s.life.state ≠ .off) ∧
    (∃ (s : State), s.life.state ≠ .off) ∧
    (∃ (s : State), s.power.rootLock = true) ∧
    (∃ (low : _), low < 100) :=
  ⟨⟨State.reset, by decide +kernel⟩,
   ⟨svc, by decide +kernel⟩,
   ⟨svc, by decide +kernel⟩,
   ⟨{ svc with power := { svc.power with rootLock := true } }, by decide +kernel⟩,
   ⟨99, by decide +kernel⟩⟩

/-- The hypotheses of ResetEventsEnterReset can be met, clauses 6 to 6. -/
theorem test_resetEventsEnterReset_2 :
    ∃ (s : State) (low : _), s.life.state ≠ .off ∧ 100 ≤ low ∧ low < 1000 :=
  ⟨svc, 100, by decide +kernel⟩

/-- The hypotheses of RiseOfResetNBeginsBoot can be met. -/
theorem test_riseOfResetNBeginsBoot :
    (∃ (s : State), s.pins.resetN = false ∧ s.life.state ≠ .off) ∧
    (∃ (s : State) (highFor : _), s.pins.resetN = false ∧ s.life.state ≠ .off ∧ highFor < 1000) ∧
    (∃ (s : State), s.pins.resetN = false ∧ s.life.state ≠ .off) ∧
    (∃ (b : BootFacts) (s : State), s.pins.resetN = false ∧ s.life.state ≠ .off ∧ b.pllOk = false) :=
  ⟨⟨State.reset, by decide +kernel⟩,
   ⟨State.reset, 999, by decide +kernel⟩,
   ⟨State.reset, by decide +kernel⟩,
   ⟨{ pllOk := false, romOk := true, bistOk := true, sramRepaired := 0, hotRetired := [], cacheRetired := [], storeRetired := [], stack0HB := false, stack1HB := false, untrained := [], repaired := [], badRows := [] }, State.reset, by decide +kernel⟩⟩

/-- The hypotheses of BootAndClearingComplete can be met. -/
theorem test_bootAndClearingComplete :
    (∃ (s : State), s.life.state = .boot ∧ s.life.bootFail = none ∧ s.dram.channels.all (·.lost) = false) ∧
    (∃ (s : State), s.life.state = .boot ∧ s.life.bootFail = none ∧ s.dram.channels.all (·.lost) = true) ∧
    (∃ (s : State), s.pins.resetN = true ∧ s.life.state ≠ .off ∧ s.life.state ≠ .reset) ∧
    (∃ (s : State), s.life.clearing = .plan) ∧
    (∃ (s : State), s.life.clearing = .testExit ∧ s.life.state = .test) :=
  ⟨⟨inState .boot, by decide +kernel⟩,
   ⟨{ inState .boot with dram := { State.reset.dram with channels := State.reset.dram.channels.map fun c => { c with lost := true } } }, by decide +kernel⟩,
   ⟨{ svc with pins := { svc.pins with resetN := true } }, by decide +kernel⟩,
   ⟨{ svc with life := { svc.life with clearing := .plan } }, by decide +kernel⟩,
   ⟨{ (inState .test) with life := { (inState .test).life with clearing := .testExit } }, by decide +kernel⟩⟩

/-- The hypotheses of BallEventsComplete can be met, clauses 1 to 5. -/
theorem test_ballEventsComplete_1 :
    (∃ (s : State), s.booted = true ∧ s.pins.gpio3At + 500000000 ≤ s.time.flow.toNat) ∧
    (∃ (s : State), s.life.state ≠ .off) ∧
    (∃ (s : State), s.life.state ≠ .off) ∧
    (∃ (s : State), s.life.state ≠ .off) ∧
    (∃ (s : State), s.life.state ≠ .off ∧ s.pins.resetN = false) :=
  ⟨⟨{ svc with time := { svc.time with flow := 500000000 } }, by decide +kernel⟩,
   ⟨svc, by decide +kernel⟩,
   ⟨svc, by decide +kernel⟩,
   ⟨svc, by decide +kernel⟩,
   ⟨{ svc with pins := { svc.pins with resetN := false } }, by decide +kernel⟩⟩

/-- The hypotheses of BallEventsComplete can be met, clauses 6 to 6. -/
theorem test_ballEventsComplete_2 :
    ∃ (s : State), s.life.state ≠ .off ∧ s.pins.resetN = false :=
  ⟨{ svc with pins := { svc.pins with resetN := false } }, by decide +kernel⟩

/-- The hypotheses of SenderWritesAndRings can be met. -/
theorem test_senderWritesAndRings :
    (∃ (ch : _) (off : _) (s : State), s.reachable ch = true ∧ ch < 3 ∧ off < 4096 ∧ off % 4 = 0 ∧ (s.chan ch).pending = false) ∧
    (∃ (ch : _) (off : _) (s : State), s.reachable ch = true ∧ ch < 3 ∧ off < 4096 ∧ off % 4 = 0 ∧ (s.chan ch).pending = true) ∧
    (∃ (q : ChannelAsk) (s : State), s.reachable q.ch = true ∧ ((q.ch < 2 ∧ q.byte.getLsbD 0 = true) ∨ q.ch = 2 ∨ (q.ch = 3 ∧ q.byte = 1 ∧ q.pec = true)) ∧ (s.chan q.ch).pending = false) ∧
    (∃ (q : ChannelAsk) (s : State), s.reachable q.ch = true ∧ ((q.ch < 2 ∧ q.byte.getLsbD 0 = true) ∨ q.ch = 2 ∨ (q.ch = 3 ∧ q.byte = 1 ∧ q.pec = true)) ∧ (s.chan q.ch).pending = true) :=
  ⟨⟨1, 4092, linked, by decide +kernel⟩,
   ⟨1, 4092, { linked with sec := { linked.sec with pending := true } }, by decide +kernel⟩,
   ⟨{ ch := 1, byte := 1, pec := true }, linked, by decide +kernel⟩,
   ⟨{ ch := 1, byte := 1, pec := true }, { linked with sec := { linked.sec with pending := true } }, by decide +kernel⟩⟩

/-- The hypotheses of ChannelIsServed can be met. -/
theorem test_channelIsServed :
    (∃ (q : ChannelAsk) (s : State), s.reachable q.ch = true ∧ ((q.ch < 2 ∧ q.byte.getLsbD 0 = true) ∨ q.ch = 2 ∨ (q.ch = 3 ∧ q.byte = 2 ∧ q.pec = true)) ∧ (s.chan q.ch).outStatus = true ∧ (s.chan q.ch).replies = []) ∧
    (∃ (q : ChannelAsk) (r : _) (rs : _) (s : State), s.reachable q.ch = true ∧ ((q.ch < 2 ∧ q.byte.getLsbD 0 = true) ∨ q.ch = 2 ∨ (q.ch = 3 ∧ q.byte = 2 ∧ q.pec = true)) ∧ (s.chan q.ch).outStatus = true ∧ (s.chan q.ch).replies = r :: rs) ∧
    (∃ (ch : _) (s : State) (t0 : _) (len : _), ch < 4 ∧ (s.chan ch).timer = some (t0, len) ∧ (s.chan ch).pending = true ∧ t0 + len ≤ s.now ∧ ctlCycle s.now ≠ ctlCycle (t0 + len)) ∧
    (∃ (ch : _) (s : State) (t0 : _) (len : _), ch < 4 ∧ (s.chan ch).timer = some (t0, len) ∧ (s.chan ch).pending = true ∧ t0 + len ≤ s.now ∧ ctlCycle s.now = ctlCycle (t0 + len) ∧ (roundFrom s.epoch.lastTaken).find? s.mayTake = some ch) ∧
    (∃ (ch : _) (s : State), (roundFrom s.epoch.lastTaken).find? s.mayTake = some ch) :=
  ⟨⟨{ ch := 1, byte := 1, pec := true }, { linked with sec := { linked.sec with outStatus := true } }, by decide +kernel⟩,
   ⟨{ ch := 1, byte := 1, pec := true }, zeros 16, [], { linked with sec := { linked.sec with outStatus := true, replies := [zeros 16] } }, by decide +kernel⟩,
   ⟨3, { svc with now := 100, bmc := { svc.bmc with pending := true, timer := some (0, 0) } }, 0, 0, by decide +kernel⟩,
   ⟨3, { svc with now := 0, bmc := { svc.bmc with pending := true, timer := some (0, 0) } }, 0, 0, by decide +kernel⟩,
   ⟨1, { linked with sec := { linked.sec with pending := true } }, by decide +kernel⟩⟩

/-- The hypotheses of BmcTransactionsComplete can be met, clauses 1 to 5. -/
theorem test_bmcTransactionsComplete_1 :
    (∃ (data : Bytes) (s : State), s.reachable 3 = true ∧ 1 ≤ data.length ∧ data.length ≤ 253) ∧
    (∃ (s : State), s.reachable 3 = true) ∧
    (∃ (byte : Byte) (pec : Bool) (s : State), s.reachable 3 = true ∧ (pec = false ∨ (byte ≠ 1 ∧ byte ≠ 2))) ∧
    (∃ (s : State), s.reachable 3 = true) ∧
    (∃ (s : State), s.reachable 3 = true) :=
  ⟨⟨zeros 253, svc, by decide +kernel⟩,
   ⟨svc, by decide +kernel⟩,
   ⟨5, false, svc, by decide +kernel⟩,
   ⟨svc, by decide +kernel⟩,
   ⟨svc, by decide +kernel⟩⟩

/-- The hypotheses of BmcTransactionsComplete can be met, clauses 6 to 8. -/
theorem test_bmcTransactionsComplete_2 :
    (∃ (s : State), s.reachable 3 = true) ∧
    (∃ (s : State), s.reachable 3 = true) ∧
    (∃ (s : State), s.smbAlertN = true ∧ s.life.straps.cfg1 = false) :=
  ⟨⟨svc, by decide +kernel⟩,
   ⟨svc, by decide +kernel⟩,
   ⟨{ svc with bmc := { svc.bmc with outStatus := true } }, by decide +kernel⟩⟩

/-- The hypotheses of DeviceCommandsComplete can be met, clauses 1 to 5. -/
theorem test_deviceCommandsComplete_1 :
    (∃ (m : Msg) (s : State), passes cmdDeviceNop m s = true) ∧
    (∃ (m : Msg) (s : State), passes cmdDeviceMbxTimeout m s = true ∧ m.norm.p 0 = 0xFF ∧ m.norm.p 1 = 0 ∧ m.ch ≠ 3 ∧ m.norm.f 2 2 = 0) ∧
    (∃ (m : Msg) (s : State), passes cmdDeviceMbxTimeout m s = true ∧ m.norm.p 0 = 0xFF ∧ m.norm.p 1 = 0 ∧ m.ch < 3 ∧ 1 ≤ m.norm.f 2 2 ∧ m.norm.f 2 2 ≤ 10000) ∧
    (∃ (m : Msg) (s : State), passes cmdDeviceIdentify m s = true) ∧
    (∃ (m : Msg) (s : State), passes cmdDeviceStatus m s = true) :=
  ⟨⟨pk 3 [(0, 7)], svc, by decide +kernel⟩,
   ⟨pk 4 [(0, 255)], svc, by decide +kernel⟩,
   ⟨pk 4 [(0, 255), (2, 1)], svc, by decide +kernel⟩,
   ⟨pk 0 [], svc, by decide +kernel⟩,
   ⟨pk 0 [], svc, by decide +kernel⟩⟩

/-- The hypotheses of DeviceCommandsComplete can be met, clauses 6 to 8. -/
theorem test_deviceCommandsComplete_2 :
    (∃ (m : Msg) (s : State), passes cmdDeviceStart m s = true ∧ zeroAt m.norm (span 0 3) = true ∧ s.readiness = 0) ∧
    (∃ (m : Msg) (s : State), passes cmdDeviceTestEnter m s = true ∧ zeroAt m.norm (span 0 3) = true) ∧
    (∃ (m : Msg) (s : State), passes cmdDeviceTestExit m s = true ∧ zeroAt m.norm (span 0 3) = true) :=
  ⟨⟨pk 4 [], { inState .init with life := { (inState .init).life with committed := true } }, by decide +kernel⟩,
   ⟨pk 4 [], inState .init, by decide +kernel⟩,
   ⟨pk 4 [], inState .test, by decide +kernel⟩⟩

/-- The hypotheses of SecureAndRecoveryCommandsComplete can be met, clauses 1 to 5. -/
theorem test_secureAndRecoveryCommandsComplete_1 :
    (∃ (m : Msg) (s : State), passes cmdDeviceTestExit m s = true ∧ m.norm.p 0 = 1 ∧ zeroAt m.norm [1, 2, 3] = true) ∧
    (∃ (m : Msg) (s : State), passes cmdDeviceResume m s = true ∧ zeroAt m.norm (span 0 3) = true ∧ s.causesLeft = 0) ∧
    (∃ (m : Msg) (s : State), passes cmdSecureConfigLock m s = true ∧ m.norm.p 0 = 1 ∧ zeroAt m.norm [1, 2, 3] = true) ∧
    (∃ (m : Msg) (s : State), passes cmdSecureConfigLock m s = true ∧ zeroAt m.norm (span 0 3) = true) ∧
    (∃ (m : Msg) (s : State), passes cmdSecureConfigLock m s = true ∧ m.norm.p 0 = 2 ∧ zeroAt m.norm [1, 2, 3] = true ∧ s.life.sticky = false) :=
  ⟨⟨pk 4 [(0, 1)], inState .test, by decide +kernel⟩,
   ⟨pk 4 [], inState .recover, by decide +kernel⟩,
   ⟨pk 4 [(0, 1)], svc, by decide +kernel⟩,
   ⟨pk 4 [], svc, by decide +kernel⟩,
   ⟨pk 4 [(0, 2)], svc, by decide +kernel⟩⟩

/-- The hypotheses of SecureAndRecoveryCommandsComplete can be met, clauses 6 to 10. -/
theorem test_secureAndRecoveryCommandsComplete_2 :
    (∃ (m : Msg) (s : State), passes cmdSecureConfigLock m s = true ∧ m.norm.p 0 = 3 ∧ zeroAt m.norm [1, 2, 3] = true) ∧
    (∃ (m : Msg) (s : State), passes cmdSecureConfigLock m s = true ∧ m.norm.p 0 = 2 ∧ zeroAt m.norm [1, 2, 3] = true ∧ s.life.sticky = true) ∧
    (∃ (m : Msg) (s : State), passes cmdSecureIdentity m s = true ∧ m.norm.p 0 = 0 ∧ zeroAt m.norm [1, 2, 3] = true) ∧
    (∃ (m : Msg) (s : State), passes cmdSecureIdentity m s = true ∧ m.norm.p 0 = 1 ∧ zeroAt m.norm [1, 2, 3] = true) ∧
    (∃ (m : Msg) (s : State), passes cmdSecureAttest m s = true ∧ zeroAt m.norm (span 32 35) = true) :=
  ⟨⟨pk 4 [(0, 3)], svc, by decide +kernel⟩,
   ⟨pk 4 [(0, 2)], { svc with life := { svc.life with sticky := true } }, by decide +kernel⟩,
   ⟨pk 4 [], svc, by decide +kernel⟩,
   ⟨pk 36 [(0, 1), (4, 65)], svc, by decide +kernel⟩,
   ⟨pk 36 [], svc, by decide +kernel⟩⟩

/-- The hypotheses of EpochCommandsComplete can be met, clauses 1 to 5. -/
theorem test_epochCommandsComplete_1 :
    (∃ (m : Msg) (s : State), passes cmdEpochStage m s = true ∧ zeroAt m.norm (span 0 3) = true) ∧
    (∃ (m : Msg) (s : State), passes cmdEpochStage m s = true ∧ m.norm.p 0 = 1 ∧ zeroAt m.norm [1, 2, 3] = true) ∧
    (∃ (m : Msg) (s : State), passes cmdEpochCommit m s = true ∧ zeroAt m.norm (span 4 7) = true ∧ s.drainingEpoch = none ∧ s.forwards = false ∧ s.journals = false ∧ (m.norm.f 0 4 = 0xFFFFFFFF ∨ m.norm.f 0 4 = s.epoch.changes.toNat)) ∧
    (∃ (m : Msg) (s : State) (e : _), passes cmdEpochCommit m s = true ∧ zeroAt m.norm (span 4 7) = true ∧ s.drainingEpoch = some e) ∧
    (∃ (m : Msg) (s : State), passes cmdEpochStatus m s = true) :=
  ⟨⟨pk 4 [], svc, by decide +kernel⟩,
   ⟨pk 4 [(0, 1)], svc, by decide +kernel⟩,
   ⟨pk 8 [(0, 255), (1, 255), (2, 255), (3, 255)], svc, by decide +kernel⟩,
   ⟨pk 8 [], draining, 0, by decide +kernel⟩,
   ⟨pk 0 [], svc, by decide +kernel⟩⟩

/-- The hypotheses of EpochCommandsComplete can be met, clauses 6 to 6. -/
theorem test_epochCommandsComplete_2 :
    ∃ (s : State) (d : _), s.drain = some d ∧ s.epochHeld d.epoch = false :=
  ⟨draining, _, someOf (by decide +kernel), by decide +kernel⟩

/-- The hypotheses of ErrorLogCommandsComplete can be met, clauses 1 to 5. -/
theorem test_errorLogCommandsComplete_1 :
    (∃ (m : Msg) (s : State), passes cmdErrlogRead m s = true ∧ m.norm.f 0 2 < s.err.entries.length ∧ 1 ≤ m.norm.p 2 ∧ m.norm.p 2 ≤ 126 ∧ zeroAt m.norm (span 3 7) = true) ∧
    (∃ (m : Msg) (s : State), passes cmdErrlogClear m s = true ∧ m.norm.p 0 = 0 ∧ m.norm.p 1 = 0 ∧ 1 ≤ m.norm.f 2 2 ∧ m.norm.f 2 2 ≤ s.err.entries.length ∧ s.err.entries.length ≤ 1024) ∧
    (∃ (m : Msg) (s : State), passes cmdErrlogClear m s = true ∧ m.norm.p 0 = 1 ∧ zeroAt m.norm [1, 2, 3] = true ∧ s.err.entries.length ≤ 1024) ∧
    (∃ (m : Msg) (s : State), passes cmdErrlogClear m s = true ∧ m.norm.p 0 = 2 ∧ m.norm.p 1 = 0 ∧ 1 ≤ m.norm.f 2 2 ∧ m.norm.f 2 2 ≤ 20) ∧
    (∃ (m : Msg) (s : State), passes cmdErrlogClear m s = true ∧ m.norm.p 0 = 3 ∧ zeroAt m.norm [1, 2, 3] = true) :=
  ⟨⟨pk 8 [(2, 126)], { svc with err := { svc.err with entries := [zeros 32] } }, by decide +kernel⟩,
   ⟨pk 4 [(2, 1)], { svc with err := { svc.err with entries := [zeros 32] } }, by decide +kernel⟩,
   ⟨pk 4 [(0, 1)], { svc with err := { svc.err with entries := [zeros 32] } }, by decide +kernel⟩,
   ⟨pk 4 [(0, 2), (2, 20)], svc, by decide +kernel⟩,
   ⟨pk 4 [(0, 3)], svc, by decide +kernel⟩⟩

/-- The hypotheses of ErrorLogCommandsComplete can be met, clauses 6 to 8. -/
theorem test_errorLogCommandsComplete_2 :
    (∃ (m : Msg) (s : State), passes cmdErrlogClassRead m s = true ∧ 1 ≤ m.norm.p 2 ∧ m.norm.p 2 ≤ 50 ∧ m.norm.p 3 = 0) ∧
    (∃ (m : Msg) (s : State), passes cmdErrlogStatus m s = true) ∧
    (∃ (v : W32) (s : State), s.windowOpen = true ∧ v.toNat < 1024 ∧ s.err.oldest < 1024) :=
  ⟨⟨pk 4 [(2, 50)], svc, by decide +kernel⟩,
   ⟨pk 0 [], svc, by decide +kernel⟩,
   ⟨1023, { svc with host := { svc.host with linkUp := true } }, by decide +kernel⟩⟩

/-- The hypotheses of RegisterAccessesComplete can be met, clauses 1 to 5. -/
theorem test_registerAccessesComplete_1 :
    (∃ (s : State), s.windowOpen = true) ∧
    (∃ (s : State), s.windowOpen = true) ∧
    (∃ (s : State), s.windowOpen = true) ∧
    (∃ (s : State), s.windowOpen = true) ∧
    (∃ (pf1 : _) (s : State), s.windowOpen = true ∧ (s.chan (fnChan pf1)).outStatus = true ∧ (s.chan (fnChan pf1)).replies = []) :=
  ⟨⟨linked, by decide +kernel⟩,
   ⟨linked, by decide +kernel⟩,
   ⟨linked, by decide +kernel⟩,
   ⟨linked, by decide +kernel⟩,
   ⟨true, { linked with sec := { linked.sec with outStatus := true } }, by decide +kernel⟩⟩

/-- The hypotheses of RegisterAccessesComplete can be met, clauses 6 to 9. -/
theorem test_registerAccessesComplete_2 :
    (∃ (off : _) (s : State), s.windowOpen = true ∧ off % 4 ≠ 0) ∧
    (∃ (size : _) (s : State), s.windowOpen = true ∧ size ≠ 4) ∧
    (∃ (size : _) (s : State), (s.windowOpen = false ∨ size ≠ 4)) ∧
    (∃ (s : State), s.windowOpen = true) :=
  ⟨⟨1, linked, by decide +kernel⟩,
   ⟨8, linked, by decide +kernel⟩,
   ⟨4, svc, by decide +kernel⟩,
   ⟨linked, by decide +kernel⟩⟩

/-- The hypotheses of FunctionResetsComplete can be met, clauses 1 to 5. -/
theorem test_functionResetsComplete_1 :
    (∃ (s : State), s.windowOpen = true) ∧
    (∃ (s : State), s.windowOpen = false) ∧
    (∃ (s : State), s.windowOpen = true) ∧
    (∃ (s : State), s.windowOpen = true) ∧
    (∃ (c : _) (s : State), c < s.host.channels.length) :=
  ⟨⟨linked, by decide +kernel⟩,
   ⟨svc, by decide +kernel⟩,
   ⟨linked, by decide +kernel⟩,
   ⟨linked, by decide +kernel⟩,
   ⟨15, svc, by decide +kernel⟩⟩

/-- The hypotheses of FunctionResetsComplete can be met, clauses 6 to 9. -/
theorem test_functionResetsComplete_2 :
    (∃ (s : State), s.windowOpen = true) ∧
    (∃ (s : State), s.windowOpen = true) ∧
    (∃ (s : State), s.windowOpen = true) ∧
    (∃ (s : State), s.windowOpen = false) :=
  ⟨⟨linked, by decide +kernel⟩,
   ⟨linked, by decide +kernel⟩,
   ⟨linked, by decide +kernel⟩,
   ⟨svc, by decide +kernel⟩⟩

/-- The hypotheses of DmaRegisterWritesComplete can be met. -/
theorem test_dmaRegisterWritesComplete :
    (∃ (pf1 : _) (c : _) (s : State), s.windowOpen = true ∧ c < 16 ∧ s.ownedByPf1 c = pf1) ∧
    (∃ (pf1 : _) (c : _) (s : State), s.windowOpen = true ∧ c < 16 ∧ s.ownedByPf1 c = pf1) ∧
    (∃ (pf1 : _) (c : _) (s : State), s.windowOpen = true ∧ c < 16 ∧ s.ownedByPf1 c = pf1) ∧
    (∃ (pf1 : Bool) (c : Nat) (s : State), s.ownedByPf1 c ≠ pf1) ∧
    (∃ (s : State), s.windowOpen = true) :=
  ⟨⟨true, 15, { linked with host := { linked.host with owner := 0x8000 } }, by decide +kernel⟩,
   ⟨true, 15, { linked with host := { linked.host with owner := 0x8000 } }, by decide +kernel⟩,
   ⟨true, 15, { linked with host := { linked.host with owner := 0x8000 } }, by decide +kernel⟩,
   ⟨true, 0, svc, by decide +kernel⟩,
   ⟨linked, by decide +kernel⟩⟩

/-- The hypotheses of DmaDescriptorsStartAndEnd can be met. -/
theorem test_dmaDescriptorsStartAndEnd :
    (∃ (c : _) (desc : _) (s : State), s.channelIssues c = true ∧ (s.dma c).transfer = none ∧ (s.dma c).enable = true ∧ (s.dma c).behind = true ∧ s.readsOut < 256 ∧ s.descriptorCheck (fit 32 desc) = none ∧ bitAt (fit 32 desc) 20 1 = false ∧ fieldLe (fit 32 desc) 16 3 ≠ 0) ∧
    (∃ (c : _) (desc : _) (s : State), s.channelIssues c = true ∧ (s.dma c).transfer = none ∧ (s.dma c).enable = true ∧ (s.dma c).behind = true ∧ s.readsOut < 256 ∧ s.descriptorCheck (fit 32 desc) = none ∧ bitAt (fit 32 desc) 20 1 = false ∧ fieldLe (fit 32 desc) 16 3 = 0) ∧
    (∃ (c : _) (desc : _) (s : State) (status : _), s.channelIssues c = true ∧ (s.dma c).transfer = none ∧ (s.dma c).enable = true ∧ (s.dma c).behind = true ∧ s.readsOut < 256 ∧ s.descriptorCheck (fit 32 desc) = some status ∧ bitAt (fit 32 desc) 20 1 = false ∧ fieldLe (fit 32 desc) 24 8 % 32 = 0) ∧
    (∃ (c : _) (s : State) (t : _) (status : _), s.channelIssues c = true ∧ (s.dma c).transfer = some t ∧ (s.dma c).ending = some status) :=
  ⟨⟨0, fillDesc, dmaOn { DmaChannel.reset with state := .running, enable := true, tail := 1 }, by decide +kernel⟩,
   ⟨0, par 32 [(8, 7), (19, 1)], dmaOn { DmaChannel.reset with state := .running, enable := true, tail := 1 }, by decide +kernel⟩,
   ⟨0, zeros 32, dmaOn { DmaChannel.reset with state := .running, enable := true, tail := 1 }, 4, by decide +kernel⟩,
   ⟨0, dmaOn { DmaChannel.reset with state := .running, enable := true, tail := 1, transfer := some (Transfer.start fillDesc), ending := some 0 }, Transfer.start fillDesc, 0, by decide +kernel⟩⟩

/-- The hypotheses of DmaDataMovesAndBusErrors can be met, clauses 1 to 5. -/
theorem test_dmaDataMovesAndBusErrors_1 :
    (∃ (s : State) (c : _) (t : _), s.nextServed = some c ∧ (s.dma c).transfer = some t ∧ s.burstDue c = true) ∧
    (∃ (s : State) (c : _), s.nextServed = some c ∧ s.burstDue c = false) ∧
    (∃ (c : _) (s : State) (t : _), s.transferOf c = some t ∧ s.inTime c = true ∧ t.asked = true ∧ t.pattern = none) ∧
    (∃ (c : _) (data : Bytes) (s : State) (t : _), s.transferOf c = some t ∧ s.inTime c = true ∧ t.op = 0x10 ∧ 64 ≤ data.length ∧ t.arrived < t.issued ∧ s.writeRoom (min (data.length / 64) (t.issued - t.arrived)) = true) ∧
    (∃ (c : _) (s : State), s.inTime c = false) :=
  ⟨⟨dmaOn { DmaChannel.reset with state := .running, enable := true, tail := 1, transfer := some (Transfer.start fillDesc) }, 0, Transfer.start fillDesc, by decide +kernel⟩,
   ⟨ringed, 0, by decide +kernel⟩,
   ⟨0, dmaOn { DmaChannel.reset with state := .running, enable := true, tail := 1, transfer := some { Transfer.start fillDesc with asked := true } }, { Transfer.start fillDesc with asked := true }, by decide +kernel⟩,
   ⟨0, zeros 64, dmaOn { DmaChannel.reset with state := .running, enable := true, tail := 1, transfer := some { Transfer.start loadDesc with issued := 1 } }, { Transfer.start loadDesc with issued := 1 }, by decide +kernel⟩,
   ⟨0, { dmaOn { DmaChannel.reset with state := .running, enable := true, reads := [0] } with now := 100000000 }, by decide +kernel⟩⟩

/-- The hypotheses of DmaDataMovesAndBusErrors can be met, clauses 6 to 10. -/
theorem test_dmaDataMovesAndBusErrors_2 :
    (∃ (c : _) (units : _) (s : State) (t : _), s.transferOf c = some t ∧ t.op = 0x01 ∧ 1 ≤ units ∧ t.confirmed < t.arrived) ∧
    (∃ (c : _) (s : State) (t : _) (m : _) (ms : _), s.transferOf c = some t ∧ t.op = 0x11 ∧ s.inTime c = true ∧ t.marks = m :: ms) ∧
    (∃ (desc : _) (s : State), (s.host.holds.any fun h => h.desc == desc && decide (h.until_ ≤ s.now)) = true) ∧
    (∃ (cause : _) (c : _) (s : State), s.host.halted = false ∧ s.booted = true ∧ c < 16 ∧ 1 ≤ cause ∧ cause ≤ 4 ∧ ((cause = 4 → s.timedOut c = true))) ∧
    (∃ (s : State), s.host.halted = true) :=
  ⟨⟨0, 1, dmaOn { DmaChannel.reset with state := .running, enable := true, tail := 1, transfer := some { Transfer.start fillDesc with issued := 1, arrived := 1 } }, { Transfer.start fillDesc with issued := 1, arrived := 1 }, by decide +kernel⟩,
   ⟨0, dmaOn { DmaChannel.reset with state := .running, enable := true, tail := 1, transfer := some { Transfer.start (par 32 [(8, 7), (16, 1), (19, 17)]) with marks := [{ units := 1, crc := 0, faults := 0 }] } }, { Transfer.start (par 32 [(8, 7), (16, 1), (19, 17)]) with marks := [{ units := 1, crc := 0, faults := 0 }] }, { units := 1, crc := 0, faults := 0 }, [], by decide +kernel⟩,
   ⟨7, { svc with host := { svc.host with holds := [{ desc := 7, epoch := 0, until_ := 0 }] } }, by decide +kernel⟩,
   ⟨4, 15, { svc with now := 100000000, host := { svc.host with channels := svc.host.channels.set 15 { DmaChannel.reset with state := .running, fetchAt := 0 } } }, by decide +kernel⟩,
   ⟨{ svc with host := { svc.host with halted := true } }, by decide +kernel⟩⟩

/-- The hypotheses of DmaCommandsComplete can be met. -/
theorem test_dmaCommandsComplete :
    (∃ (m : Msg) (s : State), passes cmdDmaResume m s = true ∧ namesSecure m.norm s = false ∧ ((maskChannels (m.norm.f 0 2)).any fun c => (s.dma c).state != .halted) = false ∧ zeroAt m.norm [2, 3] = true) ∧
    (∃ (m : Msg) (s : State), passes cmdDmaResume m s = true ∧ namesSecure m.norm s = false ∧ ((maskChannels (m.norm.f 0 2)).any fun c => (s.dma c).state != .halted) = true) ∧
    (∃ (m : Msg) (s : State), passes cmdDmaAbandon m s = true ∧ namesSecure m.norm s = false ∧ ((maskChannels (m.norm.f 0 2)).any fun c => s.channelState c == .idle) = false ∧ zeroAt m.norm [2, 3] = true) ∧
    (∃ (m : Msg) (s : State), passes cmdDmaAbandon m s = true ∧ namesSecure m.norm s = false ∧ ((maskChannels (m.norm.f 0 2)).any fun c => s.channelState c == .idle) = true) ∧
    (∃ (m : Msg) (s : State), passes cmdDmaStatus m s = true ∧ zeroAt m.norm (span 0 3) = true) :=
  ⟨⟨pk 4 [(0, 1)], { svc with host := { svc.host with channels := svc.host.channels.set 0 { DmaChannel.reset with state := .halted } } }, by decide +kernel⟩,
   ⟨pk 4 [(0, 1)], svc, by decide +kernel⟩,
   ⟨pk 4 [(0, 1)], { svc with host := { svc.host with channels := svc.host.channels.set 0 { DmaChannel.reset with state := .halted } } }, by decide +kernel⟩,
   ⟨pk 4 [(0, 1)], dmaOn DmaChannel.reset, by decide +kernel⟩,
   ⟨pk 4 [], svc, by decide +kernel⟩⟩

/-- The hypotheses of DroopAndTemperatureComplete can be met, clauses 1 to 6. -/
theorem test_droopAndTemperatureComplete_1 :
    (∃ (s : State), s.booted = true ∧ s.pins.droopN = true) ∧
    (∃ (s : State), s.booted = true ∧ s.power.droopEn = true ∧ s.lowLong = true ∧ s.power.stage < 2) ∧
    (∃ (monitor : _) (s : State), s.booted = true ∧ monitor < s.power.monitors.length) ∧
    (∃ (s : State) (t0 : _), s.power.absent = some t0 ∧ s.power.stage ≠ 0 ∧ t0 + 10000 ≤ s.now) ∧
    (∃ (s : State), s.booted = true) :=
  ⟨⟨{ svc with pins := { svc.pins with droopN := true } }, by decide +kernel⟩,
   ⟨{ svc with power := { svc.power with droopEn := true, droopLow := some 0, delayUs := 0 } }, by decide +kernel⟩,
   ⟨3, svc, by decide +kernel⟩,
   ⟨{ svc with now := 10000, power := { svc.power with absent := some 0, stage := 1 } }, 0, by decide +kernel⟩,
   ⟨svc, by decide +kernel⟩⟩

/-- The hypotheses of DroopAndTemperatureComplete can be met, clauses 7 to 8. -/
theorem test_droopAndTemperatureComplete_2 :
    (∃ (t : DieSensors) (s : State), s.booted = true ∧ s.power.limits.getLsbD 2 = false ∧ 480 < hottest t) ∧
    (∃ (s : State), s.trained = true) :=
  ⟨⟨#v[0, 0, 481, 0, 0, 0, 0, 0], svc, by decide +kernel⟩,
   ⟨svc, by decide +kernel⟩⟩

/-- The hypotheses of PowerCommandsComplete can be met, clauses 1 to 5. -/
theorem test_powerCommandsComplete_1 :
    (∃ (m : Msg) (s : State), passes cmdSecurePowerProfile m s = true ∧ zeroAt m.norm (span 0 3) = true) ∧
    (∃ (m : Msg) (s : State), passes cmdSecurePowerProfile m s = true ∧ m.norm.p 0 = 1 ∧ m.norm.p 1 ≤ 2 ∧ zeroAt m.norm [2, 3] = true) ∧
    (∃ (m : Msg) (s : State), passes cmdPowerStatus m s = true ∧ zeroAt m.norm (span 0 3) = true) ∧
    (∃ (m : Msg) (s : State), passes cmdPowerStatus m s = true ∧ m.norm.p 0 = 1 ∧ zeroAt m.norm [1, 2, 3] = true) ∧
    (∃ (m : Msg) (s : State), passes cmdClockStatus m s = true) :=
  ⟨⟨pk 4 [], svc, by decide +kernel⟩,
   ⟨pk 4 [(0, 1), (1, 2)], svc, by decide +kernel⟩,
   ⟨pk 4 [], svc, by decide +kernel⟩,
   ⟨pk 4 [(0, 1)], svc, by decide +kernel⟩,
   ⟨pk 0 [], svc, by decide +kernel⟩⟩

/-- The hypotheses of PowerCommandsComplete can be met, clauses 6 to 8. -/
theorem test_powerCommandsComplete_2 :
    (∃ (m : Msg) (s : State), passes cmdThermalRead m s = true) ∧
    (∃ (m : Msg) (s : State), passes cmdDroopConfig m s = true ∧ zeroAt m.norm (span 0 15) = true) ∧
    (∃ (m : Msg) (s : State), passes cmdDroopConfig m s = true ∧ m.norm.p 0 = 1 ∧ m.norm.p 1 ≤ 3 ∧ 20 ≤ m.norm.f 2 2 ∧ m.norm.f 2 2 ≤ 100 ∧ 40 ≤ m.norm.f 4 2 ∧ m.norm.f 4 2 ≤ 150 ∧ m.norm.f 2 2 < m.norm.f 4 2 ∧ m.norm.f 6 2 ≤ 1000 ∧ 85 ≤ m.norm.p 8 ∧ m.norm.p 8 ≤ 107 ∧ zeroAt m.norm (span 9 15) = true) :=
  ⟨⟨pk 0 [], svc, by decide +kernel⟩,
   ⟨pk 16 [], svc, by decide +kernel⟩,
   ⟨pk 16 [(0, 1), (1, 3), (2, 20), (4, 40), (8, 107)], svc, by decide +kernel⟩⟩

/-- The hypotheses of HeartbeatsAndJournalComplete can be met, clauses 1 to 5. -/
theorem test_heartbeatsAndJournalComplete_1 :
    (∃ (s : State), s.booted = true ∧ s.pair.beat + 100000 ≤ s.now ∧ (s.port 24).link = .up ∧ (s.port 25).link ≠ .up ∧ (s.port 24).loopback = 0) ∧
    (∃ (s : State), s.booted = true ∧ s.pair.beat + 100000 ≤ s.now ∧ (s.port 24).link = .up ∧ (s.port 25).link = .up ∧ (s.port 24).loopback = 0 ∧ (s.port 25).loopback = 0) ∧
    (∃ (s : State), s.booted = true ∧ s.pair.beat + 100000 ≤ s.now ∧ (s.port 24).link = .up ∧ (s.port 25).link ≠ .up ∧ ((s.port 24).loopback = 1 ∨ (s.port 24).loopback = 2)) ∧
    (∃ (h : Heartbeat) (s : State), s.booted = true ∧ (s.port (24 + h.west.toNat)).loopback = 0) ∧
    (∃ (h : Heartbeat) (w : _) (s : State), (s.booted = true ∧ h.west = false ∧ ((s.port 24).loopback = 1 ∨ (s.port 24).loopback = 2)) ∧ s.pair.own0 = some w) :=
  ⟨⟨{ svc with now := 100000, ports := svc.ports.set 24 { svc.port 24 with link := .up } }, by decide +kernel⟩,
   ⟨{ svc with now := 100000, ports := (svc.ports.set 24 { svc.port 24 with link := .up }).set 25 { svc.port 25 with link := .up } }, by decide +kernel⟩,
   ⟨{ svc with now := 100000, ports := svc.ports.set 24 { svc.port 24 with link := .up, loopback := 2 } }, by decide +kernel⟩,
   ⟨aBeat, svc, by decide +kernel⟩,
   ⟨aBeat, _, { svc with pair := { svc.pair with own0 := some aBeat }, ports := svc.ports.set 24 { svc.port 24 with loopback := 1 } }, by decide +kernel, someOf (by decide +kernel)⟩⟩

/-- The hypotheses of HeartbeatsAndJournalComplete can be met, clauses 6 to 10. -/
theorem test_heartbeatsAndJournalComplete_2 :
    (∃ (h : Heartbeat) (s : State), s.booted = true ∧ (s.port (24 + h.west.toNat)).loopback = 0 ∧ h.leaving = true ∧ s.pair.state ≠ .none) ∧
    (∃ (s : State), s.booted = true ∧ s.pair.heard.getD 0 + 300000 ≤ s.now ∧ s.paired = true) ∧
    (∃ (kind : _) (tile : _) (payload : _) (s : State) (x : _), s.takesJournal = true ∧ x = { s with pair := { s.pair with journal := s.pair.journal ++ [JournalRec.mk (s.pair.journal.length + 1) kind tile payload s.now] } }) ∧
    (∃ (s : State), s.booted = true ∧ s.refreshing = false ∧ s.journals = true ∧ s.pair.copied = false ∧ s.atWork .liveCopy = true) ∧
    (∃ (s : State), s.booted = true ∧ s.refreshing = false ∧ s.journals = true ∧ s.pair.copied = true ∧ s.journalLag ≤ 10000) :=
  ⟨⟨{ aBeat with leaving := true }, { svc with pair := { svc.pair with state := .solo } }, by decide +kernel⟩,
   ⟨{ svc with now := 300000, pair := { svc.pair with state := .joined } }, by decide +kernel⟩,
   ⟨0, 0, zeros 60, { svc with pair := { svc.pair with holding := true } }, _, by decide +kernel, rfl⟩,
   ⟨atMiner 11 .liveCopy syncing, by decide +kernel⟩,
   ⟨{ syncing with pair := { syncing.pair with copied := true } }, by decide +kernel⟩⟩

/-- The hypotheses of HeartbeatsAndJournalComplete can be met, clauses 11 to 14. -/
theorem test_heartbeatsAndJournalComplete_3 :
    (∃ (s : State), s.booted = true ∧ s.refreshing = false ∧ s.journals = false ∧ s.pair.holding = true ∧ s.pair.copied = false) ∧
    (∃ (s : State), s.booted = true ∧ s.refreshing = false ∧ s.journals = false ∧ s.pair.holding = false ∧ s.pair.state = .syncing ∧ s.pair.role = .secondary ∧ s.pair.copied = false) ∧
    (∃ (s : State), s.booted = true ∧ s.refreshing = false ∧ s.journals = false ∧ s.pair.holding = true ∧ s.pair.copied = true) ∧
    (∃ (s : State), s.booted = true ∧ s.refreshing = false ∧ s.journals = false ∧ s.pair.holding = false ∧ s.pair.state = .syncing ∧ s.pair.role = .secondary ∧ s.pair.copied = true) :=
  ⟨⟨{ svc with pair := { svc.pair with holding := true } }, by decide +kernel⟩,
   ⟨{ svc with pair := { svc.pair with state := .syncing, role := .secondary } }, by decide +kernel⟩,
   ⟨{ svc with pair := { svc.pair with holding := true, copied := true } }, by decide +kernel⟩,
   ⟨{ svc with pair := { svc.pair with state := .syncing, role := .secondary, copied := true } }, by decide +kernel⟩⟩

/-- The hypotheses of PairProtocolCompletes can be met, clauses 1 to 5. -/
theorem test_pairProtocolCompletes_1 :
    (∃ (j : JoinFacts) (s : State) (primary : Bool), (joinRole j (s.facts false) = some primary ∧ s.life.state = .init) ∧ joinFails j (s.facts false) = none) ∧
    (∃ (j : _) (s : State), s.booted = true ∧ rejoinFails j (s.facts false) = none) ∧
    (∃ (ch : _) (s : State) (m : Msg) (r : _) (d : _), ch < 4 ∧ (s.chan ch).waiting = some (.peer m r d)) ∧
    (∃ (ch : _) (status : W16) (s : State) (m : Msg) (r : _) (d : _), ch < 4 ∧ (s.chan ch).waiting = some (.peer m r d) ∧ status ≠ 0) ∧
    (∃ (s : State), s.waitsForPeer = false) :=
  ⟨⟨(inState .init).facts true, inState .init, true, by decide +kernel, joinsOf _ _ rfl rfl rfl rfl rfl rfl rfl rfl rfl⟩,
   ⟨svc.facts false, inState .init, by decide +kernel, rejoinsOf _ _ rfl rfl rfl rfl rfl rfl rfl⟩,
   ⟨1, { svc with sec := { svc.sec with waiting := some (.peer (pk 0 []) aReply none) } }, pk 0 [], aReply, none, by decide +kernel⟩,
   ⟨1, 1, { svc with sec := { svc.sec with waiting := some (.peer (pk 0 []) aReply none) } }, pk 0 [], aReply, none, by decide +kernel⟩,
   ⟨svc, by decide +kernel⟩⟩

/-- The hypotheses of PairProtocolCompletes can be met, clauses 6 to 9. -/
theorem test_pairProtocolCompletes_2 :
    (∃ (s : State), s.pair.role = .secondary ∧ s.pair.state = .joined ∧ s.booted = true) ∧
    (∃ (e0 : _) (s : State), s.pair.prepared = some e0) ∧
    (∃ (s : State) (m : Msg), s.pair.commitMsg = some m ∧ s.pair.commitSent = false) ∧
    (∃ (s : State) (m : Msg) (m2 : _) (r : _), s.pair.commitMsg = some m ∧ (s.chan m.ch).waiting = some (.commit m2 (some r))) :=
  ⟨⟨{ svc with pair := { svc.pair with role := .secondary, state := .joined } }, by decide +kernel⟩,
   ⟨1, { svc with pair := { svc.pair with prepared := some 1 } }, by decide +kernel⟩,
   ⟨{ svc with pair := { svc.pair with commitMsg := some (pk 8 []) } }, pk 8 [], by decide +kernel⟩,
   ⟨{ svc with sec := { svc.sec with waiting := some (.commit (pk 8 []) (some aReply)) }, pair := { svc.pair with commitMsg := some (pk 8 []) } }, pk 8 [], pk 8 [], aReply, by decide +kernel⟩⟩

/-- The hypotheses of PairCommandsComplete can be met, clauses 1 to 5. -/
theorem test_pairCommandsComplete_1 :
    (∃ (m : Msg) (s : State), (passes cmdPairJoin m s = true ∧ m.norm.p 0 ≤ 1 ∧ zeroAt m.norm [1, 2, 3] = true ∧ s.peerHeard = true) ∧ joinFails (s.facts (m.norm.p 0 == 1)) s.pair.peerFacts = none) ∧
    (∃ (m : Msg) (s : State), passes cmdPairLeave m s = true ∧ zeroAt m.norm (span 0 3) = true ∧ s.peerHeard = false) ∧
    (∃ (m : Msg) (s : State), passes cmdPairLeave m s = true ∧ zeroAt m.norm (span 0 3) = true ∧ s.peerHeard = true) ∧
    (∃ (m : Msg) (s : State), passes cmdPairStatus m s = true ∧ zeroAt m.norm (span 0 3) = true) ∧
    (∃ (m : Msg) (s : State), (passes cmdPairRejoin m s = true ∧ zeroAt m.norm (span 0 3) = true ∧ s.pair.state = .solo ∧ s.pair.role = .primary ∧ s.peerHeard = true) ∧ rejoinFails (s.facts false) s.pair.peerFacts = none ∧ (s.newTask TaskType.command .liveCopy).isSome = true) :=
  ⟨⟨pk 4 [(0, 1)], { inState .init with pair := { (inState .init).pair with heard := some 0, peerFacts := (inState .init).facts true } }, by decide +kernel, joinsOf _ _ rfl rfl rfl rfl rfl rfl rfl rfl rfl⟩,
   ⟨pk 4 [], svc, by decide +kernel⟩,
   ⟨pk 4 [], { svc with pair := { svc.pair with heard := some 0 } }, by decide +kernel⟩,
   ⟨pk 4 [], svc, by decide +kernel⟩,
   ⟨pk 4 [], { svc with pair := { svc.pair with state := .solo, role := .primary, heard := some 0, peerFacts := (inState .init).facts false } }, by decide +kernel, rejoinsOf _ _ rfl rfl rfl rfl rfl rfl rfl, by decide +kernel⟩⟩

/-- The hypotheses of PairCommandsComplete can be met, clauses 6 to 7. -/
theorem test_pairCommandsComplete_2 :
    (∃ (m : Msg) (s : State), passes cmdPairConfig m s = true ∧ zeroAt m.norm (span 0 7) = true) ∧
    (∃ (m : Msg) (s : State), passes cmdPairConfig m s = true ∧ m.norm.p 0 = 1 ∧ m.norm.p 1 ≤ 3 ∧ 1 ≤ m.norm.f 2 2 ∧ m.norm.f 2 2 ≤ 10000 ∧ zeroAt m.norm (span 4 7) = true) :=
  ⟨⟨pk 8 [], svc, by decide +kernel⟩,
   ⟨pk 8 [(0, 1), (1, 3), (2, 16), (3, 39)], svc, by decide +kernel⟩⟩

/-- The hypotheses of PortTableCommandsComplete can be met. -/
theorem test_portTableCommandsComplete :
    (∃ (m : Msg) (s : State) (b : Bytes), passes cmdPortConfig m s = true ∧ m.norm.recs 8 = [b] ∧ byteAt b 0 ≤ 23 ∧ byteAt b 5 = 1 ∧ (firstNonZeroAt b [1, 2, 3, 4, 6, 7]).isNone = true) ∧
    (∃ (m : Msg) (s : State) (b : Bytes), passes cmdPortConfig m s = true ∧ m.stage = true ∧ m.norm.recs 8 = [b] ∧ byteAt b 0 ≤ 23 ∧ byteAt b 5 = 0 ∧ 1 ≤ byteAt b 1 ∧ byteAt b 1 ≤ 5 ∧ byteAt b 0 % modeLanes (byteAt b 1) = 0 ∧ s.shadow.port.clash (byteAt b 0) (byteAt b 1) = false ∧ byteAt b 2 ≤ 2 ∧ byteAt b 3 ≤ 2 ∧ fecOk (byteAt b 1) (byteAt b 2) (byteAt b 3) = true ∧ (byteAt b 4 = 0 ∨ byteAt b 4 = 2) ∧ 64 ≤ fieldLe b 6 2 ∧ fieldLe b 6 2 ≤ 9600) ∧
    (∃ (m : Msg) (s : State) (b : Bytes), passes cmdPortEnable m s = true ∧ m.norm.recs 4 = [b] ∧ byteAt b 0 ≤ 23 ∧ byteAt b 1 = 0 ∧ byteAt b 2 = 1 ∧ byteAt b 3 = 0) ∧
    (∃ (m : Msg) (s : State) (b : Bytes), passes cmdPortEnable m s = true ∧ m.stage = true ∧ m.norm.recs 4 = [b] ∧ byteAt b 0 ≤ 23 ∧ byteAt b 1 ≤ 1 ∧ byteAt b 2 = 0 ∧ byteAt b 3 = 0 ∧ (s.shadow.port.cfg (byteAt b 0)).mode ≠ 0) :=
  ⟨⟨pk 8 [(0, 23), (5, 1)], svc, par 8 [(0, 23), (5, 1)], by decide +kernel⟩,
   ⟨pk 8 [(0, 20), (1, 5), (2, 2), (4, 2), (6, 128), (7, 37)] 1, svc, par 8 [(0, 20), (1, 5), (2, 2), (4, 2), (6, 128), (7, 37)], by decide +kernel⟩,
   ⟨pk 4 [(0, 23), (2, 1)], svc, par 4 [(0, 23), (2, 1)], by decide +kernel⟩,
   ⟨pk 4 [(0, 23), (1, 1)] 1, { svc with shadow := { svc.shadow with port := svc.shadow.port.setPort 23 fun c => { c with mode := 1 } } }, par 4 [(0, 23), (1, 1)], by decide +kernel⟩⟩

/-- The hypotheses of LanesRingAndCanaryComplete can be met, clauses 1 to 5. -/
theorem test_lanesRingAndCanaryComplete_1 :
    (∃ (m : Msg) (s : State) (b : Bytes), passes cmdLaneTune m s = true ∧ m.norm.recs 8 = [b] ∧ byteAt b 0 ≤ 25 ∧ byteAt b 1 = 0 ∧ (firstNonZeroAt b (span 2 7)).isNone = true) ∧
    (∃ (m : Msg) (s : State) (b : Bytes) (t : _), (passes cmdLaneTune m s = true ∧ m.stage = true ∧ m.norm.recs 8 = [b] ∧ byteAt b 0 ≤ 25 ∧ byteAt b 1 = 1) ∧ t = Taps.mk (signed 8 (byteAt b 2)) (signed 8 (byteAt b 3)) (signed 8 (byteAt b 4)) (signed 8 (byteAt b 5)) (byteAt b 6 == 1) ∧ tapBad t = none ∧ byteAt b 6 ≤ 1 ∧ byteAt b 7 = 0) ∧
    (∃ (m : Msg) (s : State), passes cmdPortStatus m s = true ∧ m.norm.p 0 ≤ 25 ∧ zeroAt m.norm [1, 2, 3] = true) ∧
    (∃ (m : Msg) (s : State), passes cmdPortCounters m s = true ∧ m.norm.p 0 ≤ 25 ∧ m.norm.p 1 = 0 ∧ zeroAt m.norm [2, 3] = true) ∧
    (∃ (m : Msg) (s : State), passes cmdPortCounters m s = true ∧ m.norm.p 0 ≤ 25 ∧ m.norm.p 1 = 1 ∧ zeroAt m.norm [2, 3] = true) :=
  ⟨⟨pk 8 [(0, 25)], svc, par 8 [(0, 25)], by decide +kernel⟩,
   ⟨pk 8 [(0, 25), (1, 1), (4, 63), (6, 1)] 1, svc, par 8 [(0, 25), (1, 1), (4, 63), (6, 1)], _, by decide +kernel, rfl, by decide +kernel⟩,
   ⟨pk 4 [(0, 25)], svc, by decide +kernel⟩,
   ⟨pk 4 [(0, 25)], svc, by decide +kernel⟩,
   ⟨pk 4 [(0, 25), (1, 1)], svc, by decide +kernel⟩⟩

/-- The hypotheses of LanesRingAndCanaryComplete can be met, clauses 6 to 10. -/
theorem test_lanesRingAndCanaryComplete_2 :
    (∃ (m : Msg) (s : State), passes cmdPortLoopback m s = true ∧ m.norm.p 0 ≤ 25 ∧ m.norm.p 1 ≤ 3 ∧ zeroAt m.norm [2, 3] = true ∧ s.ports.length = 26) ∧
    (∃ (m : Msg) (s : State), passes cmdRingConfig m s = true ∧ m.norm.params = []) ∧
    (∃ (m : Msg) (s : State) (b : Bytes), passes cmdRingConfig m s = true ∧ m.stage = true ∧ m.norm.params ≠ [] ∧ m.norm.recs 4 = [b] ∧ s.shadow.port.roleOk (byteAt b 0) = true ∧ s.shadow.port.roleOk (byteAt b 1) = true ∧ (byteAt b 0 = 0xFF ∨ byteAt b 0 ≠ byteAt b 1) ∧ byteAt b 2 = 0 ∧ byteAt b 3 = 0) ∧
    (∃ (m : Msg) (s : State), passes cmdCanaryStatus m s = true) ∧
    (∃ (m : Msg) (s : State), passes cmdSecureCanaryArm m s = true ∧ zeroAt m.norm [2, 3] = true ∧ s.cur.port.east = some (m.norm.p 0) ∧ s.cur.port.west = some (m.norm.p 1) ∧ s.canary.armed = false ∧ s.canary.toggling = false) :=
  ⟨⟨pk 4 [(0, 25), (1, 3)], inState .test, by decide +kernel⟩,
   ⟨pk 0 [], svc, by decide +kernel⟩,
   ⟨pk 4 [(0, 255), (1, 255)] 1, svc, par 4 [(0, 255), (1, 255)], by decide +kernel⟩,
   ⟨pk 0 [], svc, by decide +kernel⟩,
   ⟨pk 4 [(0, 4), (1, 5)], { svc with cur := { svc.cur with port := { svc.cur.port with east := some 4, west := some 5 } } }, by decide +kernel⟩⟩

/-- The hypotheses of LanesRingAndCanaryComplete can be met, clauses 11 to 15. -/
theorem test_lanesRingAndCanaryComplete_3 :
    (∃ (m : Msg) (s : State), passes cmdSecureCanaryDisarm m s = true) ∧
    (∃ (s : State), s.canaryRuns = true ∧ s.canary.toggling = true ∧ s.canary.halfAt + 50000 ≤ s.now) ∧
    (∃ (s : State), s.canary.armed = true ∧ s.canaryRuns = false ∧ s.canary.toggling = true ∧ s.canary.halfAt + 50000 ≤ s.now) ∧
    (∃ (s : State), s.booted = true ∧ s.canary.windowAt + 100000 ≤ s.now) ∧
    (∃ (s : State), s.booted = true ∧ s.canary.windowAt + 100000 ≤ s.now ∧ s.canary.armed = true) :=
  ⟨⟨pk 0 [], svc, by decide +kernel⟩,
   ⟨{ svc with now := 50000, canary := { svc.canary with armed := true, toggling := true } }, by decide +kernel⟩,
   ⟨{ svc with now := 50000, canary := { svc.canary with armed := true, toggling := true, live0 := false } }, by decide +kernel⟩,
   ⟨{ svc with now := 100000 }, by decide +kernel⟩,
   ⟨{ svc with now := 100000, canary := { svc.canary with armed := true } }, by decide +kernel⟩⟩

/-- The hypotheses of LinkEventsComplete can be met, clauses 1 to 5. -/
theorem test_linkEventsComplete_1 :
    (∃ (port : _) (link : _) (s : State) (l : _), Link.ofCode link = some l ∧ port < 24 ∧ port < s.ports.length ∧ s.lanesRun port = true ∧ ((l ≠ .an ∧ l ≠ .anNoCommon) ∨ (s.portCfg port).an = true)) ∧
    (∃ (port : _) (s : State), (s.port port).link = .anNoCommon ∧ (s.port port).anTried + 1000000000 ≤ s.now ∧ s.lanesRun port = true ∧ port < 24 ∧ (s.portCfg port).an = true) ∧
    (∃ (port : _) (s : State), (s.port port).link = .anNoCommon ∧ (s.port port).anTried + 1000000000 ≤ s.now ∧ s.lanesRun port = true ∧ port < 24 ∧ (s.portCfg port).an = true) ∧
    (∃ (port : _) (s : State), port < 26 ∧ (s.port port).link = .up ∧ (s.ptp port).calibrated = false) ∧
    (∃ (s : State), s.lanesRun 24 = true ∧ (s.port 24).link = .up) :=
  ⟨⟨23, 4, ported 23, .up, rfl, by decide +kernel⟩,
   ⟨23, negotiating, by decide +kernel⟩,
   ⟨23, negotiating, by decide +kernel⟩,
   ⟨25, upPort 25, by decide +kernel⟩,
   ⟨upPort 24, by decide +kernel⟩⟩

/-- The hypotheses of LinkEventsComplete can be met, clauses 6 to 6. -/
theorem test_linkEventsComplete_2 :
    ∃ (s : State) (t0 : _), s.pair.laneUp1 = some t0 ∧ s.portUp 25 = true ∧ s.pair.laneDown1 = true ∧ t0 + 1000000000 ≤ s.now ∧ s.pair.laneDown0 = false :=
  ⟨{ upPort 25 with now := 1000000000, pair := { svc.pair with laneUp1 := some 0, laneDown1 := true } }, 0, by decide +kernel⟩

/-- The hypotheses of TimeAndPeerDelayEventsComplete can be met, clauses 1 to 5. -/
theorem test_timeAndPeerDelayEventsComplete_1 :
    (∃ (rising : _) (s : State), s.booted = true ∧ s.time.ppsInEn = true ∧ rising = !s.time.ppsInFalling) ∧
    (∃ (s : State), s.booted = true ∧ s.time.ppsOutEn = true ∧ s.ppsCrossed = true) ∧
    (∃ (s : State), s.time.ppsOut = true ∧ s.time.ppsRose + s.time.ppsWidth * 1000 ≤ s.now) ∧
    (∃ (s : State) (t0 : _), s.time.locks.getD s.time.rclkLane none = some t0 ∧ s.time.rclkOn = true ∧ s.time.rclkRun = false ∧ t0 + 10000000 ≤ s.now) ∧
    (∃ (s : State), s.host.linkUp = true) :=
  ⟨⟨false, { svc with time := { svc.time with ppsInEn := true, ppsInFalling := true } }, by decide +kernel⟩,
   ⟨{ svc with time := { svc.time with ppsOutEn := true, ppsOffset := 0 } }, by decide +kernel⟩,
   ⟨{ svc with now := 1000, time := { svc.time with ppsOut := true, ppsWidth := 1 } }, by decide +kernel⟩,
   ⟨{ svc with now := 10000000, time := { svc.time with locks := svc.time.locks.set 0 (some 0), rclkOn := true } }, 0, by decide +kernel⟩,
   ⟨linked, by decide +kernel⟩⟩

/-- The hypotheses of TimeAndPeerDelayEventsComplete can be met, clauses 6 to 10. -/
theorem test_timeAndPeerDelayEventsComplete_2 :
    (∃ (v : W32) (s : State), s.host.linkUp = true ∧ s.booted = true ∧ incOk (s.time.incWritten.toNat * 2 ^ 32 + v.toNat) = true) ∧
    (∃ (v : W32) (s : State), s.host.linkUp = true ∧ s.booted = true ∧ incOk (s.time.incWritten.toNat * 2 ^ 32 + v.toNat) = false) ∧
    (∃ (port : _) (s : State), s.runsPdelay port = true ∧ (s.ptp port).nextReq ≤ s.now ∧ port < s.time.ports.length ∧ (s.ptp port).waiting = false) ∧
    (∃ (port : _) (s : State), s.runsPdelay port = true ∧ (s.ptp port).nextReq ≤ s.now ∧ port < s.time.ports.length ∧ (s.ptp port).waiting = true) ∧
    (∃ (port : _) (frame : _) (s : State) (k : _) (m : _), s.runsPdelay port = true ∧ pdelayIn frame = some (k, m)) :=
  ⟨⟨0x00418937, { linked with time := { linked.time with incWritten := 1 } }, by decide +kernel⟩,
   ⟨0, { linked with time := { linked.time with incWritten := 2 } }, by decide +kernel⟩,
   ⟨25, p2p, by decide +kernel⟩,
   ⟨25, { p2p with time := { p2p.time with ports := p2p.time.ports.set 25 { p2p.ptp 25 with waiting := true } } }, by decide +kernel⟩,
   ⟨25, pdelayFrame, p2p, _, _, by decide +kernel, somePair (by decide +kernel)⟩⟩

/-- The hypotheses of TimeCommandsComplete can be met, clauses 1 to 5. -/
theorem test_timeCommandsComplete_1 :
    (∃ (m : Msg) (s : State), passes cmdTimeRead m s = true) ∧
    (∃ (m : Msg) (s : State), passes cmdTimeStep m s = true ∧ m.norm.p 0 = 1 ∧ m.norm.p 1 = 0 ∧ m.norm.f 4 4 < 1000000000 ∧ s.inService = false) ∧
    (∃ (m : Msg) (s : State), passes cmdTimeStep m s = true ∧ m.norm.p 0 = 1 ∧ m.norm.p 1 = 0 ∧ m.norm.f 4 4 < 1000000000 ∧ s.inService = true) ∧
    (∃ (m : Msg) (s : State), passes cmdTimeJumpLimit m s = true ∧ zeroAt m.norm (span 0 7) = true) ∧
    (∃ (m : Msg) (s : State), passes cmdTimeRclkConfig m s = true ∧ m.norm.p 0 = 1 ∧ m.norm.p 1 ≤ 25 ∧ 16 ≤ m.norm.f 2 2 ∧ m.norm.f 2 2 ≤ 4096 ∧ ((s.laneRate (m.norm.p 1) = 0 ∨ (10000 * m.norm.f 2 2 ≤ s.laneRate (m.norm.p 1) ∧ s.laneRate (m.norm.p 1) ≤ 400000 * m.norm.f 2 2))) ∧ m.norm.p 4 ≤ 1 ∧ zeroAt m.norm [5, 6, 7] = true) :=
  ⟨⟨pk 0 [], svc, by decide +kernel⟩,
   ⟨pk 16 [(0, 1), (4, 255), (5, 201), (6, 154), (7, 59)], inState .init, by decide +kernel⟩,
   ⟨pk 16 [(0, 1)], svc, by decide +kernel⟩,
   ⟨pk 8 [], svc, by decide +kernel⟩,
   ⟨pk 8 [(0, 1), (1, 25), (3, 16), (4, 1)], svc, by decide +kernel⟩⟩

/-- The hypotheses of TimeCommandsComplete can be met, clauses 6 to 10. -/
theorem test_timeCommandsComplete_2 :
    (∃ (m : Msg) (s : State), passes cmdTimeIncSet m s = true ∧ zeroAt m.norm (span 0 7) = true) ∧
    (∃ (m : Msg) (s : State) (v : _), (passes cmdTimeIncSet m s = true ∧ m.norm.p 0 = 1 ∧ zeroAt m.norm [1, 2, 3] = true) ∧ v = (2 ^ 32 + signed 32 (m.norm.f 4 4)).toNat ∧ incOk v = true) ∧
    (∃ (m : Msg) (s : State), passes cmdTimeJumpLimit m s = true ∧ m.norm.p 0 = 1 ∧ zeroAt m.norm [1, 2, 3] = true ∧ 1 ≤ m.norm.f 4 4 ∧ m.norm.f 4 4 ≤ 1000000) ∧
    (∃ (m : Msg) (s : State), passes cmdTimePpsConfig m s = true ∧ zeroAt m.norm (span 0 15) = true) ∧
    (∃ (m : Msg) (s : State), passes cmdTimePpsConfig m s = true ∧ m.norm.p 0 = 1 ∧ m.norm.p 1 ≤ 7 ∧ zeroAt m.norm [2, 3] = true ∧ (signed 32 (m.norm.f 4 4)).natAbs ≤ 64000 ∧ 1 ≤ m.norm.f 12 4 ∧ m.norm.f 12 4 ≤ 500000) :=
  ⟨⟨pk 8 [], svc, by decide +kernel⟩,
   ⟨pk 8 [(0, 1), (4, 1)], svc, _, by decide +kernel, rfl, by decide +kernel⟩,
   ⟨pk 8 [(0, 1), (4, 64), (5, 66), (6, 15)], svc, by decide +kernel⟩,
   ⟨pk 16 [], svc, by decide +kernel⟩,
   ⟨pk 16 [(0, 1), (1, 7), (12, 32), (13, 161), (14, 7)], svc, by decide +kernel⟩⟩

/-- The hypotheses of TimeCommandsComplete can be met, clauses 11 to 11. -/
theorem test_timeCommandsComplete_3 :
    ∃ (m : Msg) (s : State), passes cmdTimeRclkConfig m s = true ∧ zeroAt m.norm (span 0 7) = true :=
  ⟨pk 8 [], svc, by decide +kernel⟩

/-- The hypotheses of PtpCommandsComplete can be met, clauses 1 to 6. -/
theorem test_ptpCommandsComplete_1 :
    (∃ (m : Msg) (s : State), passes cmdTimeStep m s = true ∧ m.norm.p 0 = 1 ∧ m.norm.p 1 = 0 ∧ m.norm.f 4 4 < 1000000000 ∧ s.inService = true) ∧
    (∃ (m : Msg) (s : State) (b : Bytes), passes cmdTimePtpConfig m s = true ∧ m.stage = true ∧ m.norm.recs 48 = [b] ∧ byteAt b 0 = 1 ∧ byteAt b 1 = 1 ∧ (firstNonZeroAt b ([3, 18, 19] ++ span 40 47)).isNone = true) ∧
    (∃ (m : Msg) (s : State) (b : Bytes), passes cmdTimePtpConfig m s = true ∧ m.norm.recs 48 = [b] ∧ byteAt b 0 = 2 ∧ byteAt b 1 = 0 ∧ byteAt b 2 ≤ 25 ∧ (firstNonZeroAt b (span 3 47)).isNone = true) ∧
    (∃ (m : Msg) (s : State) (b : Bytes), passes cmdTimePtpConfig m s = true ∧ m.norm.recs 48 = [b] ∧ byteAt b 0 = 1 ∧ byteAt b 1 = 0 ∧ (firstNonZeroAt b (span 2 47)).isNone = true) ∧
    (∃ (m : Msg) (s : State) (b : Bytes), passes cmdTimePtpConfig m s = true ∧ m.stage = true ∧ m.norm.recs 48 = [b] ∧ byteAt b 0 = 2 ∧ byteAt b 1 = 1 ∧ byteAt b 2 ≤ 25 ∧ byteAt b 3 ≤ 2 ∧ byteAt b 4 ≤ 1 ∧ byteAt b 5 ≤ 2 ∧ -4 ≤ signed 8 (byteAt b 6) ∧ signed 8 (byteAt b 6) ≤ 4 ∧ (firstNonZeroAt b (span 7 47)).isNone = true) :=
  ⟨⟨pk 16 [(0, 1)], svc, by decide +kernel⟩,
   ⟨pk 48 [(0, 1), (1, 1)] 1, svc, par 48 [(0, 1), (1, 1)], by decide +kernel⟩,
   ⟨pk 48 [(0, 2), (2, 25)], svc, par 48 [(0, 2), (2, 25)], by decide +kernel⟩,
   ⟨pk 48 [(0, 1)], svc, par 48 [(0, 1)], by decide +kernel⟩,
   ⟨pk 48 [(0, 2), (1, 1), (2, 25), (3, 2), (4, 1), (5, 2), (6, 252)] 1, svc, par 48 [(0, 2), (1, 1), (2, 25), (3, 2), (4, 1), (5, 2), (6, 252)], by decide +kernel⟩⟩

/-- The hypotheses of PtpCommandsComplete can be met, clauses 7 to 8. -/
theorem test_ptpCommandsComplete_2 :
    (∃ (m : Msg) (s : State) (b : Bytes), passes cmdTimeCal m s = true ∧ m.norm.recs 16 = [b] ∧ byteAt b 0 ≤ 25 ∧ byteAt b 1 = 0 ∧ (firstNonZeroAt b (span 2 15)).isNone = true) ∧
    (∃ (m : Msg) (s : State) (b : Bytes), passes cmdTimeCal m s = true ∧ m.norm.recs 16 = [b] ∧ byteAt b 0 ≤ 25 ∧ byteAt b 1 = 1 ∧ byteAt b 2 = 0 ∧ byteAt b 3 = 0 ∧ (signed 32 (fieldLe b 4 4)).natAbs ≤ 64000 ∧ (signed 32 (fieldLe b 8 4)).natAbs ≤ 64000 ∧ (firstNonZeroAt b (span 12 15)).isNone = true) :=
  ⟨⟨pk 16 [(0, 25)], svc, par 16 [(0, 25)], by decide +kernel⟩,
   ⟨pk 16 [(0, 25), (1, 1), (5, 250), (9, 250)], svc, par 16 [(0, 25), (1, 1), (5, 250), (9, 250)], by decide +kernel⟩⟩

/-- The hypotheses of ParseCommandsComplete can be met, clauses 1 to 5. -/
theorem test_parseCommandsComplete_1 :
    (∃ (m : Msg) (s : State) (b : Bytes), passes cmdParseNodeWrite m s = true ∧ m.stage = true ∧ m.norm.recs 224 = [b] ∧ nodeFault b = none) ∧
    (∃ (m : Msg) (s : State) (b : Bytes), passes cmdParseNodeRead m s = true ∧ m.norm.recs 4 = [b] ∧ (firstNonZeroAt b [1, 2, 3]).isNone = true) ∧
    (∃ (m : Msg) (s : State), passes cmdParseLimits m s = true ∧ m.norm.p 0 = 0 ∧ zeroAt m.norm (span 1 39) = true) ∧
    (∃ (m : Msg) (s : State), passes cmdParseLimits m s = true ∧ m.stage = true ∧ m.norm.p 0 = 1 ∧ 1 ≤ m.norm.p 1 ∧ m.norm.p 1 ≤ 32 ∧ 64 ≤ m.norm.f 2 2 ∧ m.norm.f 2 2 ≤ 512 ∧ m.norm.p 4 ≤ 1 ∧ zeroAt m.norm ([5, 6, 7] ++ span 36 39) = true) ∧
    (∃ (m : Msg) (s : State), passes cmdParseGraphLoad m s = true ∧ m.norm.p 0 = 2 ∧ zeroAt m.norm [1, 2, 3] = true ∧ m.norm.f 4 4 = 0xFFFFFFFF) :=
  ⟨⟨pk 224 [(0, 3)] 1, svc, par 224 [(0, 3)], by decide +kernel⟩,
   ⟨pk 4 [(0, 255)], svc, par 4 [(0, 255)], by decide +kernel⟩,
   ⟨pk 40 [], svc, by decide +kernel⟩,
   ⟨pk 40 [(0, 1), (1, 32), (2, 64), (4, 1)] 1, svc, by decide +kernel⟩,
   ⟨pk 8 [(0, 2), (4, 255), (5, 255), (6, 255), (7, 255)], svc, by decide +kernel⟩⟩

/-- The hypotheses of ParseCommandsComplete can be met, clauses 6 to 8. -/
theorem test_parseCommandsComplete_2 :
    (∃ (m : Msg) (s : State), passes cmdParseGraphLoad m s = true ∧ m.stage = true ∧ m.norm.p 0 = 0 ∧ zeroAt m.norm [1, 2, 3] = true ∧ m.norm.f 4 4 = 0xFFFFFFFF) ∧
    (∃ (m : Msg) (s : State), passes cmdParseCounters m s = true ∧ zeroAt m.norm (span 0 3) = true) ∧
    (∃ (m : Msg) (s : State), passes cmdParseCounters m s = true ∧ m.norm.p 0 = 0 ∧ m.norm.p 1 = 0 ∧ m.norm.p 2 = 1 ∧ m.norm.p 3 = 0) :=
  ⟨⟨pk 8 [(4, 255), (5, 255), (6, 255), (7, 255)] 1, svc, by decide +kernel⟩,
   ⟨pk 4 [], svc, by decide +kernel⟩,
   ⟨pk 4 [(2, 1)], svc, by decide +kernel⟩⟩

/-- The hypotheses of RuleCommandsComplete can be met, clauses 1 to 5. -/
theorem test_ruleCommandsComplete_1 :
    (∃ (m : Msg) (s : State) (b : Bytes) (r : _) (t : _) (x : _), (passes cmdRuleLoad m s = true ∧ m.stage = true ∧ m.norm.recs 128 = [b]) ∧ r = slice b 8 120 ∧ t = byteAt b 0 ∧ (t ≤ 19 ∧ byteAt b 1 = 1 ∧ (firstNonZeroAt b (span 2 7)).isNone = true ∧ s.building t = false) ∧ tget? s.shadow.rule.tables t = some x ∧ ruleFault r (segmentsWidth x.segments) (isEgress t) = none ∧ s.entryBeyond (slice r 88 24) = false ∧ x.rules.findIdx? (fun q => ruleId q == ruleId r) = none ∧ (x.rules.filter fun q => ruleId q != ruleId r).length < x.maxRules ∧ masksOf ((x.rules.filter fun q => ruleId q != ruleId r) ++ [r]) ≤ x.maxMasks ∧ (s.withCounters t [r]).length ≤ 163840 ∧ (allocRuns s.dram.free 2).isSome = true ∧ s.editDescs x ≤ s.dram.dir.freeCount) ∧
    (∃ (m : Msg) (s : State) (b : Bytes) (t : _) (x : _) (i : _), (passes cmdRuleLoad m s = true ∧ m.stage = true ∧ m.norm.recs 128 = [b]) ∧ t = byteAt b 0 ∧ (t ≤ 19 ∧ byteAt b 1 = 2 ∧ (firstNonZeroAt b (span 2 7)).isNone = true ∧ (firstNonZeroAt b (span 12 127)).isNone = true ∧ s.building t = false) ∧ tget? s.shadow.rule.tables t = some x ∧ x.rules.findIdx? (fun q => ruleId q == ruleId (slice b 8 120)) = some i ∧ s.editDescs x ≤ s.dram.dir.freeCount) ∧
    (∃ (m : Msg) (s : State), passes cmdRuleBuild m s = true ∧ m.stage = true ∧ m.norm.p 0 ≤ 19 ∧ s.building (m.norm.p 0) = false ∧ (m.norm.params.drop 1).all (· == 0) = true) ∧
    (∃ (m : Msg) (s : State), passes cmdRuleBuild m s = true ∧ m.stage = true ∧ m.norm.p 0 ≤ 19 ∧ s.building (m.norm.p 0) = false ∧ (m.norm.params.drop 1).all (· == 0) = false ∧ s.profileFault m.norm = none ∧ s.entryBeyond (slice m.norm.params 40 24) = false ∧ m.norm.f 12 4 = 0xFFFFFFFF ∧ m.norm.f 16 4 = 0 ∧ (s.rule.builds.filter fun b => b.state == .running).length < 4 ∧ s.rule.builds.length = 20 ∧ (allocRuns s.rule.storeFree (m.norm.f 4 4 + m.norm.f 8 2 + 16)).isSome = true ∧ 1 ≤ s.dram.dir.freeCount ∧ (s.newTask TaskType.seamBuild (.ruleBuild (m.norm.p 0))).isSome = true) ∧
    (∃ (t : _) (s : State) (b : _) (p : _), s.refreshing = false ∧ s.rule.builds.getD t Build.reset = b ∧ b.profile = some p ∧ b.state = .running ∧ s.sealed = false ∧ s.atWork (.ruleBuild t) = true ∧ t < s.rule.builds.length) :=
  ⟨⟨pk 128 ([(1, 1), (8, 2), (14, 128)] ++ [(99, 255), (104, 255), (105, 255), (106, 255)]) 1, ruled, par 128 ([(1, 1), (8, 2), (14, 128)] ++ [(99, 255), (104, 255), (105, 255), (106, 255)]), _, _, _, by decide +kernel, rfl, rfl, by decide +kernel, someOf (by decide +kernel), by decide +kernel⟩,
   ⟨pk 128 [(1, 2)] 1, ruled, par 128 [(1, 2)], _, _, _, by decide +kernel, rfl, by decide +kernel, someOf (by decide +kernel), someOf (by decide +kernel), by decide +kernel⟩,
   ⟨pk 64 [(0, 19)] 1, svc, by decide +kernel⟩,
   ⟨pk 64 [(0, 0), (2, 1), (3, 1), (4, 1), (8, 1), (12, 255), (13, 255), (14, 255), (15, 255), (25, 1), (43, 255), (48, 255), (49, 255), (50, 255)] 1, live, by decide +kernel⟩,
   ⟨0, building, _, _, by decide +kernel, rfl, someOf (by decide +kernel), by decide +kernel⟩⟩

/-- The hypotheses of RuleCommandsComplete can be met, clauses 6 to 10. -/
theorem test_ruleCommandsComplete_2 :
    (∃ (t : _) (s : State) (b : _) (p : _), s.refreshing = false ∧ s.rule.builds.getD t Build.reset = b ∧ b.profile = some p ∧ b.state = .running ∧ s.sealed = false ∧ s.atWork (.ruleBuild t) = true ∧ b.list = none) ∧
    (∃ (t : _) (hurt : Upsets) (s : State) (b : _) (p : _) (i : _) (ps : _) (s1 : State) (rules : _), s.refreshing = false ∧ s.rule.builds.getD t Build.reset = b ∧ b.profile = some p ∧ (b.state = .running ∧ s.sealed = false ∧ s.atWork (.ruleBuild t) = true) ∧ b.list = some i ∧ readCells s.cur hurt .miner (s.seamCells i) (s.upset hurt) = (ps, s1) ∧ ps.findIdx? (·.isNone) = none ∧ checkList p (isEgress t) s1.entryBeyond ps 0 [] = .ok rules) ∧
    (∃ (t : _) (hurt : Upsets) (s : State) (b : _) (p : _) (i : _) (ps : _) (s1 : State) (k : _), s.refreshing = false ∧ s.rule.builds.getD t Build.reset = b ∧ b.profile = some p ∧ (b.state = .running ∧ s.sealed = false ∧ s.atWork (.ruleBuild t) = true) ∧ b.list = some i ∧ readCells s.cur hurt .miner (s.seamCells i) (s.upset hurt) = (ps, s1) ∧ ps.findIdx? (·.isNone) = some k) ∧
    (∃ (tile : _) (s : State) (t : _), s.refreshing = false ∧ s.heldTables.find? (fun t => inRuns t.store tile && s.atWork (.ruleRepair t.root)) = some t ∧ s.rule.storeBad.contains tile = true ∧ t.source = none) ∧
    (∃ (tile : _) (s : State) (t : _) (ps : _) (s1 : State), s.refreshing = false ∧ s.heldTables.find? (fun t => inRuns t.store tile && s.atWork (.ruleRepair t.root)) = some t ∧ s.rule.storeBad.contains tile = true ∧ readTiles .miner (s.sourceTiles t) s = (ps, s1) ∧ ps.any (·.isNone) = false) :=
  ⟨⟨0, building, _, _, by decide +kernel, rfl, someOf (by decide +kernel), by decide +kernel⟩,
   ⟨0, {}, listed, _, _, _, _, _, _, by decide +kernel, rfl, someOf (by decide +kernel), by decide +kernel, someOf (by decide +kernel), pairOf, by decide +kernel, okOf (by decide +kernel)⟩,
   ⟨0, { tiles := [0x9600000] }, badList, _, _, _, _, _, _, by decide +kernel, rfl, someOf (by decide +kernel), by decide +kernel, someOf (by decide +kernel), pairOf, someOf (by decide +kernel)⟩,
   ⟨9, mending none, _, by decide +kernel, someOf (by decide +kernel), by decide +kernel⟩,
   ⟨9, mending (some 7), _, _, _, by decide +kernel, someOf (by decide +kernel), by decide +kernel, pairOf, by decide +kernel⟩⟩

/-- The hypotheses of RuleCommandsComplete can be met, clauses 11 to 15. -/
theorem test_ruleCommandsComplete_3 :
    (∃ (m : Msg) (s : State), passes cmdRuleBuildStatus m s = true ∧ m.norm.p 0 ≤ 19 ∧ zeroAt m.norm [1, 2, 3] = true) ∧
    (∃ (m : Msg) (s : State) (t : _), (passes cmdRuleRead m s = true ∧ m.norm.p 0 ≤ 19 ∧ m.norm.p 1 = 0 ∧ 1 ≤ m.norm.p 2 ∧ m.norm.p 2 ≤ 33 ∧ zeroAt m.norm (3 :: span 8 11) = true) ∧ tget? (s.view m).rule.tables (m.norm.p 0) = some t ∧ m.norm.f 4 4 < t.ordered.length) ∧
    (∃ (m : Msg) (s : State) (x : _), (passes cmdRuleDefault m s = true ∧ m.stage = true ∧ m.norm.p 0 ≤ 19 ∧ zeroAt m.norm [1, 2, 3] = true ∧ s.building (m.norm.p 0) = false) ∧ tget? s.shadow.rule.tables (m.norm.p 0) = some x ∧ actionFault (slice m.norm.params 4 24) (isEgress (m.norm.p 0)) = none ∧ s.entryBeyond (slice m.norm.params 4 24) = false) ∧
    (∃ (m : Msg) (s : State), passes cmdRuleCounters m s = true ∧ m.norm.p 0 ≤ 19 ∧ m.norm.p 1 = 1 ∧ m.norm.p 2 = 0 ∧ zeroAt m.norm (span 3 7) = true) ∧
    (∃ (m : Msg) (s : State), passes cmdRuleCounters m s = true ∧ m.norm.p 0 ≤ 19 ∧ m.norm.p 1 = 1 ∧ m.norm.p 2 = 1 ∧ zeroAt m.norm (span 3 7) = true) :=
  ⟨⟨pk 4 [(0, 19)], svc, by decide +kernel⟩,
   ⟨pk 12 [(2, 33)], ruled, _, by decide +kernel, someOf (by decide +kernel), by decide +kernel⟩,
   ⟨pk 28 [(7, 255), (12, 255), (13, 255), (14, 255)] 1, ruled, _, by decide +kernel, someOf (by decide +kernel), by decide +kernel⟩,
   ⟨pk 8 [(0, 19), (1, 1)], svc, by decide +kernel⟩,
   ⟨pk 8 [(0, 19), (1, 1), (2, 1)], svc, by decide +kernel⟩⟩

/-- The hypotheses of RuleCommandsComplete can be met, clauses 16 to 17. -/
theorem test_ruleCommandsComplete_4 :
    (∃ (m : Msg) (s : State), passes cmdRecircConfig m s = true ∧ m.norm.p 0 = 0 ∧ zeroAt m.norm (span 1 7) = true) ∧
    (∃ (m : Msg) (s : State), passes cmdRecircConfig m s = true ∧ m.stage = true ∧ m.norm.p 0 = 1 ∧ 1 ≤ m.norm.p 1 ∧ m.norm.p 1 ≤ 4 ∧ m.norm.p 2 ≤ 1 ∧ m.norm.p 3 ≤ 7 ∧ 1 ≤ m.norm.f 4 2 ∧ m.norm.f 4 2 ≤ 400 ∧ 1 ≤ m.norm.f 6 2 ∧ m.norm.f 6 2 ≤ 400) :=
  ⟨⟨pk 8 [], svc, by decide +kernel⟩,
   ⟨pk 8 [(0, 1), (1, 4), (2, 1), (3, 7), (4, 144), (5, 1), (6, 1)] 1, svc, by decide +kernel⟩⟩

/-- The hypotheses of PipelineAdmissionsComplete can be met, clauses 1 to 5. -/
theorem test_pipelineAdmissionsComplete_1 :
    (∃ (pipe : _) (hurt : Upsets) (s : State) (p : _) (i : _) (x : _) (y : _), (s.laneQ pipe).findIdx? Pkt.walks = some i ∧ (s.laneQ pipe)[i]? = some p ∧ p.waited = none ∧ x = ((s.setLaneQ pipe ((s.laneQ pipe).eraseIdx i)).grant pipe 0).struckPass pipe hurt ∧ y = { p with stamp := s.epoch.current, admitted := s.now, pass := 1, pipe := pipe }) ∧
    (∃ (pipe : _) (hurt : Upsets) (s : State) (p : _) (i : _) (n : _) (s1 : State), (s.laneQ pipe).findIdx? Pkt.walks = some i ∧ (s.laneQ pipe)[i]? = some p ∧ p.waited = some n ∧ ((s.setLaneQ pipe ((s.laneQ pipe).eraseIdx i)).struckPass pipe hurt).pass p p.inPort = some s1) ∧
    (∃ (pipe : _) (hurt : Upsets) (s : State) (x : _) (i : _) (s1 : State), (s.laneAsks pipe = false ∧ s.readyHeld pipe = some (x, i)) ∧ s1 = (s.setHeld pipe ((s.held pipe).eraseIdx i)).struckPass pipe hurt ∧ s1.expired x.pkt = false) ∧
    (∃ (pipe : _) (hurt : Upsets) (s : State) (x : _) (i : _) (s1 : State), (s.laneAsks pipe = false ∧ s.readyHeld pipe = some (x, i)) ∧ s1 = (s.setHeld pipe ((s.held pipe).eraseIdx i)).struckPass pipe hurt ∧ s1.expired x.pkt = true) ∧
    (∃ (pipe : Bool) (hurt : Upsets) (s : State) (p : Pkt) (q : List Pkt) (s1 : State), (s.laneAsks pipe = false ∧ s.readyHeld pipe = none ∧ s.recircQ pipe = p :: q ∧ (s.setRecircQ pipe q).expired p = false) ∧ ((((s.setRecircQ pipe q).grant pipe 2).struckPass pipe hurt).pass { p with pass := p.pass + 1, pipe := pipe } (recircPort pipe)) = some s1) :=
  ⟨⟨true, {}, { svc with buf := { svc.buf with lane1 := [aPkt] } }, _, 0, _, _, by decide +kernel, someOf (by decide +kernel), by decide +kernel, rfl, rfl⟩,
   ⟨true, {}, { svc with buf := { svc.buf with lane1 := [{ aPkt with waited := some 14 }] } }, _, 0, 14, _, by decide +kernel, someOf (by decide +kernel), by decide +kernel, someOf (by decide +kernel)⟩,
   ⟨true, {}, { svc with flow := { svc.flow with held1 := [aParked] } }, aParked, 0, _, by decide +kernel, rfl, by decide +kernel⟩,
   ⟨true, {}, { svc with now := 50000001, flow := { svc.flow with held1 := [aParked] } }, aParked, 0, _, by decide +kernel, rfl, by decide +kernel⟩,
   ⟨true, {}, { svc with buf := { svc.buf with recirc1 := [aPkt] } }, aPkt, [], _, by decide +kernel, someOf (by decide +kernel)⟩⟩

/-- The hypotheses of PipelineAdmissionsComplete can be met, clauses 6 to 8. -/
theorem test_pipelineAdmissionsComplete_2 :
    (∃ (pipe : Bool) (s : State) (p : Pkt) (q : List Pkt), s.laneAsks pipe = false ∧ s.readyHeld pipe = none ∧ s.recircQ pipe = p :: q ∧ (s.setRecircQ pipe q).expired p = true) ∧
    (∃ (pipe : _) (hurt : Upsets) (s : State) (p : _) (key : _) (q : _) (s1 : State), (s.laneAsks pipe = false ∧ s.readyHeld pipe = none ∧ s.recircQ pipe = [] ∧ s.reinjectQ pipe = (p, key) :: q ∧ s.mayResume key = true) ∧ s1 = (s.setReinjectQ pipe q).struckPass pipe hurt ∧ s1.expired p = false) ∧
    (∃ (pipe : _) (hurt : Upsets) (s : State) (p : _) (key : _) (q : _) (s1 : State), (s.laneAsks pipe = false ∧ s.readyHeld pipe = none ∧ s.recircQ pipe = [] ∧ s.reinjectQ pipe = (p, key) :: q ∧ s.mayResume key = true) ∧ s1 = (s.setReinjectQ pipe q).struckPass pipe hurt ∧ s1.expired p = true) :=
  ⟨⟨true, { svc with now := 50000001, buf := { svc.buf with recirc1 := [aPkt] } }, aPkt, [], by decide +kernel⟩,
   ⟨true, {}, { svc with buf := { svc.buf with reinject1 := [(aPkt, zeros 40)] } }, aPkt, zeros 40, [], _, by decide +kernel, rfl, by decide +kernel⟩,
   ⟨true, {}, { svc with now := 50000001, buf := { svc.buf with reinject1 := [(aPkt, zeros 40)] } }, aPkt, zeros 40, [], _, by decide +kernel, rfl, by decide +kernel⟩⟩

/-- The hypotheses of FlowTierEventsComplete can be met, clauses 1 to 5. -/
theorem test_flowTierEventsComplete_1 :
    (∃ (key : _) (s : State) (r : _), s.requestOf key = some r ∧ (r.stage = .b0 ∨ r.stage = .b1 ∨ r.stage = .place) ∧ s.readReturns r = true) ∧
    (∃ (key : _) (hurt : Upsets) (s : State) (r : _) (v : _) (whole : _) (s1 : State), (s.flow.requests.find? (fun x => x.key == key && readsEntry x.stage) = some r ∧ s.readReturns r = true) ∧ v = s.versionFor r ∧ ((s.issued r).struckOn hurt .pipeline).entryBack v r = (whole, s1)) ∧
    (∃ (slot : _) (s : State) (t : _) (p : _) (key : _) (m : _), s.refreshing = false ∧ s.task slot = some t ∧ t.work = .setup p key ∧ t.state = .running m ∧ s.requestOf key = none) ∧
    (∃ (slot : _) (hurt : Upsets) (s : State) (t : _) (p : _) (key : _) (m : _) (r : _) (cls : _) (idx : _) (s1 : State), s.refreshing = false ∧ s.task slot = some t ∧ (t.work = .setup p key ∧ t.state = .running m) ∧ s.requestOf key = some r ∧ cls = (p.rule.binding.map (·.1)).getD 0 ∧ idx = (p.rule.binding.map (·.2.2.1)).getD 0xFFFFFF ∧ (s.struckOn hurt .miner).setupSlot (s.version p.stamp) r p cls = (none, s1)) ∧
    (∃ (slot : _) (hurt : Upsets) (s : State) (t : _) (p : _) (key : _) (m : _) (r : _) (cls : _) (idx : _) (tile : _) (s1 : State) (n : _) (s2 : State), s.refreshing = false ∧ s.task slot = some t ∧ (t.work = .setup p key ∧ t.state = .running m) ∧ s.requestOf key = some r ∧ cls = (p.rule.binding.map (·.1)).getD 0 ∧ idx = (p.rule.binding.map (·.2.2.1)).getD 0xFFFFFF ∧ (s.struckOn hurt .miner).setupSlot (s.version p.stamp) r p cls = (some tile, s1) ∧ s1.setupRoom (s.version p.stamp) p idx tile = true ∧ s1.setupEntry (s.version p.stamp) idx r.key = (.error n, s2)) :=
  ⟨⟨zeros 40, asking .b0, aRequest .b0, by decide +kernel⟩,
   ⟨zeros 40, {}, asking (.action 5), aRequest (.action 5), _, _, _, by decide +kernel, rfl, pairOf⟩,
   ⟨40, atMiner 1 (.setup aPkt (zeros 40)) live, _, aPkt, zeros 40, 0, by decide +kernel, someOf (by decide +kernel), by decide +kernel⟩,
   ⟨40, {}, contending, _, aPkt, zeros 40, 0, _, _, _, _, by decide +kernel, someOf (by decide +kernel), by decide +kernel, someOf (by decide +kernel), rfl, rfl, nonePair (by decide +kernel)⟩,
   ⟨40, {}, setting 0xFFFFFF, _, bindPkt 0xFFFFFF, zeros 40, 0, _, _, _, _, _, _, _, by decide +kernel, someOf (by decide +kernel), by decide +kernel, someOf (by decide +kernel), rfl, rfl, someFst (by decide +kernel), by decide +kernel, errOf (by decide +kernel)⟩⟩

/-- The hypotheses of FlowTierEventsComplete can be met, clauses 6 to 8. -/
theorem test_flowTierEventsComplete_2 :
    (∃ (slot : _) (hurt : Upsets) (s : State) (t : _) (p : _) (key : _) (m : _) (r : _) (cls : _) (idx : _) (tile : _) (s1 : State) (b : _) (s2 : State) (w : _) (s3 : _) (mem : _) (s4 : _) (s5 : _) (s6 : _), s.refreshing = false ∧ s.task slot = some t ∧ (t.work = .setup p key ∧ t.state = .running m) ∧ s.requestOf key = some r ∧ cls = (p.rule.binding.map (·.1)).getD 0 ∧ idx = (p.rule.binding.map (·.2.2.1)).getD 0xFFFFFF ∧ (s.struckOn hurt .miner).setupSlot (s.version p.stamp) r p cls = (some tile, s1) ∧ s1.setupRoom (s.version p.stamp) p idx tile = true ∧ s1.setupEntry (s.version p.stamp) idx r.key = (.ok b, s2) ∧ s2.wayFor r.key = (some w, s3) ∧ (s3.evict tile (withDir r.key !((s.version p.stamp).fromSub p))).newMember (s.version p.stamp) (s3.entryCached (s.version p.stamp) b) r.key .miner = (mem, s4) ∧ s5 = (((s4.installNew (s.version p.stamp) p r.key cls b mem tile w).setLive b).cacheLoad b).lifeCount Life.admittedMiner ∧ s6 = (if s5.parked.any (fun x => x.pkt.id == p.id) then (s5.unpark p.id).setReinjectQ p.pipe (s5.reinjectQ p.pipe ++ [(p, r.key)]) else s5.readyParked r.key)) ∧
    (∃ (way : _) (s : State) (e : _), tget? s.flow.hot way = some e ∧ e.wbPending = true ∧ e.held = false) ∧
    (∃ (set : _) (s : State), set < 131072 ∧ s.booted = true) :=
  ⟨⟨40, {}, setting 0, _, bindPkt 0, zeros 40, 0, _, _, _, _, _, _, _, _, _, _, _, _, _, by decide +kernel, someOf (by decide +kernel), by decide +kernel, someOf (by decide +kernel), rfl, rfl, someFst (by decide +kernel), by decide +kernel, okFst (by decide +kernel), someFst (by decide +kernel), pairOf, rfl, rfl⟩,
   ⟨3, { svc with flow := { svc.flow with hot := [(3, { aFlow with wbPending := true })] } }, _, someOf (by decide +kernel), by decide +kernel⟩,
   ⟨131071, svc, by decide +kernel⟩⟩

/-- The hypotheses of SweepAndScrubComplete can be met. -/
theorem test_sweepAndScrubComplete :
    (∃ (hurt : Upsets) (s : State) (ts : _) (s1 : State) (s2 : State), (s.refreshing = false ∧ s.serves TaskType.sweep = true ∧ s.booted = true ∧ s.buckets ≠ 0 ∧ s.life.clearing = .none ∧ s.sweepDue s.flow.sweepNext ≤ s.now) ∧ (s.struckOn hurt .miner).readBucket s.flow.sweepNext .miner = (ts, s1) ∧ State.sweepTiles ts s1 = (true, s2)) ∧
    (∃ (hurt : Upsets) (s : State) (ts : _) (s1 : State) (s2 : State), (s.refreshing = false ∧ s.serves TaskType.sweep = true ∧ s.booted = true ∧ s.buckets ≠ 0 ∧ s.life.clearing = .none ∧ s.sweepDue s.flow.sweepNext ≤ s.now) ∧ (s.struckOn hurt .miner).readBucket s.flow.sweepNext .miner = (ts, s1) ∧ State.sweepTiles ts s1 = (false, s2)) ∧
    (∃ (hurt : Upsets) (s : State) (s1 : State) (k : _), (s.refreshing = false ∧ s.serves TaskType.scrub = true ∧ s.booted = true ∧ s.life.clearing = .none) ∧ k = s.flow.scrubNext ∧ s.scrubDue k ≤ s.now ∧ s1 = State.lifeCount (hurt.store.foldl (fun x i => x.storeFault i .scrub) (hurt.buffer.foldl State.bufferFault (s.struckOn hurt .scrub))) Life.scrubCorrected hurt.corrected) ∧
    (∃ (s : State), s.booted = true) :=
  ⟨⟨{}, atMiner 3 .standing swept, _, _, _, by decide +kernel, pairOf, sweepOf (by decide +kernel)⟩,
   ⟨{}, atMiner 3 .standing sweepStuck, _, _, _, by decide +kernel, pairOf, sweepOf (by decide +kernel)⟩,
   ⟨{}, atMiner 4 .standing live, _, _, by decide +kernel, rfl, by decide +kernel, rfl⟩,
   ⟨svc, by decide +kernel⟩⟩

/-- The hypotheses of FlowReadAndWriteComplete can be met, clauses 1 to 5. -/
theorem test_flowReadAndWriteComplete_1 :
    (∃ (m : Msg) (s : State) (b : Bytes), passes cmdFlowRead m s = true ∧ m.norm.recs 48 = [b] ∧ byteAt b 0 = 0 ∧ (firstNonZeroAt b [1, 2, 3]).isNone = true ∧ (firstNonZeroAt b (span 4 7)).isNone = true) ∧
    (∃ (m : Msg) (s : State) (b : Bytes), passes cmdFlowRead m s = true ∧ m.norm.recs 48 = [b] ∧ byteAt b 0 = 1 ∧ (firstNonZeroAt b [1, 2, 3]).isNone = true ∧ (firstNonZeroAt b (span 8 47)).isNone = true ∧ s.inRegion 0 (fieldLe b 4 4) = true) ∧
    (∃ (m : Msg) (s : State) (b : Bytes), passes cmdFlowRead m s = true ∧ m.batch = false ∧ m.norm.recs 48 = [b] ∧ byteAt b 0 = 2 ∧ (firstNonZeroAt b [1, 2, 3]).isNone = true ∧ (firstNonZeroAt b (span 4 47)).isNone = true) ∧
    (∃ (m : Msg) (s : State) (b : Bytes) (way : _) (e : _) (s1 : State), (passes cmdFlowWrite m s = true ∧ m.norm.p 0 ≠ 3 ∧ m.norm.recs 64 = [b] ∧ byteAt b 0 = 2 ∧ flowWriteFault b = none ∧ fieldLe b 4 3 = 0xFFFFFF ∧ (s.requestOf (slice b 8 40)).isSome = false) ∧ s.findFlow (slice b 8 40) .command = (.hot way e, s1)) ∧
    (∃ (m : Msg) (s : State) (b : Bytes) (bad : _) (s1 : State) (t : _) (s2 : State), (passes cmdFlowWrite m s = true ∧ m.norm.p 0 ≠ 3 ∧ m.norm.recs 64 = [b] ∧ byteAt b 0 = 1 ∧ flowWriteFault b = none ∧ fieldLe b 4 3 = 0xFFFFFF ∧ (s.requestOf (slice b 8 40)).isSome = false) ∧ s.findFlow (slice b 8 40) .command = (.absent bad, s1) ∧ s1.placeBusy (slice b 8 40) = false ∧ s1.choosePlace s1.cur (slice b 8 40) (byteAt b 2) = (.free t, s2)) :=
  ⟨⟨pk 48 [], svc, par 48 [], by decide +kernel⟩,
   ⟨pk 48 [(0, 1)], live, par 48 [(0, 1)], by decide +kernel⟩,
   ⟨pk 48 [(0, 2)], svc, par 48 [(0, 2)], by decide +kernel⟩,
   ⟨pk 64 [(0, 2), (4, 255), (5, 255), (6, 255)], flowed, par 64 [(0, 2), (4, 255), (5, 255), (6, 255)], _, _, _, by decide +kernel, hotOf (by decide +kernel)⟩,
   ⟨pk 64 [(0, 1), (4, 255), (5, 255), (6, 255)], placed, par 64 [(0, 1), (4, 255), (5, 255), (6, 255)], _, _, _, _, by decide +kernel, absentOf (by decide +kernel), by decide +kernel, freeOf (by decide +kernel)⟩⟩

/-- The hypotheses of FlowReadAndWriteComplete can be met, clauses 6 to 10. -/
theorem test_flowReadAndWriteComplete_2 :
    (∃ (m : Msg) (s : State), passes cmdFlowWrite m s = true ∧ m.stage = true ∧ m.norm.p 0 = 3 ∧ settingsFault m.norm = none ∧ zeroAt m.norm ([1, 2, 3] ++ span 8 15 ++ (List.range 26).flatMap fun p => [22 + 8 * p, 23 + 8 * p]) = true) ∧
    (∃ (ch : _) (s : State) (m : Msg) (n : _) (held : _), (ch < 4 ∧ s.refreshing = false) ∧ (s.chan ch).waiting = some (.flow 0x0602 m n held)) ∧
    (∃ (ch : _) (s : State) (m : Msg) (n : _) (held : _), (ch < 4 ∧ s.refreshing = false) ∧ (s.chan ch).waiting = some (.flow 0x0605 m n held)) ∧
    (∃ (ch : _) (s : State) (m : Msg) (n : _) (held : _), (ch < 4 ∧ s.refreshing = false) ∧ (s.chan ch).waiting = some (.flow 0x0606 m n held)) ∧
    (∃ (ch : _) (s : State) (m : Msg) (n : _) (held : _), (ch < 4 ∧ s.refreshing = false) ∧ (s.chan ch).waiting = some (.flow 0x0404 m n held) ∧ s.atWork (.loadSeam ch) = true) :=
  ⟨⟨{ pk 224 ([(0, 3), (4, 16), (5, 14)] ++ (List.range 26).map fun p => (17 + 8 * p, 255)) with flags := 1 }, svc, by decide +kernel⟩,
   ⟨1, { svc with sec := { svc.sec with waiting := some (.flow 0x0602 (pk 48 []) 0 false) } }, _, _, _, by decide +kernel, rfl⟩,
   ⟨1, { svc with sec := { svc.sec with waiting := some (.flow 0x0605 (pk 48 []) 0 false) } }, _, _, _, by decide +kernel, rfl⟩,
   ⟨1, { svc with sec := { svc.sec with waiting := some (.flow 0x0606 (pk 48 []) 0 false) } }, _, _, _, by decide +kernel, rfl⟩,
   ⟨1, { atMiner 11 (.loadSeam 1) svc with sec := { svc.sec with waiting := some (.flow 0x0404 (pk 8 []) 0 true) } }, _, _, _, by decide +kernel, rfl, by decide +kernel⟩⟩

/-- The hypotheses of FlowCommandsComplete can be met, clauses 1 to 5. -/
theorem test_flowCommandsComplete_1 :
    (∃ (m : Msg) (s : State) (b : Bytes) (w : _) (s1 : State) (t : _), (passes cmdFlowDelete m s = true ∧ m.norm.recs 48 = [b] ∧ (firstNonZeroAt b (span 0 7)).isNone = true ∧ byteAt b 45 < 16 ∧ ((s.requestOf (slice b 8 40)).isSome || s.reinjecting (slice b 8 40) || s.parked.any (fun x => x.key.length == 40 && sameKey x.key (slice b 8 40))) = false) ∧ s.findFlow (slice b 8 40) .command = (w, s1) ∧ w.home = some t ∧ s1.endRoom = true) ∧
    (∃ (m : Msg) (s : State) (b : Bytes) (way : _) (e : _) (s1 : State), (passes cmdFlowPin m s = true ∧ m.norm.recs 48 = [b] ∧ byteAt b 0 ≤ 1 ∧ (firstNonZeroAt b (span 1 7)).isNone = true ∧ byteAt b 45 < 16 ∧ (s.requestOf (slice b 8 40)).isSome = false) ∧ s.findFlow (slice b 8 40) .command = (.hot way e, s1)) ∧
    (∃ (m : Msg) (s : State) (b : Bytes), passes cmdFlowClassSet m s = true ∧ m.norm.recs 32 = [b] ∧ byteAt b 0 ≤ 7 ∧ byteAt b 1 = 0 ∧ (firstNonZeroAt b (span 2 31)).isNone = true) ∧
    (∃ (m : Msg) (s : State) (b : Bytes) (x : FlowClass), passes cmdFlowClassSet m s = true ∧ m.stage = true ∧ m.norm.recs 32 = [b] ∧ byteAt b 0 ≤ 7 ∧ byteAt b 1 = 1 ∧ byteAt b 2 ≤ 1 ∧ byteAt b 3 ≤ 1 ∧ ((∀ i, i < 8 → 1 ≤ fieldLe b (4 + 2 * i) 2 ∧ fieldLe b (4 + 2 * i) 2 ≤ 10800)) ∧ (firstNonZeroAt b (span 20 31)).isNone = true ∧ x.random = (byteAt b 2 == 1) ∧ x.overflowDrop = (byteAt b 3 == 1) ∧ x.timeouts = ((List.range 8).map fun i => fieldLe b (4 + 2 * i) 2)) ∧
    (∃ (m : Msg) (s : State) (b : Bytes), passes cmdFlowNewLimit m s = true ∧ m.stage = true ∧ m.norm.recs 12 = [b] ∧ fieldLe b 0 2 ≤ 4095 ∧ byteAt b 2 = 1 ∧ byteAt b 3 ≤ 1 ∧ fieldLe b 4 4 ≤ 1000000 ∧ 1 ≤ fieldLe b 8 2 ∧ (firstNonZeroAt b [10, 11]).isNone = true) :=
  ⟨⟨pk 48 [], flowed, par 48 [], _, _, _, by decide +kernel, pairOf, someOf (by decide +kernel), by decide +kernel⟩,
   ⟨pk 48 [(0, 1)], flowed, par 48 [(0, 1)], _, _, _, by decide +kernel, hotOf (by decide +kernel)⟩,
   ⟨pk 32 [(0, 7)], svc, par 32 [(0, 7)], by decide +kernel⟩,
   ⟨pk 32 ([(0, 7), (1, 1), (2, 1), (3, 1)] ++ (List.range 8).map fun i => (4 + 2 * i, 1)) 1, svc, par 32 ([(0, 7), (1, 1), (2, 1), (3, 1)] ++ (List.range 8).map fun i => (4 + 2 * i, 1)), { FlowClass.reset with random := true, overflowDrop := true, timeouts := (List.range 8).map fun _ => 1 }, by decide +kernel⟩,
   ⟨pk 12 [(0, 255), (1, 15), (2, 1), (3, 1), (4, 64), (5, 66), (6, 15), (8, 1)] 1, svc, par 12 [(0, 255), (1, 15), (2, 1), (3, 1), (4, 64), (5, 66), (6, 15), (8, 1)], by decide +kernel⟩⟩

/-- The hypotheses of FlowCommandsComplete can be met, clauses 6 to 10. -/
theorem test_flowCommandsComplete_2 :
    (∃ (m : Msg) (s : State) (b : Bytes) (x : _), (passes cmdFlowNewLimit m s = true ∧ m.norm.recs 12 = [b] ∧ fieldLe b 0 2 ≤ 4095 ∧ byteAt b 2 = 0 ∧ (firstNonZeroAt b (span 3 11)).isNone = true) ∧ x = (tget? (s.view m).flow.limits (fieldLe b 0 2)).getD (NewLimit.mk false 0 64)) ∧
    (∃ (m : Msg) (s : State), passes cmdFlowAgeConfig m s = true ∧ m.norm.p 0 = 0 ∧ m.norm.p 1 = 0 ∧ zeroAt m.norm (span 2 7) = true) ∧
    (∃ (m : Msg) (s : State), passes cmdFlowAgeConfig m s = true ∧ m.stage = true ∧ m.norm.p 0 = 1 ∧ m.norm.p 1 = 0 ∧ zeroAt m.norm [5, 6, 7] = true ∧ 5 ≤ m.norm.f 2 2 ∧ m.norm.f 2 2 ≤ 3600 ∧ 1 ≤ m.norm.p 4 ∧ m.norm.p 4 ≤ 24) ∧
    (∃ (m : Msg) (s : State), passes cmdFlowHashSeed m s = true ∧ m.norm.p 0 = 1 ∧ zeroAt m.norm [1, 2, 3] = true ∧ s.flowsPresent = 0 ∧ m.norm.f 4 4 ≠ m.norm.f 8 4) ∧
    (∃ (m : Msg) (s : State), passes cmdFlowStats m s = true ∧ zeroAt m.norm (span 0 3) = true) :=
  ⟨⟨pk 12 [], svc, par 12 [], _, by decide +kernel, rfl⟩,
   ⟨pk 8 [], svc, by decide +kernel⟩,
   ⟨pk 8 [(0, 1), (2, 5), (4, 24)] 1, svc, by decide +kernel⟩,
   ⟨pk 12 [(0, 1), (4, 1)], inState .init, by decide +kernel⟩,
   ⟨pk 4 [], svc, by decide +kernel⟩⟩

/-- The hypotheses of FlowCommandsComplete can be met, clauses 11 to 11. -/
theorem test_flowCommandsComplete_3 :
    ∃ (m : Msg) (s : State), passes cmdFlowStats m s = true ∧ m.norm.p 0 = 1 ∧ zeroAt m.norm [1, 2, 3] = true :=
  ⟨pk 4 [(0, 1)], svc, by decide +kernel⟩

/-- The hypotheses of FlowExportCompletes can be met. -/
theorem test_flowExportCompletes :
    (∃ (m : Msg) (s : State) (k : _) (d : _), (passes cmdFlowExport m s = true ∧ m.norm.p 0 = 0 ∧ zeroAt m.norm ([1, 2, 3] ++ span 16 23) = true) ∧ ordinalOf (s.regionRuns 0) (m.norm.f 4 4) 0 = some k ∧ (k + m.norm.f 8 4 ≤ s.regionSize 0 ∧ 1 ≤ m.norm.f 8 4) ∧ s.dram.dir.find (m.norm.f 12 4) = some d ∧ ((s.seamRuns d).any fun r => (s.regionRuns 0).any fun q => r.1 < q.1 + q.2 && q.1 < r.1 + r.2) = false ∧ (s.dram.dir.storeTiles d).isEmpty = true ∧ s.seamLength d = m.norm.f 8 4 ∧ s.flow.exporter.state ≠ .running ∧ (State.newTasks TaskType.command .exporter (s.typeCfg TaskType.command).maxMiners s).isSome = true) ∧
    (∃ (m : Msg) (s : State), passes cmdFlowExport m s = true ∧ m.norm.p 0 = 1 ∧ zeroAt m.norm ([1, 2, 3] ++ span 16 23) = true ∧ zeroAt m.norm (span 4 15) = true ∧ s.flow.exporter.state ≠ .running) ∧
    (∃ (m : Msg) (s : State), passes cmdFlowExport m s = true ∧ m.norm.p 0 = 2 ∧ zeroAt m.norm ([1, 2, 3] ++ span 16 23) = true ∧ zeroAt m.norm (span 4 15) = true ∧ s.flow.exporter.state ≠ .running) ∧
    (∃ (s : State), s.refreshing = false ∧ s.flow.exporter.state = .running ∧ s.atWork .exporter = true ∧ s.flow.exporter.holds = none) ∧
    (∃ (s : State) (e : _), (s.refreshing = false ∧ s.flow.exporter.state = .running ∧ s.atWork .exporter = true) ∧ s.flow.exporter.holds = some e) :=
  ⟨⟨pk 24 [(8, 16), (12, 7)], seamed, _, _, by decide +kernel, someOf (by decide +kernel), by decide +kernel, someOf (by decide +kernel), by decide +kernel⟩,
   ⟨pk 24 [(0, 1)], svc, by decide +kernel⟩,
   ⟨pk 24 [(0, 2)], svc, by decide +kernel⟩,
   ⟨{ atMiner 11 .exporter live with flow := { live.flow with exporter := { live.flow.exporter with state := .running } } }, by decide +kernel⟩,
   ⟨{ atMiner 11 .exporter live with flow := { live.flow with exporter := { live.flow.exporter with state := .running, holds := some 0 } } }, _, by decide +kernel, someOf (by decide +kernel)⟩⟩

/-- The hypotheses of BufferAndRingEventsComplete can be met, clauses 1 to 5. -/
theorem test_bufferAndRingEventsComplete_1 :
    (∃ (port : Nat) (frame : FrameIn) (s : State) (f : FrameIn) (s1 : State) (k : Nat), (port < 26 ∧ s.portUp port = true) ∧ s.throughLoop port frame = some (f, s1) ∧ f.ended = true ∧ (s1.rxLine port f).rxError port ((s1.rxLine port f).maxFrame port) f = some k) ∧
    (∃ (port : Nat) (frame : FrameIn) (s : State) (f : FrameIn) (s1 : State) (t : _) (m : _), (port < 26 ∧ s.portUp port = true) ∧ s.throughLoop port frame = some (f, s1) ∧ (f.ended = true ∧ (s1.rxLine port f).rxError port ((s1.rxLine port f).maxFrame port) f = none) ∧ (s1.rxLine port f).pdelayAt port f.bytes = some (t, m)) ∧
    (∃ (port : Nat) (frame : FrameIn) (s : State) (f : FrameIn) (s1 : State), (port < 26 ∧ s.portUp port = true) ∧ s.throughLoop port frame = some (f, s1) ∧ f.ended = true ∧ (s1.rxLine port f).rxError port ((s1.rxLine port f).maxFrame port) f = none ∧ (s1.rxLine port f).pdelayAt port f.bytes = none) ∧
    (∃ (port : Nat) (frame : FrameIn) (s : State) (f : FrameIn) (s1 : State), (port < 24 ∧ s.portUp port = true) ∧ s.throughLoop port frame = some (f, s1) ∧ f.ended = false ∧ (s.portCfg port).cutThrough = true) ∧
    (∃ (id : _) (frame : FrameIn) (s : State) (a : _) (s1 : State), s.buf.arriving.find? (fun x => x.id == id) = some a ∧ s1 = State.addOctets { s with buf := { s.buf with arriving := s.buf.arriving.filter fun x => x.id != id } } a.counts (frame.bytes.length + 4) ∧ (a.cut = true ∨ s.portUp a.port = false)) :=
  ⟨⟨25, { badFrame with bytes := zeros 20 }, upPort 25, _, _, _, by decide +kernel, somePair (by decide +kernel), by decide +kernel, someOf (by decide +kernel)⟩,
   ⟨25, { badFrame with bytes := pdelayFrame, fcsOk := true }, p2p, _, _, _, _, by decide +kernel, somePair (by decide +kernel), by decide +kernel, somePair (by decide +kernel)⟩,
   ⟨25, { badFrame with fcsOk := true }, upPort 25, _, _, by decide +kernel, somePair (by decide +kernel), by decide +kernel⟩,
   ⟨23, { badFrame with ended := false }, cutPort, _, _, by decide +kernel, somePair (by decide +kernel), by decide +kernel⟩,
   ⟨1, badFrame, { upPort 25 with buf := { svc.buf with arriving := [{ id := 1, port := 25, got := 60, passed := true, maxFrame := 1518, cut := true, claims := [] }] } }, _, _, someOf (by decide +kernel), rfl, by decide +kernel⟩⟩

/-- The hypotheses of BufferAndRingEventsComplete can be met, clauses 6 to 10. -/
theorem test_bufferAndRingEventsComplete_2 :
    (∃ (id : _) (frame : FrameIn) (s : State) (a : _) (s1 : State) (s2 : State), s.buf.arriving.find? (fun x => x.id == id) = some a ∧ (a.cut = false ∧ s.portUp a.port = true) ∧ s1 = State.addOctets { s with buf := { s.buf with arriving := s.buf.arriving.filter fun x => x.id != id } } a.counts (frame.bytes.length + 4) ∧ s2 = State.rxLine (if (s.port a.port).loopback = 3 then s1.send (.frame a.port frame.bytes (!frame.fcsOk)) else s1) a.port frame) ∧
    (∃ (port : Nat) (s : State) (c : _) (e : _) (s1 : State), (isBufPort port = true ∧ s.portFree port = true) ∧ s.schedule port = some (c, e, s1)) ∧
    (∃ (queue : _) (index : _) (s : State) (e : _) (s1 : State), (queue < 525312 ∧ (s.queue queue).items[index]? = some e ∧ e.pkt.admitted + 50000000 ≤ s.now ∧ s.recordBusy queue index = false) ∧ s1 = (s.dropRecord queue index).setQueue queue { s.queue queue with items := (s.queue queue).items.eraseIdx index, discarded := (s.queue queue).discarded + 1 }) ∧
    (∃ (pipe : Bool) (index : Nat) (s : State) (p : Pkt), (s.recircQ pipe)[index]? = some p ∧ p.admitted + 50000000 ≤ s.now) ∧
    (∃ (pipe : Bool) (index : Nat) (s : State) (p : Pkt) (key : Bytes), (s.reinjectQ pipe)[index]? = some (p, key) ∧ p.admitted + 50000000 ≤ s.now) :=
  ⟨⟨1, badFrame, { upPort 25 with buf := { svc.buf with arriving := [{ id := 1, port := 25, got := 60, passed := true, maxFrame := 1518, cut := false, claims := [] }] } }, _, _, _, someOf (by decide +kernel), by decide +kernel, rfl, rfl⟩,
   ⟨25, queued (classQueue 25 0) 0, _, _, _, by decide +kernel, tripleSome (by decide +kernel)⟩,
   ⟨classQueue 25 0, 0, queued (classQueue 25 0) 50000000, aQueued, _, by decide +kernel, rfl⟩,
   ⟨true, 0, { svc with now := 50000000, buf := { svc.buf with recirc1 := [aPkt] } }, aPkt, by decide +kernel⟩,
   ⟨true, 0, { svc with now := 50000000, buf := { svc.buf with reinject1 := [(aPkt, zeros 40)] } }, aPkt, zeros 40, by decide +kernel⟩⟩

/-- The hypotheses of BufferAndRingEventsComplete can be met, clauses 11 to 15. -/
theorem test_bufferAndRingEventsComplete_3 :
    (∃ (ring : RingRead) (s : State) (c : _), ring.ring < 8 ∧ c = (s.hostRing ring.ring).channel ∧ s.nextServed = some c ∧ s.nextRing c = some ring.ring ∧ s.burstDue c = false) ∧
    (∃ (s : State) (ring : _) (bytes : _) (x : _), s.hostRing ring = x ∧ x.slot = some bytes ∧ 4 + 512 * x.sent < bytes.length) ∧
    (∃ (s : State) (ring : _) (bytes : _) (x : _), s.hostRing ring = x ∧ x.slot = some bytes ∧ bytes.length ≤ 4 + 512 * x.sent) ∧
    (∃ (s : State) (ring : _) (e : _) (rest : _) (x : _) (data : Bytes), (s.hostRing ring).slot = none ∧ (s.queue (ringQueue ring)).items = e :: rest ∧ s.stampRx e = (false, x) ∧ s.recordData (s.ring ring) x = (data, false)) ∧
    (∃ (s : State) (ring : _) (e : _) (rest : _) (hurt : Upsets) (s1 : State), (s.hostRing ring).slot = none ∧ (s.queue (ringQueue ring)).items = e :: rest ∧ s1 = hurt.buffer.foldl (State.cellFault · e.pkt.pipe.toNat) s ∧ hurt.buffer.any (·.1 == 2) = true) :=
  ⟨⟨{ ring := 7 }, ringed, _, by decide +kernel, rfl, by decide +kernel⟩,
   ⟨{ ringed with buf := { ringed.buf with rings := ringed.buf.rings.set 7 { ringed.ring 7 with slot := some (zeros 1024) } } }, 7, _, _, rfl, someOf (by decide +kernel), by decide +kernel⟩,
   ⟨{ ringed with buf := { ringed.buf with rings := ringed.buf.rings.set 7 { ringed.ring 7 with slot := some (zeros 96), sent := 1 } } }, 7, _, _, rfl, someOf (by decide +kernel), by decide +kernel⟩,
   ⟨ringed, 7, _, _, _, _, by decide +kernel, consOf (by decide +kernel), sweepOf (by decide +kernel), pairFalse (by decide +kernel)⟩,
   ⟨ringed, 7, _, _, { buffer := [(2, 0)] }, _, by decide +kernel, consOf (by decide +kernel), rfl, by decide +kernel⟩⟩

/-- The hypotheses of BufferAndRingEventsComplete can be met, clauses 16 to 17. -/
theorem test_bufferAndRingEventsComplete_4 :
    (∃ (ring : _) (s : State), ring < 10 ∧ (s.hostRing ring).enabled = true ∧ (s.hostRing ring).halted = false ∧ (s.hostRing ring).full = true ∧ s.requestReady (s.hostRing ring).channel = true ∧ (s.hostRing ring).polled.all (· + 2000 ≤ s.now) = true ∧ s.readsOut < 256) ∧
    (∃ (ring : _) (s : State) (t : _) (x : _), ring < 10 ∧ s.hostRing ring = x ∧ x.holdUntil = some t ∧ t ≤ s.now) :=
  ⟨⟨7, fullRing, by decide +kernel⟩,
   ⟨7, { svc with buf := { svc.buf with rings := svc.buf.rings.set 7 { svc.ring 7 with holdUntil := some 0 } } }, 0, _, by decide +kernel, rfl, by decide +kernel⟩⟩

/-- The hypotheses of BufferCommandsComplete can be met, clauses 1 to 5. -/
theorem test_bufferCommandsComplete_1 :
    (∃ (m : Msg) (s : State) (b : Bytes) (x : _), (passes cmdQueueConfig m s = true ∧ m.norm.recs 8 = [b] ∧ byteAt b 0 < 26 ∧ byteAt b 1 ≤ 7 ∧ byteAt b 2 = 0 ∧ (firstNonZeroAt b (span 3 7)).isNone = true) ∧ x = (s.view m).queueCfg (classQueue (byteAt b 0) (byteAt b 1))) ∧
    (∃ (m : Msg) (s : State) (b : Bytes) (f : _), (passes cmdQueueConfig m s = true ∧ m.stage = true ∧ m.norm.recs 8 = [b] ∧ byteAt b 0 < 26 ∧ byteAt b 1 ≤ 7 ∧ byteAt b 2 = 1 ∧ byteAt b 3 ≤ 7 ∧ fieldLe b 4 2 ≤ 8192 ∧ 38 ≤ fieldLe b 6 2) ∧ f = (fun v : BufCfg => { v with queues := tset v.queues (classQueue (byteAt b 0) (byteAt b 1)) { alpha := byteAt b 3, min := fieldLe b 4 2, max := fieldLe b 6 2 } }) ∧ Staged.reserved { s.shadow with buf := f s.shadow.buf } ≤ 180224) ∧
    (∃ (m : Msg) (s : State) (b : Bytes), passes cmdShaperNodeSet m s = true ∧ m.stage = true ∧ m.norm.recs 20 = [b] ∧ fieldLe b 0 3 ≤ 131071 ∧ byteAt b 3 = 1 ∧ (s.subRecord s.shadow (fieldLe b 0 3)).isSome = true ∧ shaperFault b = none) ∧
    (∃ (m : Msg) (s : State) (b : Bytes), passes cmdShaperNodeSet m s = true ∧ m.stage = true ∧ m.norm.recs 20 = [b] ∧ fieldLe b 0 3 ≤ 131071 ∧ byteAt b 3 = 2 ∧ (firstNonZeroAt b (span 4 19)).isNone = true ∧ (s.subRecord s.shadow (fieldLe b 0 3)).isSome = true) ∧
    (∃ (m : Msg) (s : State), passes cmdShaperNodeRead m s = true ∧ m.norm.f 0 3 ≤ 131071 ∧ m.norm.p 3 = 0 ∧ zeroAt m.norm (span 4 7) = true) :=
  ⟨⟨pk 8 [(0, 25), (1, 7)], svc, par 8 [(0, 25), (1, 7)], _, by decide +kernel, rfl⟩,
   ⟨pk 8 [(0, 25), (1, 7), (2, 1), (3, 7), (6, 38)] 1, svc, par 8 [(0, 25), (1, 7), (2, 1), (3, 7), (6, 38)], _, by decide +kernel, rfl, by decide +kernel⟩,
   ⟨pk 20 [(3, 1), (4, 25), (5, 1), (8, 1), (12, 1), (16, 38)] 1, subbed, par 20 [(3, 1), (4, 25), (5, 1), (8, 1), (12, 1), (16, 38)], by decide +kernel⟩,
   ⟨pk 20 [(3, 2)] 1, subbed, par 20 [(3, 2)], by decide +kernel⟩,
   ⟨pk 8 [(0, 255), (1, 255), (2, 1)], svc, by decide +kernel⟩⟩

/-- The hypotheses of BufferCommandsComplete can be met, clauses 6 to 10. -/
theorem test_bufferCommandsComplete_2 :
    (∃ (m : Msg) (s : State), passes cmdShaperNodeRead m s = true ∧ m.norm.f 0 3 ≤ 131071 ∧ m.norm.p 3 = 1 ∧ zeroAt m.norm (span 4 7) = true) ∧
    (∃ (m : Msg) (s : State) (b : Bytes), passes cmdSchedConfig m s = true ∧ m.norm.recs 16 = [b] ∧ byteAt b 0 ≤ 25 ∧ byteAt b 1 = 0 ∧ (firstNonZeroAt b (span 2 15)).isNone = true) ∧
    (∃ (m : Msg) (s : State) (b : Bytes) (x : _), (passes cmdSchedConfig m s = true ∧ m.stage = true ∧ m.norm.recs 16 = [b] ∧ byteAt b 0 ≤ 25 ∧ byteAt b 1 = 1 ∧ byteAt b 3 ≤ 7) ∧ ((∀ i, 4 ≤ i → i ≤ 11 → byteAt b i ≠ 0)) ∧ fieldLe b 12 4 ≤ 400000 ∧ x = SchedCfg.mk (b.getD 2 0) (byteAt b 3) ((span 4 11).map (byteAt b)) (fieldLe b 12 4)) ∧
    (∃ (m : Msg) (s : State) (b : Bytes), passes cmdMirrorSet m s = true ∧ m.norm.recs 16 = [b] ∧ byteAt b 0 ≤ 15 ∧ byteAt b 1 = 0 ∧ (firstNonZeroAt b (span 2 15)).isNone = true) ∧
    (∃ (m : Msg) (s : State) (b : Bytes), passes cmdMirrorSet m s = true ∧ m.stage = true ∧ m.norm.recs 16 = [b] ∧ byteAt b 0 ≤ 15 ∧ byteAt b 1 = 1 ∧ sessionFault b = none) :=
  ⟨⟨pk 8 [(3, 1)], svc, by decide +kernel⟩,
   ⟨pk 16 [(0, 25)], svc, par 16 [(0, 25)], by decide +kernel⟩,
   ⟨pk 16 ([(0, 25), (1, 1), (2, 255), (3, 7)] ++ (List.range 8).map fun i => (4 + i, 1)) 1, svc, par 16 ([(0, 25), (1, 1), (2, 255), (3, 7)] ++ (List.range 8).map fun i => (4 + i, 1)), _, by decide +kernel, spanOf (by decide +kernel), by decide +kernel, rfl⟩,
   ⟨pk 16 [(0, 15)], svc, par 16 [(0, 15)], by decide +kernel⟩,
   ⟨pk 16 [(0, 15), (1, 1), (2, 25), (8, 1)] 1, svc, par 16 [(0, 15), (1, 1), (2, 25), (8, 1)], by decide +kernel⟩⟩

/-- The hypotheses of BufferCommandsComplete can be met, clauses 11 to 15. -/
theorem test_bufferCommandsComplete_3 :
    (∃ (m : Msg) (s : State) (b : Bytes), passes cmdMirrorSet m s = true ∧ m.stage = true ∧ m.norm.recs 16 = [b] ∧ byteAt b 0 ≤ 15 ∧ byteAt b 1 = 2 ∧ (firstNonZeroAt b (span 2 15)).isNone = true ∧ (s.shadow.session (byteAt b 0)).isSome = true) ∧
    (∃ (m : Msg) (s : State), passes cmdHostringSet m s = true ∧ m.norm.p 0 ≤ 7 ∧ m.norm.p 1 = 0 ∧ zeroAt m.norm (span 2 39) = true) ∧
    (∃ (m : Msg) (s : State) (y : _), (passes cmdHostringSet m s = true ∧ m.norm.p 0 ≤ 7 ∧ m.norm.p 1 = 1 ∧ s.channelBad m.norm (m.norm.p 2) = false ∧ m.norm.p 3 ≤ 1 ∧ geometryFault m.norm = none ∧ zeroAt m.norm (span 24 39) = true ∧ (s.ring (m.norm.p 0)).enabled = false) ∧ y = { s.ring (m.norm.p 0) with channel := m.norm.p 2, irq := m.norm.p 3 == 1, j := m.norm.p 4, k := m.norm.p 5, holdoff := m.norm.f 6 2, base := m.norm.f 8 8, consumerAddr := m.norm.f 16 8 }) ∧
    (∃ (m : Msg) (s : State), passes cmdHostringSet m s = true ∧ m.norm.p 0 ≤ 7 ∧ m.norm.p 1 = 2 ∧ zeroAt m.norm (span 2 39) = true) ∧
    (∃ (m : Msg) (s : State), passes cmdHostringSet m s = true ∧ m.norm.p 0 ≤ 7 ∧ m.norm.p 1 = 3 ∧ zeroAt m.norm (span 2 39) = true) :=
  ⟨⟨pk 16 [(0, 15), (1, 2)] 1, { svc with shadow := { svc.shadow with buf := { svc.shadow.buf with mirrors := [(15, zeros 16)] } } }, par 16 [(0, 15), (1, 2)], by decide +kernel⟩,
   ⟨pk 40 [(0, 7)], svc, by decide +kernel⟩,
   ⟨pk 40 [(0, 7), (1, 1), (3, 1), (4, 14), (5, 16), (6, 232), (7, 3)], { svc with host := { svc.host with channels := svc.host.channels.set 0 { DmaChannel.reset with request := true }, owner := 1 } }, _, by decide +kernel, rfl⟩,
   ⟨pk 40 [(0, 7), (1, 2)], svc, by decide +kernel⟩,
   ⟨pk 40 [(0, 7), (1, 3)], svc, by decide +kernel⟩⟩

/-- The hypotheses of BufferCommandsComplete can be met, clauses 16 to 20. -/
theorem test_bufferCommandsComplete_4 :
    (∃ (m : Msg) (s : State), passes cmdHostringSet m s = true ∧ m.norm.p 0 ≤ 7 ∧ m.norm.p 1 = 4 ∧ m.norm.p 3 = 0 ∧ zeroAt m.norm (2 :: span 4 39) = true) ∧
    (∃ (m : Msg) (s : State), passes cmdBufferStatus m s = true ∧ m.norm.p 0 = 0 ∧ m.norm.p 1 = 0 ∧ m.norm.p 2 = 1 ∧ m.norm.p 3 = 0) ∧
    (∃ (m : Msg) (s : State), passes cmdBufferStatus m s = true ∧ m.norm.p 0 = 1 ∧ m.norm.p 1 < 26 ∧ m.norm.p 2 = 0 ∧ m.norm.p 3 = 0) ∧
    (∃ (m : Msg) (s : State) (f : _), (passes cmdBufferThreshold m s = true ∧ m.norm.p 0 = 0 ∧ zeroAt m.norm (span 1 7) = true) ∧ f = (s.view m).buf) ∧
    (∃ (m : Msg) (s : State) (g : _), (passes cmdBufferThreshold m s = true ∧ m.stage = true ∧ m.norm.p 0 = 1 ∧ m.norm.p 1 ≤ 7 ∧ zeroAt m.norm [2, 3] = true ∧ m.norm.f 4 2 ≤ 32768 ∧ m.norm.f 6 2 ≤ 32768) ∧ g = (fun v : BufCfg => { v with subAlpha := m.norm.p 1, res0 := m.norm.f 4 2, res1 := m.norm.f 6 2 }) ∧ Staged.reserved { s.shadow with buf := g s.shadow.buf } ≤ 180224) :=
  ⟨⟨pk 40 [(0, 7), (1, 4)], svc, by decide +kernel⟩,
   ⟨pk 4 [(2, 1)], svc, by decide +kernel⟩,
   ⟨pk 4 [(0, 1), (1, 25)], svc, by decide +kernel⟩,
   ⟨pk 8 [], svc, _, by decide +kernel, rfl⟩,
   ⟨pk 8 [(0, 1), (1, 7), (5, 128)] 1, svc, _, by decide +kernel, rfl, by decide +kernel⟩⟩

/-- The hypotheses of BridgeTablesComplete can be met, clauses 1 to 5. -/
theorem test_bridgeTablesComplete_1 :
    (∃ (pipe : _) (s : State) (e : _) (q : _), s.fwd.queue pipe = e :: q) ∧
    (∃ (pipe : _) (s : State) (w : _) (s1 : State), (s.agedWay pipe (s.fwd.age pipe) = some w ∧ s.fwd.ageStart pipe + w * (s.cur.fwd.bridgeAge * 1000000000) / 262144 ≤ s.flowNow) ∧ s1 = s.ageWay pipe w) ∧
    (∃ (pipe : _) (s : State), s.agedWay pipe (s.fwd.age pipe) = none ∧ s.fwd.ageStart pipe + s.cur.fwd.bridgeAge * 1000000000 ≤ s.flowNow) ∧
    (∃ (s : State) (r : _) (rest : _) (s1 : State), s.fwd.bulk = r :: rest ∧ s.serves TaskType.learn = true ∧ s1 = { s with fwd := { s.fwd with bulk := rest } }) ∧
    (∃ (s : State) (b : _) (t : _) (x : _) (s1 : State), (s.refreshing = false ∧ s.fwd.broken.find? (fun b => s.atWork (if b.isRoute then .routeRepair else .fwdRepair) && s.fwd.copies.any (·.1 == b)) = some b ∧ s.fwd.copies.find? (fun c => c.1 == b) = some (b, t)) ∧ s.readTile t .miner = (some x, s1)) :=
  ⟨⟨true, { svc with fwd := { svc.fwd with queue1 := [{ domain := 0, mac := 5, port := 1 }] } }, _, _, consOf (by decide +kernel)⟩,
   ⟨false, { svc with fwd := { svc.fwd with learned0 := [(0, aLearned)] } }, 0, _, by decide +kernel, rfl⟩,
   ⟨false, { svc with time := { svc.time with flow := 281474976710655 } }, by decide +kernel⟩,
   ⟨{ atMiner 6 .standing svc with fwd := { svc.fwd with bulk := [{ byPort := true, pipeMask := 3, value := 1 }] } }, _, _, _, consOf (by decide +kernel), by decide +kernel, rfl⟩,
   ⟨{ unmended with dram := { live.dram with wq := [(0x9600000, zeros 60)] } }, .nexthop 0 (zeros 32), 0x9600000, _, _, by decide +kernel, someFst (by decide +kernel)⟩⟩

/-- The hypotheses of BridgeTablesComplete can be met, clauses 6 to 10. -/
theorem test_bridgeTablesComplete_2 :
    (∃ (s : State) (b : _) (t : _) (s1 : State), (s.refreshing = false ∧ s.fwd.broken.find? (fun b => s.atWork (if b.isRoute then .routeRepair else .fwdRepair) && s.fwd.copies.any (·.1 == b)) = some b ∧ s.fwd.copies.find? (fun c => c.1 == b) = some (b, t)) ∧ s.readTile t .miner = (none, s1)) ∧
    (∃ (m : Msg) (s : State) (b : Bytes) (x : _) (d : _) (mac : _) (places : _), (passes cmdBridgeEntrySet m s = true ∧ m.stage = true ∧ m.norm.recs 16 = [b]) ∧ d = fieldLe b 0 2 ∧ mac = ofBe (slice b 2 6) ∧ tget? s.shadow.fwd.domains d = some x ∧ (bitAt b 2 0 = false ∧ ((byteAt b 8 ≤ 25 ∨ byteAt b 8 = 0xFF)) ∧ byteAt b 9 ≤ 3 ∧ ((x.sync = true → byteAt b 9 = 3)) ∧ (firstNonZeroAt b (span 10 15)).isNone = true) ∧ places = ((maskPipes (byteAt b 9)).map fun p => (p, s.claimWay p d mac)) ∧ ((∀ p ∈ places, p.2.isSome = true))) ∧
    (∃ (m : Msg) (s : State) (b : Bytes), passes cmdBridgeEntryDelete m s = true ∧ m.stage = false ∧ m.norm.recs 12 = [b] ∧ byteAt b 0 = 0 ∧ byteAt b 1 ≤ 3 ∧ fieldLe b 2 2 ≤ 4095 ∧ (firstNonZeroAt b [10, 11]).isNone = true) ∧
    (∃ (m : Msg) (s : State) (b : Bytes), passes cmdBridgeEntryDelete m s = true ∧ m.norm.recs 12 = [b] ∧ byteAt b 0 = 2 ∧ byteAt b 1 ≤ 3 ∧ fieldLe b 2 2 ≤ 4095 ∧ (firstNonZeroAt b (span 4 11)).isNone = true) ∧
    (∃ (m : Msg) (s : State), passes cmdBridgeRead m s = true ∧ m.norm.p 0 = 0 ∧ m.norm.p 1 ≤ 1 ∧ zeroAt m.norm [2, 3] = true ∧ m.norm.f 4 2 ≤ 4095) :=
  ⟨⟨{ unmended with dram := (live.upset { tiles := [0x9600000] }).dram }, .nexthop 0 (zeros 32), 0x9600000, _, by decide +kernel, nonePair (by decide +kernel)⟩,
   ⟨pk 16 [(7, 5), (8, 255), (9, 3)] 1, { svc with shadow := { svc.shadow with fwd := { svc.shadow.fwd with domains := [(0, Domain.mk 0 false false false true)] } } }, par 16 [(7, 5), (8, 255), (9, 3)], _, _, _, _, by decide +kernel, rfl, rfl, someOf (by decide +kernel), by decide +kernel, rfl, by decide +kernel⟩,
   ⟨pk 12 [(1, 3), (2, 255), (3, 15)], svc, par 12 [(1, 3), (2, 255), (3, 15)], by decide +kernel⟩,
   ⟨pk 12 [(0, 2), (1, 3), (2, 255), (3, 15)], svc, par 12 [(0, 2), (1, 3), (2, 255), (3, 15)], by decide +kernel⟩,
   ⟨pk 12 [(1, 1), (4, 255), (5, 15)], svc, by decide +kernel⟩⟩

/-- The hypotheses of BridgeTablesComplete can be met, clauses 11 to 15. -/
theorem test_bridgeTablesComplete_3 :
    (∃ (m : Msg) (s : State) (b : Bytes), passes cmdBridgeDomainSet m s = true ∧ m.norm.recs 16 = [b] ∧ byteAt b 0 = 1 ∧ byteAt b 1 = 0 ∧ fieldLe b 2 2 ≤ 4095 ∧ (firstNonZeroAt b (span 4 15)).isNone = true) ∧
    (∃ (m : Msg) (s : State) (b : Bytes) (x : _), (passes cmdBridgeDomainSet m s = true ∧ m.stage = true ∧ m.norm.recs 16 = [b] ∧ byteAt b 0 = 1 ∧ byteAt b 1 = 1 ∧ fieldLe b 2 2 ≤ 4095 ∧ fieldLe b 4 4 < 2 ^ 26 ∧ byteAt b 8 ≤ 15 ∧ (firstNonZeroAt b (span 9 15)).isNone = true) ∧ x = Domain.mk (BitVec.ofNat 26 (fieldLe b 4 4)) (bitAt b 8 0) (bitAt b 8 1) (bitAt b 8 2) (bitAt b 8 3) ∧ ((x.sync = true → ((tdel s.shadow.fwd.domains (fieldLe b 2 2)).filter fun e => e.2.sync).length < 64))) ∧
    (∃ (m : Msg) (s : State) (b : Bytes) (x : _), (passes cmdLearnLimitSet m s = true ∧ m.norm.recs 8 = [b] ∧ byteAt b 0 ≤ 25 ∧ byteAt b 1 = 0 ∧ (firstNonZeroAt b (span 2 7)).isNone = true) ∧ x = (s.view m).learnLimit (byteAt b 0)) ∧
    (∃ (m : Msg) (s : State) (b : Bytes) (x : LearnLimit), passes cmdLearnLimitSet m s = true ∧ m.stage = true ∧ m.norm.recs 8 = [b] ∧ byteAt b 0 ≤ 25 ∧ byteAt b 1 = 1 ∧ byteAt b 2 ≤ 1 ∧ (firstNonZeroAt b [3, 6, 7]).isNone = true ∧ x.flood = (byteAt b 2 == 1) ∧ x.limit = fieldLe b 4 2) ∧
    (∃ (m : Msg) (s : State), passes cmdLearnConfig m s = true ∧ m.norm.p 0 = 0 ∧ m.norm.p 1 = 0 ∧ zeroAt m.norm (span 2 31) = true) :=
  ⟨⟨pk 16 [(0, 1), (2, 255), (3, 15)], svc, par 16 [(0, 1), (2, 255), (3, 15)], by decide +kernel⟩,
   ⟨pk 16 [(0, 1), (1, 1), (2, 255), (3, 15), (7, 3), (8, 15)] 1, svc, par 16 [(0, 1), (1, 1), (2, 255), (3, 15), (7, 3), (8, 15)], _, by decide +kernel, rfl, by decide +kernel⟩,
   ⟨pk 8 [(0, 25)], svc, par 8 [(0, 25)], _, by decide +kernel, rfl⟩,
   ⟨pk 8 [(0, 25), (1, 1), (2, 1), (4, 9)] 1, svc, par 8 [(0, 25), (1, 1), (2, 1), (4, 9)], { flood := true, limit := 9 }, by decide +kernel⟩,
   ⟨pk 32 [], svc, by decide +kernel⟩⟩

/-- The hypotheses of BridgeTablesComplete can be met, clauses 16 to 16. -/
theorem test_bridgeTablesComplete_4 :
    ∃ (m : Msg) (s : State), passes cmdLearnConfig m s = true ∧ m.stage = true ∧ m.norm.p 0 = 1 ∧ m.norm.p 1 = 0 ∧ zeroAt m.norm [2, 3, 10, 11] = true ∧ m.norm.f 12 4 ≤ 10000 ∧ 10 ≤ m.norm.f 16 4 ∧ m.norm.f 16 4 ≤ 1000000 ∧ m.norm.p 20 ≤ 7 ∧ m.norm.p 21 ≤ 1 ∧ m.norm.p 22 ≤ 7 ∧ zeroAt m.norm (span 23 31) = true :=
  ⟨pk 32 [(0, 1), (12, 16), (13, 39), (16, 10), (20, 7), (21, 1), (22, 7)] 1, svc, by decide +kernel⟩

/-- The hypotheses of RoutesComplete can be met, clauses 1 to 5. -/
theorem test_routesComplete_1 :
    (∃ (m : Msg) (s : State) (b : Bytes), passes cmdRouteLoad m s = true ∧ m.stage = true ∧ ((m.norm.batch = true ∨ m.norm.p 0 ≠ 3)) ∧ m.norm.recs 28 = [b] ∧ byteAt b 0 = 1 ∧ s.fwd.build.state ≠ .running ∧ routeFault b true = none ∧ (((tget? s.shadow.fwd.routes (recordKey b)).isSome = true ∨ familyCount s.shadow.fwd.routes (byteAt b 1 == 6) < familyLimit (byteAt b 1 == 6))) ∧ ((s.drain.isSome = true → (s.stageFwd fun f => { f with routes := tset f.routes (recordKey b) (fieldLe b 24 4) }).placesHeld (byteAt b 1 == 6) ≤ 2 * familyLimit (byteAt b 1 == 6)))) ∧
    (∃ (m : Msg) (s : State) (b : Bytes), passes cmdRouteLoad m s = true ∧ m.stage = true ∧ ((m.norm.batch = true ∨ m.norm.p 0 ≠ 3)) ∧ m.norm.recs 28 = [b] ∧ byteAt b 0 = 2 ∧ s.fwd.build.state ≠ .running ∧ routeFault b false = none ∧ (tget? s.shadow.fwd.routes (recordKey b)).isSome = true) ∧
    (∃ (m : Msg) (s : State) (i : _) (s1 : State), (passes cmdRouteLoad m s = true ∧ m.stage = true ∧ m.norm.batch = false ∧ m.norm.p 0 = 3 ∧ s.fwd.build.state ≠ .running ∧ zeroAt m.norm ([1, 2, 3] ++ span 12 15) = true) ∧ s.dram.dir.find (m.norm.f 4 4) = some i ∧ (s.seamLength i = (m.norm.f 8 4 + 1) / 2 ∧ (s.listRoutes i (m.norm.f 8 4)).all s.placesFor = true) ∧ State.newTasks TaskType.seamBuild .routeBuild (min 8 (s.typeCfg TaskType.seamBuild).maxMiners) s = some s1) ∧
    (∃ (s : State), s.refreshing = false ∧ s.fwd.build.state = .running ∧ s.sealed = false ∧ s.atWork .routeBuild = true ∧ s.drain = none) ∧
    (∃ (hurt : Upsets) (s : State) (b : _) (i : _) (ps : _) (s1 : State) (t : _), s.refreshing = false ∧ s.fwd.build = b ∧ (b.state = .running ∧ s.sealed = false ∧ s.atWork .routeBuild = true) ∧ b.list = some i ∧ readCells s.cur hurt .miner (s.seamCells i) (s.upset hurt) = (ps, s1) ∧ ps.findIdx? (·.isNone) = none ∧ checkRouteTiles (ps.map fun p => p.getD []) 0 b.count [] = .ok t ∧ s1.placesFor t = true) :=
  ⟨⟨pk 28 [(0, 1), (1, 4), (2, 32), (8, 10)] 1, svc, par 28 [(0, 1), (1, 4), (2, 32), (8, 10)], by decide +kernel⟩,
   ⟨pk 28 [(0, 2), (1, 4), (2, 0)] 1, routed, par 28 [(0, 2), (1, 4), (2, 0)], by decide +kernel⟩,
   ⟨pk 16 [(0, 3), (4, 7), (8, 32)] 1, seamed, _, _, by decide +kernel, someOf (by decide +kernel), by decide +kernel, someOf (by decide +kernel)⟩,
   ⟨routing, by decide +kernel⟩,
   ⟨{}, routing, _, _, _, _, _, by decide +kernel, rfl, by decide +kernel, someOf (by decide +kernel), pairOf, by decide +kernel, okOf (by decide +kernel), by decide +kernel⟩⟩

/-- The hypotheses of RoutesComplete can be met, clauses 6 to 10. -/
theorem test_routesComplete_2 :
    (∃ (hurt : Upsets) (s : State) (b : _) (i : _) (ps : _) (s1 : State) (k : _), s.refreshing = false ∧ s.fwd.build = b ∧ (b.state = .running ∧ s.sealed = false ∧ s.atWork .routeBuild = true) ∧ b.list = some i ∧ readCells s.cur hurt .miner (s.seamCells i) (s.upset hurt) = (ps, s1) ∧ ps.findIdx? (·.isNone) = some k) ∧
    (∃ (hurt : Upsets) (s : State) (b : _) (i : _) (ps : _) (s1 : State) (reason : _) (k : _), s.refreshing = false ∧ s.fwd.build = b ∧ (b.state = .running ∧ s.sealed = false ∧ s.atWork .routeBuild = true) ∧ b.list = some i ∧ readCells s.cur hurt .miner (s.seamCells i) (s.upset hurt) = (ps, s1) ∧ ps.findIdx? (·.isNone) = none ∧ checkRouteTiles (ps.map fun p => p.getD []) 0 b.count [] = .error (reason, k)) ∧
    (∃ (m : Msg) (s : State), passes cmdRouteRead m s = true ∧ m.norm.p 0 = 0 ∧ m.norm.p 1 = 4 ∧ zeroAt m.norm ([2, 3, 6, 7] ++ span 12 23) = true) ∧
    (∃ (m : Msg) (s : State), passes cmdRouteRead m s = true ∧ m.norm.p 0 = 0 ∧ m.norm.p 1 = 6 ∧ zeroAt m.norm [2, 3, 6, 7] = true) ∧
    (∃ (m : Msg) (s : State) (t : _), (passes cmdRouteRead m s = true ∧ m.norm.p 0 = 1 ∧ zeroAt m.norm [1] = true ∧ 1 ≤ m.norm.p 2 ∧ m.norm.p 2 ≤ 145 ∧ zeroAt m.norm (span 3 7 ++ span 12 23) = true) ∧ t = (s.view m).fwd.routes ∧ m.norm.f 8 4 ≤ t.length) :=
  ⟨⟨{ tiles := [0x9600000] }, { routing with dram := { routing.dram with wq := [] } }, _, _, _, _, _, by decide +kernel, rfl, by decide +kernel, someOf (by decide +kernel), pairOf, someOf (by decide +kernel)⟩,
   ⟨{}, { routing with dram := { routing.dram with wq := [(0x9600000, par 60 [(0, 9)])] } }, _, _, _, _, _, _, by decide +kernel, rfl, by decide +kernel, someOf (by decide +kernel), pairOf, by decide +kernel, errPairOf (by decide +kernel)⟩,
   ⟨pk 24 [(1, 4)], svc, by decide +kernel⟩,
   ⟨pk 24 [(1, 6)], svc, by decide +kernel⟩,
   ⟨pk 24 [(0, 1), (2, 145)], routed, _, by decide +kernel, rfl, by decide +kernel⟩⟩

/-- The hypotheses of RoutesComplete can be met, clauses 11 to 14. -/
theorem test_routesComplete_3 :
    (∃ (m : Msg) (s : State), passes cmdRouteRead m s = true ∧ m.norm.p 0 = 2 ∧ zeroAt m.norm (span 1 23) = true) ∧
    (∃ (m : Msg) (s : State) (b : Bytes), passes cmdNexthopSet m s = true ∧ m.stage = true ∧ m.norm.recs 32 = [b] ∧ fieldLe b 0 4 ≤ 65535 ∧ byteAt b 4 = 1 ∧ hopFault b = none) ∧
    (∃ (m : Msg) (s : State) (b : Bytes), passes cmdNexthopSet m s = true ∧ m.stage = true ∧ m.norm.recs 32 = [b] ∧ fieldLe b 0 4 ≤ 65535 ∧ byteAt b 4 = 2 ∧ hopFault b = none) ∧
    (∃ (m : Msg) (s : State), passes cmdNexthopRead m s = true ∧ m.norm.f 0 4 + m.norm.p 4 ≤ 65536 ∧ 1 ≤ m.norm.p 4 ∧ m.norm.p 4 ≤ 127 ∧ zeroAt m.norm [5, 6, 7] = true) :=
  ⟨⟨pk 24 [(0, 2)], svc, by decide +kernel⟩,
   ⟨pk 32 [(0, 255), (1, 255), (4, 1), (5, 1), (6, 25)] 1, svc, par 32 [(0, 255), (1, 255), (4, 1), (5, 1), (6, 25)], by decide +kernel⟩,
   ⟨pk 32 [(0, 255), (1, 255), (4, 2)] 1, svc, par 32 [(0, 255), (1, 255), (4, 2)], by decide +kernel⟩,
   ⟨pk 8 [(0, 255), (1, 255), (4, 1)], svc, by decide +kernel⟩⟩

/-- The hypotheses of NatCommandsComplete can be met, clauses 1 to 5. -/
theorem test_natCommandsComplete_1 :
    (∃ (m : Msg) (s : State) (b : Bytes), passes cmdNatPoolSet m s = true ∧ m.stage = true ∧ m.norm.recs 32 = [b] ∧ byteAt b 0 = 1 ∧ byteAt b 2 = 0 ∧ s.poolFault b = none ∧ (firstNonZeroAt b (span 28 31)).isNone = true ∧ s.poolHeld (byteAt b 1) b = none) ∧
    (∃ (m : Msg) (s : State) (b : Bytes), passes cmdNatPoolSet m s = true ∧ m.stage = true ∧ m.norm.recs 32 = [b] ∧ byteAt b 0 = 1 ∧ byteAt b 2 = 1 ∧ (firstNonZeroAt b (span 3 31)).isNone = true ∧ (s.shadow.pool (byteAt b 1)).isSome = true ∧ s.poolInUse (byteAt b 1) = false ∧ s.shadow.nat.namesPool (byteAt b 1) = false) ∧
    (∃ (m : Msg) (s : State) (b : Bytes) (r : _), (passes cmdNatPoolSet m s = true ∧ m.stage = true ∧ m.norm.recs 32 = [b] ∧ byteAt b 0 = 2) ∧ s.shadow.pool (byteAt b 1) = some r ∧ byteAt b 2 ≤ 1 ∧ byteAt b 3 = 0 ∧ fieldLe b 4 2 < poolA r ∧ (firstNonZeroAt b (span 6 11 ++ span 16 31)).isNone = true ∧ ((∀ a ∈ s.shadow.nat.addrs, a.1 ≠ byteAt b 1 * 4096 + fieldLe b 4 2 → slice a.2 12 4 ≠ slice b 12 4))) ∧
    (∃ (m : Msg) (s : State) (r : _) (bs : _) (s1 : State), (passes cmdNatPoolRead m s = true ∧ m.norm.p 0 = 1) ∧ (s.view m).pool (m.norm.p 1) = some r ∧ zeroAt m.norm (span 2 7) = true ∧ State.readBindings .command ((s.poolBlocks r).flatMap fun b => s.blockRun b.1) s = (bs, s1)) ∧
    (∃ (m : Msg) (s : State), passes cmdNatBlockConfig m s = true ∧ m.norm.p 0 = 0 ∧ m.norm.p 1 = 0 ∧ zeroAt m.norm (span 2 7) = true) :=
  ⟨⟨pk 32 [(0, 1), (6, 64), (9, 4), (10, 63), (11, 4), (24, 1)] 1, live, par 32 [(0, 1), (6, 64), (9, 4), (10, 63), (11, 4), (24, 1)], by decide +kernel⟩,
   ⟨pk 32 [(0, 1), (2, 1)] 1, pooled, par 32 [(0, 1), (2, 1)], by decide +kernel⟩,
   ⟨pk 32 [(0, 2), (12, 203)] 1, pooled, par 32 [(0, 2), (12, 203)], _, by decide +kernel, someOf (by decide +kernel), by decide +kernel⟩,
   ⟨pk 8 [(0, 1)], pooled, _, _, _, by decide +kernel, someOf (by decide +kernel), by decide +kernel, pairOf⟩,
   ⟨pk 8 [], svc, by decide +kernel⟩⟩

/-- The hypotheses of NatCommandsComplete can be met, clauses 6 to 10. -/
theorem test_natCommandsComplete_2 :
    (∃ (m : Msg) (s : State), passes cmdNatBlockConfig m s = true ∧ m.stage = true ∧ m.norm.p 0 = 1 ∧ m.norm.p 1 = 0 ∧ zeroAt m.norm [6, 7] = true ∧ 120 ≤ m.norm.f 2 2 ∧ m.norm.f 2 2 ≤ 3600 ∧ m.norm.f 4 2 ≤ 3600) ∧
    (∃ (m : Msg) (s : State) (b : Bytes) (s1 : State), (passes cmdNatBindingRead m s = true ∧ m.norm.p 0 = 0 ∧ 1 ≤ m.norm.p 1 ∧ m.norm.p 1 ≤ 60 ∧ zeroAt m.norm ([2, 3] ++ span 8 11) = true ∧ m.norm.f 4 4 + m.norm.p 1 ≤ s.regionSize 1) ∧ State.bindingViews ((List.range (m.norm.p 1)).map (m.norm.f 4 4 + ·)) s = (b, s1)) ∧
    (∃ (m : Msg) (s : State) (b : Bytes) (e : _) (s1 : State), (passes cmdNatBindingRelease m s = true ∧ m.norm.recs 8 = [b] ∧ byteAt b 0 = 0 ∧ (firstNonZeroAt b [1, 2, 3]).isNone = true ∧ fieldLe b 4 4 < s.regionSize 1) ∧ s.readBinding (fieldLe b 4 4) .command = (some e, s1)) ∧
    (∃ (m : Msg) (s : State) (b : Bytes), passes cmdNatBindingRelease m s = true ∧ m.norm.recs 8 = [b] ∧ byteAt b 0 = 1 ∧ (firstNonZeroAt b [1, 2, 3]).isNone = true ∧ (s.block (fieldLe b 4 4)).isSome = true) ∧
    (∃ (s : State) (slots : _) (s1 : State), (s.refreshing = false ∧ s.writeRoom 1 = true ∧ s.serves TaskType.sweep = true ∧ s.nat.visitDue = true) ∧ slots = s.nat.blocks.map (·.1) ∧ s1 = slots.foldl State.visitBlock ((slots.flatMap s.blockRun).foldl State.visitBinding s)) :=
  ⟨⟨pk 8 [(0, 1), (2, 120)] 1, svc, by decide +kernel⟩,
   ⟨pk 12 [(1, 60)], live, _, _, by decide +kernel, pairOf⟩,
   ⟨pk 8 [], bound, par 8 [], _, _, by decide +kernel, someFst (by decide +kernel)⟩,
   ⟨pk 8 [(0, 1)], bound, par 8 [(0, 1)], by decide +kernel⟩,
   ⟨{ atMiner 3 .standing live with nat := { live.nat with visitDue := true } }, _, _, by decide +kernel, rfl, rfl⟩⟩

/-- The hypotheses of NatCommandsComplete can be met, clauses 11 to 14. -/
theorem test_natCommandsComplete_3 :
    (∃ (s : State) (x : _) (rest : _), (s.refreshing = false ∧ s.writeRoom 1 = true) ∧ s.nat.deferred = x :: rest ∧ s.serves TaskType.sweep = true ∧ s.stagingRoom 258 = true ∧ (s.block (x % 2 ^ 20)).isSome = true ∧ (x / 2 ^ 20 ≠ 1 ∨ (∀ i ∈ s.blockRun (x % 2 ^ 20), s.bindingAt i = none))) ∧
    (∃ (s : State) (x : _) (rest : _), s.refreshing = false ∧ s.writeRoom 1 = true ∧ s.nat.deferred = x :: rest ∧ s.serves TaskType.sweep = true ∧ s.stagingRoom 258 = true ∧ s.block (x % 2 ^ 20) = none) ∧
    (∃ (s : State) (x : _) (rest : _) (i : _), s.refreshing = false ∧ s.writeRoom 1 = true ∧ s.nat.deferred = x :: rest ∧ s.serves TaskType.sweep = true ∧ s.stagingRoom 258 = true ∧ x / 2 ^ 20 = 1 ∧ i ∈ s.blockRun (x % 2 ^ 20) ∧ (s.bindingAt i).isSome = true) ∧
    (∃ (hurt : Upsets) (s : State) (idx : _) (key : _) (stamp : _) (s1 : State), (s.refreshing = false ∧ s.writeRoom 1 = true ∧ s.nat.repairs.find? (fun r => s.atWork (.repair r.1 r.2.1 r.2.2)) = some (idx, key, stamp)) ∧ s1 = (s.upset hurt).repairBinding idx key stamp) :=
  ⟨⟨{ atMiner 3 .standing bound with nat := { bound.nat with deferred := [0] } }, _, _, by decide +kernel, consOf (by decide +kernel), by decide +kernel⟩,
   ⟨{ atMiner 3 .standing live with nat := { live.nat with deferred := [0] } }, 0, [], by decide +kernel⟩,
   ⟨{ atMiner 3 .standing bound with nat := { bound.nat with deferred := [1048576] } }, 1048576, [], 0, by decide +kernel⟩,
   ⟨{}, { atMiner 5 (.repair 3 (zeros 40) 0) live with nat := { live.nat with repairs := [(3, zeros 40, 0)] } }, 3, zeros 40, 0, _, by decide +kernel, rfl⟩⟩

/-- The hypotheses of SubscribersAndActionsComplete can be met, clauses 1 to 5. -/
theorem test_subscribersAndActionsComplete_1 :
    (∃ (m : Msg) (s : State) (b : Bytes) (runs : _) (rest : _) (d : _) (s1 : State), (passes cmdBalGroupSet m s = true ∧ m.stage = true ∧ m.norm.recs 8 = [b] ∧ fieldLe b 0 2 ≤ 4095 ∧ byteAt b 2 = 0 ∧ (firstNonZeroAt b (span 3 7)).isNone = true ∧ s.shadow.group (fieldLe b 0 2) = none) ∧ allocRuns s.dram.free 69 = some (runs, rest) ∧ descsFor runs ≤ s.dram.dir.freeCount ∧ State.newRuns { s with dram := { s.dram with free := rest } } runs false = (d, s1)) ∧
    (∃ (m : Msg) (s : State) (b : Bytes), passes cmdBalMemberSet m s = true ∧ m.stage = true ∧ m.norm.recs 12 = [b] ∧ (s.shadow.group (fieldLe b 0 2)).isSome = true ∧ byteAt b 3 = 1 ∧ fieldLe b 4 4 ≤ 65535 ∧ byteAt b 8 ≠ 0 ∧ (firstNonZeroAt b [9, 10, 11]).isNone = true) ∧
    (∃ (m : Msg) (s : State) (b : Bytes) (x : _), (passes cmdBalMemberDrain m s = true ∧ m.stage = true ∧ m.norm.recs 4 = [b]) ∧ s.shadow.group (fieldLe b 0 2) = some x ∧ (tget? x.members (byteAt b 2)).isSome = true ∧ (firstNonZeroAt b [3]).isNone = true) ∧
    (∃ (m : Msg) (s : State) (x : _), passes cmdBalGroupRead m s = true ∧ (s.view m).group (m.norm.f 0 2) = some x ∧ m.norm.p 2 = 1 ∧ zeroAt m.norm [3] = true) ∧
    (∃ (m : Msg) (s : State) (b : Bytes) (n : _) (t : _), (passes cmdSubWrite m s = true ∧ m.stage = true ∧ m.norm.recs 64 = [b]) ∧ n = fieldLe b 1 3 ∧ t = slice b 4 60 ∧ byteAt b 0 = 1 ∧ n < s.subscribers ∧ s.subFault n t = none) :=
  ⟨⟨pk 8 [(0, 255), (1, 15)] 1, live, par 8 [(0, 255), (1, 15)], _, _, _, _, by decide +kernel, somePair (by decide +kernel), by decide +kernel, pairOf⟩,
   ⟨pk 12 [(3, 1), (8, 1)] 1, grouped, par 12 [(3, 1), (8, 1)], by decide +kernel⟩,
   ⟨pk 4 [(2, 3)] 1, grouped, par 4 [(2, 3)], _, by decide +kernel, someOf (by decide +kernel), by decide +kernel⟩,
   ⟨pk 4 [(2, 1)], grouped, _, by decide +kernel, someOf (by decide +kernel), by decide +kernel⟩,
   ⟨pk 64 ([(0, 1), (4, 128), (24, 255), (25, 255), (26, 255), (27, 255)]) 1, live, par 64 ([(0, 1), (4, 128), (24, 255), (25, 255), (26, 255), (27, 255)]), _, _, by decide +kernel, rfl, rfl, by decide +kernel⟩⟩

/-- The hypotheses of SubscribersAndActionsComplete can be met, clauses 6 to 10. -/
theorem test_subscribersAndActionsComplete_2 :
    (∃ (m : Msg) (s : State) (b : Bytes), passes cmdSubWrite m s = true ∧ m.stage = true ∧ m.norm.recs 64 = [b] ∧ byteAt b 0 = 2 ∧ (firstNonZeroAt b (span 4 63)).isNone = true ∧ (tget? s.shadow.nat.subs (fieldLe b 1 3)).isSome = true ∧ s.holdsBlocks (fieldLe b 1 3) = false) ∧
    (∃ (m : Msg) (s : State) (t : _), (passes cmdSubRead m s = true ∧ m.norm.p 0 = 0 ∧ m.norm.p 1 = 0 ∧ zeroAt m.norm [2, 3] = true) ∧ s.subRecord s.cur (m.norm.f 4 4) = some t) ∧
    (∃ (m : Msg) (s : State) (t : _) (u : _) (d : _) (s1 : State), (passes cmdSubRead m s = true ∧ m.norm.p 0 = 2 ∧ m.norm.p 1 = 0 ∧ zeroAt m.norm [2, 3] = true) ∧ s.subRecord s.cur (m.norm.f 4 4) = some t ∧ s.mergedCounts (m.norm.f 4 4) .command = (u, d, s1)) ∧
    (∃ (m : Msg) (s : State) (b : Bytes), passes cmdSubPolicySet m s = true ∧ m.norm.recs 16 = [b] ∧ fieldLe b 0 2 ≤ 4095 ∧ byteAt b 2 = 0 ∧ (firstNonZeroAt b (span 3 15)).isNone = true) ∧
    (∃ (m : Msg) (s : State) (b : Bytes), passes cmdSubPolicySet m s = true ∧ m.stage = true ∧ m.norm.recs 16 = [b] ∧ fieldLe b 0 2 ≤ 4095 ∧ byteAt b 2 = 1 ∧ byteAt b 3 < 4 ∧ 1 ≤ byteAt b 4 ∧ byteAt b 4 ≤ 8 ∧ (firstNonZeroAt b (5 :: span 8 15)).isNone = true) :=
  ⟨⟨pk 64 [(0, 2)] 1, subbed, par 64 [(0, 2)], by decide +kernel⟩,
   ⟨pk 8 [], subbed, _, by decide +kernel, someOf (by decide +kernel)⟩,
   ⟨pk 8 [(0, 2)], subbed, _, _, _, _, by decide +kernel, someOf (by decide +kernel), tripleOf⟩,
   ⟨pk 16 [(0, 255), (1, 15)], svc, par 16 [(0, 255), (1, 15)], by decide +kernel⟩,
   ⟨pk 16 [(0, 255), (1, 15), (2, 1), (3, 3), (4, 8)] 1, svc, par 16 [(0, 255), (1, 15), (2, 1), (3, 3), (4, 8)], by decide +kernel⟩⟩

/-- The hypotheses of SubscribersAndActionsComplete can be met, clauses 11 to 13. -/
theorem test_subscribersAndActionsComplete_3 :
    (∃ (m : Msg) (s : State) (b : Bytes), passes cmdActionWrite m s = true ∧ m.stage = true ∧ m.norm.recs 64 = [b] ∧ fieldLe b 0 3 < s.regionSize 1 ∧ s.shadow.inBindingArea (fieldLe b 0 3) = false ∧ byteAt b 3 = 1 ∧ s.shadow.entryFault s.subscribers (slice b 4 60) = none) ∧
    (∃ (m : Msg) (s : State) (b : Bytes) (s1 : State), (passes cmdActionRead m s = true ∧ 1 ≤ m.norm.p 3 ∧ m.norm.p 3 ≤ 63 ∧ zeroAt m.norm (span 4 7) = true ∧ m.norm.f 0 3 + m.norm.p 3 ≤ s.regionSize 1) ∧ readEntries (s.view m) ((List.range (m.norm.p 3)).map (m.norm.f 0 3 + ·)) s = (b, s1)) ∧
    (∃ (s : State), s.refreshing = false ∧ s.writeRoom 1 = true ∧ s.nat.counts ≠ []) :=
  ⟨⟨pk 64 [(3, 1), (4, 4), (6, 255), (7, 255), (8, 255), (9, 255), (10, 255)] 1, live, par 64 [(3, 1), (4, 4), (6, 255), (7, 255), (8, 255), (9, 255), (10, 255)], by decide +kernel⟩,
   ⟨pk 8 [(3, 1)], live, _, _, by decide +kernel, pairOf⟩,
   ⟨{ svc with nat := { svc.nat with counts := [(0, SubCount.zero)] } }, by decide +kernel⟩⟩

/-- The hypotheses of MinersComplete can be met, clauses 1 to 5. -/
theorem test_minersComplete_1 :
    (∃ (s : State) (k : _) (n : _), s.idleMiner = some k ∧ s.nextTask = some n) ∧
    (∃ (miner : _) (trail : _) (wait : _) (rom : _) (s : State) (x : _) (k : _) (t : _) (a : _) (st : _) (s0 : _), (s.miner miner).yield = some x ∧ s.onMiner miner = some (k, t) ∧ preemptionPoint wait = true ∧ runTrail trail t.address t.stack = .at a st ∧ s0 = s.minerCount 1 rom ∧ s0.withdraws miner t = true) ∧
    (∃ (miner : _) (trail : _) (wait : _) (rom : _) (s : State) (x : _) (k : _) (t : _) (a : _) (st : _) (s0 : _), (s.miner miner).yield = some x ∧ s.onMiner miner = some (k, t) ∧ preemptionPoint wait = true ∧ runTrail trail t.address t.stack = .at a st ∧ s0 = s.minerCount 1 rom ∧ s0.withdraws miner t = false ∧ ((wait = 9 → s0.workless t = false))) ∧
    (∃ (miner : _) (trail : _) (rom : _) (s : State) (x : _) (k : _) (t : _) (a : _) (st : _) (s0 : _), (s.miner miner).yield = some x ∧ s.onMiner miner = some (k, t) ∧ runTrail trail t.address t.stack = .at a st ∧ s0 = s.minerCount 1 rom ∧ s0.withdraws miner t = false ∧ s0.workless t = true) ∧
    (∃ (miner : Nat) (trail : List MicroOp) (wait : Nat) (s : State) (x k : Nat) (t : Task) (c a : Nat), (s.miner miner).yield = some x ∧ s.onMiner miner = some (k, t) ∧ preemptionPoint wait = true ∧ runTrail trail t.address t.stack = .fault c a) :=
  ⟨⟨tasked (.seamJob 0) [40], _, _, someOf (by decide +kernel), someOf (by decide +kernel)⟩,
   ⟨0, [], 5, 0, answered, 50, _, _, _, _, _, by decide +kernel, somePair (by decide +kernel), by decide +kernel, rfl, rfl, by decide +kernel⟩,
   ⟨0, [], 5, 0, mining .standing 7, 50, _, _, _, _, _, by decide +kernel, somePair (by decide +kernel), by decide +kernel, rfl, rfl, by decide +kernel⟩,
   ⟨0, [], 0, mining .standing 7, 50, _, _, _, _, _, by decide +kernel, somePair (by decide +kernel), rfl, rfl, by decide +kernel⟩,
   ⟨0, [.ret], 5, mining .standing 7, 50, _, _, _, _, by decide +kernel, somePair (by decide +kernel), by decide +kernel, rfl⟩⟩

/-- The hypotheses of MinersComplete can be met, clauses 6 to 10. -/
theorem test_minersComplete_2 :
    (∃ (miner : Nat) (trail : List MicroOp) (rom : Nat) (s : State) (k : Nat) (t : Task) (a : Nat) (st : List Nat) (s1 : State), s.onMiner miner = some (k, t) ∧ s.workOver t.work = true ∧ runTrail trail t.address t.stack = .at a st ∧ s1 = (s.minerCount 1 rom).release miner t) ∧
    (∃ (miner : Nat) (trail : List MicroOp) (s : State) (k : Nat) (t : Task) (c a : Nat), s.onMiner miner = some (k, t) ∧ s.workOver t.work = true ∧ runTrail trail t.address t.stack = .fault c a) ∧
    (∃ (miner : Nat) (trail : List MicroOp) (s : State) (k : Nat) (t : Task) (a : Nat) (st : List Nat), s.onMiner miner = some (k, t) ∧ s.workless t = true ∧ runTrail trail t.address t.stack = .at a st) ∧
    (∃ (miner : Nat) (trail : List MicroOp) (s : State) (k : Nat) (t : Task) (c a : Nat), s.onMiner miner = some (k, t) ∧ s.workless t = true ∧ runTrail trail t.address t.stack = .fault c a) ∧
    (∃ (miner rom : Nat) (trail : List MicroOp) (wait : Nat) (s : State) (k : Nat) (t : Task) (a : Nat) (st : List Nat) (s0 s1 s2 : State), s.onMiner miner = some (k, t) ∧ runTrail trail t.address t.stack = .at a st ∧ s0 = s.minerCount 1 rom ∧ s1 = s0.release miner t ∧ s2 = (s1.setMiner miner { s1.miner miner with withdrawn := true }).trace 6 miner k t a wait) :=
  ⟨⟨0, [], 0, mining .finished 9, _, _, _, _, _, somePair (by decide +kernel), by decide +kernel, rfl, rfl⟩,
   ⟨0, [.ret], mining .finished 9, _, _, _, _, somePair (by decide +kernel), by decide +kernel, rfl⟩,
   ⟨0, [], mining .standing 7, _, _, _, _, somePair (by decide +kernel), by decide +kernel, rfl⟩,
   ⟨0, [.ret], mining .standing 7, _, _, _, _, somePair (by decide +kernel), by decide +kernel, rfl⟩,
   ⟨0, 0, [], 0, mining .standing 7, _, _, _, _, _, _, _, somePair (by decide +kernel), rfl, rfl, rfl, rfl⟩⟩

/-- The hypotheses of MinersComplete can be met, clauses 11 to 15. -/
theorem test_minersComplete_3 :
    (∃ (miner : Nat) (trail : List MicroOp) (s : State) (k : Nat) (t : Task) (c a : Nat), s.onMiner miner = some (k, t) ∧ runTrail trail t.address t.stack = .fault c a) ∧
    (∃ (m : Msg) (s : State), passes cmdMinerStatus m s = true ∧ zeroAt m.norm (span 0 3) = true) ∧
    (∃ (m : Msg) (s : State), passes cmdMinerStatus m s = true ∧ m.norm.p 0 = 1 ∧ zeroAt m.norm [1, 2, 3] = true) ∧
    (∃ (m : Msg) (s : State) (b : Bytes), passes cmdMinerTaskLevel m s = true ∧ m.norm.recs 8 = [b] ∧ 1 ≤ byteAt b 0 ∧ byteAt b 0 ≤ 11 ∧ byteAt b 1 = 0 ∧ (firstNonZeroAt b (span 2 7)).isNone = true) ∧
    (∃ (m : Msg) (s : State) (b : Bytes), passes cmdMinerTaskLevel m s = true ∧ m.stage = true ∧ m.norm.recs 8 = [b] ∧ 2 ≤ byteAt b 0 ∧ byteAt b 0 ≤ 11 ∧ byteAt b 1 = 1 ∧ byteAt b 2 ≤ 7 ∧ 1 ≤ byteAt b 3 ∧ byteAt b 3 ≤ maxMinersOf (byteAt b 0) ∧ fieldLe b 4 2 = 0 ∧ (firstNonZeroAt b [6, 7]).isNone = true) :=
  ⟨⟨0, [.ret], mining .standing 7, _, _, _, _, somePair (by decide +kernel), rfl⟩,
   ⟨pk 4 [], svc, by decide +kernel⟩,
   ⟨pk 4 [(0, 1)], svc, by decide +kernel⟩,
   ⟨pk 8 [(0, 11)], svc, par 8 [(0, 11)], by decide +kernel⟩,
   ⟨pk 8 [(0, 11), (1, 1), (2, 7), (3, 1)] 1, svc, par 8 [(0, 11), (1, 1), (2, 7), (3, 1)], by decide +kernel⟩⟩

/-- The hypotheses of MinersComplete can be met, clauses 16 to 17. -/
theorem test_minersComplete_4 :
    (∃ (m : Msg) (s : State), passes cmdMinerTraceRead m s = true ∧ m.norm.p 0 = 1 ∧ m.norm.p 1 = 0 ∧ 1 ≤ m.norm.f 2 2 ∧ m.norm.f 2 2 ≤ 254 ∧ zeroAt m.norm (span 4 7) = true) ∧
    (∃ (m : Msg) (s : State), passes cmdMinerTraceConfig m s = true ∧ m.norm.p 0 = 1 ∧ m.norm.p 1 < 4 ∧ m.norm.p 2 % 2 = 0 ∧ m.norm.p 3 < 16 ∧ m.norm.p 4 % 2 = 0 ∧ m.norm.p 5 = 0) :=
  ⟨⟨pk 8 [(0, 1), (2, 254)], svc, by decide +kernel⟩,
   ⟨pk 8 [(0, 1), (1, 3), (2, 254), (3, 15), (4, 254)], svc, by decide +kernel⟩⟩

/-- The hypotheses of MemoryCommandsComplete can be met, clauses 1 to 5. -/
theorem test_memoryCommandsComplete_1 :
    (∃ (channel : _) (s : State) (s1 : State), ((s.dram.wq.any fun e => tileChannel e.1 == channel) = true ∧ s.mayIssue channel = true) ∧ s1 = s.issueBatch channel) ∧
    (∃ (s : State), s.trained = true ∧ s.dram.lastRefresh + s.refreshInterval ≤ s.now ∧ s.dram.hot.isSome = s.dram.hotNext) ∧
    (∃ (s : State) (s1 : State), (s.trained = true ∧ s.dram.lastRefresh + s.refreshInterval ≤ s.now ∧ s.dram.hot = none ∧ s.dram.hotNext = true) ∧ s1 = { s.memCount 9 with dram := { (s.memCount 9).dram with lastRefresh := s.dram.lastRefresh + s.refreshInterval } }) ∧
    (∃ (s : State) (s1 : State) (t : _), (s.trained = true ∧ s.dram.lastRefresh + s.refreshInterval ≤ s.now) ∧ s.dram.hot = some t ∧ s.dram.hotNext = false ∧ s1 = { s.memCount 9 with dram := { (s.memCount 9).dram with lastRefresh := s.dram.lastRefresh + s.refreshInterval } }) ∧
    (∃ (s : State) (r : _) (rest : _) (s1 : State), (s.refreshing = false ∧ s.dram.clearing = r :: rest ∧ s.atWork .clearTiles = true) ∧ s1 = { s with dram := { s.dram with clearing := rest } }) :=
  ⟨⟨0, { svc with now := 1000, dram := { svc.dram with wq := [(0, zeros 60)] } }, _, by decide +kernel, rfl⟩,
   ⟨{ svc with now := 100000000 }, by decide +kernel⟩,
   ⟨{ svc with now := 100000000, dram := { svc.dram with hotNext := true } }, _, by decide +kernel, rfl⟩,
   ⟨{ svc with now := 100000000, dram := { svc.dram with hot := some 0 } }, _, _, by decide +kernel, someOf (by decide +kernel), by decide +kernel, rfl⟩,
   ⟨{ atMiner 9 .clearTiles svc with dram := { svc.dram with clearing := [(0, 4)] } }, (0, 4), [], _, by decide +kernel, rfl⟩⟩

/-- The hypotheses of MemoryCommandsComplete can be met, clauses 6 to 10. -/
theorem test_memoryCommandsComplete_2 :
    (∃ (channel : _) (s : State) (x : _) (s1 : State) (s2 : State) (s3 : _), s.dram.channels[channel]? = some x ∧ (x.lost = false ∧ s.booted = true) ∧ s1 = s.loseChannel channel 2 3 ∧ s2 = { s1 with life := { s1.life with lostInService := true } } ∧ s3 = (s2.lifeCount 10 (s.channelTiles - s.retiredIn channel)).setFault FaultBit.channelLost true) ∧
    (∃ (m : Msg) (s : State), passes cmdMemPlanRead m s = true) ∧
    (∃ (m : Msg) (s : State) (n : _) (rs : _) (rest : _), (passes cmdMemRegionGrow m s = true ∧ m.stage = true ∧ 1 ≤ m.norm.p 0 ∧ m.norm.p 0 ≤ 5 ∧ zeroAt m.norm [1, 2, 3] = true) ∧ n = m.norm.f 4 4 ∧ (n ≠ 0 ∧ n % 1024 = 0 ∧ s.regionSize (m.norm.p 0) + s.stagedGrowth (m.norm.p 0) + n ≤ regionMax (m.norm.p 0)) ∧ allocRuns s.dram.free n = some (rs, rest) ∧ rs.length + 1 ≤ s.dram.dir.freeCount) ∧
    (∃ (m : Msg) (s : State), passes cmdMemStatus m s = true ∧ m.norm.p 0 = 1 ∧ m.norm.p 1 = 0 ∧ zeroAt m.norm [2, 3] = true ∧ zeroAt m.norm (span 4 15) = true) ∧
    (∃ (m : Msg) (s : State), passes cmdMemStatus m s = true ∧ m.norm.p 0 = 2 ∧ m.norm.p 1 = 0 ∧ zeroAt m.norm [2, 3] = true ∧ zeroAt m.norm (span 10 15) = true ∧ 64 ≤ m.norm.f 4 2 ∧ m.norm.f 4 2 ≤ 1000 ∧ m.norm.f 6 2 + 64 ≤ m.norm.f 4 2 ∧ 1024 ≤ m.norm.f 8 2 ∧ m.norm.f 8 2 ≤ 8192) :=
  ⟨⟨31, svc, _, _, _, _, someOf (by decide +kernel), by decide +kernel, rfl, rfl, rfl⟩,
   ⟨pk 0 [], svc, by decide +kernel⟩,
   ⟨pk 8 [(0, 5), (5, 4)] 1, live, _, _, _, by decide +kernel, rfl, by decide +kernel, somePair (by decide +kernel), by decide +kernel⟩,
   ⟨pk 16 [(0, 1)], svc, by decide +kernel⟩,
   ⟨pk 16 [(0, 2), (4, 64), (9, 4)], svc, by decide +kernel⟩⟩

/-- The hypotheses of MemoryCommandsComplete can be met, clauses 11 to 13. -/
theorem test_memoryCommandsComplete_3 :
    (∃ (m : Msg) (s : State), passes cmdMemRetiredRead m s = true ∧ 1 ≤ m.norm.f 4 2 ∧ m.norm.f 4 2 ≤ 254 ∧ zeroAt m.norm [6, 7] = true) ∧
    (∃ (m : Msg) (s : State), passes cmdSecureMemPlan m s = true ∧ m.norm.p 0 = 2 ∧ zeroAt m.norm (span 1 7) = true ∧ zeroAt m.norm (span 8 55) = true ∧ s.otherSeams = false) ∧
    (∃ (m : Msg) (s : State) (plan : _) (s1 : State), (passes cmdSecureMemPlan m s = true ∧ m.norm.p 0 = 1 ∧ zeroAt m.norm (span 1 7) = true) ∧ plan = ((List.range 6).map fun c => (m.norm.f (8 + c * 8) 4, m.norm.f (12 + c * 8) 4)) ∧ (planBad s.hb plan 0 [] = none ∧ s.otherSeams = false) ∧ s1 = (s.setPlan plan).clearLive [(0, s.tiles)]) :=
  ⟨⟨pk 8 [(4, 254)], svc, by decide +kernel⟩,
   ⟨pk 56 [(0, 2)], inState .init, by decide +kernel⟩,
   ⟨pk 56 [(0, 1), (13, 4), (18, 16), (22, 1), (26, 32), (29, 4), (34, 48), (38, 2), (42, 64), (46, 1), (50, 80), (53, 4)], { inState .init with dram := live.dram }, _, _, by decide +kernel, rfl, by decide +kernel, rfl⟩⟩

/-- The hypotheses of SeamsComplete can be met, clauses 1 to 5. -/
theorem test_seamsComplete_1 :
    (∃ (m : Msg) (s : State) (rs : _) (rest : _) (i : _) (s1 : State), (passes cmdSeamCreate m s = true ∧ m.norm.p 0 = 0 ∧ zeroAt m.norm [1, 2, 3] = true ∧ zeroAt m.norm (span 4 7) = true ∧ 1 ≤ m.norm.f 8 4 ∧ m.norm.f 8 4 ≤ 2 ^ 28) ∧ allocRuns s.dram.free (m.norm.f 8 4) = some (rs, rest) ∧ descsFor rs ≤ s.dram.dir.freeCount ∧ State.newRuns { s with dram := { s.dram with free := rest } } rs true = (i, s1)) ∧
    (∃ (m : Msg) (s : State) (i : _) (s1 : State), (passes cmdSeamCreate m s = true ∧ m.norm.p 0 = 1 ∧ zeroAt m.norm [1, 2, 3] = true ∧ s.inRegion 5 (m.norm.f 4 4) = true ∧ 1 ≤ m.norm.f 8 4 ∧ m.norm.f 8 4 ≤ 2 ^ 28 ∧ cutRun (m.norm.f 4 4, m.norm.f 8 4) (s.regionRuns 5) = [] ∧ 1 ≤ s.dram.dir.freeCount) ∧ s.newSeam { body := .run (m.norm.f 4 4) (m.norm.f 8 4), host := true, owns := false } = (i, s1)) ∧
    (∃ (m : Msg) (s : State) (ms : _) (i : _) (s1 : State), passes cmdSeamGroup m s = true ∧ groupMembers s (m.norm.recs 4) 16 [] = .ok ms ∧ (groupPasses s ms 0 0 = none ∧ 1 ≤ s.dram.dir.freeCount) ∧ s.newSeam { body := .group ms, host := true, owns := false } = (i, s1)) ∧
    (∃ (m : Msg) (s : State) (i : _) (cells : _) (ps : _) (s1 : State), passes cmdSeamRead m s = true ∧ s.dram.dir.find (m.norm.f 0 4) = some i ∧ (1 ≤ m.norm.p 8 ∧ m.norm.p 8 ≤ 63 ∧ m.norm.f 4 4 + m.norm.p 8 ≤ s.seamLength i ∧ zeroAt m.norm (span 9 11) = true) ∧ cells = ((s.seamCells i).drop (m.norm.f 4 4)).take (m.norm.p 8) ∧ readCells (s.view m) {} .command cells s = (ps, s1)) ∧
    (∃ (m : Msg) (s : State) (i : _) (j : _), passes cmdSeamFill m s = true ∧ s.dram.dir.find (m.norm.f 0 4) = some i ∧ (s.dram.dir.isHost i = true ∧ s.seamBusy i = false) ∧ s.nextJob = some j ∧ (s.newTask TaskType.seamAssist (.seamJob j)).isSome = true) :=
  ⟨⟨pk 12 [(8, 16)], live, _, _, _, _, by decide +kernel, somePair (by decide +kernel), by decide +kernel, pairOf⟩,
   ⟨pk 12 [(0, 1), (7, 9), (6, 40), (8, 1)], live, _, _, by decide +kernel, pairOf⟩,
   ⟨pk 8 [(0, 7), (4, 8)], seamed2, _, _, _, by decide +kernel, okOf (by decide +kernel), by decide +kernel, pairOf⟩,
   ⟨pk 12 [(0, 7), (8, 1)], seamed, _, _, _, _, by decide +kernel, someOf (by decide +kernel), by decide +kernel, rfl, pairOf⟩,
   ⟨pk 64 [(0, 7)], seamed, _, _, by decide +kernel, someOf (by decide +kernel), by decide +kernel, someOf (by decide +kernel), by decide +kernel⟩⟩

/-- The hypotheses of SeamsComplete can be met, clauses 6 to 10. -/
theorem test_seamsComplete_2 :
    (∃ (m : Msg) (s : State) (a : _) (b : _) (j : _), passes cmdSeamCompare m s = true ∧ s.dram.dir.find (m.norm.f 0 4) = some a ∧ m.norm.f 4 4 ≠ 0xFFFFFFFF ∧ s.dram.dir.find (m.norm.f 4 4) = some b ∧ (zeroAt m.norm (span 8 67) = true ∧ s.seamLength a = s.seamLength b) ∧ s.nextJob = some j ∧ (s.newTask TaskType.seamAssist (.seamJob j)).isSome = true) ∧
    (∃ (m : Msg) (s : State) (a : _) (j : _), passes cmdSeamCheck m s = true ∧ s.dram.dir.find (m.norm.f 0 4) = some a ∧ s.nextJob = some j ∧ (s.newTask TaskType.seamAssist (.seamJob j)).isSome = true) ∧
    (∃ (job : _) (hurt : Upsets) (s : State) (x : _) (t : _) (s1 : State) (y : _), (s.refreshing = false ∧ job ≤ 7) ∧ s.job job = x ∧ (x.state = .running ∧ s.atWork (.seamJob job) = true) ∧ (s.upset hurt).runJob x hurt = (t, s1) ∧ y = { x with state := .done, done := t.done, bad := t.bad, first := t.first, elapsedMs := (s.now - x.start) / 1000000 }) ∧
    (∃ (m : Msg) (s : State) (i : _), passes cmdSeamRetire m s = true ∧ s.dram.dir.find (m.norm.f 0 4) = some i ∧ s.dram.dir.isHost i = true ∧ s.parentOf i = none ∧ s.seamBusy i = false) ∧
    (∃ (m : Msg) (s : State) (a : _) (b : _), passes cmdSeamSwapRoot m s = true ∧ s.dram.dir.find (m.norm.f 0 4) = some a ∧ s.dram.dir.find (m.norm.f 4 4) = some b ∧ a ≠ b ∧ s.dram.dir.isHost a = true ∧ s.dram.dir.isHost b = true ∧ s.seamBusy a = false ∧ s.seamBusy b = false ∧ s.seamLength a = s.seamLength b) :=
  ⟨⟨pk 68 [(0, 7), (4, 8)], seamed2, _, _, _, by decide +kernel, someOf (by decide +kernel), by decide +kernel, someOf (by decide +kernel), by decide +kernel, someOf (by decide +kernel), by decide +kernel⟩,
   ⟨pk 4 [(0, 7)], seamed, _, _, by decide +kernel, someOf (by decide +kernel), someOf (by decide +kernel), by decide +kernel⟩,
   ⟨7, {}, { atMiner 9 (.seamJob 7) seamed with dram := { seamed.dram with jobs := seamed.dram.jobs.set 7 aJob } }, _, _, _, _, by decide +kernel, rfl, by decide +kernel, pairOf, rfl⟩,
   ⟨pk 4 [(0, 7)], seamed, _, by decide +kernel, someOf (by decide +kernel), by decide +kernel⟩,
   ⟨pk 8 [(0, 7), (4, 8)], seamed2, _, _, by decide +kernel, someOf (by decide +kernel), someOf (by decide +kernel), by decide +kernel⟩⟩

/-- The hypotheses of SeamsComplete can be met, clauses 11 to 12. -/
theorem test_seamsComplete_3 :
    (∃ (m : Msg) (s : State) (i : _), (passes cmdSeamInfo m s = true ∧ m.norm.p 0 = 0 ∧ zeroAt m.norm [1, 2, 3] = true) ∧ s.dram.dir.find (m.norm.f 4 4) = some i) ∧
    (∃ (m : Msg) (s : State), passes cmdSeamInfo m s = true ∧ m.norm.p 0 = 1 ∧ zeroAt m.norm [1, 2, 3] = true ∧ m.norm.f 4 4 ≤ 7 ∧ (s.job (m.norm.f 4 4)).state ≠ .running) :=
  ⟨⟨pk 8 [(4, 7)], seamed, _, by decide +kernel, someOf (by decide +kernel)⟩,
   ⟨pk 8 [(0, 1), (4, 7)], svc, by decide +kernel⟩⟩

/-- The hypotheses of TelemetryEventsComplete can be met, clauses 1 to 5. -/
theorem test_telemetryEventsComplete_1 :
    (∃ (s : State) (a : _) (rest : _) (s1 : State) (t : _) (b : _) (s2 : State), (s.refreshing = false ∧ s.serves TaskType.telemetry = true ∧ s.life.clearing = .none) ∧ s.telem.assembly = a :: rest ∧ s1 = { s with telem := { s.telem with assembly := rest } } ∧ s1.assemble a = (some (t, b), s2) ∧ s2.hasDest t = true ∧ ((t = 256 ∨ s2.lossyFull = false))) ∧
    (∃ (s : State) (s1 : State), (s.refreshing = false ∧ s.serves TaskType.tailings = true ∧ s.flow.tailings ≠ [] ∧ ((s.hasDest 256 = true → s.stagingRoom 256 = true))) ∧ s.takeTailing = (none, s1)) ∧
    (∃ (s : State) (x : _) (s1 : State) (p : _) (now : _) (b : _) (s2 : State), (s.refreshing = false ∧ s.serves TaskType.tailings = true ∧ s.flow.tailings ≠ [] ∧ s.hasDest 256 = true ∧ s.stagingRoom 256 = true) ∧ s.takeTailing = (some x, s1) ∧ s1.hasDest 256 = true ∧ p = x.flow ∧ now = fieldLe x.info 8 8 ∧ s1.flowEndRecord (tileKey p) (tileAction p) (tilePackets p) (tileOctets p) (tileLast p now) (tileFirst p now) (tileTcp p) (tileControl p) (tileW p) (fieldLe x.info 4 4) (byteAt x.info 0) (byteAt x.info 1 % 4 + 8 + if tileSaturated p then 4 else 0) (BitVec.ofNat 16 (fieldLe x.info 16 2)) = (b, s2)) ∧
    (∃ (s : State) (n : _) (t : _) (start : _) (s1 : State), s.nextInterval = some (n, t, start) ∧ (s.telem.interval ≠ 0 ∧ t ≤ s.now) ∧ s1 = { s with telem := { s.telem with nextSub := n + 1, intervalStart := start } } ∧ s1.hasDest 259 = true ∧ s1.lossyFull = false) ∧
    (∃ (ring : _) (s : State), ((s.dueTemplate ring).isSome = true ∨ (s.path ring).withdraw ≠ []) ∧ ((ring = true ∨ s.telem.collectorPath.held = false))) :=
  ⟨⟨{ atMiner 7 .standing collecting with telem := { collecting.telem with assembly := [.flowEnd (zeros 40) 0xFFFFFF 1 64 0 0 0 0 0 0 0 0 0] } }, _, _, _, _, _, _, by decide +kernel, consOf (by decide +kernel), rfl, somePairFst (by decide +kernel), by decide +kernel⟩,
   ⟨{ atMiner 8 .standing live with flow := { live.flow with tailings := [⟨zeros 60, zeros 60⟩] }, dram := (live.upset { tiles := [live.regionTile 3 0] }).dram }, _, by decide +kernel, nonePair (by decide +kernel)⟩,
   ⟨atMiner 8 .standing tailed, _, _, _, _, _, _, by decide +kernel, someFst (by decide +kernel), by decide +kernel, rfl, rfl, pairOf⟩,
   ⟨interval, _, _, _, _, tripleSome (by decide +kernel), by decide +kernel, rfl, by decide +kernel⟩,
   ⟨true, { collecting with telem := { collecting.telem with staging := [{ template := 256, bytes := zeros 80, onCollector := false, onRing := false, staged := 0 }], collector := zeros 64 } }, by decide +kernel⟩⟩

/-- The hypotheses of TelemetryEventsComplete can be met, clauses 6 to 10. -/
theorem test_telemetryEventsComplete_2 :
    (∃ (s : State) (x : _) (s1 : State) (s2 : State), s.telem.collectorPath = x ∧ (s.booted = true ∧ s.collectorOn = true ∧ x.held = false ∧ x.lastTemplates + fieldLe s.telem.collector 52 2 * 1000000000 ≤ s.now) ∧ s1 = s.setPath false { x with lastTemplates := s.now, sentTemplates := [] } ∧ ([256, 257, 258, 259].filter ((s.setPath false { x with lastTemplates := s.now }).carries false)).foldl (fun (a : Option State) t => a.bind fun s => s.sendTemplate false t) (some s1) = some s2) ∧
    (∃ (s : State), s.telem.collectorPath.held = true ∧ s.telem.collectorPath.lastTry + 1000 ≤ s.now) ∧
    (∃ (s : State) (x : _), (s.telem.dumpRing.enabled = true ∧ s.telem.dumpPeriod ≠ 0 ∧ s.telem.dumpNext ≤ s.flowNow ∧ s.telem.dumpRing.full = false ∧ s.telem.dumpRing.slot = none) ∧ x = s.takeSlot 9 s.dumpSlot) ∧
    (∃ (s : State), s.telem.dumpRing.enabled = true ∧ s.telem.dumpPeriod ≠ 0 ∧ s.telem.dumpNext ≤ s.flowNow ∧ (s.telem.dumpRing.full = true ∨ s.telem.dumpRing.slot ≠ none)) ∧
    (∃ (port : _) (s : State) (w : _) (x : _), (port < 26 ∧ s.booted = true) ∧ s.window port = w ∧ (w.endedAt + windowNs w.k ≤ s.flowNow ∧ s.flowNow < w.endedAt + 2 * windowNs w.k ∧ port < s.telem.windows.length) ∧ s.windowNow port w = x) :=
  ⟨⟨{ live with now := 60000000000, telem := { live.telem with collector := live.telem.collector.set 2 1 } }, _, _, _, rfl, by decide +kernel, rfl, someOf (by decide +kernel)⟩,
   ⟨{ svc with now := 1000, telem := { svc.telem with collectorPath := { svc.telem.collectorPath with held := true } } }, by decide +kernel⟩,
   ⟨{ dumping with now := 1000000, time := { dumping.time with flow := 1000000 } }, _, by decide +kernel, rfl⟩,
   ⟨{ svc with telem := { svc.telem with dumpRing := { HostRing.reset with enabled := true, j := 4, k := 8, produced := 256 }, dumpPeriod := 1 } }, by decide +kernel⟩,
   ⟨25, { svc with time := { svc.time with flow := 1024000 } }, _, _, by decide +kernel, rfl, by decide +kernel, rfl⟩⟩

/-- The hypotheses of TelemetryCommandsComplete can be met, clauses 1 to 5. -/
theorem test_telemetryCommandsComplete_1 :
    (∃ (m : Msg) (s : State), passes cmdTelemCollectorSet m s = true ∧ m.norm.p 0 = 0 ∧ zeroAt m.norm (span 1 63) = true) ∧
    (∃ (m : Msg) (s : State) (s1 : State), (passes cmdTelemCollectorSet m s = true ∧ m.norm.p 0 = 1 ∧ collectorFault m.norm s = none) ∧ s1 = { s with telem := { s.telem with collector := splice (fit 64 m.norm.params) 0 [0] } }) ∧
    (∃ (m : Msg) (s : State) (b : Bytes), passes cmdTelemEnable m s = true ∧ m.norm.recs 40 = [b] ∧ byteAt b 0 = 1 ∧ byteAt b 1 = 1 ∧ 256 ≤ fieldLe b 2 2 ∧ fieldLe b 2 2 ≤ 259 ∧ byteAt b 4 ≤ 3 ∧ (firstNonZeroAt b (span 5 39)).isNone = true) ∧
    (∃ (m : Msg) (s : State) (b : Bytes) (x : _), (passes cmdTelemEnable m s = true ∧ m.norm.recs 40 = [b] ∧ byteAt b 0 = 2 ∧ byteAt b 1 = 1 ∧ byteAt b 2 ≤ 7 ∧ 1 ≤ byteAt b 3 ∧ byteAt b 3 ≤ 127 ∧ fieldLe b 4 4 ≤ 65536 ∧ (firstNonZeroAt b (span 8 39)).isNone = true) ∧ x = s.telem.sampling.set (byteAt b 2) (fieldLe b 4 4, byteAt b 3)) ∧
    (∃ (m : Msg) (s : State) (b : Bytes), passes cmdTelemEnable m s = true ∧ m.norm.recs 40 = [b] ∧ byteAt b 0 = 3 ∧ byteAt b 1 = 1 ∧ (firstNonZeroAt b [2, 3]).isNone = true ∧ ((fieldLe b 4 4 = 0 ∨ (10 ≤ fieldLe b 4 4 ∧ fieldLe b 4 4 ≤ 3600))) ∧ (firstNonZeroAt b (span 8 39)).isNone = true) :=
  ⟨⟨pk 64 [], svc, by decide +kernel⟩,
   ⟨pk 64 [(0, 1), (1, 4), (47, 2), (52, 1), (56, 10)], { svc with cur := { svc.cur with fwd := { svc.cur.fwd with nexthops := [(0, zeros 32)] } } }, _, by decide +kernel, rfl⟩,
   ⟨pk 40 [(0, 1), (1, 1), (2, 3), (3, 1), (4, 3)], svc, par 40 [(0, 1), (1, 1), (2, 3), (3, 1), (4, 3)], by decide +kernel⟩,
   ⟨pk 40 [(0, 2), (1, 1), (2, 7), (3, 127), (6, 1)], svc, par 40 [(0, 2), (1, 1), (2, 7), (3, 127), (6, 1)], _, by decide +kernel, rfl⟩,
   ⟨pk 40 [(0, 3), (1, 1), (4, 10)], svc, par 40 [(0, 3), (1, 1), (4, 10)], by decide +kernel⟩⟩

/-- The hypotheses of TelemetryCommandsComplete can be met, clauses 6 to 10. -/
theorem test_telemetryCommandsComplete_2 :
    (∃ (m : Msg) (s : State) (b : Bytes), passes cmdTelemEnable m s = true ∧ m.norm.recs 40 = [b] ∧ byteAt b 0 = 1 ∧ byteAt b 1 = 0 ∧ 256 ≤ fieldLe b 2 2 ∧ fieldLe b 2 2 ≤ 259 ∧ (firstNonZeroAt b (span 4 39)).isNone = true) ∧
    (∃ (m : Msg) (s : State) (b : Bytes) (x : _), (passes cmdTelemEnable m s = true ∧ m.norm.recs 40 = [b] ∧ byteAt b 0 = 2 ∧ byteAt b 1 = 0 ∧ byteAt b 2 ≤ 7 ∧ (firstNonZeroAt b (span 3 39)).isNone = true) ∧ x = s.telem.sampling.getD (byteAt b 2) (0, 56)) ∧
    (∃ (m : Msg) (s : State) (b : Bytes), passes cmdTelemEnable m s = true ∧ m.norm.recs 40 = [b] ∧ byteAt b 0 = 3 ∧ byteAt b 1 = 0 ∧ (firstNonZeroAt b (span 2 39)).isNone = true) ∧
    (∃ (m : Msg) (s : State) (b : Bytes), passes cmdTelemEnable m s = true ∧ m.norm.recs 40 = [b] ∧ byteAt b 0 = 4 ∧ byteAt b 1 = 0 ∧ (firstNonZeroAt b (span 2 39)).isNone = true) ∧
    (∃ (m : Msg) (s : State) (b : Bytes) (x : _), (passes cmdTelemEnable m s = true ∧ m.norm.recs 40 = [b] ∧ byteAt b 0 = 4 ∧ byteAt b 1 = 1 ∧ s.channelBad m.norm (byteAt b 2) = false ∧ byteAt b 3 ≤ 1 ∧ 8 ≤ byteAt b 4 ∧ byteAt b 4 ≤ 14 ∧ s.maxMsg + 32 ≤ 2 ^ byteAt b 4 ∧ 6 ≤ byteAt b 5 ∧ byteAt b 5 ≤ 16 ∧ fieldLe b 6 2 ≤ 1000 ∧ fieldLe b 8 8 % 4096 = 0 ∧ fieldLe b 16 8 % 4 = 0 ∧ (firstNonZeroAt b (span 24 39)).isNone = true ∧ s.telem.ring.enabled = false) ∧ x = { s.telem.ring with channel := byteAt b 2, irq := byteAt b 3 == 1, j := byteAt b 4, k := byteAt b 5, holdoff := fieldLe b 6 2, base := fieldLe b 8 8, consumerAddr := fieldLe b 16 8 }) :=
  ⟨⟨pk 40 [(0, 1), (2, 1), (3, 1)], svc, par 40 [(0, 1), (2, 1), (3, 1)], by decide +kernel⟩,
   ⟨pk 40 [(0, 2), (2, 7)], svc, par 40 [(0, 2), (2, 7)], _, by decide +kernel, rfl⟩,
   ⟨pk 40 [(0, 3)], svc, par 40 [(0, 3)], by decide +kernel⟩,
   ⟨pk 40 [(0, 4)], svc, par 40 [(0, 4)], by decide +kernel⟩,
   ⟨pk 40 [(0, 4), (1, 1), (4, 11), (5, 6)], { dmaOn { DmaChannel.reset with request := true } with host := { (dmaOn { DmaChannel.reset with request := true }).host with owner := 1 } }, par 40 [(0, 4), (1, 1), (4, 11), (5, 6)], _, by decide +kernel, rfl⟩⟩

/-- The hypotheses of TelemetryCommandsComplete can be met, clauses 11 to 15. -/
theorem test_telemetryCommandsComplete_3 :
    (∃ (m : Msg) (s : State) (b : Bytes), passes cmdTelemEnable m s = true ∧ m.norm.recs 40 = [b] ∧ byteAt b 0 = 4 ∧ byteAt b 1 = 2 ∧ (firstNonZeroAt b (span 2 39)).isNone = true ∧ s.maxMsg + 32 ≤ s.telem.ring.slotBytes) ∧
    (∃ (m : Msg) (s : State) (b : Bytes), passes cmdTelemEnable m s = true ∧ m.norm.recs 40 = [b] ∧ byteAt b 0 = 4 ∧ byteAt b 1 = 3 ∧ (firstNonZeroAt b (span 2 39)).isNone = true) ∧
    (∃ (m : Msg) (s : State), passes cmdTelemStatus m s = true ∧ m.norm.p 0 = 0 ∧ zeroAt m.norm [1, 2, 3] = true) ∧
    (∃ (m : Msg) (s : State), passes cmdTelemStatus m s = true ∧ m.norm.p 0 = 1 ∧ zeroAt m.norm [1, 2, 3] = true) ∧
    (∃ (m : Msg) (s : State) (b : Bytes), passes cmdCounterProgram m s = true ∧ m.norm.recs 12 = [b] ∧ byteAt b 1 = 2 ∧ (firstNonZeroAt b (span 2 11)).isNone = true) :=
  ⟨⟨pk 40 [(0, 4), (1, 2)], { svc with telem := { svc.telem with ring := { HostRing.reset with j := 11, k := 6 } } }, par 40 [(0, 4), (1, 2)], by decide +kernel⟩,
   ⟨pk 40 [(0, 4), (1, 3)], collecting, par 40 [(0, 4), (1, 3)], by decide +kernel⟩,
   ⟨pk 4 [], svc, by decide +kernel⟩,
   ⟨pk 4 [(0, 1)], svc, by decide +kernel⟩,
   ⟨pk 12 [(1, 2)], svc, par 12 [(1, 2)], by decide +kernel⟩⟩

/-- The hypotheses of TelemetryCommandsComplete can be met, clauses 16 to 20. -/
theorem test_telemetryCommandsComplete_4 :
    (∃ (m : Msg) (s : State) (b : Bytes), passes cmdCounterProgram m s = true ∧ m.norm.recs 12 = [b] ∧ byteAt b 1 = 1 ∧ isEvent (fieldLe b 2 2) = true ∧ ((byteAt b 4 = 0 ∨ (byteAt b 4 = 1 ∧ isOccupancy (fieldLe b 2 2) = true))) ∧ (firstNonZeroAt b [5, 6, 7]).isNone = true) ∧
    (∃ (m : Msg) (s : State), passes cmdCounterRead m s = true ∧ 1 ≤ m.norm.p 1 ∧ m.norm.p 1 ≤ 254 ∧ m.norm.p 0 + m.norm.p 1 ≤ 256 ∧ m.norm.p 2 = 0 ∧ zeroAt m.norm [3] = true) ∧
    (∃ (m : Msg) (s : State), passes cmdCounterDumpConfig m s = true ∧ m.norm.p 0 = 0 ∧ zeroAt m.norm (span 1 39) = true) ∧
    (∃ (m : Msg) (s : State) (x : _), (passes cmdCounterDumpConfig m s = true ∧ m.norm.p 0 = 2 ∧ zeroAt m.norm (span 1 39) = true) ∧ x = { s.telem with dumpRing := s.telem.dumpRing.start, dumpNext := s.flowNow + s.telem.dumpPeriod * 1000000 }) ∧
    (∃ (m : Msg) (s : State) (b : Bytes) (len : _), (passes cmdBwwinConfig m s = true ∧ m.norm.recs 4 = [b] ∧ byteAt b 0 ≤ 25 ∧ byteAt b 1 = 1 ∧ byteAt b 2 ≤ 20 ∧ (firstNonZeroAt b [3]).isNone = true) ∧ len = windowNs (byteAt b 2)) :=
  ⟨⟨pk 12 [(1, 1), (2, 0)], svc, par 12 [(1, 1), (2, 0)], by decide +kernel⟩,
   ⟨pk 4 [(0, 255), (1, 1)], svc, by decide +kernel⟩,
   ⟨pk 40 [], svc, by decide +kernel⟩,
   ⟨pk 40 [(0, 2)], svc, _, by decide +kernel, rfl⟩,
   ⟨pk 4 [(0, 25), (1, 1), (2, 20)], svc, par 4 [(0, 25), (1, 1), (2, 20)], _, by decide +kernel, rfl⟩⟩

/-- The hypotheses of TelemetryCommandsComplete can be met, clauses 21 to 21. -/
theorem test_telemetryCommandsComplete_5 :
    ∃ (m : Msg) (s : State), passes cmdBwwinRead m s = true ∧ m.norm.p 0 ≤ 25 ∧ 1 ≤ m.norm.p 1 ∧ m.norm.p 0 + m.norm.p 1 ≤ 26 ∧ m.norm.p 2 = 0 ∧ zeroAt m.norm [3] = true :=
  ⟨pk 4 [(0, 25), (1, 1)], svc, by decide +kernel⟩

/-- The hypotheses of PacketsAreCheckedInOrder on an opcode that is not in the index can be met. -/
theorem test_packetsAreCheckedInOrder_unknown :
    (∃ (op : Nat) (m : Msg), cmdOf op = none ∧ 4080 < m.len.toNat) ∧
    (∃ (op : Nat) (m : Msg), cmdOf op = none ∧ m.len.toNat ≤ 4080) :=
  ⟨⟨0xFFFF, { pk 0 [] with len := 4081 }, by decide +kernel⟩,
   ⟨0xFFFF, { pk 0 [] with len := 4080 }, by decide +kernel⟩⟩

/-- The hypotheses of RecordsRunInOrder can be met, clauses 1 to 5. -/
theorem test_recordsRunInOrder_1 :
    (∃ (m : Msg), m.batch = false) ∧
    (∃ (m : Msg), m.batch = true) ∧
    (∃ (c : Cmd) (m : Msg) (s : State) (k : _) (most : _), m.len.toNat ≤ 4080 ∧ c.accept m s = none ∧ m.badHeader = none ∧ c.flags m = true ∧ (c.legal m s && c.clearingOk m s) = true ∧ ((m.guard = 0xFFFF ∨ m.guard = s.epoch.current)) ∧ c.len m = lenRec k most m ∧ (lenRec k most m).1 = false) ∧
    (∃ (batch : Bool) (k : Nat) (f : State → Bytes → Nat → RecAns) (before : _) (r : Nat) (s : State) (out : Bytes) (t : State) (o : Bytes), runRecords batch k f before r s out = ok t o) ∧
    (∃ (k : Nat) (f : State → Bytes → Nat → RecAns) (b : Bytes) (r : Nat) (s : State) (st d : Nat), f s b (16 + r * k) = .refuse st d) :=
  ⟨⟨pk 0 [], by decide +kernel⟩,
   ⟨pk 8 [] 4, by decide +kernel⟩,
   ⟨cmdMinerTaskLevel, pk 7 [], svc, 8, 11, by decide +kernel⟩,
   ⟨true, 8, fun s b _ => .ok s b, [zeros 8], 0, svc, [], svc, zeros 8, rfl⟩,
   ⟨8, fun _ _ i => .refuse 1 i, zeros 8, 1, svc, 1, 24, rfl⟩⟩

/-- The hypotheses of RecordsRunInOrder can be met, clauses 6 to 9. -/
theorem test_recordsRunInOrder_2 :
    (∃ (k : Nat) (f : State → Bytes → Nat → RecAns) (b : Bytes) (r : Nat) (s : State) (t : State) (st d : Nat), f s b (16 + r * k) = .refuseWith t st d) ∧
    (∃ (k : Nat) (f : State → Bytes → Nat → RecAns) (b : Bytes) (r : Nat) (s : State) (t : State) (o : Bytes), f s b (16 + r * k) = .ok t o) ∧
    (∃ (c : Cmd) (m : Msg) (s : State) (st d : Nat), (s.canTake m.ch = true ∧ c.held m s = false) ∧ c.check m.norm s = some (st, d)) :=
  ⟨⟨8, fun s _ i => .refuseWith s 1 i, zeros 8, 1, svc, svc, 1, 24, rfl⟩,
   ⟨8, fun s b _ => .ok s b, zeros 8, 1, svc, svc, zeros 8, rfl⟩,
   ⟨cmdMinerTaskLevel, pk 7 [], svc, _, _, by decide +kernel, somePair (by decide +kernel)⟩⟩

/-- The hypotheses of EveryStepKeepsMemoryCanonical can be met. -/
theorem test_everyStepKeepsMemoryCanonical :
    ∃ s t, Kept s ∧ step s = .next t :=
  ⟨{ svc with pending := [.deviceNop (pk 0 [])] }, _, (by decide +kernel : Memory.wf [] = true), rfl⟩

/-- The hypotheses of CompressionErrorIsBounded can be met. -/
theorem test_compressionErrorIsBounded :
    (∃ (v : Nat), v < 2 ^ 20) ∧
    (∃ (v e : Nat), (2 ^ 20 ≤ v ∧ v < 2 ^ 48) ∧ e = v.log2 - 18) ∧
    (∃ (v : Nat), v < 2 ^ 48) ∧
    (∃ (c : Nat), c < 30 * 2 ^ 19) :=
  ⟨⟨2 ^ 20 - 1, by decide +kernel⟩,
   ⟨2 ^ 48 - 1, _, by decide +kernel, rfl⟩,
   ⟨2 ^ 48 - 1, by decide +kernel⟩,
   ⟨30 * 2 ^ 19 - 1, by decide +kernel⟩⟩

/-- The hypotheses of NopRepliesItsParameters can be met. -/
theorem test_nopRepliesItsParameters :
    (∃ (m : Msg) (s : State), passes cmdDeviceNop m s = true) ∧
    (∃ (m : Msg), m.len.toNat ≤ 4080) ∧
    (∃ (m : Msg), m.ch < 4 ∧ m.ch ≠ 2) ∧
    (∃ (m : Msg) (s : State), m.ch = 2 ∧ s.pair.state = .joined) :=
  ⟨⟨pk 0 [], svc, by decide +kernel⟩,
   ⟨{ pk 0 [] with len := 4080 }, by decide +kernel⟩,
   ⟨{ pk 0 [] with ch := 3 }, by decide +kernel⟩,
   ⟨{ pk 0 [] with ch := 2 }, { svc with pair := { svc.pair with state := .joined } }, by decide +kernel⟩⟩

/-- The hypotheses of LookupFindsFirstRule can be met. -/
theorem test_lookupFindsFirstRule :
    (∃ (t : RuleTable) (mv r : Bytes), t.find mv = some r) ∧
    (∃ (t : RuleTable) (mv : _), t.find mv = none) ∧
    (∃ (s : State) (t : RuleTable) (mv r : Bytes), s.repairing t = false ∧ t.find mv = some r) ∧
    (∃ (s : State) (t : RuleTable) (mv : Bytes), s.repairing t = false ∧ t.find mv = none) :=
  ⟨⟨aTable, zeros 128, _, someOf (by decide +kernel)⟩,
   ⟨{ aTable with rules := [] }, zeros 128, by decide +kernel⟩,
   ⟨svc, aTable, zeros 128, _, by decide +kernel, someOf (by decide +kernel)⟩,
   ⟨svc, { aTable with rules := [] }, zeros 128, by decide +kernel⟩⟩

/-! Rows of the table that the witnesses below name. -/
theorem nop_is_row : (Instr.deviceNop, cmdDeviceNop) ∈ packetRows := List.mem_of_getElem? (i := 0) rfl
theorem timeout_is_row : (Instr.deviceMbxTimeout, cmdDeviceMbxTimeout) ∈ packetRows := List.mem_of_getElem? (i := 1) rfl
theorem enter_is_row : (Instr.deviceTestEnter, cmdDeviceTestEnter) ∈ packetRows := List.mem_of_getElem? (i := 5) rfl
theorem commit_is_row : (Instr.epochCommit, cmdEpochCommit) ∈ packetRows := List.mem_of_getElem? (i := 9) rfl
theorem enable_is_row : (Instr.portEnable, cmdPortEnable) ∈ packetRows := List.mem_of_getElem? (i := 12) rfl
theorem lock_is_row : (Instr.secureConfigLock, cmdSecureConfigLock) ∈ packetRows := List.mem_of_getElem? (i := 126) rfl
/-- The sealed shadow of a secondary. -/
def sealedShadow : State := { svc with pair := { svc.pair with prepared := some 1 } }
def nsCall : Msg := { pk 4 [] with ch := 0 }
def bmcCall (n : Nat) (l : List (Nat × Nat)) : Msg := { pk n l with ch := 3 }

/-- The hypotheses of PacketRowsRunOrWait can be met. -/
theorem test_packetRowsRunOrWait :
    (∃ r ∈ packetRows, ∃ (m : Msg) (s : State), s.canTake m.ch = false) ∧
    (∃ r ∈ packetRows, ∃ (m : Msg) (s : State), r.2.held m s = true) ∧
    (∃ r ∈ packetRows, ∃ (m : Msg) (s : State), passes r.2 m s = true) :=
  ⟨⟨_, nop_is_row, pk 0 [], State.reset, by decide +kernel⟩,
   ⟨_, commit_is_row, pk 8 [], sealedShadow, by decide +kernel⟩,
   ⟨_, nop_is_row, pk 0 [], svc, by decide +kernel⟩⟩

/-- The hypotheses of PacketsAreCheckedInOrder can be met, clause 1: a packet fails each check, and passes all. -/
theorem test_packetsAreCheckedInOrder_1 :
    (∃ r ∈ packetRows, ∃ (m : Msg) (s : State), s.canTake m.ch = true ∧ r.2.held m s = false ∧ checksHold r.2 m.norm s 1 = false) ∧
    (∃ r ∈ packetRows, ∃ (m : Msg) (s : State), s.canTake m.ch = true ∧ r.2.held m s = false ∧ checksHold r.2 m.norm s 1 = true ∧
      r.2.accept m.norm s = some (Status.secureOnly, 1)) ∧
    (∃ r ∈ packetRows, ∃ (m : Msg) (s : State), s.canTake m.ch = true ∧ r.2.held m s = false ∧ checksHold r.2 m.norm s 2 = true ∧
      m.norm.badHeader = some 10) ∧
    (∃ r ∈ packetRows, ∃ (m : Msg) (s : State), s.canTake m.ch = true ∧ r.2.held m s = false ∧ checksHold r.2 m.norm s 3 = true ∧
      checksHold r.2 m.norm s 4 = false) ∧
    (∃ r ∈ packetRows, ∃ (m : Msg) (s : State), s.canTake m.ch = true ∧ r.2.held m s = false ∧ checksHold r.2 m.norm s 4 = true ∧
      checksHold r.2 m.norm s 5 = false) :=
  ⟨⟨_, nop_is_row, { pk 0 [] with len := 4081 }, svc, by decide +kernel⟩,
   ⟨_, lock_is_row, nsCall, svc, by decide +kernel⟩,
   ⟨_, nop_is_row, { pk 0 [] with resv := [1, 0, 0, 0, 0, 0] }, svc, by decide +kernel⟩,
   ⟨_, nop_is_row, pk 0 [] 1, svc, by decide +kernel⟩,
   ⟨_, enter_is_row, pk 4 [], svc, by decide +kernel⟩⟩
/-- The same, the checks after the state. -/
theorem test_packetsAreCheckedInOrder_2 :
    (∃ r ∈ packetRows, ∃ (m : Msg) (s : State), s.canTake m.ch = true ∧ r.2.held m s = false ∧ checksHold r.2 m.norm s 5 = true ∧
      checksHold r.2 m.norm s 6 = false) ∧
    (∃ r ∈ packetRows, ∃ (m : Msg) (s : State), s.canTake m.ch = true ∧ r.2.held m s = false ∧ checksHold r.2 m.norm s 6 = true ∧
      checksHold r.2 m.norm s 7 = false) ∧
    (∃ r ∈ packetRows, ∃ (m : Msg) (s : State), s.canTake m.ch = true ∧ r.2.held m s = false ∧ checksHold r.2 m.norm s 7 = true ∧
      checksHold r.2 m.norm s 8 = false) ∧
    (∃ r ∈ packetRows, ∃ (m : Msg) (s : State), s.canTake m.ch = true ∧ r.2.held m s = false ∧ checksHold r.2 m.norm s 8 = true) :=
  ⟨⟨_, nop_is_row, { pk 0 [] with guard := 5 }, svc, by decide +kernel⟩,
   ⟨_, lock_is_row, pk 5 [], svc, by decide +kernel⟩,
   ⟨_, enable_is_row, pk 4 [(3, 1)] 1, { svc with life := { svc.life with lock := true } }, by decide +kernel⟩,
   ⟨_, nop_is_row, pk 0 [], svc, by decide +kernel⟩⟩

/-- The hypotheses of EndsDisturbNothingElse can be met: an end that enters no state, and a refused packet whose reply is placed or queues. -/
theorem test_endsDisturbNothingElse :
    (∃ r ∈ packetRows, ∃ (m : Msg) (s : State) (d : Done) (u : State), d.enters = none ∧ ran r.2 m s d = u) ∧
    (∃ r ∈ packetRows, ∃ (m : Msg) (s : State), m.ch < 4 ∧ s.canTake m.ch = true ∧ r.2.held m s = false ∧
      (r.2.check m.norm s).isSome = true ∧ (s.chan m.ch).discard = false ∧ (s.chan m.ch).outStatus = true) ∧
    (∃ r ∈ packetRows, ∃ (m : Msg) (s : State), m.ch < 4 ∧ s.canTake m.ch = true ∧ r.2.held m s = false ∧
      (r.2.check m.norm s).isSome = true ∧ (s.chan m.ch).discard = false ∧ (s.chan m.ch).outStatus = false) :=
  ⟨⟨_, nop_is_row, pk 0 [], svc, ok svc [], _, rfl, rfl⟩,
   ⟨_, nop_is_row, pk 0 [] 1, { svc with sec := { svc.sec with outStatus := true } }, by decide +kernel⟩,
   ⟨_, nop_is_row, pk 0 [] 1, svc, by decide +kernel⟩⟩

/-- The hypotheses of BmcAndSecureSetsAreKept can be met. -/
theorem test_bmcAndSecureSetsAreKept :
    (∃ r ∈ packetRows, ∃ (m : Msg), m.ch = 3 ∧ r.2.op = 0x0101) ∧
    (∃ r ∈ packetRows, ∃ (m : Msg), m.ch = 3 ∧ r.2.op = 0x1201) ∧
    (∃ r ∈ packetRows, ∃ (m : Msg), m.ch = 3 ∧ r.2.op = 0x0108 ∧ m.norm.f 2 2 ≠ 0 ∧ (m.norm.p 0 ≤ 3 ∨ m.norm.p 0 = 0xFF) ∧ m.norm.p 1 = 0) ∧
    (∃ r ∈ packetRows, ∃ (m : Msg) (s : State), r.2.op / 256 = 0x12 ∧ m.ch = 1 ∧ s.standby = false) ∧
    (∃ r ∈ packetRows, ∃ (m : Msg) (s : State), r.2.op / 256 = 0x12 ∧ m.ch = 2 ∧ s.pair.state = .joined ∧ (r.2.accept m s).isNone = true) ∧
    (∃ r ∈ packetRows, ∃ (m : Msg), r.2.op / 256 = 0x12 ∧ m.ch = 0) :=
  ⟨⟨_, nop_is_row, bmcCall 0 [], by decide +kernel⟩,
   ⟨_, lock_is_row, bmcCall 0 [], by decide +kernel⟩,
   ⟨_, timeout_is_row, bmcCall 4 [(0, 255), (2, 1)], by decide +kernel⟩,
   ⟨_, lock_is_row, pk 4 [], svc, by decide +kernel⟩,
   ⟨_, lock_is_row, { pk 4 [] with ch := 2, origin := 1 }, { svc with pair := { svc.pair with state := .joined } }, by decide +kernel⟩,
   ⟨_, lock_is_row, nsCall, by decide +kernel⟩⟩

/-- The remaining hypotheses of NopRepliesItsParameters can be met at the ends of their ranges. -/
theorem test_nop_header_ends :
    (∃ m : Msg, m.len.toNat = 4080 ∧ (cmdDeviceNop.len m).1 = true ∧ cmdDeviceNop.flags m = true) ∧
    (∃ (m : Msg) (s : State), cmdDeviceNop.flags m = false ∧ cmdDeviceNop.legal m s = true) :=
  ⟨⟨{ pk 0 [] with len := 4080 }, by decide +kernel⟩, ⟨pk 0 [] 1, inState .recover, by decide +kernel⟩⟩

end Sys2Proof.Tests
end

/-!
PROOFS. The command protocol (spec 02): what the sender of a channel does (R54), what each channel accepts (R60, R65, R67), and the checks
of a packet (R52).
-/
namespace Sys2Proof.CommandProtocol
open Machine Claims

/-! A write into an inbound buffer, and RING (R54). -/

theorem le_length (n v : Nat) : (le n v).length = n := by
  induction n generalizing v with
  | zero => rfl
  | succ n ih => simp [le, ih]

theorem write_of_free {c : Channel} (off : Nat) (data : Bytes) (h : c.pending = false) (hfit : off + data.length ≤ 4096) :
    c.write off data = { c with inbound := bufWriteAll c.inbound off data } := by
  have hlost : decide (4096 < off + data.length) = false := decide_eq_false (by omega)
  simp [Channel.write, h, hlost]

theorem write_of_pending {c : Channel} (off : Nat) (data : Bytes) (h : c.pending = true) :
    c.write off data = { c with writeLost := true } := by
  simp [Channel.write, h]

theorem ring_of_free {c : Channel} (now : Nat) (run : Bool) (h : c.pending = false) :
    c.ring now run = { c with pending := true, taken := false, timeout := false, rungMs := c.timeoutMs,
                              timer := if run then some (now, c.timeoutMs * 1000000) else none } := by
  simp [Channel.ring, h]

theorem ring_of_pending {c : Channel} (now : Nat) (run : Bool) (h : c.pending = true) :
    c.ring now run = { c with doorbellLost := true } := by
  simp [Channel.ring, h]

/-- R54, R418: an aligned write to a buffer that its sender reaches is the channel's own `write`. -/
theorem exec_mbxInboundWrite {ch off : Nat} (v : W32) {s : State} (hr : s.reachable ch = true) (hch : ch < 3) (hoff : off < 4096)
    (hal : off % 4 = 0) :
    exec (.mbxInboundWrite ch off v) s = .next (settled s (s.setChan ch ((s.chan ch).write off (le 4 v.toNat)))) := by
  show execMbxInboundWrite ch off v s = _
  simp [execMbxInboundWrite, hr, hch, hoff, hal, done_eq]

/-- What rings a channel: a host's byte with bit 0, the peer's ring, or the BMC's byte 0x01 with a correct PEC. -/
def Rings (q : ChannelAsk) : Prop :=
  (q.ch < 2 ∧ q.byte.getLsbD 0 = true) ∨ q.ch = 2 ∨ (q.ch = 3 ∧ q.byte = 1 ∧ q.pec = true)

/-- Every sender's way of ringing is the channel's own `ring`. -/
theorem exec_ringDoorbell {q : ChannelAsk} {s : State} (hr : s.reachable q.ch = true) (hq : Rings q) :
    exec (.ringDoorbell q) s = .next (settled s (s.setChan q.ch ((s.chan q.ch).ring s.now s.inService))) := by
  show execRingDoorbell q s = _
  rcases hq with ⟨hch, hbit⟩ | hch | ⟨hch, hbyte, hpec⟩
  · have h4 : q.ch < 4 := by omega
    have h3 : q.ch ≠ 3 := by omega
    simp [execRingDoorbell, hr, h4, h3, hbit, done_eq, State.ringChan]
  · rw [hch] at hr
    simp [execRingDoorbell, hr, hch, done_eq, State.ringChan]
  · rw [hch] at hr
    simp [execRingDoorbell, hr, hch, hbyte, hpec, State.bmcControl, done_eq, State.ringChan]

/-- Settles O8: the write and the ring are those of the channel, which takes them while it is free and loses them while a message is
pending; an aligned word never passes the buffer's end, so it is not lost there. -/
theorem senderWritesAndRings : Obligations.SenderWritesAndRings := by
  refine ⟨?_, ?_, ?_, ?_⟩
  · intro ch off v s hr hch hoff hal hp
    have hfit : off + (le 4 v.toNat).length ≤ 4096 := by rw [le_length]; omega
    rw [exec_mbxInboundWrite v hr hch hoff hal, write_of_free off _ hp hfit]
  · intro ch off v s hr hch hoff hal hp
    rw [exec_mbxInboundWrite v hr hch hoff hal, write_of_pending off _ hp]
  · intro q s hr hq hp
    rw [exec_ringDoorbell hr hq, ring_of_free _ _ hp]
  · intro q s hr hq hp
    rw [exec_ringDoorbell hr hq, ring_of_pending _ _ hp]

/-! What a channel accepts (R65, R67, R486): `Cmd.accept`, channel by channel. -/

theorem accept_bmc (c : Cmd) {m : Msg} (s : State) (h : m.ch = 3) :
    c.accept m s = if c.onBmc then none else some (Status.secureOnly, 2) := by
  simp [Cmd.accept, h]

theorem accept_peer_joined {c : Cmd} {m : Msg} {s : State} (h : m.ch = 2) (hp : c.onPeer = true) (hs : c.op / 256 ≠ 0x12)
    (hj : s.pair.state = .joined) : c.accept m s = none := by
  simp [Cmd.accept, h, hp, hs, hj]

theorem joined_of_accept_peer_secure {c : Cmd} {m : Msg} {s : State} (h : m.ch = 2) (hs : c.op / 256 = 0x12)
    (ha : c.accept m s = none) : s.pair.state = .joined ∧ m.origin = 1 := by
  unfold Cmd.accept at ha
  rw [if_pos h] at ha
  split at ha
  next hguard => simpa [hs] using hguard
  next => cases ha

theorem accept_hostNs_secure {c : Cmd} {m : Msg} (s : State) (h : m.ch = 0) (hs : c.op / 256 = 0x12) :
    c.accept m s = some (Status.secureOnly, 1) := by
  simp [Cmd.accept, h, hs]

/-- HOST_S accepts every command and HOST_NS those outside the 0x12xx group, but for what a standing-by device bars (R486). -/
theorem accept_host {c : Cmd} {m : Msg} {s : State} (h : m.ch < 2) (hs : m.ch = 0 → c.op / 256 ≠ 0x12)
    (hst : s.standby = false ∨ c.standbyOk m = true) : c.accept m s = none := by
  have h2 : m.ch ≠ 2 := by omega
  have h3 : m.ch ≠ 3 := by omega
  have hsec : (c.op / 256 == 0x12 && decide (m.ch = 0)) = false := by
    by_cases h0 : m.ch = 0 <;> simp [h0, hs]
  have hstand : (s.standby && !c.standbyOk m) = false := by
    rcases hst with hst | hst <;> simp [hst]
  simp [Cmd.accept, h2, h3, hsec, hstand]

/-! What the index marks for BMC (R67). -/

/-- The opcodes of the BMC set. -/
def bmcSet : List Nat := [0x0101, 0x0108, 0x0102, 0x0103, 0x0203, 0x0303, 0x0F03, 0x1001, 0x1002, 0x1003, 0x1104]

theorem packetRows_onBmc : ∀ r ∈ packetRows, r.2.onBmc = decide (r.2.op ∈ bmcSet) := by decide +kernel

theorem packetRows_mbxTimeout : packetRows.filter (·.2.op == 0x0108) = [(.deviceMbxTimeout, cmdDeviceMbxTimeout)] := rfl

theorem packetRow_eq_mbxTimeout {r : (Msg → Instr) × Cmd} (hr : r ∈ packetRows) (hop : r.2.op = 0x0108) :
    r = (.deviceMbxTimeout, cmdDeviceMbxTimeout) := by
  have hmem : r ∈ packetRows.filter (·.2.op == 0x0108) := List.mem_filter.mpr ⟨hr, beq_iff_eq.mpr hop⟩
  rw [packetRows_mbxTimeout] at hmem
  exact List.mem_singleton.mp hmem

theorem not_mem_bmcSet_of_secure {op : Nat} (h : op / 256 = 0x12) : op ∉ bmcSet := by
  have hgroups : ∀ x ∈ bmcSet, x / 256 ≠ 0x12 := by decide
  exact fun hmem => hgroups op hmem h

/-- R59, R67: on BMC a DEVICE_MBX_TIMEOUT whose first two bytes are right is refused where it gives a timeout. -/
theorem bodyDeviceMbxTimeout_bmc_set {m : Msg} (s : State) (h : m.ch = 3) (ht : m.f 2 2 ≠ 0) (h0 : m.p 0 ≤ 3 ∨ m.p 0 = 0xFF)
    (h1 : m.p 1 = 0) : bodyDeviceMbxTimeout m s = refuse s Status.secureOnly 2 := by
  have hnamed : (!(decide (m.p 0 ≤ 3) || m.p 0 == 0xFF)) = false := by
    rcases h0 with h0 | h0 <;> simp [h0]
  simp [bodyDeviceMbxTimeout, hnamed, h, ht, h1]

/-- Settles O59: BMC accepts what the index marks for it, which is the list of R67 and holds nothing of the 0x12xx group; the other channels
judge that group by their code, the pair's state and the origin byte. -/
theorem bmcAndSecureSetsAreKept : Obligations.BmcAndSecureSetsAreKept := by
  intro r hr m s
  have hbmc := packetRows_onBmc r hr
  have bmcRefuses : m.ch = 3 → r.2.op ∉ bmcSet → r.2.accept m s = some (Status.secureOnly, 2) := by
    intro hch hop
    simp [accept_bmc r.2 s hch, hbmc, hop]
  refine ⟨?_, bmcRefuses, ?_, ?_, ?_, ?_, ?_⟩
  · intro hch hop
    have hmem : r.2.op ∈ bmcSet := hop
    simp [accept_bmc r.2 s hch, hbmc, hmem]
  · intro hch hop ht h0 h1
    have hrow := packetRow_eq_mbxTimeout hr hop
    subst hrow
    exact bodyDeviceMbxTimeout_bmc_set s hch ht h0 h1
  · intro hs hch ha
    obtain h | h | h | h : m.ch = 0 ∨ m.ch = 1 ∨ m.ch = 2 ∨ m.ch = 3 := by omega
    · simp [accept_hostNs_secure s h hs] at ha
    · exact .inl h
    · exact .inr ⟨h, joined_of_accept_peer_secure h hs ha⟩
    · simp [bmcRefuses h (not_mem_bmcSet_of_secure hs)] at ha
  · intro hs hch
    exact accept_hostNs_secure s hch hs
  · intro hs hch
    exact bmcRefuses hch (not_mem_bmcSet_of_secure hs)
  · intro hs hch hst
    exact accept_host (by omega) (by omega) (.inl hst)

/-! DEVICE_NOP (R60). -/

theorem booted_iff (s : State) : s.booted = true ↔ s.life.state ∈ [.init, .test, .service, .degraded, .recover] := by
  unfold State.booted
  cases s.life.state <;> decide

/-- Settles O58: DEVICE_NOP is in the BMC set, outside the 0x12xx group, and changes nothing, so no channel bars it; its body answers the
parameters that it was given. -/
theorem nopRepliesItsParameters : Obligations.NopRepliesItsParameters := by
  refine ⟨?_, ?_, ?_, ?_, ?_, ?_⟩
  · intro m s h
    exact run_passes cmdDeviceNop m s h
  · intro m h
    simpa [cmdDeviceNop, lenIn] using h
  · intro m s hch hne
    obtain h | h : m.ch = 3 ∨ m.ch < 2 := by omega
    · exact accept_bmc cmdDeviceNop s h
    · exact accept_host h (fun _ => by decide) (.inr rfl)
  · intro m s hch hj
    exact accept_peer_joined hch rfl (by decide) hj
  · intro m
    exact beq_iff_eq
  · intro m s
    exact booted_iff s

/-! The checks of a packet (R52), and what is judged before them: `Cmd.held`. -/

theorem run_held {c : Cmd} {m : Msg} {s : State} (h : c.held m s = true) : runCommand c m s = .next s := by
  simp [runCommand, h]

/-- A packet that is taken and fails a check is refused with the first that fails. -/
theorem run_refused {c : Cmd} {m : Msg} {s : State} {st d : Nat} (ht : s.canTake m.ch = true) (hh : c.held m s = false)
    (hc : c.check m.norm s = some (st, d)) : runCommand c m s = .next (refused c m s st d) := by
  have hi : interpret c m s = s.reply m.ch (replyOf c.op m.norm s.epoch.current st d []) := by
    unfold interpret
    simp only [hc]
    rfl
  simp [runCommand, ht, hh, hi, refused, done_eq]

/-- A secondary of a joined pair, in SERVICE, that has yet to apply a journal record. -/
def behindSecondary : State :=
  { State.reset with
    life := { Life.reset with state := .service }
    pair := { Pair.reset with
      state := .joined, role := .secondary
      journal := [{ seq := 1, kind := 0, tile := 0, payload := [], time := 0 }] } }

/-- A TELEM_STATUS from PEER whose length field is 4,081, with the first parameter byte `b`: with 1 it would be a CLEAR. -/
def overlongStatus (b : Byte) : Msg :=
  { ch := 2, tag := 0, len := 4081, flags := 0, origin := 0, guard := 0xFFFF, resv := zeros 6, params := b :: zeros 4079 }

/-- The wait of R492 looks at a parameter byte of a packet that step 1 of R52 refuses. -/
theorem overlongStatus_one_held : cmdTelemStatus.held (overlongStatus 1) behindSecondary = true := by decide +kernel

theorem run_overlongStatus_zero : runCommand cmdTelemStatus (overlongStatus 0) behindSecondary =
    .next (refused cmdTelemStatus (overlongStatus 0) behindSecondary Status.badLength 4) :=
  run_refused (by decide +kernel) (by decide +kernel) (by decide +kernel)

theorem refused_overlongStatus_peer_outStatus :
    (refused cmdTelemStatus (overlongStatus 0) behindSecondary Status.badLength 4).peer.outStatus = true := by
  unfold refused
  rw [settled_peer]
  decide +kernel

/-- Refutes O52, at its third part: a packet of more than 4,080 bytes ends alike whatever its parameters. Whether a packet is held is judged
before its checks and on its parameters as they lie in the buffer (`Cmd.held` asks `Cmd.changes`). On a secondary that is behind in its
journal an overlong TELEM_STATUS with 1 in its first parameter byte waits, and with 0 there it is answered with BAD_LENGTH. -/
theorem not_packetsAreCheckedInOrder : ¬ Obligations.PacketsAreCheckedInOrder := by
  rintro ⟨-, -, unread, -⟩
  have hrow : (Instr.telemStatus, cmdTelemStatus) ∈ packetRows := by simp [packetRows, packetRows5]
  have halike : exec (.telemStatus (overlongStatus 1)) behindSecondary = exec (.telemStatus (overlongStatus 0)) behindSecondary :=
    unread _ hrow (overlongStatus 0) behindSecondary (overlongStatus 1).params (by decide)
  have hwaits : exec (.telemStatus (overlongStatus 1)) behindSecondary = .next behindSecondary := run_held overlongStatus_one_held
  have hsame : behindSecondary = refused cmdTelemStatus (overlongStatus 0) behindSecondary Status.badLength 4 :=
    Host.Outcome.next.inj (hwaits.symm.trans (halike.trans run_overlongStatus_zero))
  have hout := refused_overlongStatus_peer_outStatus
  rw [← hsame] at hout
  exact absurd hout (by decide)

end Sys2Proof.CommandProtocol

/-!
PROOFS. The lookup of a rule table (spec 05): which rule wins, and the action that a lookup returns (R138).
-/
namespace Sys2Proof.RuleLookup
open Machine

/-! The order of rules (R138). -/

theorem ruleBefore_iff {a b : Bytes} : ruleBefore a b = true ↔
    rulePriority a < rulePriority b ∨ (rulePriority a = rulePriority b ∧ ruleId a < ruleId b) := by
  simp [ruleBefore]

/-- The converse of `ruleBefore` is the order as R138 words it: by priority number, then by ID. -/
theorem ruleBefore_eq_false_iff {q r : Bytes} : ruleBefore q r = false ↔
    rulePriority r < rulePriority q ∨ (rulePriority r = rulePriority q ∧ ruleId r ≤ ruleId q) := by
  rw [← Bool.not_eq_true, ruleBefore_iff]
  omega

theorem ruleBefore_irrefl (r : Bytes) : ruleBefore r r = false :=
  ruleBefore_eq_false_iff.mpr (.inr ⟨rfl, Nat.le_refl _⟩)

/-- A rule that does not come before `b` does not come before a rule `r` ahead of `b` either. -/
theorem ruleBefore_eq_false_of_before {q b r : Bytes} (hq : ruleBefore q b = false) (hr : ruleBefore r b = true) :
    ruleBefore q r = false := by
  rw [ruleBefore_eq_false_iff] at hq ⊢
  rw [ruleBefore_iff] at hr
  omega

/-! The scan of a table's rules. -/

/-- One rule of the scan: it replaces the best so far where it matches and comes before it. -/
def better (hit : Bytes → Bool) (best : Option Bytes) (r : Bytes) : Option Bytes :=
  if hit r && (match best with | some b => ruleBefore r b | none => true) then some r else best

/-- The rules of `t` that match the key of a match vector. -/
def hits (t : RuleTable) (mv : Bytes) (r : Bytes) : Bool := ruleMatches r (keyOf t.segments mv) (segmentsWidth t.segments)

theorem find_eq_foldl (t : RuleTable) (mv : Bytes) : t.find mv = t.rules.foldl (better (hits t mv)) none := rfl

/-- The winner among `rules`: a rule that is hit and that no other hit comes before, or none where nothing is hit. -/
def IsWinner (hit : Bytes → Bool) (rules : List Bytes) : Option Bytes → Prop
  | none => ∀ q ∈ rules, hit q = false
  | some r => r ∈ rules ∧ hit r = true ∧ ∀ q ∈ rules, hit q = true → ruleBefore q r = false

section
variable {hit : Bytes → Bool} {rules : List Bytes} {best : Option Bytes} {b r : Bytes}

theorem better_of_miss (hr : hit r = false) : better hit best r = best := by simp [better, hr]
theorem better_none_of_hit (hr : hit r = true) : better hit none r = some r := by simp [better, hr]
theorem better_of_before (hr : hit r = true) (hb : ruleBefore r b = true) : better hit (some b) r = some r := by simp [better, hr, hb]
theorem better_of_not_before (hb : ruleBefore r b = false) : better hit (some b) r = some b := by simp [better, hb]

/-- A rule that is not hit leaves the winner as it was. -/
theorem IsWinner.append_miss (h : IsWinner hit rules best) (hr : hit r = false) : IsWinner hit (rules ++ [r]) best := by
  cases best with
  | none => exact List.forall_mem_append.mpr ⟨h, List.forall_mem_singleton.mpr hr⟩
  | some b =>
    obtain ⟨hmem, hhit, hfirst⟩ := h
    have hlast : hit r = true → ruleBefore r b = false := by simp [hr]
    exact ⟨List.mem_append_left _ hmem, hhit, List.forall_mem_append.mpr ⟨hfirst, List.forall_mem_singleton.mpr hlast⟩⟩

/-- The winner stays where the rule added does not come before it. -/
theorem IsWinner.append_not_before (h : IsWinner hit rules (some b)) (hb : ruleBefore r b = false) :
    IsWinner hit (rules ++ [r]) (some b) := by
  obtain ⟨hmem, hhit, hfirst⟩ := h
  exact ⟨List.mem_append_left _ hmem, hhit, List.forall_mem_append.mpr ⟨hfirst, List.forall_mem_singleton.mpr fun _ => hb⟩⟩

/-- The rule added wins where it is hit and no hit already in the list comes before it. -/
theorem isWinner_last (hr : hit r = true) (hfirst : ∀ q ∈ rules, hit q = true → ruleBefore q r = false) :
    IsWinner hit (rules ++ [r]) (some r) :=
  ⟨List.mem_append_right _ (List.mem_singleton_self r), hr,
    List.forall_mem_append.mpr ⟨hfirst, List.forall_mem_singleton.mpr fun _ => ruleBefore_irrefl r⟩⟩

/-- One rule of the scan keeps the winner of the rules seen. -/
theorem IsWinner.append_better (h : IsWinner hit rules best) (r : Bytes) : IsWinner hit (rules ++ [r]) (better hit best r) := by
  cases hr : hit r with
  | false =>
    rw [better_of_miss hr]
    exact h.append_miss hr
  | true =>
    cases best with
    | none =>
      rw [better_none_of_hit hr]
      exact isWinner_last hr fun q hq hqhit => absurd hqhit (by simp [h q hq])
    | some b =>
      cases hb : ruleBefore r b with
      | false =>
        rw [better_of_not_before hb]
        exact h.append_not_before hb
      | true =>
        obtain ⟨-, -, hfirst⟩ := h
        rw [better_of_before hr hb]
        exact isWinner_last hr fun q hq hqhit => ruleBefore_eq_false_of_before (hfirst q hq hqhit) hb

/-- The scan of further rules keeps the winner, of those seen before and those scanned. -/
theorem IsWinner.foldl_better {seen : List Bytes} (h : IsWinner hit seen best) (rules : List Bytes) :
    IsWinner hit (seen ++ rules) (rules.foldl (better hit) best) := by
  induction rules generalizing seen best with
  | nil => rwa [List.append_nil]
  | cons r rules ih =>
    rw [List.foldl_cons, List.append_cons]
    exact ih (h.append_better r)

theorem isWinner_nil : IsWinner hit [] none := fun _ hq => absurd hq List.not_mem_nil

end

theorem isWinner_find (t : RuleTable) (mv : Bytes) : IsWinner (hits t mv) t.rules (t.find mv) := by
  rw [find_eq_foldl]
  exact isWinner_nil.foldl_better t.rules

/-! The action of a lookup. -/

theorem lookup_fst_of_find_some {s : State} {t : RuleTable} {mv r : Bytes} (k len : Nat) (hs : s.repairing t = false)
    (hf : t.find mv = some r) : (s.lookup k t mv len).1 = slice r 88 24 := by
  simp [State.lookup, hs, hf]

theorem lookup_fst_of_find_none {s : State} {t : RuleTable} {mv : Bytes} (k len : Nat) (hs : s.repairing t = false)
    (hf : t.find mv = none) : (s.lookup k t mv len).1 = t.miss := by
  simp [State.lookup, hs, hf]

/-- Settles O60: the scan of the rules keeps the winner of those seen (`IsWinner.append_better`), so what it ends with is the winner of all. -/
theorem lookupFindsFirstRule : Obligations.LookupFindsFirstRule := by
  refine ⟨?_, ?_, ?_, ?_⟩
  · intro t mv r hf
    have hwin := isWinner_find t mv
    rw [hf] at hwin
    obtain ⟨hmem, hhit, hfirst⟩ := hwin
    exact ⟨hmem, hhit, fun q hq hqhit => ruleBefore_eq_false_iff.mp (hfirst q hq hqhit)⟩
  · intro t mv hf
    have hwin := isWinner_find t mv
    rw [hf] at hwin
    exact hwin
  · exact fun s k t mv len r hs hf => lookup_fst_of_find_some k len hs hf
  · exact fun s k t mv len hs hf => lookup_fst_of_find_none k len hs hf

end Sys2Proof.RuleLookup

/-!
PROOFS. The block: a step runs the front command, what reset holds, and what every step keeps (spec 00, 01, 12).
-/
namespace Sys2Proof.Block
open Machine Claims Laws

/-- Settles O1: a step looks at the front of the queue, and takes it off before it runs it. -/
theorem stepRunsFrontCommand : Obligations.StepRunsFrontCommand := fun _ _ _ => rfl

/-! Reset. -/

theorem chan_reset (ch : Nat) : State.reset.chan ch = Channel.reset := by
  rcases ch with _ | _ | _ | ch <;> rfl

theorem dma_reset {c : Nat} (h : c < 16) : State.reset.dma c = DmaChannel.reset := by
  have hlist : State.reset.host.channels = List.replicate 16 DmaChannel.reset := rfl
  rw [State.dma, hlist, List.getD_eq_getElem?_getD, List.getElem?_replicate, if_pos h, Option.getD_some]

/-- Settles O3: each channel is `Channel.reset`, each DMA channel `DmaChannel.reset`, and the other values are written there. -/
theorem resetHoldsStatedValues : Obligations.ResetHoldsStatedValues := by
  refine ⟨rfl, ?_, rfl, rfl, rfl, ?_, rfl, rfl, rfl, rfl⟩
  · intro ch
    rw [chan_reset]
    exact ⟨rfl, rfl, rfl⟩
  · intro c hc
    rw [dma_reset hc]
    exact ⟨rfl, rfl, rfl⟩

/-- Settles O55: the empty list is canonical. -/
theorem resetMemoryIsCanonical : Obligations.ResetMemoryIsCanonical := (Memory.wf_iff []).mpr (by simp)

/-! The canonical form of device memory (R351). -/

/-- The meaning of every row of the opcode table keeps device memory in its canonical form. -/
theorem exec_keeps (i : Instr) {s : State} (h : Memory.wf s.dram.mem = true) : OutKeeps (exec i s) :=
  match i with
  | .powerOn => execPowerOn_keeps h
  | .resetNFall _ => execResetNFall_keeps h
  | .pwrOkFall _ => execPwrOkFall_keeps h
  | .resetNRise _ _ _ _ => execResetNRise_keeps h
  | .bootComplete _ => execBootComplete_keeps h
  | .rootPllLockLost => execRootPllLockLost_keeps h
  | .perstNRise _ => execPerstNRise_keeps h
  | .linkReset _ => execLinkReset_keeps h
  | .functionLevelReset _ => execFunctionLevelReset_keeps h
  | .tapInstruction _ _ => execTapInstruction_keeps h
  | .registerWrite _ _ _ _ => execRegisterWrite_keeps h
  | .mbxInboundWrite _ _ _ => execMbxInboundWrite_keeps h
  | .ringDoorbell _ => execRingDoorbell_keeps h
  | .releaseReply _ => execReleaseReply_keeps h
  | .bmcBufferWrite _ _ _ => execBmcBufferWrite_keeps h
  | .bmcFlagsRead _ => execBmcFlagsRead_keeps h
  | .bmcReplyRead _ => execBmcReplyRead_keeps h
  | .smbusAlertResponse => execSmbusAlertResponse_keeps h
  | .messageTake => execMessageTake_keeps h
  | .mbxTimeoutExpire _ => execMbxTimeoutExpire_keeps h
  | .peerReplyArrival _ _ detail params => execPeerReplyArrival_keeps (_detail := detail) (_params := params) h
  | .flowCommandResume _ => execFlowCommandResume_keeps h
  | .deviceNop _ => execDeviceNop_keeps h
  | .deviceMbxTimeout _ => execDeviceMbxTimeout_keeps h
  | .deviceIdentify _ => execDeviceIdentify_keeps h
  | .deviceStatus _ => execDeviceStatus_keeps h
  | .deviceStart _ => execDeviceStart_keeps h
  | .deviceTestEnter _ => execDeviceTestEnter_keeps h
  | .deviceTestExit _ => execDeviceTestExit_keeps h
  | .clearingComplete => execClearingComplete_keeps h
  | .deviceResume _ => execDeviceResume_keeps h
  | .epochStage _ => execEpochStage_keeps h
  | .epochCommit _ => execEpochCommit_keeps h
  | .epochDrained => execEpochDrained_keeps h
  | .epochStatus _ => execEpochStatus_keeps h
  | .portConfig _ => execPortConfig_keeps h
  | .portEnable _ => execPortEnable_keeps h
  | .portStatus _ => execPortStatus_keeps h
  | .portCounters _ => execPortCounters_keeps h
  | .laneTune _ => execLaneTune_keeps h
  | .portLoopback _ => execPortLoopback_keeps h
  | .ringConfig _ => execRingConfig_keeps h
  | .canaryStatus _ => execCanaryStatus_keeps h
  | .secureCanaryArm _ => execSecureCanaryArm_keeps h
  | .secureCanaryDisarm _ => execSecureCanaryDisarm_keeps h
  | .canaryHalfPeriod => execCanaryHalfPeriod_keeps h
  | .canaryHeartbeatWindow _ _ => execCanaryHeartbeatWindow_keeps h
  | .linkStateChange _ _ _ _ => execLinkStateChange_keeps h
  | .anRetry _ _ => execAnRetry_keeps h
  | .portCalibrationDone _ _ _ => execPortCalibrationDone_keeps h
  | .peerLaneFail _ => execPeerLaneFail_keeps h
  | .peerLaneRestore _ => execPeerLaneRestore_keeps h
  | .laneFrameReceive _ _ => execLaneFrameReceive_keeps h
  | .pdelayReceive _ _ => execPdelayReceive_keeps h
  | .pdelayReqSend _ => execPdelayReqSend_keeps h
  | .laneFrameAdmit _ _ => execLaneFrameAdmit_keeps h
  | .missResume _ _ => execMissResume_keeps h
  | .recircAdmit _ _ => execRecircAdmit_keeps h
  | .reinjectAdmit _ _ => execReinjectAdmit_keeps h
  | .cutThroughFrameEnd _ _ => execCutThroughFrameEnd_keeps h
  | .bucketReadReturn _ _ => execBucketReadReturn_keeps h
  | .actionEntryReadReturn _ _ => execActionEntryReadReturn_keeps h
  | .pendingWriteBack _ => execPendingWriteBack_keeps h
  | .hotIdleDemote _ => execHotIdleDemote_keeps h
  | .packetDequeue _ _ => execPacketDequeue_keeps h
  | .residenceExpire _ _ => execResidenceExpire_keeps h
  | .ringRecordWrite _ => execRingRecordWrite_keeps h
  | .ringConsumerPoll _ _ => execRingConsumerPoll_keeps h
  | .ringHoldoffExpire _ => execRingHoldoffExpire_keeps h
  | .learnEventApply _ => execLearnEventApply_keeps h
  | .bridgeAgeVisit _ => execBridgeAgeVisit_keeps h
  | .forwardingRepair => execForwardingRepair_keeps h
  | .parseNodeWrite _ => execParseNodeWrite_keeps h
  | .parseNodeRead _ => execParseNodeRead_keeps h
  | .parseLimits _ => execParseLimits_keeps h
  | .parseGraphLoad _ => execParseGraphLoad_keeps h
  | .parseCounters _ => execParseCounters_keeps h
  | .ruleLoad _ => execRuleLoad_keeps h
  | .ruleBuild _ => execRuleBuild_keeps h
  | .ruleBuildComplete _ _ => execRuleBuildComplete_keeps h
  | .ruleStoreRepair _ => execRuleStoreRepair_keeps h
  | .ruleBuildStatus _ => execRuleBuildStatus_keeps h
  | .ruleRead _ => execRuleRead_keeps h
  | .ruleDefault _ => execRuleDefault_keeps h
  | .ruleCounters _ => execRuleCounters_keeps h
  | .recircConfig _ => execRecircConfig_keeps h
  | .flowRead _ => execFlowRead_keeps h
  | .flowWrite _ => execFlowWrite_keeps h
  | .flowExport _ => execFlowExport_keeps h
  | .flowExportDone _ => execFlowExportDone_keeps h
  | .flowStats _ => execFlowStats_keeps h
  | .flowDelete _ => execFlowDelete_keeps h
  | .flowPin _ => execFlowPin_keeps h
  | .flowClassSet _ => execFlowClassSet_keeps h
  | .flowAgeConfig _ => execFlowAgeConfig_keeps h
  | .flowNewLimit _ => execFlowNewLimit_keeps h
  | .flowHashSeed _ => execFlowHashSeed_keeps h
  | .sweepBucketVisit hurt => execSweepBucketVisit_keeps (hurt := hurt) (s := s) h
  | .bindingVisit => execBindingVisit_keeps h
  | .deferredBlockRelease => execDeferredBlockRelease_keeps h
  | .scrubRead _ => execScrubRead_keeps h
  | .faultHistoryExpire => execFaultHistoryExpire_keeps h
  | .flowSetup _ _ => execFlowSetup_keeps h
  | .bindingRepair _ => execBindingRepair_keeps h
  | .natPoolSet _ => execNatPoolSet_keeps h
  | .natPoolRead _ => execNatPoolRead_keeps h
  | .natBlockConfig _ => execNatBlockConfig_keeps h
  | .natBindingRead _ => execNatBindingRead_keeps h
  | .natBindingRelease _ => execNatBindingRelease_keeps h
  | .balGroupSet _ => execBalGroupSet_keeps h
  | .balMemberSet _ => execBalMemberSet_keeps h
  | .balMemberDrain _ => execBalMemberDrain_keeps h
  | .balGroupRead _ => execBalGroupRead_keeps h
  | .subWrite _ => execSubWrite_keeps h
  | .subRead _ => execSubRead_keeps h
  | .subPolicySet _ => execSubPolicySet_keeps h
  | .actionWrite _ => execActionWrite_keeps h
  | .actionRead _ => execActionRead_keeps h
  | .subCounterFlush _ => execSubCounterFlush_keeps h
  | .bridgeEntrySet _ => execBridgeEntrySet_keeps h
  | .bridgeEntryDelete _ => execBridgeEntryDelete_keeps h
  | .bulkLearnedRemoval => execBulkLearnedRemoval_keeps h
  | .bridgeRead _ => execBridgeRead_keeps h
  | .bridgeDomainSet _ => execBridgeDomainSet_keeps h
  | .learnLimitSet _ => execLearnLimitSet_keeps h
  | .learnConfig _ => execLearnConfig_keeps h
  | .routeLoad _ => execRouteLoad_keeps h
  | .routeBuildComplete _ => execRouteBuildComplete_keeps h
  | .routeRead _ => execRouteRead_keeps h
  | .nexthopSet _ => execNexthopSet_keeps h
  | .nexthopRead _ => execNexthopRead_keeps h
  | .queueConfig _ => execQueueConfig_keeps h
  | .shaperNodeSet _ => execShaperNodeSet_keeps h
  | .shaperNodeRead _ => execShaperNodeRead_keeps h
  | .schedConfig _ => execSchedConfig_keeps h
  | .mirrorSet _ => execMirrorSet_keeps h
  | .hostringSet _ => execHostringSet_keeps h
  | .bufferStatus _ => execBufferStatus_keeps h
  | .bufferThreshold _ => execBufferThreshold_keeps h
  | .taskDispatch => execTaskDispatch_keeps h
  | .taskPreempt _ _ _ _ => execTaskPreempt_keeps h
  | .taskComplete _ _ _ _ => execTaskComplete_keeps h
  | .taskPark _ _ _ => execTaskPark_keeps h
  | .taskPromote => execTaskPromote_keeps h
  | .minerFault _ _ _ _ => execMinerFault_keeps h
  | .minerStatus _ => execMinerStatus_keeps h
  | .minerTaskLevel _ => execMinerTaskLevel_keeps h
  | .minerTraceRead _ => execMinerTraceRead_keeps h
  | .minerTraceConfig _ => execMinerTraceConfig_keeps h
  | .writeBatchIssue _ => execWriteBatchIssue_keeps h
  | .refreshBanks => execRefreshBanks_keeps h
  | .stackTempRead _ _ => execStackTempRead_keeps h
  | .channelLost _ => execChannelLost_keeps h
  | .freeTileClear => execFreeTileClear_keeps h
  | .memPlanRead _ => execMemPlanRead_keeps h
  | .memRegionGrow _ => execMemRegionGrow_keeps h
  | .memStatus _ => execMemStatus_keeps h
  | .memRetiredRead _ => execMemRetiredRead_keeps h
  | .seamCreate _ => execSeamCreate_keeps h
  | .seamGroup _ => execSeamGroup_keeps h
  | .seamRead _ => execSeamRead_keeps h
  | .seamFill _ => execSeamFill_keeps h
  | .seamCompare _ => execSeamCompare_keeps h
  | .seamCheck _ => execSeamCheck_keeps h
  | .seamJobComplete _ _ => execSeamJobComplete_keeps h
  | .seamRetire _ => execSeamRetire_keeps h
  | .seamSwapRoot _ => execSeamSwapRoot_keeps h
  | .seamInfo _ => execSeamInfo_keeps h
  | .secureMemPlan _ => execSecureMemPlan_keeps h
  | .timeRead _ => execTimeRead_keeps h
  | .timeStep _ => execTimeStep_keeps h
  | .timeIncSet _ => execTimeIncSet_keeps h
  | .timeJumpLimit _ => execTimeJumpLimit_keeps h
  | .timePpsConfig _ => execTimePpsConfig_keeps h
  | .timePtpConfig _ => execTimePtpConfig_keeps h
  | .timeCal _ => execTimeCal_keeps h
  | .timeRclkConfig _ => execTimeRclkConfig_keeps h
  | .timeSnap _ => execTimeSnap_keeps h
  | .timeIncLoWrite _ => execTimeIncLoWrite_keeps h
  | .ppsInCapture _ => execPpsInCapture_keeps h
  | .ppsOutEdge => execPpsOutEdge_keeps h
  | .rclkResume => execRclkResume_keeps h
  | .telemetryAssemble => execTelemetryAssemble_keeps h
  | .tailingsDrain => execTailingsDrain_keeps h
  | .subIntervalRecord => execSubIntervalRecord_keeps h
  | .telemFlushExpire _ => execTelemFlushExpire_keeps h
  | .templateIntervalExpire => execTemplateIntervalExpire_keeps h
  | .collectorRetry => execCollectorRetry_keeps h
  | .counterDump => execCounterDump_keeps h
  | .bwwinEnd _ => execBwwinEnd_keeps h
  | .telemCollectorSet _ => execTelemCollectorSet_keeps h
  | .telemEnable _ => execTelemEnable_keeps h
  | .telemStatus _ => execTelemStatus_keeps h
  | .counterProgram _ => execCounterProgram_keeps h
  | .counterRead _ => execCounterRead_keeps h
  | .counterDumpConfig _ => execCounterDumpConfig_keeps h
  | .bwwinConfig _ => execBwwinConfig_keeps h
  | .bwwinRead _ => execBwwinRead_keeps h
  | .dmaChTailWrite _ _ _ => execDmaChTailWrite_keeps h
  | .dmaChEnable _ _ _ => execDmaChEnable_keeps h
  | .dmaChRestart _ _ => execDmaChRestart_keeps h
  | .secDmaOwnerWrite _ _ => execSecDmaOwnerWrite_keeps h
  | .errlogSelectWrite _ _ => execErrlogSelectWrite_keeps h
  | .dmaDescriptorStart _ _ => execDmaDescriptorStart_keeps h
  | .dmaUnitConfirm _ _ => execDmaUnitConfirm_keeps h
  | .dmaDescriptorEnd _ => execDmaDescriptorEnd_keeps h
  | .dmaBusError _ _ _ => execDmaBusError_keeps h
  | .snapshotHoldExpire _ => execSnapshotHoldExpire_keeps h
  | .dmaResume _ => execDmaResume_keeps h
  | .dmaAbandon _ => execDmaAbandon_keeps h
  | .dmaStatus _ => execDmaStatus_keeps h
  | .heartbeatSend => execHeartbeatSend_keeps h
  | .heartbeatReceive _ => execHeartbeatReceive_keeps h
  | .peerLost => execPeerLost_keeps h
  | .joinRequest _ => execJoinRequest_keeps h
  | .pairPrepare _ => execPairPrepare_keeps h
  | .pairCommit _ => execPairCommit_keeps h
  | .journalApply _ _ _ => execJournalApply_keeps h
  | .rejoinComplete _ => execRejoinComplete_keeps h
  | .pairJoin _ => execPairJoin_keeps h
  | .pairLeave _ => execPairLeave_keeps h
  | .pairStatus _ => execPairStatus_keeps h
  | .pairRejoin _ => execPairRejoin_keeps h
  | .pairConfig _ => execPairConfig_keeps h
  | .errlogRead _ => execErrlogRead_keeps h
  | .errlogClear _ => execErrlogClear_keeps h
  | .errlogClassRead _ => execErrlogClassRead_keeps h
  | .errlogStatus _ => execErrlogStatus_keeps h
  | .droopNFall => execDroopNFall_keeps h
  | .droopNRise => execDroopNRise_keeps h
  | .droopnDelayExpire => execDroopnDelayExpire_keeps h
  | .monitorUndervoltage _ _ => execMonitorUndervoltage_keeps h
  | .droopStageFall => execDroopStageFall_keeps h
  | .dieSensorRead _ => execDieSensorRead_keeps h
  | .securePowerProfile _ => execSecurePowerProfile_keeps h
  | .powerStatus _ => execPowerStatus_keeps h
  | .clockStatus _ => execClockStatus_keeps h
  | .thermalRead _ => execThermalRead_keeps h
  | .droopConfig _ => execDroopConfig_keeps h
  | .secureConfigLock _ => execSecureConfigLock_keeps h
  | .secureIdentity _ => execSecureIdentity_keeps h
  | .secureAttest _ => execSecureAttest_keeps h
  | .gpio3Toggle => execGpio3Toggle_keeps h
  | .registerRead _ _ _ => execRegisterRead_keeps h
  | .configSpaceWrite _ _ _ _ => execConfigSpaceWrite_keeps h
  | .dmaBurst _ => execDmaBurst_keeps h
  | .dmaReadCompletion _ _ _ => execDmaReadCompletion_keeps h
  | .ppsOutFall => execPpsOutFall_keeps h
  | .peerMailboxFlags _ _ _ => execPeerMailboxFlags_keeps h
  | .pairReady => execPairReady_keeps h
  | .pairApplyConfirm => execPairApplyConfirm_keeps h
  | .rejoinRequest _ => execRejoinRequest_keeps h

theorem step_nil {s : State} (h : s.pending = []) : step s = .next s.tick.wakeAll := by
  unfold step
  rw [h]

theorem step_cons {s : State} {c : Instr} {rest : List Instr} (h : s.pending = c :: rest) :
    step s = exec c { s with pending := rest } := by
  unfold step
  rw [h]

/-- Settles O56: the front command keeps the canonical form, whatever it is, and an idle cycle touches no memory. -/
theorem everyStepKeepsMemoryCanonical : Obligations.EveryStepKeepsMemoryCanonical := by
  intro s t hs hstep
  have h : Memory.wf s.dram.mem = true := hs
  cases hp : s.pending with
  | nil =>
    rw [step_nil hp] at hstep
    exact k_next (State.wakeAll_keeps (State.tick_keeps h)) t hstep
  | cons c rest =>
    rw [step_cons hp] at hstep
    have hrest : Memory.wf ({ s with pending := rest } : State).dram.mem = true := h
    exact exec_keeps c hrest t hstep

end Sys2Proof.Block

/-!
PROOFS. Compressed counts (spec 06, R181, R182): rounding to a multiple of a power of two, and the two parts of a compressed count.
-/
namespace Sys2Proof.CompressedCounts
open Machine

/-! Rounding half to even. -/

theorem roundHalfEven_succ (v k : Nat) : roundHalfEven v (k + 1) =
    if 2 ^ k < v % 2 ^ (k + 1) ∨ (v % 2 ^ (k + 1) = 2 ^ k ∧ v / 2 ^ (k + 1) % 2 = 1) then v / 2 ^ (k + 1) + 1 else v / 2 ^ (k + 1) := by
  have hhalf : 2 ^ (k + 1) / 2 = 2 ^ k := by rw [Nat.pow_succ, Nat.mul_div_cancel _ (by decide)]
  simp only [roundHalfEven, hhalf, Nat.succ_ne_zero, if_false, Bool.or_eq_true, Bool.and_eq_true, decide_eq_true_eq]

/-- A rounded value is within half a step. -/
theorem roundHalfEven_error (v k : Nat) :
    roundHalfEven v (k + 1) * 2 ^ (k + 1) ≤ v + 2 ^ k ∧ v ≤ roundHalfEven v (k + 1) * 2 ^ (k + 1) + 2 ^ k := by
  have hstep : 2 ^ (k + 1) = 2 ^ k * 2 := Nat.pow_succ ..
  have hdiv := Nat.div_add_mod' v (2 ^ (k + 1))
  have hmod : v % 2 ^ (k + 1) < 2 ^ (k + 1) := Nat.mod_lt _ (Nat.two_pow_pos _)
  rw [roundHalfEven_succ]
  split
  · rw [Nat.add_mul, Nat.one_mul]
    omega
  · omega

/-- What lies from `a` to `b` steps is rounded to `a` to `b`. -/
theorem roundHalfEven_mem {v k a b : Nat} (ha : a * 2 ^ (k + 1) ≤ v) (hb : v < b * 2 ^ (k + 1)) :
    a ≤ roundHalfEven v (k + 1) ∧ roundHalfEven v (k + 1) ≤ b := by
  have hlo : a ≤ v / 2 ^ (k + 1) := (Nat.le_div_iff_mul_le (Nat.two_pow_pos _)).mpr ha
  have hhi : v / 2 ^ (k + 1) < b := (Nat.div_lt_iff_lt_mul (Nat.two_pow_pos _)).mpr hb
  rw [roundHalfEven_succ]
  split <;> omega

/-- A multiple of the step stays. -/
theorem roundHalfEven_mul (q k : Nat) : roundHalfEven (q * 2 ^ (k + 1)) (k + 1) = q := by
  have hk : 0 < 2 ^ k := Nat.two_pow_pos k
  rw [roundHalfEven_succ, Nat.mul_mod_left, Nat.mul_div_cancel _ (Nat.two_pow_pos _), if_neg (by omega)]

/-! The two parts of a compressed count: an exponent and 19 bits. -/

/-- A count below 2^20 is its own compressed form, with the exponent 0 or 1. -/
theorem expand_of_small {v : Nat} (h : v < 2 ^ 20) : expand v = v := by
  unfold expand
  dsimp only
  split
  next => omega
  next =>
    have he : v / 2 ^ 19 = 1 := by omega
    rw [he]
    omega

theorem expand_parts (k : Nat) {m : Nat} (hm : m < 2 ^ 19) : expand ((k + 1) * 2 ^ 19 + m) = (2 ^ 19 + m) * 2 ^ k := by
  have hdiv : ((k + 1) * 2 ^ 19 + m) / 2 ^ 19 = k + 1 := by omega
  have hmod : ((k + 1) * 2 ^ 19 + m) % 2 ^ 19 = m := by omega
  unfold expand
  dsimp only
  rw [hdiv, hmod, if_neg (Nat.succ_ne_zero k), Nat.add_sub_cancel]

theorem compress_of_small {v : Nat} (h : v < 2 ^ 20) : compress v = v := if_pos h

/-- From 2^20 on the exponent is that of the count, at least 2. -/
theorem compress_of_large {v k : Nat} (h : 2 ^ (k + 20) ≤ v) (h' : v < 2 ^ (k + 21)) :
    compress v = if roundHalfEven v (k + 1) = 2 ^ 20 then (k + 3) * 2 ^ 19
      else (k + 2) * 2 ^ 19 + (roundHalfEven v (k + 1) - 2 ^ 19) := by
  have hlog : v.log2 = k + 20 := by
    have hv : v ≠ 0 := by have := Nat.two_pow_pos (k + 20); omega
    exact (Nat.log2_eq_iff hv).mpr ⟨h, h'⟩
  have hle : 2 ^ 20 ≤ v := Nat.le_trans (Nat.pow_le_pow_right (by decide) (by omega)) h
  unfold compress
  rw [if_neg (by omega), hlog]
  rfl

theorem twoPow_mul {a b c : Nat} (h : a + b = c) : 2 ^ a * 2 ^ b = 2 ^ c := (Nat.pow_add 2 a b).symm.trans (congrArg (2 ^ ·) h)

/-- The mantissa of a count with exponent `k + 2`, with its hidden bit. -/
theorem mantissa_mem {v k : Nat} (h : 2 ^ (k + 20) ≤ v) (h' : v < 2 ^ (k + 21)) :
    2 ^ 19 ≤ roundHalfEven v (k + 1) ∧ roundHalfEven v (k + 1) ≤ 2 ^ 20 := by
  have hlo : 2 ^ 19 * 2 ^ (k + 1) = 2 ^ (k + 20) := twoPow_mul (by omega)
  have hhi : 2 ^ 20 * 2 ^ (k + 1) = 2 ^ (k + 21) := twoPow_mul (by omega)
  exact roundHalfEven_mem (Nat.le_trans (Nat.le_of_eq hlo) h) (Nat.lt_of_lt_of_le h' (Nat.le_of_eq hhi.symm))

/-- A compressed count loads as the rounded mantissa times its step, the carry out of the mantissa included. -/
theorem expand_compress {v k : Nat} (h : 2 ^ (k + 20) ≤ v) (h' : v < 2 ^ (k + 21)) :
    expand (compress v) = roundHalfEven v (k + 1) * 2 ^ (k + 1) := by
  obtain ⟨hlo, hhi⟩ := mantissa_mem h h'
  rw [compress_of_large h h']
  split
  next hq =>
    have hcarry := expand_parts (k + 2) (m := 0) (by decide)
    rw [Nat.add_zero] at hcarry
    rw [hcarry, hq, Nat.add_zero]
    exact (twoPow_mul (by omega : 19 + (k + 2) = k + 21)).trans (twoPow_mul (by omega : 20 + (k + 1) = k + 21)).symm
  next hq =>
    rw [expand_parts (k + 1) (by omega), Nat.add_sub_cancel' hlo]

/-- Every count from 2^20 on has an exponent. -/
theorem exists_exponent {v : Nat} (h : 2 ^ 20 ≤ v) : ∃ k, v.log2 = k + 20 ∧ 2 ^ (k + 20) ≤ v ∧ v < 2 ^ (k + 21) := by
  have hv : v ≠ 0 := by omega
  have hlog : 20 ≤ v.log2 := (Nat.le_log2 hv).mpr h
  obtain ⟨k, hk⟩ := Nat.exists_eq_add_of_le' hlog
  obtain ⟨hlo, hhi⟩ := (Nat.log2_eq_iff hv).mp hk
  exact ⟨k, hk, hlo, hhi⟩

theorem compress_lt {v : Nat} (h : v < 2 ^ 48) : compress v < 2 ^ 24 := by
  by_cases hsmall : v < 2 ^ 20
  · rw [compress_of_small hsmall]
    omega
  · obtain ⟨k, -, hlo, hhi⟩ := exists_exponent (Nat.le_of_not_lt hsmall)
    have hk : k + 20 < 48 := (Nat.pow_lt_pow_iff_right (by decide)).mp (Nat.lt_of_le_of_lt hlo h)
    have hq := (mantissa_mem hlo hhi).2
    rw [compress_of_large hlo hhi]
    split <;> omega

/-- What a compressed count loads as compresses to it again. -/
theorem compress_expand (c : Nat) : compress (expand c) = c := by
  by_cases hsmall : c < 2 ^ 20
  · rw [expand_of_small hsmall, compress_of_small hsmall]
  · obtain ⟨k, hk⟩ : ∃ k, c / 2 ^ 19 = k + 2 := Nat.exists_eq_add_of_le' (by omega)
    obtain ⟨m, hm⟩ : ∃ m, m = c % 2 ^ 19 := ⟨_, rfl⟩
    have hc : c = (k + 1 + 1) * 2 ^ 19 + m := by omega
    have hm' : m < 2 ^ 19 := by omega
    have hlo : 2 ^ (k + 20) ≤ (2 ^ 19 + m) * 2 ^ (k + 1) := by
      calc 2 ^ (k + 20) = 2 ^ 19 * 2 ^ (k + 1) := (twoPow_mul (by omega)).symm
        _ ≤ (2 ^ 19 + m) * 2 ^ (k + 1) := Nat.mul_le_mul_right _ (by omega)
    have hhi : (2 ^ 19 + m) * 2 ^ (k + 1) < 2 ^ (k + 21) := by
      calc (2 ^ 19 + m) * 2 ^ (k + 1) < 2 ^ 20 * 2 ^ (k + 1) := Nat.mul_lt_mul_of_pos_right (by omega) (Nat.two_pow_pos _)
        _ = 2 ^ (k + 21) := twoPow_mul (by omega)
    rw [hc, expand_parts (k + 1) hm', compress_of_large hlo hhi, roundHalfEven_mul, if_neg (by omega)]
    omega

/-- Settles O57: a count from 2^20 on loads as its rounded mantissa times its step (`expand_compress`), so its error is that of rounding. -/
theorem compressionErrorIsBounded : Obligations.CompressionErrorIsBounded := by
  refine ⟨?_, ?_, fun v h => compress_lt h, fun c _ => compress_expand c⟩
  · intro v h
    rw [compress_of_small h, expand_of_small h]
  · intro v e h _ he
    obtain ⟨k, hk, hlo, hhi⟩ := exists_exponent h
    obtain ⟨hle, hge⟩ := roundHalfEven_error v k
    have hexp : e - 2 = k := by omega
    rw [hexp, expand_compress hlo hhi]
    have hlow : 2 ^ k * 2 ^ 20 = 2 ^ (k + 20) := (Nat.pow_add 2 k 20).symm
    exact ⟨hle, hge, Nat.le_trans (Nat.le_of_eq hlow) hlo⟩

end Sys2Proof.CompressedCounts

/-!
PROOFS. The interpreter (spec 02): the records of a batch (R46), when a packet row runs (R42, R61), and what the end of a command leaves
unchanged (R48, R56).
-/
namespace Sys2Proof.Interpreter
open Machine Claims

/-! Lengths and records (R46). -/

theorem lenRec_of_single (k most : Nat) {m : Msg} (h : m.batch = false) : lenRec k most m = (m.len.toNat == k, k) := by
  simp [lenRec, h]

theorem lenRec_of_batch (k most : Nat) {m : Msg} (h : m.batch = true) :
    lenRec k most m = (m.len.toNat % k == 0 && m.len.toNat != 0 && m.len.toNat / k ≤ most, k * most) := by
  simp [lenRec, h]

/-- R52: a packet that passes checks 1 to 7 and has a wrong length is refused at check 8. -/
theorem check_wrong_length {c : Cmd} {m : Msg} {s : State} (h4080 : m.len.toNat ≤ 4080) (hacc : c.accept m s = none)
    (hhead : m.badHeader = none) (hflags : c.flags m = true) (hlegal : (c.legal m s && c.clearingOk m s) = true)
    (hguard : m.guard = 0xFFFF ∨ m.guard = s.epoch.current) (hlen : (c.len m).1 = false) :
    c.check m s = some (Status.badLength, (c.len m).2) := by
  rcases hguard with hguard | hguard <;> simp [Cmd.check, Nat.not_lt.mpr h4080, hacc, hhead, hflags, hlegal, hguard, hlen]

/-- Records that are all executed hand their state and bytes to those that follow. -/
theorem runRecords_append {batch : Bool} {k : Nat} {f : State → Bytes → Nat → RecAns} {before bs : List Bytes} {r : Nat} {s t : State}
    {out o : Bytes} (h : runRecords batch k f before r s out = ok t o) :
    runRecords batch k f (before ++ bs) r s out = runRecords batch k f bs (r + before.length) t o := by
  induction before generalizing r s out with
  | nil =>
    cases h
    rfl
  | cons b before ih =>
    unfold runRecords at h
    rw [List.cons_append, runRecords]
    cases hf : f s b (16 + r * k) with
    | ok s' o' =>
      rw [hf] at h
      rw [List.length_cons, Nat.add_comm before.length, ← Nat.add_assoc]
      exact ih h
    | refuse st d | refuseWith s' st d | wait s' | hold s' =>
      rw [hf] at h
      simp [ok] at h

/-- Settles O53: the records run by recursion on their list, so the executed beginning hands over to the rest (`runRecords_append`). -/
theorem recordsRunInOrder : Obligations.RecordsRunInOrder := by
  refine ⟨fun k most m h => lenRec_of_single k most h, fun k most m h => lenRec_of_batch k most h, ?_,
    fun _ _ _ _ _ _ _ _ _ _ h => runRecords_append h, ?_, ?_, ?_, fun _ _ _ _ _ _ => rfl,
    fun c m s st d ht hh hc => CommandProtocol.run_refused ht hh hc⟩
  · intro c m s k most h4080 hacc hhead hflags hlegal hguard hlen hwrong
    rw [check_wrong_length h4080 hacc hhead hflags hlegal hguard (by rw [hlen, hwrong]), hlen]
    cases hb : m.batch with
    | false => simp [lenRec_of_single k most hb]
    | true => simp [lenRec_of_batch k most hb]
  · intro batch k f b bs r s out st d h
    simp [runRecords, h]
  · intro batch k f b bs r s out t st d h
    simp [runRecords, h]
  · intro batch k f b bs r s out t o h
    simp [runRecords, h]

/-! When a packet row runs (R42, R61). -/

/-- Settles O51: every row is the shared run of its command (`packetRow_exec`). -/
theorem packetRowsRunOrWait : Obligations.PacketRowsRunOrWait := by
  intro r hr m s
  rw [packetRow_exec r hr]
  refine ⟨?_, CommandProtocol.run_held, run_passes r.2 m s⟩
  intro ht
  simp [runCommand, ht]

/-! The journal of a primary (R492, R497). -/

theorem sendLane_free (s : State) (p : Nat) (x : PeerWord) : (s.sendLane p x).free = s.free := by
  unfold State.sendLane
  split <;> rfl

/-- R88: with both peer lanes up, a word to the peer draws the value that chooses its lane. -/
theorem onPeer_free_of_both {s : State} (x : PeerWord) (h : s.lanesUp = [24, 25]) : (s.onPeer x).free = s.free + 1 := by
  unfold State.onPeer
  rw [h]
  exact sendLane_free _ _ x

theorem reply_free {ch : Nat} (s : State) (r : Reply) (h : ch ≠ 2) : (s.reply ch r).free = s.free := by
  simp [State.reply, h]

/-- A primary whose pair is syncing, with both peer lanes up. -/
def syncingPrimary : State :=
  { State.reset with
    pair := { Pair.reset with state := .syncing, role := .primary }
    ports := (State.reset.ports.set 24 { Port.reset with link := .up }).set 25 { Port.reset with link := .up } }

/-- A MEM_REGION_GROW from HOST_NS, of eight zero bytes. -/
def growMsg : Msg := { ch := 0, tag := 0, len := 8, flags := 0, origin := 0, guard := 0xFFFF, resv := zeros 6, params := zeros 8 }

/-- R497: while the pair is syncing, the primary's commands enter its journal. -/
theorem finish_growMsg : finish cmdMemRegionGrow growMsg.norm syncingPrimary (ok syncingPrimary) 8 =
    (syncingPrimary.journalAdd 1 0 ((forwardedMsg cmdMemRegionGrow growMsg.norm syncingPrimary none 8).bytes 0x0B02)).reply 0
      (replyOf 0x0B02 growMsg.norm 0 0 0 []) := rfl

theorem ran_growMsg_free : (ran cmdMemRegionGrow growMsg syncingPrimary (ok syncingPrimary)).free = syncingPrimary.free + 1 := by
  show (settled _ _).free = _
  rw [settled_free]
  show (finish cmdMemRegionGrow growMsg.norm syncingPrimary (ok syncingPrimary) 8).free = _
  rw [finish_growMsg, reply_free _ _ (by decide)]
  exact onPeer_free_of_both _ (by decide +kernel)

/-- Refutes O54, at its second part: a command from a host draws no free value where the device does not forward. A primary whose pair is
syncing does not forward, and puts the command in its journal, whose record goes to the peer (R492, R497); with both peer lanes up the lane
is drawn. -/
theorem not_endsDisturbNothingElse : ¬ Obligations.EndsDisturbNothingElse := by
  rintro ⟨-, ends, -⟩
  have hrow : (Instr.memRegionGrow, cmdMemRegionGrow) ∈ packetRows := by simp [packetRows, packetRows4]
  obtain ⟨-, -, -, -, -, -, free, -⟩ := ends _ hrow growMsg syncingPrimary (ok syncingPrimary) _ rfl rfl
  have hsame := free (by decide) rfl
  rw [ran_growMsg_free] at hsame
  exact absurd hsame (by decide)

end Sys2Proof.Interpreter

/-!
PROOFS. What the proofs about command bodies share: parameter bytes and record bytes that are zero (R9, R50).
-/
namespace Sys2Proof.Answers
open Machine Claims

theorem isNone_firstNonZeroAt_iff {b : Bytes} {l : List Nat} : (firstNonZeroAt b l).isNone = true ↔ ∀ i ∈ l, byteAt b i = 0 := by
  simp [firstNonZeroAt]

theorem isNone_firstNonZeroAt_of_subset {b : Bytes} {l l' : List Nat} (h : (firstNonZeroAt b l).isNone = true) (hl : ∀ i ∈ l', i ∈ l) :
    (firstNonZeroAt b l').isNone = true :=
  isNone_firstNonZeroAt_iff.mpr fun i hi => isNone_firstNonZeroAt_iff.mp h i (hl i hi)

theorem byteAt_of_zero {b : Bytes} {l : List Nat} (h : (firstNonZeroAt b l).isNone = true) (i : Nat) (hi : i ∈ l) : byteAt b i = 0 :=
  isNone_firstNonZeroAt_iff.mp h i hi

/-- A little-endian field of zero bytes is zero. -/
theorem fieldLe_eq_zero {b : Bytes} {i n : Nat} (h : ∀ k < n, byteAt b (i + k) = 0) : fieldLe b i n = 0 := by
  have hslice : slice b i n = zeros n := by
    refine List.eq_replicate_iff.mpr ⟨by simp [slice], ?_⟩
    intro x hx
    obtain ⟨k, hk, rfl⟩ := List.mem_map.mp hx
    exact BitVec.eq_of_toNat_eq (h k (List.mem_range.mp hk))
  unfold Machine.fieldLe
  rw [hslice]
  clear h hslice
  induction n with
  | zero => rfl
  | succ n ih =>
    show 0 + 256 * ofLe (zeros n) = 0
    rw [ih]

/-! Parameter bytes. -/

theorem zeroAt_iff {m : Msg} {l : List Nat} : zeroAt m l = true ↔ ∀ i ∈ l, m.p i = 0 := isNone_firstNonZeroAt_iff

section
variable {m : Msg} {l : List Nat} (h : zeroAt m l = true)
include h

theorem zeroAt_of_subset (l' : List Nat) (hl : ∀ i ∈ l', i ∈ l) : zeroAt m l' = true := isNone_firstNonZeroAt_of_subset h hl

theorem p_of_zeroAt (i : Nat) (hi : i ∈ l) : m.p i = 0 := byteAt_of_zero h i hi

theorem f_of_zeroAt (i n : Nat) (hi : ∀ k < n, i + k ∈ l) : m.f i n = 0 := fieldLe_eq_zero fun k hk => p_of_zeroAt h (i + k) (hi k hk)

end

/-- Zero bytes let a command go on, where they are among bytes known to be zero. -/
theorem needZero_of_subset {s : State} {m : Msg} {l l' : List Nat} {go : Done} (h : zeroAt m l = true) (hl : ∀ i ∈ l', i ∈ l) :
    needZero s m l' go = go := needZero_of s m l' go (zeroAt_of_subset h l' hl)

/-- A record whose named bytes are zero goes on. -/
theorem recZero_of_bytes {b : Bytes} {base : Nat} {l : List Nat} {go : RecAns} (h : ∀ i ∈ l, byteAt b i = 0) : recZero b base l go = go :=
  recZero_of b base l go (isNone_firstNonZeroAt_iff.mpr h)

theorem recZero_one {b : Bytes} {base i : Nat} {go : RecAns} (h : byteAt b i = 0) : recZero b base [i] go = go :=
  recZero_of_bytes fun j hj => by rwa [List.mem_singleton.mp hj]

theorem recZero_of_subset {b : Bytes} {base : Nat} {l l' : List Nat} {go : RecAns} (h : (firstNonZeroAt b l).isNone = true)
    (hl : ∀ i ∈ l', i ∈ l) : recZero b base l' go = go := recZero_of b base l' go (isNone_firstNonZeroAt_of_subset h hl)

/-! Tables by key. -/

theorem lookup_append_of_ne {α : Type} {k : Nat} {l : List (Nat × α)} (l' : List (Nat × α)) (h : ∀ e ∈ l, e.1 ≠ k) :
    (l ++ l').lookup k = l'.lookup k := by
  induction l with
  | nil => rfl
  | cons e l ih =>
    obtain ⟨i, v⟩ := e
    have hne : (k == i) = false := beq_eq_false_iff_ne.mpr (Ne.symm (h (i, v) List.mem_cons_self))
    rw [List.cons_append, List.lookup_cons, hne]
    exact ih fun x hx => h x (List.mem_cons_of_mem _ hx)

/-- What is put under a key is found there. -/
theorem tget?_tset_self {α : Type} (t : Table α) (k : Nat) (v : α) : tget? (tset t k v) k = some v := by
  have hlow : ∀ e ∈ t.filter (fun e => decide (e.1 < k)), e.1 ≠ k := fun e he => by
    have := (List.mem_filter.mp he).2
    simp only [decide_eq_true_eq] at this
    omega
  rw [tget?, tset, lookup_append_of_ne _ hlow, List.lookup_cons, beq_self_eq_true]

end Sys2Proof.Answers

/-!
PROOFS. The commands of the device, its epochs and its error log (spec 01, 02, 16, 17): what their bodies answer.
-/
namespace Sys2Proof.DeviceCommands
open Machine Claims Answers

/-! DEVICE_MBX_TIMEOUT of a channel's own timeout (R57, R60). -/

theorem mbxNamed_own {m : Msg} (h : m.p 0 = 0xFF) : mbxNamed m = m.ch := by simp [mbxNamed, h]

theorem bodyDeviceMbxTimeout_read {m : Msg} (s : State) (h0 : m.p 0 = 0xFF) (h1 : m.p 1 = 0) (hch : m.ch ≠ 3) (ht : m.f 2 2 = 0) :
    bodyDeviceMbxTimeout m s = ok s (le 2 (s.chan m.ch).timeoutMs ++ zeros 2) := by
  simp [bodyDeviceMbxTimeout, mbxNamed_own h0, h0, h1, hch, ht]

theorem bodyDeviceMbxTimeout_set {m : Msg} (s : State) (h0 : m.p 0 = 0xFF) (h1 : m.p 1 = 0) (hch : m.ch < 3) (hlo : 1 ≤ m.f 2 2)
    (hhi : m.f 2 2 ≤ 10000) : bodyDeviceMbxTimeout m s =
      ok (s.setChan m.ch { s.chan m.ch with timeoutMs := m.f 2 2 }) (le 2 (m.f 2 2) ++ zeros 2) := by
  have hch3 : m.ch ≠ 3 := by omega
  have ht : m.f 2 2 ≠ 0 := by omega
  simp [bodyDeviceMbxTimeout, mbxNamed_own h0, h0, h1, hch3, ht, Nat.not_lt.mpr hhi]

theorem bodyDeviceStart_ready {m : Msg} {s : State} (hz : zeroAt m (span 0 3) = true) (hr : s.readiness = 0) :
    bodyDeviceStart m s = enterService s := by
  simp [bodyDeviceStart, needZero_of _ _ _ _ hz, hr]

theorem bodyDeviceTestExit_plain {m : Msg} (s : State) (hz : zeroAt m (span 0 3) = true) :
    bodyDeviceTestExit m s = { state := s.endLoopbacks, enters := some .init } := by
  simp [bodyDeviceTestExit, p_of_zeroAt hz 0 (by decide), needZero_of_subset hz (l' := [1, 2, 3]) (by decide)]

/-- Settles O11. -/
theorem deviceCommandsComplete : Obligations.DeviceCommandsComplete := by
  refine ⟨?_, ?_, ?_, ?_, ?_, ?_, ?_, ?_⟩
  · exact fun m s hp => run_passes cmdDeviceNop m s hp
  · exact fun m s hp h0 h1 hch ht => run_answers cmdDeviceMbxTimeout m s _ hp (bodyDeviceMbxTimeout_read s h0 h1 hch ht)
  · exact fun m s hp h0 h1 hch hlo hhi => run_answers cmdDeviceMbxTimeout m s _ hp (bodyDeviceMbxTimeout_set s h0 h1 hch hlo hhi)
  · exact fun m s hp => run_passes cmdDeviceIdentify m s hp
  · exact fun m s hp => run_passes cmdDeviceStatus m s hp
  · exact fun m s hp hz hr => run_answers cmdDeviceStart m s _ hp (bodyDeviceStart_ready hz hr)
  · exact fun m s hp hz => run_answers cmdDeviceTestEnter m s _ hp (needZero_of _ _ _ _ hz)
  · exact fun m s hp hz => run_answers cmdDeviceTestExit m s _ hp (bodyDeviceTestExit_plain s hz)

/-! CLEAR_LIVE, DEVICE_RESUME and the secure commands (R469-R473). -/

theorem bodyDeviceTestExit_clearLive {m : Msg} (s : State) (h0 : m.p 0 = 1) (hz : zeroAt m [1, 2, 3] = true) :
    bodyDeviceTestExit m s =
      let x := s.endLoopbacks.clearLive ((List.range 4).flatMap s.endLoopbacks.regionRuns)
      ok { x with life := { x.life with clearing := .testExit } } := by
  simp [bodyDeviceTestExit, h0, needZero_of _ _ _ _ hz]

theorem bodyDeviceResume_ready {m : Msg} {s : State} (hz : zeroAt m (span 0 3) = true) (hc : s.causesLeft = 0) :
    bodyDeviceResume m s = enterService { s with life := { s.life with causes := 0 } } := by
  simp [bodyDeviceResume, needZero_of _ _ _ _ hz, hc]

theorem bodySecureConfigLock_read {m : Msg} (s : State) (hz : zeroAt m (span 0 3) = true) :
    bodySecureConfigLock m s = ok s (le 1 (flagByte [s.life.lock, s.life.sticky]) ++ zeros 3) := by
  simp [bodySecureConfigLock, p_of_zeroAt hz 0 (by decide), needZero_of_subset hz (l' := [1, 2, 3]) (by decide)]

theorem bodySecureConfigLock_set {m : Msg} (s : State) (h0 : m.p 0 = 1) (hz : zeroAt m [1, 2, 3] = true) :
    bodySecureConfigLock m s = ok { s with life := { s.life with lock := true } } (le 1 (flagByte [true, s.life.sticky]) ++ zeros 3) := by
  simp [bodySecureConfigLock, h0, needZero_of _ _ _ _ hz]

theorem bodySecureConfigLock_clear {m : Msg} {s : State} (h0 : m.p 0 = 2) (hz : zeroAt m [1, 2, 3] = true) (hs : s.life.sticky = false) :
    bodySecureConfigLock m s = ok { s with life := { s.life with lock := false } } (zeros 4) := by
  simp [bodySecureConfigLock, h0, needZero_of _ _ _ _ hz, hs]
  rfl

theorem bodySecureConfigLock_setSticky {m : Msg} (s : State) (h0 : m.p 0 = 3) (hz : zeroAt m [1, 2, 3] = true) :
    bodySecureConfigLock m s = ok { s with life := { s.life with lock := true, sticky := true } } [3, 0, 0, 0] := by
  simp [bodySecureConfigLock, h0, needZero_of _ _ _ _ hz]
  rfl

theorem bodySecureConfigLock_sticky {m : Msg} {s : State} (h0 : m.p 0 = 2) (hz : zeroAt m [1, 2, 3] = true) (hs : s.life.sticky = true) :
    bodySecureConfigLock m s = refuse s Status.locked 0 := by
  simp [bodySecureConfigLock, h0, needZero_of _ _ _ _ hz, hs]

theorem bodySecureIdentity_read {m : Msg} (s : State) (h0 : m.p 0 = 0) (hz : zeroAt m [1, 2, 3] = true) :
    bodySecureIdentity m s = ok s s.identity := by
  simp [bodySecureIdentity, h0, needZero_of _ _ _ _ hz]

theorem bodySecureIdentity_label {m : Msg} (s : State) (h0 : m.p 0 = 1) (hz : zeroAt m [1, 2, 3] = true) :
    bodySecureIdentity m s = ok { s with life := { s.life with label := slice m.params 4 32 } } := by
  simp [bodySecureIdentity, h0, needZero_of _ _ _ _ hz]

theorem bodySecureAttest_eq {m : Msg} (s : State) (hz : zeroAt m (span 32 35) = true) :
    bodySecureAttest m s = ok s (s.statement (m.params.take 32) ++
      (List.range 96).map (Config.signatureByte (s.statement (m.params.take 32)))) := needZero_of _ _ _ _ hz

/-- Settles O12. -/
theorem secureAndRecoveryCommandsComplete : Obligations.SecureAndRecoveryCommandsComplete := by
  refine ⟨?_, ?_, ?_, ?_, ?_, ?_, ?_, ?_, ?_, ?_⟩
  · exact fun m s hp h0 hz => ⟨_, rfl, run_answers cmdDeviceTestExit m s _ hp (bodyDeviceTestExit_clearLive s h0 hz)⟩
  · exact fun m s hp hz hc => run_answers cmdDeviceResume m s _ hp (bodyDeviceResume_ready hz hc)
  · exact fun m s hp h0 hz => run_answers cmdSecureConfigLock m s _ hp (bodySecureConfigLock_set s h0 hz)
  · exact fun m s hp hz => run_answers cmdSecureConfigLock m s _ hp (bodySecureConfigLock_read s hz)
  · exact fun m s hp h0 hz hs => run_answers cmdSecureConfigLock m s _ hp (bodySecureConfigLock_clear h0 hz hs)
  · exact fun m s hp h0 hz => run_answers cmdSecureConfigLock m s _ hp (bodySecureConfigLock_setSticky s h0 hz)
  · exact fun m s hp h0 hz hs => run_answers cmdSecureConfigLock m s _ hp (bodySecureConfigLock_sticky h0 hz hs)
  · exact fun m s hp h0 hz => run_answers cmdSecureIdentity m s _ hp (bodySecureIdentity_read s h0 hz)
  · exact fun m s hp h0 hz => run_answers cmdSecureIdentity m s _ hp (bodySecureIdentity_label s h0 hz)
  · exact fun m s hp hz => run_answers cmdSecureAttest m s _ hp (bodySecureAttest_eq s hz)

/-! Epochs (R32, R70, R71, R74). -/

theorem bodyEpochStage_read {m : Msg} (s : State) (hz : zeroAt m (span 0 3) = true) : bodyEpochStage m s =
    ok s (le 4 s.epoch.changes.toNat ++ le 4 s.cowTiles ++ le 2 s.buildsRunning ++ zeros 2) := by
  simp [bodyEpochStage, p_of_zeroAt hz 0 (by decide), needZero_of_subset hz (l' := [1, 2, 3]) (by decide)]

theorem bodyEpochStage_discard {m : Msg} (s : State) (h0 : m.p 0 = 1) (hz : zeroAt m [1, 2, 3] = true) : bodyEpochStage m s =
    ok s.discardShadow (le 4 s.discardShadow.epoch.changes.toNat ++ le 4 s.discardShadow.cowTiles ++
      le 2 s.discardShadow.buildsRunning ++ zeros 2) := by
  simp [bodyEpochStage, h0, needZero_of _ _ _ _ hz]

theorem bodyEpochCommit_boundary {m : Msg} {s : State} (hz : zeroAt m (span 4 7) = true) (hd : s.drainingEpoch = none)
    (hf : s.forwards = false) (hj : s.journals = false) (hc : m.f 0 4 = 0xFFFFFFFF ∨ m.f 0 4 = s.epoch.changes.toNat) :
    bodyEpochCommit m s = { state := s.boundary (s.epoch.current + 1), params := commitBytes s (s.boundary (s.epoch.current + 1)),
                            epoch := some (s.epoch.current + 1) } := by
  have hcount : (m.f 0 4 != 0xFFFFFFFF && m.f 0 4 != s.epoch.changes.toNat) = false := by
    rcases hc with hc | hc <;> simp [hc]
  simp [bodyEpochCommit, needZero_of _ _ _ _ hz, hd, hcount, hf, hj]

theorem bodyEpochCommit_busy {m : Msg} {s : State} {e : W16} (hz : zeroAt m (span 4 7) = true) (hd : s.drainingEpoch = some e) :
    bodyEpochCommit m s =
      refuse { s with epoch := { s.epoch with refused := satur 32 (s.epoch.refused + 1) } } Status.busyEpoch e.toNat := by
  simp [bodyEpochCommit, needZero_of _ _ _ _ hz, hd]

theorem execEpochDrained_of_free {s : State} {d : Drain} (hd : s.drain = some d) (hh : s.epochHeld d.epoch = false) :
    execEpochDrained s = .next (settled s (State.settleGroups s { s with drain := none }.settleRules).settleCopies) := by
  simp [execEpochDrained, hd, hh, done_eq]

/-- Settles O13. -/
theorem epochCommandsComplete : Obligations.EpochCommandsComplete := by
  refine ⟨?_, ?_, ?_, ?_, ?_, ?_⟩
  · exact fun m s hp hz => run_answers cmdEpochStage m s _ hp (bodyEpochStage_read s hz)
  · exact fun m s hp h0 hz => run_answers cmdEpochStage m s _ hp (bodyEpochStage_discard s h0 hz)
  · exact fun m s hp hz hd hf hj hc => run_answers cmdEpochCommit m s _ hp (bodyEpochCommit_boundary hz hd hf hj hc)
  · exact fun m s e hp hz hd => run_answers cmdEpochCommit m s _ hp (bodyEpochCommit_busy hz hd)
  · exact fun m s hp => run_passes cmdEpochStatus m s hp
  · exact fun s d hd hh => execEpochDrained_of_free hd hh

end Sys2Proof.DeviceCommands

/-!
PROOFS. The commands of the error log (spec 15, 17).
-/
namespace Sys2Proof.ErrorLogCommands
open Machine Claims Answers

/-- R481: no more entries are dropped than are held. -/
theorem dropEntries_of_le {s : State} {n : Nat} (h : n ≤ s.err.entries.length) : s.dropEntries n =
    { s with err := { s.err with entries := s.err.entries.drop n, oldest := (s.err.oldest + n) % 1024 } } := by
  simp [State.dropEntries, Nat.min_eq_left h]

theorem dropEntries_all {s : State} {n : Nat} (h : s.err.entries.length ≤ n) : s.dropEntries n =
    { s with err := { s.err with entries := [], oldest := (s.err.oldest + s.err.entries.length) % 1024 } } := by
  simp [State.dropEntries, Nat.min_eq_right h]

/-- Settles O14. -/
theorem errorLogCommandsComplete : Obligations.ErrorLogCommandsComplete := by
  refine ⟨?_, ?_, ?_, ?_, ?_, ?_, ?_, ?_⟩
  · intro m s hp hfirst hlo hhi hz
    have hn : m.norm.p 2 ≠ 0 := by omega
    refine run_answers cmdErrlogRead m s _ hp ?_
    simp [cmdErrlogRead, bodyErrlogRead, Nat.not_le.mpr hfirst, hn, Nat.not_lt.mpr hhi, needZero_of _ _ _ _ hz]
  · intro m s hp h0 h1 hlo hhi hlen
    have hn : m.norm.f 2 2 ≠ 0 := by omega
    have hmax : m.norm.f 2 2 ≤ 1024 := by omega
    have hz : zeroAt m.norm [1] = true := by simp [zeroAt_iff, h1]
    refine run_answers cmdErrlogClear m s _ hp ?_
    simp [cmdErrlogClear, bodyErrlogClear, h0, needZero_of _ _ _ _ hz, hn, Nat.not_lt.mpr hmax, dropEntries_of_le hhi]
  · intro m s hp h0 hz hlen
    refine run_answers cmdErrlogClear m s _ hp ?_
    simp [cmdErrlogClear, bodyErrlogClear, h0, needZero_of_subset hz (l' := [1]), needZero_of_subset hz (l' := [2, 3]),
      dropEntries_all hlen]
    rfl
  · intro m s hp h0 h1 hlo hhi
    have hn : m.norm.f 2 2 ≠ 0 := by omega
    have hz : zeroAt m.norm [1] = true := by simp [zeroAt_iff, h1]
    refine run_answers cmdErrlogClear m s _ hp ?_
    simp [cmdErrlogClear, bodyErrlogClear, h0, needZero_of _ _ _ _ hz, hn, Nat.not_lt.mpr hhi]
  · intro m s hp h0 hz
    refine run_answers cmdErrlogClear m s _ hp ?_
    simp [cmdErrlogClear, bodyErrlogClear, h0, needZero_of_subset hz (l' := [1]), needZero_of_subset hz (l' := [2, 3])]
  · intro m s hp hlo hhi h3
    have hn : m.norm.p 2 ≠ 0 := by omega
    have hz : zeroAt m.norm [3] = true := by simp [zeroAt_iff, h3]
    refine run_answers cmdErrlogClassRead m s _ hp ?_
    simp [cmdErrlogClassRead, bodyErrlogClassRead, hn, Nat.not_lt.mpr hhi, needZero_of _ _ _ _ hz]
  · exact fun m s hp => run_passes cmdErrlogStatus m s hp
  · intro pf1 v s hw hv hold
    show execErrlogSelectWrite pf1 v s = _
    simp [execErrlogSelectWrite, hw, done_eq, State.selectEntry, Nat.mod_eq_of_lt hv]

end Sys2Proof.ErrorLogCommands

/-!
PROOFS. Reset, BOOT and the balls (spec 16, 19).
-/
namespace Sys2Proof.ResetAndBoot
open Machine Claims

/-! RESET (R449-R453, R527). -/

theorem intoReset_eq (s : State) (p : Pins) : ({ s with pins := p } : State).intoReset = inReset s p := rfl

theorem lowPulse_glitch {s : State} {ns : Nat} (p : Pins) (h : ns < 100) : s.lowPulse ns p = s := by simp [State.lowPulse, h]

theorem lowPulse_long {s : State} {ns : Nat} (p : Pins) (h : s.life.state ≠ .off) (hlong : 1000 ≤ ns) : s.lowPulse ns p = inReset s p := by
  have hns : ¬ ns < 100 := by omega
  simp [State.lowPulse, h, hns, hlong, intoReset_eq]

/-- R527 (log 170): between 100 ns and 1 us a free value decides. -/
theorem lowPulse_between {s : State} {ns : Nat} (p : Pins) (h : s.life.state ≠ .off) (hlo : 100 ≤ ns) (hhi : ns < 1000) :
    s.lowPulse ns p = if (Config.freeWord s.free).getLsbD 0 then inReset { s with free := s.free + 1 } p else { s with free := s.free + 1 } := by
  simp only [State.lowPulse, h, beq_iff_eq, Nat.not_lt.mpr hlo, Nat.not_le.mpr hhi, decide_false, Bool.or_false, if_false]
  rfl

/-- Settles O4. -/
theorem resetEventsEnterReset : Obligations.ResetEventsEnterReset := by
  refine ⟨?_, ?_, ?_, ?_, ?_, ?_⟩
  · intro s h
    show execPowerOn s = _
    rcases h with h | h <;> simp [execPowerOn, h, intoReset_eq, inReset]
  · intro s h
    exact congrArg _ (lowPulse_long _ h (by decide))
  · intro s h
    exact congrArg _ (lowPulse_long _ h (by decide))
  · intro s h
    show execRootPllLockLost s = _
    simp only [execRootPllLockLost, h, if_true]
    rfl
  · intro s low h
    exact ⟨congrArg _ (lowPulse_glitch _ h), congrArg _ (lowPulse_glitch _ h)⟩
  · intro s low h hlo hhi
    exact ⟨_, rfl, congrArg _ (lowPulse_between _ h hlo hhi), congrArg _ (lowPulse_between _ h hlo hhi)⟩

/-! BOOT (R454-R457): what its steps leave as it was. -/

/-- The device state, the straps and the balls are the same. -/
structure SameDevice (s t : State) : Prop where
  state : t.life.state = s.life.state
  prev : t.life.prev = s.life.prev
  straps : t.life.straps = s.life.straps
  pins : t.pins = s.pins

theorem SameDevice.rfl' (s : State) : SameDevice s s := ⟨rfl, rfl, rfl, rfl⟩

theorem SameDevice.trans {s t u : State} (h : SameDevice s t) (g : SameDevice t u) : SameDevice s u :=
  ⟨g.state.trans h.state, g.prev.trans h.prev, g.straps.trans h.straps, g.pins.trans h.pins⟩

theorem SameDevice.foldl {α : Type} {f : State → α → State} (hf : ∀ s a, SameDevice s (f s a)) (l : List α) (s : State) :
    SameDevice s (l.foldl f s) := by
  induction l generalizing s with
  | nil => exact .rfl' s
  | cons a l ih => exact (hf s a).trans (ih _)

theorem bootFails_same (s : State) (code : Nat) : SameDevice s (s.bootFails code) := by
  constructor <;> simp [State.bootFails]

theorem bootRetires_same (kind space : Nat) (s : State) (i : Nat) : SameDevice s (s.bootRetires kind space i) := by
  unfold State.bootRetires
  by_cases h : space = 0 <;> constructor <;> simp [State.lifeCount, h]

theorem bootLoses_same (cause : Nat) (s : State) (c : Nat) : SameDevice s (s.bootLoses c cause) := by
  unfold State.bootLoses
  constructor <;> simp [State.lifeCount, State.loseChannel]

theorem bootBist_same (s : State) (b : BootFacts) : SameDevice s (s.bootBist b) := by
  have h : SameDevice s { s with life := { s.life with sramRepaired := b.sramRepaired } } := ⟨rfl, rfl, rfl, rfl⟩
  exact ((h.trans (.foldl (bootRetires_same 1 1) _ _)).trans (.foldl (bootRetires_same 1 2) _ _)).trans
    (.foldl (bootRetires_same 1 3) _ _)

theorem bootClass_same (s : State) (hb : Bool) : SameDevice s (s.bootClass hb) := by
  unfold State.bootClass
  dsimp only
  split
  · constructor <;> simp
  · exact ⟨rfl, rfl, rfl, rfl⟩

theorem bootStacks_same (s : State) (b : BootFacts) : SameDevice s (s.bootStacks b) := by
  unfold State.bootStacks
  extract_lets counted mem s0 s1 s2 s3
  have h0 : SameDevice s s0 := ⟨rfl, rfl, rfl, rfl⟩
  have h1 : SameDevice s s1 := h0.trans (.foldl (bootLoses_same 1) _ _)
  have h2 : SameDevice s s2 := h1.trans (.foldl (bootLoses_same 2) _ _)
  have h3 : SameDevice s s3 := by
    refine h2.trans (.foldl ?_ _ _)
    exact fun _ _ => ⟨rfl, rfl, rfl, rfl⟩
  exact h3.trans (.foldl (bootRetires_same 2 0) _ _)

theorem boot_same (s : State) (b : BootFacts) : SameDevice s (s.boot b) := by
  have hclocks : SameDevice s s.bootClocks := ⟨rfl, rfl, rfl, rfl⟩
  unfold State.boot
  dsimp only
  split
  · exact bootFails_same s 1
  split
  · exact hclocks.trans (bootFails_same _ 2)
  have hbist := hclocks.trans (bootBist_same _ b)
  split
  · exact hbist.trans (bootFails_same _ 3)
  split
  · exact hbist.trans (bootFails_same _ 4)
  · exact (hbist.trans (bootClass_same _ _)).trans (bootStacks_same _ b)

/-- The straps as RESET_N's rise samples them. -/
def strapsOf (cfg : Nat) : Straps :=
  { cfg0 := Nat.testBit cfg 0, cfg1 := Nat.testBit cfg 1, cfg2 := Nat.testBit cfg 2, cfg3 := Nat.testBit cfg 3 }

/-- The state in which BOOT begins: the levels taken, the straps sampled, the link up where PERST_N is high and its reference is there. -/
def beginBoot (s : State) (cfg : Nat) (b : BootFacts) : State :=
  State.enter { s with
    pins := { s.pins with resetN := true, pwrOk := true, cfg := strapsOf cfg, tapInstr := 1 }, life := { s.life with straps := strapsOf cfg },
    power := { s.power with pcieRef := b.pcieRef }, host := { s.host with linkUp := s.pins.perstN && b.pcieRef } } .boot

theorem execResetNRise_boots {s : State} (cfg : Nat) (b : BootFacts) (hr : s.pins.resetN = false) (ho : s.life.state ≠ .off) :
    execResetNRise true cfg b s = .next (settled s ((beginBoot s cfg b).boot b)) := by
  simp [execResetNRise, hr, ho, done_eq, beginBoot, strapsOf]

theorem execResetNRise_ignored {s : State} (pwrOk : Bool) (cfg : Nat) (b : BootFacts) {highFor : Nat} (hr : s.pins.resetN = false)
    (ho : s.life.state ≠ .off) (h : pwrOk = false ∨ highFor < 1000) :
    execResetNRise pwrOk cfg b s highFor =
      .next { s with pins := { s.pins with resetN := true, pwrOk := pwrOk, cfg := strapsOf cfg, tapInstr := 1 } } := by
  rcases h with h | h <;> simp [execResetNRise, hr, ho, h, strapsOf]

/-- Settles O5: the steps of BOOT change neither the state nor the straps (`boot_same`). -/
theorem riseOfResetNBeginsBoot : Obligations.RiseOfResetNBeginsBoot := by
  refine ⟨?_, ?_, ?_, ?_⟩
  · exact fun cfg b s hr ho => ⟨_, execResetNRise_ignored false cfg b hr ho (.inl rfl), rfl, rfl, rfl⟩
  · exact fun cfg b s highFor hr ho hshort => ⟨_, execResetNRise_ignored true cfg b hr ho (.inr hshort), rfl, rfl, rfl⟩
  · intro cfg b s hr ho
    have h := boot_same (beginBoot s cfg b) b
    refine ⟨_, execResetNRise_boots cfg b hr ho, ?_⟩
    simp only [settled_life, settled_pins, h.state, h.prev, h.straps, h.pins]
    simp [beginBoot, strapsOf]
  · intro cfg b s hr ho hpll
    have h := boot_same (beginBoot s cfg b) b
    refine ⟨_, execResetNRise_boots cfg b hr ho, ?_⟩
    simp only [State.alertN, settled_life, h.state]
    simp [beginBoot, State.boot, hpll, State.bootFails]

end Sys2Proof.ResetAndBoot

/-!
PROOFS. Droop, temperature and the power commands (spec 18), and the end of BOOT, at which DROOP_N is judged first (spec 16).
-/
namespace Sys2Proof.PowerAndHeat
open Machine Claims Answers

/-! The droop stages (R505, R506). -/

@[simp] theorem setStage_power_stage (s : State) (n : Nat) : (s.setStage n).power.stage = n := rfl
@[simp] theorem setStage_power_droopLow (s : State) (n : Nat) : (s.setStage n).power.droopLow = s.power.droopLow := rfl
@[simp] theorem setStage_power_monitors (s : State) (n : Nat) : (s.setStage n).power.monitors = s.power.monitors := rfl
@[simp] theorem setStage_power_lowest (s : State) (n : Nat) : (s.setStage n).power.lowest = s.power.lowest := rfl
@[simp] theorem setStage_power_entries2 (s : State) (n : Nat) : (s.setStage n).power.entries2 = s.power.entries2 := rfl
@[simp] theorem setStage_pins (s : State) (n : Nat) : (s.setStage n).pins = s.pins := rfl
@[simp] theorem setStage_life (s : State) (n : Nat) : (s.setStage n).life = s.life := rfl

theorem enterStage_power (s : State) (n : Nat) : (s.enterStage n).power = { (s.setStage n).power with
    entries1 := if n = 1 then s.power.entries1 + 1 else s.power.entries1
    entries2 := if n = 2 then s.power.entries2 + 1 else s.power.entries2 } := by
  simp only [State.enterStage, State.logError_power, State.alert_power]
  rfl

@[simp] theorem enterStage_pins (s : State) (n : Nat) : (s.enterStage n).pins = s.pins := by simp [State.enterStage]
@[simp] theorem enterStage_life (s : State) (n : Nat) : (s.enterStage n).life = s.life := by simp [State.enterStage]

/-- What the judgement of the sources leaves as it was: all but the stage and what is counted of it. -/
structure DroopOnly (s t : State) : Prop where
  life : t.life = s.life
  pins : t.pins = s.pins
  droopLow : t.power.droopLow = s.power.droopLow
  monitors : t.power.monitors = s.power.monitors
  lowest : t.power.lowest = s.power.lowest

theorem enterStage_only (s : State) (n : Nat) : DroopOnly s (s.enterStage n) := by
  constructor <;> simp [enterStage_power]

theorem judgeDroop_only (s : State) : DroopOnly s s.judgeDroop := by
  unfold State.judgeDroop
  split
  · exact ⟨rfl, rfl, rfl, rfl, rfl⟩
  split
  · exact enterStage_only s 2
  split
  · exact enterStage_only s 1
  split <;> exact ⟨rfl, rfl, rfl, rfl, rfl⟩

theorem judgeDroop_of_caused2 {s : State} (hb : s.booted = true) (hs : s.power.stage < 2) (hc : s.caused 2 = true) :
    s.judgeDroop = s.enterStage 2 := by
  simp [State.judgeDroop, hb, hs, hc]

/-- A cause of stage 1 raises stage 1 at least. -/
theorem judgeDroop_stage_pos {s : State} (hb : s.booted = true) (hs : s.power.stage = 0) (hc : s.caused 1 = true) :
    1 ≤ s.judgeDroop.power.stage := by
  by_cases h2 : s.caused 2 = true
  · rw [judgeDroop_of_caused2 hb (by omega) h2, enterStage_power]
    exact Nat.le_succ 1
  · have h1 : s.judgeDroop = s.enterStage 1 := by simp [State.judgeDroop, hb, hs, h2, hc]
    rw [h1, enterStage_power]
    exact Nat.le_refl 1

/-- DROOP_N low causes stage 1 at once. -/
theorem caused1_of_low {s : State} {t : Nat} (he : s.power.droopEn = true) (hl : s.power.droopLow = some t) : s.caused 1 = true := by
  simp [State.caused, State.stageCause, he, hl]

/-- DROOP_N low for the delay causes stage 2. -/
theorem caused2_of_lowLong {s : State} (he : s.power.droopEn = true) (hl : s.lowLong = true) : s.caused 2 = true := by
  simp [State.caused, State.stageCause, he, hl]

/-- DROOP_N is low from now. -/
def lowNow (s : State) : State := { s with pins := { s.pins with droopN := false }, power := { s.power with droopLow := some s.now } }

theorem execDroopNFall_of_high {s : State} (hb : s.booted = true) (hd : s.pins.droopN = true) :
    execDroopNFall s = .next (settled s (lowNow s).judgeDroop) := by
  simp [execDroopNFall, hb, hd, done_eq, State.droopFalls, lowNow]

theorem execDroopnDelayExpire_of_lowLong {s : State} (hb : s.booted = true) (he : s.power.droopEn = true) (hl : s.lowLong = true) :
    execDroopnDelayExpire s = .next (settled s s.judgeDroop) := by
  simp [execDroopnDelayExpire, hb, he, hl, done_eq]

/-- A monitor's reading is kept, with the lowest since. -/
def withReading (s : State) (monitor mv : Nat) : State :=
  { s with power := { s.power with monitors := s.power.monitors.set monitor mv, lowest := alter s.power.lowest monitor fun low => min low mv } }

theorem execMonitorUndervoltage_eq {s : State} {monitor : Nat} (mv : Nat) (hb : s.booted = true) (hm : monitor < s.power.monitors.length) :
    execMonitorUndervoltage monitor mv s = .next (settled s (withReading s monitor mv).judgeDroop) := by
  simp [execMonitorUndervoltage, hb, Nat.not_le.mpr hm, done_eq, withReading]

/-! Temperatures (R514-R516). -/

theorem getLsbD_bit_of_ne {k b : Nat} (h : b ≠ k) : (1#5 <<< k).getLsbD b = false := by
  by_cases hk : b < k
  · simp [hk]
  · have hsub : b - k ≠ 0 := by omega
    simp [BitVec.getLsbD_shiftLeft, BitVec.getLsbD_one, hsub]

theorem getLsbD_or_bit_of_ne {w : BitVec 5} {k b : Nat} (h : b ≠ k) : (w ||| 1#5 <<< k).getLsbD b = w.getLsbD b := by
  rw [BitVec.getLsbD_or, getLsbD_bit_of_ne h, Bool.or_false]

theorem getLsbD_and_not_bit_of_ne {w : BitVec 5} {k b : Nat} (h : b ≠ k) : (w &&& ~~~(1#5 <<< k)).getLsbD b = w.getLsbD b := by
  rcases Nat.lt_or_ge b 5 with hb | hb
  · rw [BitVec.getLsbD_and, BitVec.getLsbD_not, getLsbD_bit_of_ne h]
    simp [hb]
  · rw [BitVec.getLsbD_of_ge _ _ hb, BitVec.getLsbD_of_ge _ _ hb]

theorem getLsbD_or_bit_self {w : BitVec 5} {k : Nat} (h : k < 5) : (w ||| 1#5 <<< k).getLsbD k = true := by simp [h]

@[simp] theorem judgeLimit_dram (n : Nat) (t : Int) (s : State) (code : Nat) : (State.judgeLimit n t s code).dram = s.dram := by
  unfold State.judgeLimit
  dsimp only
  split
  · simp
  · split <;> simp

/-- Judging a limit leaves the readings, and the limits of the other codes. -/
theorem judgeLimit_power (n : Nat) (t : Int) (s : State) (code : Nat) :
    (State.judgeLimit n t s code).power.sensors = s.power.sensors ∧ (State.judgeLimit n t s code).power.diePeak = s.power.diePeak ∧
      ∀ b, b ≠ code - 1 → (State.judgeLimit n t s code).power.limits.getLsbD b = s.power.limits.getLsbD b := by
  unfold State.judgeLimit
  dsimp only
  split
  · rw [State.setFault_power, State.logError_power, State.alert_power]
    exact ⟨rfl, rfl, fun b hb => getLsbD_or_bit_of_ne hb⟩
  split
  · rw [State.setFault_power, State.logError_power]
    split <;> exact ⟨rfl, rfl, fun b hb => getLsbD_and_not_bit_of_ne hb⟩
  · exact ⟨rfl, rfl, fun _ _ => rfl⟩

/-- The readings stay through any number of limits judged. -/
theorem foldl_judgeLimit_readings (n : Nat) (t : Int) (l : List Nat) (s : State) :
    (l.foldl (State.judgeLimit n t) s).power.sensors = s.power.sensors ∧ (l.foldl (State.judgeLimit n t) s).power.diePeak = s.power.diePeak ∧
      (l.foldl (State.judgeLimit n t) s).dram = s.dram := by
  induction l generalizing s with
  | nil => exact ⟨rfl, rfl, rfl⟩
  | cons c l ih =>
    obtain ⟨hs, hp, hd⟩ := ih (State.judgeLimit n t s c)
    obtain ⟨hs', hp', -⟩ := judgeLimit_power n t s c
    exact ⟨hs.trans hs', hp.trans hp', hd.trans (judgeLimit_dram n t s c)⟩

/-- A fault that is set stands. -/
theorem setFault_on {s : State} {bit : Nat} (h : bit < 5) : (s.setFault bit true).life.faults.getLsbD bit = true := by
  unfold State.setFault
  extract_lets m f _ s1
  have hset : s1.life.faults.getLsbD bit = true := getLsbD_or_bit_self h
  split
  · rw [State.enter_life]
    exact hset
  · exact hset

/-- DIE_CRITICAL is raised above 120.0 degrees C, with the standing fault THERMAL. -/
theorem judgeLimit_critical {n : Nat} {t : Int} {s : State} (hoff : s.power.limits.getLsbD 2 = false) (ht : 480 < t) :
    (State.judgeLimit n t s 3).power.limits.getLsbD 2 = true ∧ (State.judgeLimit n t s 3).life.faults.getLsbD FaultBit.thermal = true := by
  have hraised : (!s.power.limits.getLsbD (3 - 1) && decide ((thermalLimit s.power.warn 3).1 < t)) = true := by
    rw [show 3 - 1 = 2 from rfl, hoff]
    exact decide_eq_true ht
  unfold State.judgeLimit
  dsimp only
  rw [if_pos hraised]
  refine ⟨?_, setFault_on (by decide)⟩
  simp only [State.setFault_power, State.logError_power, State.alert_power]
  exact getLsbD_or_bit_self (by decide)

theorem foldl_max_mem (l : List Int) (a : Int) : l.foldl max a = a ∨ l.foldl max a ∈ l := by
  induction l generalizing a with
  | nil => exact .inl rfl
  | cons b l ih =>
    rw [List.foldl_cons]
    rcases ih (max a b) with h | h
    · rcases (by omega : max a b = a ∨ max a b = b) with hm | hm
      · exact .inl (h.trans hm)
      · exact .inr (List.mem_cons.mpr (.inl (h.trans hm)))
    · exact .inr (List.mem_cons_of_mem b h)

theorem le_foldl_max (l : List Int) (a : Int) : a ≤ l.foldl max a ∧ ∀ x ∈ l, x ≤ l.foldl max a := by
  induction l generalizing a with
  | nil => exact ⟨Int.le_refl a, fun _ hx => absurd hx List.not_mem_nil⟩
  | cons b l ih =>
    obtain ⟨hmax, hl⟩ := ih (max a b)
    exact ⟨Int.le_trans (Int.le_max_left a b) hmax, List.forall_mem_cons.mpr ⟨Int.le_trans (Int.le_max_right a b) hmax, hl⟩⟩

theorem hottest_mem (t : DieSensors) : hottest t ∈ t.toList := by
  rcases foldl_max_mem t.toList t[0] with h | h
  · rw [hottest, h]
    exact Vector.mem_toList_iff.mpr (Vector.getElem_mem _)
  · exact h

/-- The readings of the die's sensors are kept, with the peak of their hottest. -/
def withSensors (s : State) (t : DieSensors) : State :=
  { s with power := { s.power with
      sensors := t, diePeak := some (match s.power.diePeak with | some p => max p (hottest t) | none => hottest t) } }

theorem execDieSensorRead_eq {s : State} (t : DieSensors) (hb : s.booted = true) :
    execDieSensorRead t s = .next (settled s ([1, 2, 3].foldl (State.judgeLimit 0 (hottest t)) (withSensors s t))) := by
  simp only [execDieSensorRead, hb, Bool.not_true, Bool.false_eq_true, if_false, done_eq]
  rfl

/-- The stacks' reports are kept, and the refresh mode that they ask for. -/
def withStackTemps (s : State) (t0 t1 : Int) : State :=
  { s with dram := { s.dram with temp0 := t0, temp1 := t1, hotNext := decide (340 < t0) || decide (340 < t1) } }

theorem execStackTempRead_eq {s : State} (t0 t1 : Int) (h : s.trained = true) : execStackTempRead t0 t1 s = .next (settled s
    (if s.booted then [4, 5].foldl (State.judgeLimit (if t0 < t1 then 2 else 1) (max t0 t1)) (withStackTemps s t0 t1)
      else withStackTemps s t0 t1)) := by
  simp only [execStackTempRead, h, Bool.not_true, Bool.false_eq_true, if_false, done_eq]
  rfl

/-- Settles O21. -/
theorem droopAndTemperatureComplete : Obligations.DroopAndTemperatureComplete := by
  refine ⟨?_, ?_, ?_, ?_, ?_, ?_, ?_, ?_⟩
  · intro s hb hd
    have hjudge := judgeDroop_only (lowNow s)
    refine ⟨_, execDroopNFall_of_high hb hd, ?_, ?_, ?_⟩
    · rw [settled_pins, hjudge.pins]
      rfl
    · rw [settled_power, hjudge.droopLow]
      rfl
    · intro he hs
      rw [settled_power]
      exact judgeDroop_stage_pos (s := lowNow s) hb hs (caused1_of_low he rfl)
  · intro s
    refine ⟨_, done_eq s _, ?_, ?_⟩
    · rw [settled_pins, (judgeDroop_only _).pins]
    · rw [settled_power, (judgeDroop_only _).droopLow]
  · intro s hb he hl hs
    refine ⟨_, execDroopnDelayExpire_of_lowLong hb he hl, ?_⟩
    rw [settled_power, judgeDroop_of_caused2 hb hs (caused2_of_lowLong he hl), enterStage_power]
    exact ⟨rfl, rfl⟩
  · intro monitor mv s hb hm
    have hjudge := judgeDroop_only (withReading s monitor mv)
    refine ⟨_, execMonitorUndervoltage_eq mv hb hm, ?_, ?_⟩
    · rw [settled_power, hjudge.monitors]
      rfl
    · rw [settled_power, hjudge.lowest]
      rfl
  · intro s t0 ha hs ht
    show execDroopStageFall s = _
    simp [execDroopStageFall, ha, hs, ht, done_eq]
  · intro t s hb
    obtain ⟨hsensors, hpeak, -⟩ := foldl_judgeLimit_readings 0 (hottest t) [1, 2, 3] (withSensors s t)
    refine ⟨_, execDieSensorRead_eq t hb, ?_, hottest_mem t, fun x hx => (le_foldl_max _ _).2 x hx, ?_⟩
    · rw [settled_power, hsensors]
      rfl
    · rw [settled_power, hpeak]
      rfl
  · intro t s hb hoff ht
    obtain ⟨-, -, h1⟩ := judgeLimit_power 0 (hottest t) (withSensors s t) 1
    obtain ⟨-, -, h2⟩ := judgeLimit_power 0 (hottest t) (State.judgeLimit 0 (hottest t) (withSensors s t) 1) 2
    have hoff3 := ((h2 2 (by decide)).trans (h1 2 (by decide))).trans hoff
    obtain ⟨hraised, hfault⟩ := judgeLimit_critical (n := 0) hoff3 ht
    refine ⟨_, execDieSensorRead_eq t hb, ?_, ?_, ?_, ?_⟩
    · rw [settled_power]
      exact hraised
    · rw [State.thermN, settled_power]
      exact Bool.or_eq_true_iff.mpr (.inl hraised)
    · rw [State.ceiling, settled_power]
      exact Nat.le_trans (Nat.min_le_right _ _) (Nat.le_trans (Nat.min_le_right _ _) (Nat.le_of_eq (if_pos hraised)))
    · rw [settled_life]
      exact hfault
  · intro t0 t1 s ht
    refine ⟨_, execStackTempRead_eq t0 t1 ht, ?_⟩
    rw [settled_dram]
    split
    · rw [(foldl_judgeLimit_readings _ _ _ _).2.2]
      exact ⟨rfl, rfl, rfl⟩
    · exact ⟨rfl, rfl, rfl⟩

/-! The commands (R505, R512, R518). -/

/-- Settles O22. -/
theorem powerCommandsComplete : Obligations.PowerCommandsComplete := by
  refine ⟨?_, ?_, ?_, ?_, ?_, ?_, ?_, ?_⟩
  · intro m s hp hz
    have h0 := p_of_zeroAt hz 0 (by decide)
    have h1 := p_of_zeroAt hz 1 (by decide)
    refine run_answers cmdSecurePowerProfile m s _ hp ?_
    simp [cmdSecurePowerProfile, bodySecurePowerProfile, h0, h1, needZero_of_subset hz (l' := [2, 3]) (by decide)]
  · intro m s hp h0 h1 hz
    refine run_answers cmdSecurePowerProfile m s _ hp ?_
    simp [cmdSecurePowerProfile, bodySecurePowerProfile, h0, Nat.not_lt.mpr h1, needZero_of _ _ _ _ hz]
  · intro m s hp hz
    have h0 := p_of_zeroAt hz 0 (by decide)
    refine run_answers cmdPowerStatus m s _ hp ?_
    simp [cmdPowerStatus, bodyPowerStatus, h0, needZero_of_subset hz (l' := [1, 2, 3]) (by decide), State.draw]
  · intro m s hp h0 hz
    refine run_answers cmdPowerStatus m s _ hp ?_
    simp [cmdPowerStatus, bodyPowerStatus, h0, needZero_of _ _ _ _ hz, State.draw]
  · exact fun m s hp => run_passes cmdClockStatus m s hp
  · exact fun m s hp => run_passes cmdThermalRead m s hp
  · intro m s hp hz
    have h0 := p_of_zeroAt hz 0 (by decide)
    refine run_answers cmdDroopConfig m s _ hp ?_
    simp [cmdDroopConfig, bodyDroopConfig, h0, needZero_of_subset hz (l' := span 1 15) (by decide)]
  · intro m s hp h0 h1 hlo1 hhi1 hlo2 hhi2 hlt hdelay hlow hwarn hz
    refine ⟨_, rfl, run_answers cmdDroopConfig m s _ hp ?_⟩
    simp [cmdDroopConfig, bodyDroopConfig, h0, Nat.not_lt.mpr h1, Nat.not_lt.mpr hlo1, Nat.not_lt.mpr hhi1, Nat.not_lt.mpr hlo2,
      Nat.not_lt.mpr hhi2, Nat.not_le.mpr hlt, Nat.not_lt.mpr hdelay, Nat.not_lt.mpr hlow, Nat.not_lt.mpr hwarn, needZero_of _ _ _ _ hz]

end Sys2Proof.PowerAndHeat

/-!
PROOFS. The end of BOOT, the rise of PERST_N and the end of a clearing (spec 16), and the balls (spec 19).
-/
namespace Sys2Proof.BootEnds
open Machine Claims

theorem standingTasks_frame (s : State) : MinersOnly s s.standingTasks := by
  unfold State.standingTasks
  refine MinersOnly.foldl _ ?_ _ s
  exact fun s p => .trans ⟨_, rfl⟩ (State.makeReady_frame _ p.2 false)

theorem standingTasks_life (s : State) : s.standingTasks.life = s.life := by
  obtain ⟨m, hm⟩ := standingTasks_frame s
  rw [hm]

theorem standingTasks_dram (s : State) : s.standingTasks.dram = s.dram := by
  obtain ⟨m, hm⟩ := standingTasks_frame s
  rw [hm]

/-- The device at the end of BOOT, its regions built, its seeds drawn and its clocks started. -/
def bootBuilt (s : State) (ms : Nat) : State :=
  let s1 := { s with life := { s.life with bootMs := ms % 65536 } }
  ((s1.buildRegions (defaultPlan s1.hb)).drawSeeds).startClocks

theorem bootBuilt_life (s : State) (ms : Nat) : (bootBuilt s ms).life = { s.life with bootMs := ms % 65536 } := rfl

theorem buildRegions_channels (s : State) (plan : List (Nat × Nat)) : (s.buildRegions plan).dram.channels = s.dram.channels := rfl

theorem startClocks_drawSeeds_dram (s : State) : s.drawSeeds.startClocks.dram = s.dram := rfl

theorem bootBuilt_channels (s : State) (ms : Nat) : (bootBuilt s ms).dram.channels = s.dram.channels := by
  rw [bootBuilt, startClocks_drawSeeds_dram, buildRegions_channels]

/-- It enters INIT, or RECOVER where no channel is trained. -/
def bootLeaves (s : State) : State :=
  if s.dram.channels.all (·.lost) then State.enter { s with life := { s.life with causes := 2 } } .recover else s.enter .init

/-- DROOP_N is judged from INIT on; where it is low, from now. -/
def judgedDroop (s : State) : State :=
  State.judgeDroop (if s.pins.droopN then s else { s with power := { s.power with droopLow := some s.now } })

theorem judgedDroop_life (s : State) : (judgedDroop s).life = s.life := by
  unfold judgedDroop
  rw [(PowerAndHeat.judgeDroop_only _).life]
  split <;> rfl

theorem execBootComplete_eq {s : State} (ms : Nat) (hb : s.life.state = .boot) (hf : s.life.bootFail = none) :
    execBootComplete ms s = .next (settled s (judgedDroop (bootLeaves (bootBuilt s ms).standingTasks))) := by
  unfold execBootComplete
  rw [if_neg (by simp [hb, hf])]
  dsimp only [judgedDroop, bootLeaves, bootBuilt, done_eq]

theorem life_after_boot (s : State) (ms : Nat) :
    (settled s (judgedDroop (bootLeaves (bootBuilt s ms).standingTasks))).life = (bootLeaves (bootBuilt s ms).standingTasks).life := by
  rw [settled_life, judgedDroop_life]

/-- Settles O6: the steps at the end of BOOT leave the device state to the transition (`life_after_boot`). -/
theorem bootAndClearingComplete : Obligations.BootAndClearingComplete := by
  refine ⟨?_, ?_, ?_, ?_, ?_, ?_⟩
  · intro ms s hb hf hall
    refine ⟨_, execBootComplete_eq ms hb hf, ?_⟩
    rw [life_after_boot, bootLeaves, standingTasks_dram, bootBuilt_channels, hall]
    simp [standingTasks_life, bootBuilt_life, hb]
  · intro ms s hb hf hall
    refine ⟨_, execBootComplete_eq ms hb hf, ?_⟩
    rw [life_after_boot, bootLeaves, standingTasks_dram, bootBuilt_channels, hall]
    simp [standingTasks_life, bootBuilt_life, hb]
  · intro s hr ho hreset
    show execPerstNRise s true = _
    simp [execPerstNRise, hr, ho, hreset, done_eq]
  · intro s
    show execPerstNRise s false = _
    simp [execPerstNRise, done_eq]
  · intro s hc
    show execClearingComplete s = _
    simp [execClearingComplete, hc, done_eq]
  · intro s hc ht
    refine ⟨_, by show execClearingComplete s = _; simp only [execClearingComplete, hc, done_eq]; rfl, ?_⟩
    simp [ht]

/-! The balls (R528, R532-R534). -/

/-- What a TAP instruction sends and what it changes touches no source of a vector, so nothing more is sent. -/
theorem settled_out_of_tap (s : State) (p : Pins) (n : Nat) (o : List Output) :
    (settled s { s with pins := p, free := n, out := o }).out = o :=
  settled_out_quiet s _ (ErrLog.inOrder_self s.err) fun _ _ h => h

/-- The instructions that scan the boundary register. -/
theorem execTapInstruction_scan {code : Byte} {s : State} (data : BitVec 294) (ho : s.life.state ≠ .off)
    (hc : code = 2 ∨ (s.pins.resetN = false ∧ code = 0)) : execTapInstruction code data s =
      .next (settled s (State.boundaryScan { s with pins := { s.pins with tapInstr := code } } data)) := by
  rcases hc with hc | ⟨hr, hc⟩
  · simp [execTapInstruction, ho, hc, done_eq]
  · simp [execTapInstruction, ho, hr, hc, done_eq]

theorem execTapInstruction_idcode {s : State} (data : BitVec 294) (ho : s.life.state ≠ .off) : execTapInstruction 1 data s =
    .next (settled s (State.send { s with pins := { s.pins with tapInstr := 1 } } (.tdo ((data <<< 32) ||| 0xB2427A6B#294)))) := by
  simp [execTapInstruction, ho, idcode, done_eq]

/-- An instruction that takes the boundary register nowhere, but for IDCODE, delays the data by one bit. -/
theorem execTapInstruction_bypass {code : Byte} {s : State} (data : BitVec 294) (ho : s.life.state ≠ .off) (hc : code = 0xFF ∨ code = 5) :
    execTapInstruction code data s =
      .next (settled s (State.send { s with pins := { s.pins with tapInstr := code } } (.tdo (data <<< 1)))) := by
  rcases hc with hc | hc <;> simp [execTapInstruction, ho, hc, done_eq]

theorem outputCells_of_controls {s : State} (h : s.tapControls = true) : s.outputCells = (List.range 147).flatMap s.tapBall := by
  simp [State.outputCells, h]

theorem ballLevel_of_not_driven {s : State} {ball : Nat} (h : (2 * ball + 1, true) ∉ s.outputCells) : s.ballLevel ball = none := by
  simp [State.ballLevel, h]

/-- HIGHZ drives no ball. -/
theorem not_driven_of_highz {s : State} (h : s.pins.tapInstr = 5) (ball b : Nat) : (2 * ball + 1, true) ∉ s.tapBall b := by
  unfold State.tapBall
  split
  · exact List.not_mem_nil
  · simp [h]

/-- Settles O7. -/
theorem ballEventsComplete : Obligations.BallEventsComplete := by
  refine ⟨?_, ?_, ?_, ?_, ?_, ?_⟩
  · intro s hb ht
    show execGpio3Toggle s = _
    simp [execGpio3Toggle, hb, ht, done_eq]
  · intro data s ho
    refine ⟨_, execTapInstruction_idcode data ho, ?_, settled_out_of_tap _ _ _ _⟩
    simp
  · intro data s ho
    refine ⟨_, execTapInstruction_bypass data ho (.inl rfl), ?_, settled_out_of_tap _ _ _ _⟩
    simp
  · intro data s ho
    refine ⟨_, _, rfl, execTapInstruction_scan data ho (.inl rfl), ?_, ?_, settled_out_of_tap _ _ _ _⟩
    · simp [State.boundaryScan]
    · simp [State.boundaryScan]
  · intro data s ho hr
    refine ⟨_, execTapInstruction_scan data ho (.inr ⟨hr, rfl⟩), ?_, outputCells_of_controls ?_⟩
    · simp [State.boundaryScan]
    · simp [State.tapControls, State.boundaryScan, tapDrives, hr, ho]
  · intro data s ho hr
    refine ⟨_, execTapInstruction_bypass data ho (.inr rfl), fun ball => ?_⟩
    have hcontrols : (settled s (State.send { s with pins := { s.pins with tapInstr := 5 } } (.tdo (data <<< 1)))).tapControls = true := by
      simp [State.tapControls, tapDrives, hr, ho]
    refine ballLevel_of_not_driven ?_
    rw [outputCells_of_controls hcontrols, List.mem_flatMap]
    rintro ⟨b, -, hb⟩
    exact not_driven_of_highz (by simp) ball b hb

end Sys2Proof.BootEnds

/-!
PROOFS. The mailboxes (spec 02): what serves a channel (R42, R55-R57), and the transactions of the BMC (R64).
-/
namespace Sys2Proof.Mailboxes
open Machine Claims

/-! RELEASE (R56). -/

/-- What releases a channel's reply: a host's byte with bit 0, the peer's release, or the BMC's byte 0x02 with a correct PEC. -/
def Releases (q : ChannelAsk) : Prop :=
  (q.ch < 2 ∧ q.byte.getLsbD 0 = true) ∨ q.ch = 2 ∨ (q.ch = 3 ∧ q.byte = 2 ∧ q.pec = true)

theorem exec_releaseReply {q : ChannelAsk} {s : State} (hr : s.reachable q.ch = true) (hq : Releases q)
    (ho : (s.chan q.ch).outStatus = true) :
    exec (.releaseReply q) s = .next (settled (s.freed q.ch) ((s.freed q.ch).placed q.ch)) := by
  show execReleaseReply q s = _
  have hfree : s.releaseChan q.ch = .next (settled (s.freed q.ch) ((s.freed q.ch).placed q.ch)) := by
    simp [State.releaseChan, ho, done_eq]
  rw [← hfree]
  rcases hq with ⟨hch, hbit⟩ | hch | ⟨hch, hbyte, hpec⟩
  · have h4 : q.ch < 4 := by omega
    have h3 : q.ch ≠ 3 := by omega
    simp [execReleaseReply, hr, h4, h3, hbit]
  · rw [hch] at hr ⊢
    simp [execReleaseReply, hr, hch]
  · rw [hch] at hr ⊢
    simp [execReleaseReply, hr, hch, hbyte, hpec, State.bmcControl]

theorem peerWord_chan (s : State) (c : Nat) : s.peerWord.chan c = s.chan c := by
  rcases c with _ | _ | _ | c <;> simp [State.chan]

theorem peerPlaced_chan (s : State) (was : Bool) (c : Nat) : (s.peerPlaced was).chan c = s.chan c := by
  rcases c with _ | _ | _ | c <;> simp [State.chan]

theorem freed_chan (s : State) (c : Nat) : (s.freed c).chan c = (s.chan c).free := by
  unfold State.freed
  dsimp only
  split
  · rw [peerWord_chan, State.chan_setChan_self]
  · rw [State.chan_setChan_self]

theorem placed_chan (s : State) (c : Nat) : (s.placed c).chan c = (s.chan c).place := by
  unfold State.placed
  dsimp only
  split
  · rw [peerPlaced_chan, State.chan_setChan_self]
  · rw [State.chan_setChan_self]

/-! The timeout (R57). -/

theorem withdraw_chan (s : State) (c : Nat) : (s.withdraw c).chan c = (s.chan c).expire := by
  unfold State.withdraw
  dsimp only
  split
  · rw [peerWord_chan]
    exact State.chan_setChan_self s c _
  · exact State.chan_setChan_self s c _

theorem withdraw_epoch (s : State) (c : Nat) : (s.withdraw c).epoch = { s.epoch with withdrawn := s.epoch.withdrawn + 1 } := by
  unfold State.withdraw
  dsimp only
  split <;> simp

section
variable {ch t0 len : Nat} {s : State} (hch : ch < 4) (ht : (s.chan ch).timer = some (t0, len)) (hp : (s.chan ch).pending = true)
  (hpast : t0 + len ≤ s.now)
include hch ht hp hpast

theorem execMbxTimeoutExpire_withdraws (hc : ctlCycle s.now ≠ ctlCycle (t0 + len)) :
    execMbxTimeoutExpire ch s = .next (settled s (s.withdraw ch)) := by
  simp [execMbxTimeoutExpire, ht, hp, hpast, hch, hc, done_eq]

theorem execMbxTimeoutExpire_takes (hc : ctlCycle s.now = ctlCycle (t0 + len)) (hn : s.nextTaken = some ch) :
    execMbxTimeoutExpire ch s = .next (settled s (s.takeFrom ch)) := by
  simp [execMbxTimeoutExpire, ht, hp, hpast, hch, hc, hn, done_eq]

end

theorem execMessageTake_of_next {ch : Nat} {s : State} (hn : s.nextTaken = some ch) :
    execMessageTake s = .next (settled s (s.takeFrom ch)) := by
  simp [execMessageTake, hn, done_eq]

theorem takeFrom_eq (s : State) (ch : Nat) :
    s.takeFrom ch = (s.taken ch).runPacket ((s.chan ch).packet ch).1 ((s.chan ch).packet ch).2 := by
  unfold State.takeFrom
  generalize (s.chan ch).packet ch = packet
  rfl

/-- Settles O9: a release frees the channel's buffer and places what is queued (`freed_chan`, `placed_chan`). -/
theorem channelIsServed : Obligations.ChannelIsServed := by
  refine ⟨?_, ?_, ?_, ?_, ?_⟩
  · intro q s hr hq ho hnone
    refine ⟨_, exec_releaseReply hr hq ho, ?_⟩
    rw [settled_chan, placed_chan, freed_chan]
    simp [Channel.place, Channel.free, hnone]
  · intro q r rs s hr hq ho hqueue
    refine ⟨_, exec_releaseReply hr hq ho, ?_⟩
    rw [settled_chan, placed_chan, freed_chan]
    simp [Channel.place, Channel.free, hqueue]
  · intro ch s t0 len hch ht hp hpast hc
    refine ⟨_, execMbxTimeoutExpire_withdraws hch ht hp hpast hc, ?_⟩
    rw [settled_chan, settled_epoch, withdraw_chan, withdraw_epoch]
    exact ⟨rfl, rfl, rfl, rfl⟩
  · intro ch s t0 len hch ht hp hpast hc hn
    rw [← takeFrom_eq]
    exact execMbxTimeoutExpire_takes hch ht hp hpast hc hn
  · intro ch s hn
    rw [← takeFrom_eq]
    exact execMessageTake_of_next hn

/-! The BMC (R64). -/

/-- What the BMC's channel and the bus change touches no source of a vector, so nothing more is sent. -/
theorem settled_out_of_bmc (s : State) (c : Channel) (o : Output) : (settled s ((s.setChan 3 c).send o)).out = s.out ++ [o] :=
  settled_out_quiet s _ (ErrLog.inOrder_self s.err) fun p _ h => by cases p <;> exact h

theorem settled_out_of_send (s : State) (o : Output) : (settled s (s.send o)).out = s.out ++ [o] :=
  settled_out_quiet s _ (ErrLog.inOrder_self s.err) fun _ _ h => h

theorem bmcControl_nack {byte : Byte} {pec : Bool} (s : State) (h : pec = false ∨ (byte ≠ 1 ∧ byte ≠ 2)) :
    s.bmcControl byte pec = .next (settled s (s.send .smbusNack)) := by
  rcases h with h | ⟨h1, h2⟩
  · simp [State.bmcControl, h, done_eq]
  · have hring : (byte == 1) = false := beq_eq_false_iff_ne.mpr h1
    have hrelease : (byte == 2) = false := beq_eq_false_iff_ne.mpr h2
    simp only [State.bmcControl, hring, hrelease, Bool.and_false, Bool.false_eq_true, if_false, done_eq]

/-- Settles O10. -/
theorem bmcTransactionsComplete : Obligations.BmcTransactionsComplete := by
  refine ⟨?_, ?_, ?_, ?_, ?_, ?_, ?_, ?_⟩
  · intro off data s hr hlo hhi
    show execBmcBufferWrite off data true s = _
    simp only [execBmcBufferWrite, hr, hlo, hhi, done_eq]
    rfl
  · intro off data s hr
    show execBmcBufferWrite off data false s = _
    simp [execBmcBufferWrite, hr, done_eq]
  · intro byte pec s hr h
    rw [← bmcControl_nack s h]
    constructor
    · show execRingDoorbell (ChannelAsk.mk 3 byte pec) s = _
      simp [execRingDoorbell, hr]
    · show execReleaseReply (ChannelAsk.mk 3 byte pec) s = _
      simp [execReleaseReply, hr]
  · intro s hr
    refine ⟨_, by show execBmcFlagsRead s true = _; simp [execBmcFlagsRead, hr, done_eq]; rfl, ?_, settled_out_of_bmc _ _ _⟩
    simp [State.setChan]
  · intro s hr
    show execBmcFlagsRead s false = _
    simp [execBmcFlagsRead, hr, done_eq]
  · intro off s hr
    refine ⟨_, by show execBmcReplyRead (BufferAsk.mk off true) s = _; simp only [execBmcReplyRead, hr, done_eq]; rfl, ?_,
      settled_out_of_send _ _⟩
    simp
  · intro off s hr
    show execBmcReplyRead (BufferAsk.mk off false) s = _
    simp [execBmcReplyRead, hr, done_eq]
  · intro s ha hc
    refine ⟨_, by show execSmbusAlertResponse s = _; simp [execSmbusAlertResponse, ha, done_eq]; rfl, ?_⟩
    rw [settled_out_of_send, State.smbAddress, hc]
    rfl

end Sys2Proof.Mailboxes

/-!
PROOFS. The registers of the two functions and their resets (spec 15): what a write acts on, and what a reset leaves (R8, R418-R428).
-/
namespace Sys2Proof.FunctionRegisters
open Machine Claims

/-! Register accesses (R7, R8, R418). -/

theorem execRegisterRead_word {s : State} (pf1 : Bool) (off : Nat) (h : s.windowOpen = true) :
    execRegisterRead pf1 off s 4 = .next (settled s ((s.readReg pf1 off).2.send (.register pf1 (s.readReg pf1 off).1))) := by
  simp [execRegisterRead, h, done_eq]

theorem execRegisterWrite_word {s : State} (pf1 : Bool) (off : Nat) (v : W32) (h : s.windowOpen = true) : execRegisterWrite pf1 off v s 4 =
    .next (settled (s.beforeWrite pf1 off v.toNat) (State.unlatch s (s.writeReg pf1 off v.toNat) pf1 off)) := by
  simp [execRegisterWrite, h, done_eq]

/-- Only a release is judged against a state other than the one it finds. -/
theorem beforeWrite_of_ne {off : Nat} (s : State) (pf1 : Bool) (v : Nat) (h : off ≠ 0x300C) : s.beforeWrite pf1 off v = s := by
  simp [State.beforeWrite, h]

@[simp] theorem setFn_alertPin (s : State) (p : Bool) (f : PciFunction) : (s.setFn p f).host.alertPin = s.host.alertPin := by
  cases p <;> rfl

theorem unlatch_frame (old s : State) (p : Bool) (off : Nat) : State.unlatch old s p off = s ∨ ∃ f, State.unlatch old s p off = s.setFn p f := by
  unfold State.unlatch
  split
  · exact .inl rfl
  · exact .inr ⟨_, rfl⟩

theorem unlatch_alertPin (old s : State) (p : Bool) (off : Nat) : (State.unlatch old s p off).host.alertPin = s.host.alertPin := by
  rcases unlatch_frame old s p off with h | ⟨f, h⟩ <;> simp [h]

theorem unlatch_chan (old s : State) (p : Bool) (off c : Nat) : (State.unlatch old s p off).chan c = s.chan c := by
  rcases unlatch_frame old s p off with h | ⟨f, h⟩ <;> simp [h]

theorem unlatch_self (s : State) (p : Bool) (off : Nat) : State.unlatch s s p off = s := by simp [State.unlatch]

/-- A misaligned write is without effect. -/
theorem writeReg_misaligned {off : Nat} (s : State) (p : Bool) (v : Nat) (h : off % 4 ≠ 0) : s.writeReg p off v = s := by
  simp [State.writeReg, h]

/-- Settles O15. -/
theorem registerAccessesComplete : Obligations.RegisterAccessesComplete := by
  refine ⟨?_, ?_, ?_, ?_, ?_, ?_, ?_, ?_, ?_⟩
  · exact fun pf1 off s h => execRegisterRead_word pf1 off h
  · intro pf1 v s h
    refine (execRegisterWrite_word pf1 0x100 v h).trans ?_
    rw [beforeWrite_of_ne s pf1 _ (by decide)]
    rfl
  · intro pf1 v s h
    refine (execRegisterWrite_word pf1 0x104 v h).trans ?_
    rw [beforeWrite_of_ne s pf1 _ (by decide)]
    rfl
  · intro v s h
    refine ⟨_, execRegisterWrite_word true 0x7008 v h, ?_⟩
    rw [settled_host_alertPin, unlatch_alertPin]
    rfl
  · intro pf1 s h ho hnone
    refine ⟨_, execRegisterWrite_word pf1 0x300C 1 h, ?_⟩
    have hwrite : s.writeReg pf1 0x300C 1 = (s.freed (fnChan pf1)).placed (fnChan pf1) := by
      show (if _ then _ else _) = _
      rw [if_pos (by simp [ho])]
    rw [settled_chan, unlatch_chan, show (1 : W32).toNat = 1 from rfl, hwrite, Mailboxes.placed_chan, Mailboxes.freed_chan]
    simp [Channel.place, Channel.free, hnone]
  · intro pf1 off v s h hal
    refine (execRegisterWrite_word pf1 off v h).trans ?_
    rw [beforeWrite_of_ne s pf1 _ (by rintro rfl; exact hal rfl), writeReg_misaligned s pf1 _ hal, unlatch_self]
  · intro pf1 off size s h hsize
    show execRegisterRead pf1 off s size = _
    simp [execRegisterRead, h, hsize, done_eq]
  · intro pf1 off v size s h
    show execRegisterWrite pf1 off v s size = _
    rcases h with h | h <;> simp [execRegisterWrite, h]
  · intro pf1 k d3 timeout s h
    show execConfigSpaceWrite pf1 k d3 timeout s = _
    simp only [execConfigSpaceWrite, h, done_eq]
    rfl

/-! The DMA channels in the state. -/

theorem dma_setDma_self {s : State} {c : Nat} (x : DmaChannel) (h : c < s.host.channels.length) : (s.setDma c x).dma c = x := by
  simp [State.dma, State.setDma, h]

theorem setDma_length (s : State) (c : Nat) (x : DmaChannel) : (s.setDma c x).host.channels.length = s.host.channels.length :=
  List.length_set

theorem wakeChannels_length (s : State) : s.wakeChannels.host.channels.length = s.host.channels.length := by
  unfold State.wakeChannels
  split
  · rfl
  · exact List.length_map _

/-- Waking changes the state of a channel and when it may fetch, nothing of its descriptor. -/
theorem wakeAt_descriptor (now : Nat) (x : DmaChannel) : (x.wakeAt now).transfer = x.transfer ∧ (x.wakeAt now).lastStatus = x.lastStatus := by
  unfold DmaChannel.wakeAt DmaChannel.wake
  dsimp only
  repeat' split
  all_goals exact ⟨rfl, rfl⟩

theorem wakeChannels_dma {s : State} {c : Nat} (h : c < s.host.channels.length) :
    (s.wakeChannels.dma c).transfer = (s.dma c).transfer ∧ (s.wakeChannels.dma c).lastStatus = (s.dma c).lastStatus := by
  unfold State.wakeChannels
  split
  · exact ⟨rfl, rfl⟩
  · have hmap : ({ s with host := { s.host with channels := s.host.channels.map (DmaChannel.wakeAt s.now) } } : State).dma c =
        (s.dma c).wakeAt s.now := by simp [State.dma, h]
    rw [hmap]
    exact wakeAt_descriptor s.now (s.dma c)

theorem endHold_length (s : State) (c : Nat) (t : Transfer) (st : Nat) :
    (s.endHold c t st).host.channels.length = s.host.channels.length := by
  unfold State.endHold
  dsimp only
  repeat' split
  all_goals first | rfl | exact setDma_length s c _

theorem endDescriptor_length (s : State) (c : Nat) (t : Transfer) (st : Nat) :
    (s.endDescriptor c t st).host.channels.length = s.host.channels.length := by
  unfold State.endDescriptor
  dsimp only
  rw [wakeChannels_length]
  exact (setDma_length _ c _).trans (endHold_length s c t st)

/-- An ended descriptor is gone, and its status kept (R434). -/
theorem endDescriptor_dma {s : State} {c : Nat} (t : Transfer) (st : Nat) (h : c < s.host.channels.length) :
    ((s.endDescriptor c t st).dma c).transfer = none ∧ ((s.endDescriptor c t st).dma c).lastStatus = st := by
  have hlen : c < (s.endHold c t st).host.channels.length := by rwa [endHold_length]
  unfold State.endDescriptor
  extract_lets s1 x s2
  have hdma : ((s2.setIrq c (st == 1 && t.irq) (st != 1)).dma c) = s2.dma c := rfl
  obtain ⟨ht, hs⟩ := wakeChannels_dma (s := s2.setIrq c (st == 1 && t.irq) (st != 1)) (c := c)
    (by rw [show (s2.setIrq c (st == 1 && t.irq) (st != 1)).host.channels = s2.host.channels from rfl, setDma_length]; exact hlen)
  rw [ht, hs, hdma, dma_setDma_self _ hlen]
  exact ⟨rfl, rfl⟩

theorem abandonRings_channels (s : State) (c : Nat) : (s.abandonRings c).host.channels = s.host.channels := by
  unfold State.abandonRings
  generalize s.ringsOn c = l
  induction l generalizing s with
  | nil => rfl
  | cons r l ih =>
    rw [List.foldl_cons, ih]
    unfold State.setHostRing
    split
    · rfl
    · split <;> rfl

theorem abandonChannel_length (s : State) (c : Nat) : (s.abandonChannel c).host.channels.length = s.host.channels.length := by
  unfold State.abandonChannel
  dsimp only
  split
  · rw [setDma_length, abandonRings_channels]
  split
  · exact endDescriptor_length s c _ 6
  · rfl

/-! Resets (R425, R443). -/

theorem flrChannel_dma {s : State} {c : Nat} (h : c < s.host.channels.length) : (s.flrChannel c).dma c =
    { (s.abandonChannel c).dma c with state := .idle, enable := false, request := false, base := 0, log2 := 4, tail := 0, head := 0 } :=
  dma_setDma_self _ (by rwa [abandonChannel_length])

theorem abandonChannel_of_run {s : State} {c : Nat} (hr : (s.dma c).request = false)
    (hst : (s.dma c).state = .running ∨ (s.dma c).state = .halted) :
    s.abandonChannel c = s.endDescriptor c ((s.dma c).transfer.getD (Transfer.start [])) 6 := by
  rcases hst with hst | hst <;> simp [State.abandonChannel, hr, hst]

/-- The mailboxes of the two functions and the balls are the same. -/
structure SameBoxes (s t : State) : Prop where
  ns : t.ns = s.ns
  sec : t.sec = s.sec
  pins : t.pins = s.pins

theorem SameBoxes.rfl' (s : State) : SameBoxes s s := ⟨rfl, rfl, rfl⟩

theorem SameBoxes.trans {s t u : State} (h : SameBoxes s t) (g : SameBoxes t u) : SameBoxes s u :=
  ⟨g.ns.trans h.ns, g.sec.trans h.sec, g.pins.trans h.pins⟩

theorem SameBoxes.foldl {α : Type} {f : State → α → State} (hf : ∀ s a, SameBoxes s (f s a)) (l : List α) (s : State) :
    SameBoxes s (l.foldl f s) := by
  induction l generalizing s with
  | nil => exact .rfl' s
  | cons a l ih => exact (hf s a).trans (ih _)

theorem wakeChannels_boxes (s : State) : SameBoxes s s.wakeChannels := by
  unfold State.wakeChannels
  split <;> exact ⟨rfl, rfl, rfl⟩

theorem endHold_boxes (s : State) (c : Nat) (t : Transfer) (st : Nat) : SameBoxes s (s.endHold c t st) := by
  unfold State.endHold
  dsimp only
  repeat' split
  all_goals exact ⟨rfl, rfl, rfl⟩

theorem endDescriptor_boxes (s : State) (c : Nat) (t : Transfer) (st : Nat) : SameBoxes s (s.endDescriptor c t st) := by
  unfold State.endDescriptor
  extract_lets s1 x s2
  have hend : SameBoxes s1 (s2.setIrq c (st == 1 && t.irq) (st != 1)) := ⟨rfl, rfl, rfl⟩
  exact ((endHold_boxes s c t st).trans hend).trans (wakeChannels_boxes _)

theorem setHostRing_boxes (s : State) (r : Nat) (x : HostRing) : SameBoxes s (s.setHostRing r x) := by
  unfold State.setHostRing
  repeat' split
  all_goals exact ⟨rfl, rfl, rfl⟩

theorem flrChannel_boxes (s : State) (c : Nat) : SameBoxes s (s.flrChannel c) := by
  have habandon : SameBoxes s (s.abandonChannel c) := by
    unfold State.abandonChannel
    dsimp only
    split
    · exact (SameBoxes.foldl (fun s r => setHostRing_boxes s r _) _ s).trans ⟨rfl, rfl, rfl⟩
    split
    · exact endDescriptor_boxes s c _ 6
    · exact .rfl' s
  exact habandon.trans ⟨rfl, rfl, rfl⟩

theorem unhalt_boxes (s : State) : SameBoxes s s.unhalt := by
  have hrun : SameBoxes s { s with host := { s.host with halted := false } } := ⟨rfl, rfl, rfl⟩
  unfold State.unhalt
  split
  · exact hrun.trans (wakeChannels_boxes _)
  · exact .rfl' s

/-- A function's reset puts its own mailbox back and leaves the other function's. -/
theorem resetFunction_boxes (s : State) (p : Bool) :
    (s.resetFunction p).ns = (if p then s.ns else s.ns.flr) ∧ (s.resetFunction p).sec = (if p then s.sec.flr else s.sec) ∧
      (s.resetFunction p).pins = s.pins := by
  have hflr := SameBoxes.foldl flrChannel_boxes ((List.range 16).filter fun c => s.ownedByPf1 c == p) s
  unfold State.resetFunction
  extract_lets s1 s2
  have hun := unhalt_boxes (s2.setChan (fnChan p) (s2.chan (fnChan p)).flr)
  rw [hun.ns, hun.sec, hun.pins]
  cases p
  · exact ⟨congrArg Channel.flr hflr.ns, hflr.sec, hflr.pins⟩
  · exact ⟨hflr.ns, congrArg Channel.flr hflr.sec, hflr.pins⟩

theorem resetFunction_own (s : State) (p : Bool) : (s.resetFunction p).chan (fnChan p) = (s.chan (fnChan p)).flr := by
  obtain ⟨hns, hsec, -⟩ := resetFunction_boxes s p
  cases p
  · exact hns
  · exact hsec

theorem execFunctionLevelReset_up {s : State} (p : Bool) (h : s.windowOpen = true) :
    execFunctionLevelReset p s = .next (settled s (s.resetFunction p)) := by
  simp [execFunctionLevelReset, h, done_eq]

/-- The state in which a reset finds the functions: under PERST_N the ball is low. -/
def perstLow (s : State) : State := { s with pins := { s.pins with perstN := false } }

theorem execLinkReset_up {s : State} (h : s.windowOpen = true) :
    execLinkReset false s = .next (settled s ((s.resetFunction false).resetFunction true)) := by
  simp [execLinkReset, h, done_eq]

theorem execLinkReset_perst {s : State} (h : s.windowOpen = true) : execLinkReset true s = .next (settled s
    { ((perstLow s).resetFunction false).resetFunction true with
      host := { (((perstLow s).resetFunction false).resetFunction true).host with linkUp := false } }) := by
  simp only [execLinkReset, h, if_true, Bool.not_true, Bool.false_eq_true, if_false, done_eq]
  rfl

/-- Settles O16: the reset of a function is that of its channels (`flrChannel_dma`), its registers and its mailbox (`resetFunction_boxes`). -/
theorem functionResetsComplete : Obligations.FunctionResetsComplete := by
  refine ⟨?_, ?_, ?_, ?_, ?_, ?_, ?_, ?_, ?_⟩
  · exact fun pf1 s h => ⟨_, _, _, rfl, rfl, rfl, execFunctionLevelReset_up pf1 h⟩
  · intro pf1 s h
    constructor
    · show execFunctionLevelReset pf1 s = _
      simp [execFunctionLevelReset, h]
    · show execLinkReset false s = _
      simp [execLinkReset, h]
  · exact fun s h => execLinkReset_up h
  · exact fun s h => ⟨_, rfl, execLinkReset_perst h⟩
  · intro c s hc
    rw [flrChannel_dma hc]
    refine ⟨rfl, rfl, rfl, rfl, rfl, rfl, rfl, fun hr hst => ?_⟩
    rw [abandonChannel_of_run hr hst]
    exact endDescriptor_dma _ 6 hc
  · intro pf1 s h
    refine ⟨_, execFunctionLevelReset_up pf1 h, ?_⟩
    rw [settled_chan, resetFunction_own]
    exact ⟨rfl, rfl, rfl, rfl⟩
  · intro s h
    obtain ⟨hns, hsec, hpins⟩ := resetFunction_boxes s false
    obtain ⟨hns', hsec', hpins'⟩ := resetFunction_boxes (s.resetFunction false) true
    refine ⟨_, execLinkReset_up h, ?_⟩
    rw [settled_ns, settled_sec, settled_pins, hns', hsec', hpins', hns, hpins]
    exact ⟨rfl, rfl, rfl, rfl, rfl⟩
  · intro s h
    obtain ⟨hns, hsec, hpins⟩ := resetFunction_boxes (perstLow s) false
    obtain ⟨hns', hsec', hpins'⟩ := resetFunction_boxes ((perstLow s).resetFunction false) true
    refine ⟨_, execLinkReset_perst h, ?_⟩
    rw [settled_ns, settled_sec, settled_pins, settled_host_linkUp]
    exact ⟨congrArg Channel.pending (hns'.trans hns), congrArg Channel.pending hsec', rfl, congrArg Pins.perstN (hpins'.trans hpins)⟩
  · intro s h
    show execLinkReset true s = _
    simp [execLinkReset, h]

/-! The registers of a DMA channel (R427, R428, R434). -/

theorem mayWriteChannel_of_owner {s : State} {pf1 : Bool} {c : Nat} (h : s.windowOpen = true) (hc : c < 16) (ho : s.ownedByPf1 c = pf1) :
    s.mayWriteChannel pf1 c = true := by
  simp [State.mayWriteChannel, h, hc, ho]

theorem mayWriteChannel_of_other {s : State} {pf1 : Bool} {c : Nat} (ho : s.ownedByPf1 c ≠ pf1) : s.mayWriteChannel pf1 c = false := by
  simp [State.mayWriteChannel, ho]

/-- Bit `i` of a byte of flags is flag `i`. -/
theorem testBit_flagByte (fs : List Bool) (i : Nat) : Nat.testBit (flagByte fs) i = fs.getD i false := by
  induction fs generalizing i with
  | nil => exact Nat.zero_testBit i
  | cons f fs ih =>
    have hcons : flagByte (f :: fs) = flagByte fs * 2 + f.toNat := rfl
    cases i with
    | zero => cases f <;> simp [hcons, Nat.testBit_zero]
    | succ i =>
      have hhalf : (flagByte fs * 2 + f.toNat) / 2 = flagByte fs := by cases f <;> simp; omega
      rw [hcons, Nat.testBit_succ, hhalf, ih]
      rfl

/-- SEC_DMA_OWNER, channel by channel. -/
theorem writeOwner_ownedByPf1 {s : State} {v c : Nat} (hc : c < 16) : (s.writeOwner v).ownedByPf1 c =
    (if s.channelState c == .idle && !(s.dma c).enable && (s.ringsOn c).isEmpty then Nat.testBit v c else s.ownedByPf1 c) := by
  show (BitVec.ofNat 16 _).getLsbD c = _
  rw [BitVec.getLsbD_ofNat, decide_eq_true hc, Bool.true_and, testBit_flagByte]
  simp [List.getD, hc, State.ownedByPf1]

/-- Settles O17. -/
theorem dmaRegisterWritesComplete : Obligations.DmaRegisterWritesComplete := by
  refine ⟨?_, ?_, ?_, ?_, ?_⟩
  · intro pf1 c v s h hc ho
    show execDmaChTailWrite pf1 c v s = _
    simp [execDmaChTailWrite, mayWriteChannel_of_owner h hc ho, done_eq, State.writeDmaTail]
  · intro pf1 c v s h hc ho
    show execDmaChEnable pf1 c v s = _
    simp [execDmaChEnable, mayWriteChannel_of_owner h hc ho, done_eq]
  · intro pf1 c s h hc ho
    show execDmaChRestart pf1 c s = _
    simp [execDmaChRestart, mayWriteChannel_of_owner h hc ho, done_eq]
  · intro pf1 c v s ho
    refine ⟨?_, ?_, ?_⟩
    · show execDmaChEnable pf1 c v s = _
      simp [execDmaChEnable, mayWriteChannel_of_other ho]
    · show execDmaChRestart pf1 c s = _
      simp [execDmaChRestart, mayWriteChannel_of_other ho]
    · show execDmaChTailWrite pf1 c v s = _
      simp [execDmaChTailWrite, mayWriteChannel_of_other ho]
  · intro v s h
    refine ⟨settled s (s.writeOwner v.toNat), by show execSecDmaOwnerWrite true v s = _; simp [execSecDmaOwnerWrite, h, done_eq], ?_⟩
    intro c hc
    rw [State.ownedByPf1, settled_host_owner]
    exact writeOwner_ownedByPf1 hc

end Sys2Proof.FunctionRegisters

/-! PROOFS. What creating tasks changes: the tasks and miners, nothing else (spec 11 R329-R333). -/
namespace Sys2Proof.Tasks
open Machine Claims

theorem addTask_frame {s t : State} {type k : Nat} {w : Work} (h : s.addTask type w = some (k, t)) : MinersOnly s t := by
  simp only [State.addTask, Option.map_eq_some_iff, Prod.mk.injEq] at h
  obtain ⟨i, -, -, rfl⟩ := h
  exact .trans ⟨_, rfl⟩ (State.makeReady_frame _ i false)

theorem newTask_frame {s t : State} {type k : Nat} {w : Work} (h : s.newTask type w = some (k, t)) : MinersOnly s t := addTask_frame h

theorem newTasks_frame {type : Nat} {w : Work} {n : Nat} {s t : State} (h : State.newTasks type w n s = some t) : MinersOnly s t := by
  induction n generalizing s t with
  | zero => exact Option.some.inj h ▸ .rfl' s
  | succ n ih =>
    unfold State.newTasks at h
    split at h
    · cases h
    next k s1 h1 =>
      cases h
      cases h2 : State.newTasks type w n s1 with
      | none => exact newTask_frame h1
      | some s2 => exact (newTask_frame h1).trans (ih h2)

/-- Where one slot is free, tasks are created. -/
theorem newTasks_of_newTask {type : Nat} {w : Work} (n : Nat) {s : State} (h : (s.newTask type w).isSome = true) :
    ∃ t, State.newTasks type w (n + 1) s = some t ∧ MinersOnly s t := by
  obtain ⟨⟨k, s1⟩, h1⟩ := Option.isSome_iff_exists.mp h
  have h2 : State.newTasks type w (n + 1) s = some ((State.newTasks type w n s1).getD s1) := by rw [State.newTasks, h1]
  exact ⟨_, h2, newTasks_frame h2⟩

end Sys2Proof.Tasks

/-! PROOFS. What a boundary, and the work it brings with it, leaves of the commit in progress (spec 01 R34, 17 R491). -/
namespace Sys2Proof.CommitTerms
open Machine Claims

/-- A projection that every step of a fold leaves is left by the fold. -/
theorem foldl_keeps {β γ : Type} (π : State → γ) {f : State → β → State} (hf : ∀ s a, π (f s a) = π s) (l : List β) (s : State) :
    π (l.foldl f s) = π s := by
  induction l generalizing s with
  | nil => rfl
  | cons a l ih => rw [List.foldl_cons, ih, hf]

/-- The epoch, and what a member keeps of a commit of the pair: the shadow it has prepared, and the command that waits. -/
def terms (s : State) : Epoch × Option W16 × Option Msg × Bool :=
  (s.epoch, s.pair.prepared, s.pair.commitMsg, s.pair.commitSent)


theorem terms_onPeer (s : State) (x : PeerWord) : terms (s.onPeer x) = terms s := by simp [terms]
theorem terms_pairChange (s : State) (c : Nat) : terms (s.pairChange c) = terms s := by simp [terms]
theorem terms_pairEvent (s : State) (c i : Nat) (d : Bytes) : terms (s.pairEvent c i d) = terms s := by simp [terms]
theorem terms_setPair (s : State) (st : PairState) (r : Role) : terms (s.setPair st r) = terms s := by simp [terms]

/-! Writes of device memory (R353-R355, R492). -/

theorem terms_journalLive (s : State) (i : Nat) (p : Bytes) (k : Nat) : terms (s.journalLive i p k) = terms s := by
  unfold State.journalLive State.journalAdd
  dsimp only
  split
  · rw [terms_onPeer]; rfl
  · split <;> simp [terms]

theorem terms_queueWrite (s : State) (i : Nat) (p : Bytes) : terms (s.queueWrite i p) = terms s := by
  unfold State.queueWrite
  dsimp only
  split
  · rw [terms_journalLive]; rfl
  · rfl

theorem terms_issueRead (s : State) (c : Nat) : terms (s.issueRead c) = terms s := by
  unfold State.issueRead
  split <;> rfl

theorem terms_issueBatch (s : State) (c : Nat) : terms (s.issueBatch c) = terms s :=
  foldl_keeps terms (f := State.issueWrite) (fun _ _ => rfl) _ s

theorem terms_waitRoom (i n : Nat) (s : State) : terms (State.waitRoom i n s) = terms s := by
  induction n generalizing s with
  | zero => rfl
  | succ n ih =>
    unfold State.waitRoom
    split
    · rfl
    · split
      · rw [ih, terms_issueRead, terms_issueBatch]
      · rfl

theorem terms_putTile (s : State) (i : Nat) (p : Bytes) : terms (s.putTile i p) = terms s := by
  unfold State.putTile State.taskWrite
  rw [terms_queueWrite, terms_waitRoom]

/-! The tables of a boundary, one after the other. -/

theorem terms_makeCopy (s : State) (x : FwdItem) : terms (s.makeCopy x) = terms s := by
  unfold State.makeCopy
  split
  · exact (terms_putTile _ _ _)
  · rfl

theorem terms_settleCopies (s : State) : terms s.settleCopies = terms s := by
  unfold State.settleCopies
  dsimp only
  rw [foldl_keeps terms terms_makeCopy]
  exact foldl_keeps terms (f := fun s (c : FwdItem × Nat) => s.releaseRun (c.2, 1)) (fun _ _ => rfl) _ s

theorem terms_dropSeam (n i : Nat) (s : State) : terms (State.dropSeam n i s) = terms s := by
  induction n generalizing i s with
  | zero => rfl
  | succ n ih =>
    unfold State.dropSeam
    split
    · rfl
    next x _ =>
      cases x.body with
      | run f k => dsimp only; split <;> rfl
      | group ms => exact foldl_keeps terms (fun s m => ih m s) ms s
      | pieces _ => rfl
      | store _ => rfl

theorem terms_settleGroups (old s : State) : terms (State.settleGroups old s) = terms s :=
  foldl_keeps terms (fun s i => terms_dropSeam _ i s) _ s

theorem terms_settleRules (s : State) : terms s.settleRules = terms s := by
  refine foldl_keeps terms (fun s e => ?_) _ s
  exact foldl_keeps terms (f := State.releaseRun) (fun _ _ => rfl) _ _

theorem terms_request (s : State) (k : Nat) : terms (s.request k) = terms s := by
  obtain ⟨m, h⟩ := s.request_frame k
  rw [h]
  rfl

theorem terms_requests (s : State) : terms s.requests = terms s := by
  unfold State.requests
  split
  · rfl
  · exact foldl_keeps terms terms_request _ s

theorem terms_enlist (s : State) (k : Nat) : terms (s.enlist k) = terms s := by
  unfold State.enlist
  split <;> rfl

theorem terms_relevel (s : State) (type : Nat) : terms (s.relevel type) = terms s := by
  unfold State.relevel
  rw [terms_requests, foldl_keeps terms terms_enlist]
  exact foldl_keeps terms (f := State.unready) (fun _ _ => rfl) _ s

theorem terms_applyTaskPlan (old s : State) : terms (State.applyTaskPlan old s) = terms s := by
  unfold State.applyTaskPlan
  rw [terms_requests]
  refine foldl_keeps terms (fun s i => ?_) _ s
  split
  · rfl
  · exact terms_relevel s _

theorem terms_retrain (s : State) (p : Nat) : terms (s.retrain p) = terms s := by simp [terms]
theorem terms_canaryStop (s : State) (r : Nat) : terms (s.canaryStop r) = terms s := by simp [terms]
theorem terms_noteLinks (old s : State) : terms (State.noteLinks old s) = terms s := by simp [terms]

theorem terms_applyPorts (old s : State) : terms (State.applyPorts old s) = terms s := by
  have hports (x : State) : terms (State.noteLinks old (State.relock (List.range 26) ((List.range 24).foldl (fun s p =>
      if (old.portCfg p).retrains (s.portCfg p) || (old.portCfg p).enable != (s.portCfg p).enable || old.portsHeld != s.portsHeld
      then s.retrain p else s) x))) = terms x := by
    rw [terms_noteLinks]
    refine foldl_keeps terms (fun s p => ?_) _ x
    split
    · exact terms_retrain s p
    · rfl
  unfold State.applyPorts
  dsimp only
  split
  · rw [terms_canaryStop, hports]; rfl
  · rw [hports]; rfl

theorem terms_growRuns (l : List (Nat × Nat)) (acc : List Nat × State) :
    terms (l.foldl (fun (acc : List Nat × State) r =>
      let (i, s') := acc.2.newSeam { body := .run r.1 r.2, host := false, owns := true }
      (acc.1 ++ [i], s')) acc).2 = terms acc.2 := by
  induction l generalizing acc with
  | nil => rfl
  | cons a l ih => exact (ih _).trans rfl

theorem terms_applyGrowth (s : State) : terms s.applyGrowth = terms s := by
  refine (foldl_keeps terms (fun s g => ?_) _ _ : _)
  dsimp only
  split
  next x _ =>
    cases x.body with
    | run f n => exact terms_growRuns g.runs ([], _)
    | group l => exact terms_growRuns g.runs ([], _)
    | pieces _ => exact terms_growRuns g.runs ([], _)
    | store _ => exact terms_growRuns g.runs ([], _)
  · exact terms_growRuns g.runs ([], _)

theorem terms_boundaryLearned (old s : State) (pipe : Bool) : terms (State.boundaryLearned old s pipe) = terms s := rfl

theorem terms_applyPtp (old s : State) : terms (State.applyPtp old s) = terms s := by
  refine foldl_keeps terms (fun s p => ?_) _ s
  split <;> rfl

theorem terms_applyTokens (old s : State) : terms (State.applyTokens old s) = terms s := by
  simp only [terms, State.applyTokens]
theorem terms_applyNodes (old s : State) : terms (State.applyNodes old s) = terms s := by
  simp only [terms, State.applyNodes]
theorem terms_applyPeriods (old s : State) : terms (State.applyPeriods old s) = terms s := by
  obtain ⟨f, hf⟩ : ∃ f, State.applyPeriods old s = { s with flow := f } := ⟨_, rfl⟩
  rw [hf]
  rfl
theorem terms_applyIntervals (old s : State) : terms (State.applyIntervals old s) = terms s := rfl

theorem terms_applyForwarding (old s : State) : terms (State.applyForwarding old s) = terms s := by
  unfold State.applyForwarding
  exact (terms_boundaryLearned old _ true).trans (terms_boundaryLearned old s false)

theorem terms_applyTables (old s : State) : terms (State.applyTables old s) = terms s := by
  have hmended (x : State) : terms x.applyMended = terms x := rfl
  have hpeak (x : State) : terms x.notePeak = terms x := rfl
  have hbuilds (x : State) : terms x.applyBuilds = terms x := rfl
  unfold State.applyTables
  dsimp only
  rw [hpeak, terms_settleCopies, terms_settleGroups, terms_settleRules, terms_applyIntervals, terms_applyPtp, terms_applyPeriods,
    terms_applyForwarding, terms_applyNodes, terms_applyTokens, hmended, hbuilds, terms_applyGrowth, terms_applyTaskPlan, terms_applyPorts]

/-- A boundary sets its number, and leaves what the pair's commit keeps. -/
theorem terms_boundary (s : State) (e : W16) :
    terms (s.boundary e) =
      ({ s.epoch with current := e, changes := 0, sequence := s.epoch.sequence + 1, lastSec := BitVec.ofNat 32 s.time.sec.toNat,
                      lastNs := BitVec.ofNat 32 s.time.ns }, s.pair.prepared, s.pair.commitMsg, s.pair.commitSent) :=
  terms_applyTables s _

theorem boundary_current (s : State) (e : W16) : (s.boundary e).epoch.current = e := by
  have h := terms_boundary s e
  rw [terms, Prod.mk.injEq] at h
  rw [h.1]

theorem boundary_prepared (s : State) (e : W16) : (s.boundary e).pair.prepared = s.pair.prepared := by
  have h := terms_boundary s e
  simp only [terms, Prod.mk.injEq] at h
  exact h.2.1

theorem boundary_commitSent (s : State) (e : W16) : (s.boundary e).pair.commitSent = s.pair.commitSent := by
  have h := terms_boundary s e
  simp only [terms, Prod.mk.injEq] at h
  exact h.2.2.2

end Sys2Proof.CommitTerms

/-! PROOFS. The pair's protocol: joining, forwarding's answers and the commit in two phases (spec 02 R42, 17 R488-R497). -/
namespace Sys2Proof.PairProtocol
open Machine Claims Answers CommitTerms

/-! A member that becomes JOINED (R488, R497). -/

theorem becomeJoined_state (s : State) (r : Role) : (s.becomeJoined r).pair.state = .joined := by simp [State.becomeJoined]
theorem becomeJoined_role (s : State) (r : Role) : (s.becomeJoined r).pair.role = r := by simp [State.becomeJoined]
theorem becomeJoined_peerSerial (s : State) (r : Role) : (s.becomeJoined r).pair.peerSerial = s.pair.peerSerial := by
  simp [State.becomeJoined]
theorem becomeJoined_rejoins (s : State) (r : Role) : (s.becomeJoined r).pair.rejoins = s.pair.rejoins := by
  simp [State.becomeJoined]

/-- A join request that every item meets. -/
theorem execJoinRequest_of {j : JoinFacts} {s : State} {primary : Bool} (hr : joinRole j (s.facts false) = some primary)
    (hi : s.life.state = .init) (hf : joinFails j (s.facts false) = none) :
    ∃ x : State, x.pair.peerSerial = j.serial ∧
      execJoinRequest j s = .next (settled s ((x.joins (pairRole !primary)).pairChange 0x01)) := by
  refine ⟨_, ?_, by simp [execJoinRequest, hr, hi, hf, done_eq]; rfl⟩
  rfl

/-- PREPARE touches the pair and the bus alone, so nothing is sent beside the word. -/
theorem settled_out_of_onEach (s : State) (p : Pair) (x : PeerWord) :
    (settled s ({ s with pair := p }.onEach x)).out = s.out ++ s.lanesOut.map fun l => .peer l x := by
  rw [State.onEach_eq]
  exact settled_out_quiet s _ (ErrLog.inOrder_self s.err) fun _ _ h => h

/-- The other member's word OK, or another, to a forwarded command. -/
theorem execPeerReplyArrival_of {ch : Nat} {status detail : W16} {params : Bytes} {s : State} {m : Msg} {r : Reply} {d : Option DevState}
    (hch : ch < 4) (hw : (s.chan ch).waiting = some (.peer m r d)) :
    ∃ x, x = { s with pair := { s.pair with out := { s.pair.out with pending := false, outStatus := false } } } ∧
      execPeerReplyArrival ch status detail params s =
        if status = 0 then .next (settled s (x.endWait ch r d)) else .next (settled s ((x.endWait ch r.alone d).diverge false 2)) := by
  refine ⟨_, rfl, ?_⟩
  simp [execPeerReplyArrival, hw, Nat.not_lt.mpr (Nat.le_of_lt_succ hch), done_eq]

/-- Settles O24. -/
theorem pairProtocolCompletes : Obligations.PairProtocolCompletes := by
  refine ⟨?_, ?_, ?_, ?_, ?_, ?_, ?_, ?_, ?_⟩
  · intro j s primary hr hi hf
    obtain ⟨x, hx, he⟩ := execJoinRequest_of hr hi hf
    refine ⟨_, he, ?_, ?_, ?_⟩ <;> rw [settled_pair]
    · simp [State.joins, becomeJoined_state]
    · simp [State.joins, becomeJoined_role]
    · rw [State.pairChange_pair_peerSerial, State.joins, becomeJoined_peerSerial, ← hx]
      rfl
  · intro j s hb hf
    refine ⟨_, by show execRejoinRequest j s = _; simp [execRejoinRequest, hb, hf, done_eq]; rfl, ?_, ?_, ?_⟩ <;> rw [settled_pair]
    · rw [State.pairChange_pair_holding]
    · rw [State.pairChange_pair_journal]; rfl
    · rw [State.pairChange_pair_peerSerial]
  · intro ch detail params s m r d hch hw
    exact execPeerReplyArrival_of (status := 0) (detail := detail) (params := params) hch hw
  · intro ch status detail params s m r d hch hw hs
    obtain ⟨x, hx, he⟩ := execPeerReplyArrival_of (status := status) (detail := detail) (params := params) hch hw
    exact ⟨x, hx, by rw [if_neg hs] at he; exact he⟩
  · intro taken timeout outStatus s hw
    refine ⟨_, by
      show execPeerMailboxFlags taken timeout outStatus s = _
      have hw' (p : Pair) : State.waitsForPeer { s with pair := p } = false := hw
      simp [execPeerMailboxFlags, hw', done_eq]; rfl, by rw [settled_pair]⟩
  · intro e s hr hj hb
    refine ⟨_, by show execPairPrepare e s = _; simp [execPairPrepare, hr, hj, hb, done_eq]; rfl, ?_, ?_, settled_out_of_onEach s _ _⟩
    · simp [State.sealed]
    · simp
  · intro e e0 s hp
    refine ⟨_, by show execPairCommit e s = _; simp [execPairCommit, hp, done_eq]; rfl, ?_, ?_⟩
    · rw [settled_epoch, State.onEach_epoch, boundary_current]
    · rw [settled_pair, State.onEach_pair, boundary_prepared]
  · intro s m hm hs
    refine ⟨_, by show execPairReady s = _; simp [execPairReady, hm, hs, done_eq]; rfl, ?_, ?_⟩
    · simp [boundary_current]
    · simp [boundary_commitSent]
  · intro s m m2 r hm hw
    exact ⟨_, rfl, by show execPairApplyConfirm s = _; simp [execPairApplyConfirm, hm, hw, done_eq]⟩

/-! The pair commands (R488, R497, R498, R501). -/

theorem joins_state (s : State) (r : Role) : (s.joins r).pair.state = .joined := becomeJoined_state _ r
theorem joins_role (s : State) (r : Role) : (s.joins r).pair.role = r := becomeJoined_role _ r

theorem bodyPairJoin_of {m : Msg} {s : State} (h0 : m.p 0 ≤ 1) (hz : zeroAt m [1, 2, 3] = true) (hh : s.peerHeard = true)
    (hf : joinFails (s.facts (m.p 0 == 1)) s.pair.peerFacts = none) :
    ∃ x role, role = pairRole ((joinRole (s.facts (m.p 0 == 1)) s.pair.peerFacts).getD false) ∧ x.pair.state = .joined ∧
      x.pair.role = role ∧ bodyPairJoin m s = ok x (le 1 role.code ++ zeros 7 ++ le 8 s.pair.peerFacts.serial.toNat) := by
  refine ⟨_, _, rfl, ?_, ?_, by
    simp only [bodyPairJoin, if_neg (Nat.not_lt.mpr h0), needZero_of _ _ _ _ hz, hh, hf, Bool.not_true, Bool.false_eq_true, if_false]; rfl⟩
  · simp [joins_state]
  · simp [joins_role]

/-- A SOLO primary whose peer meets the items and that has a slot for a task starts to be SYNCING. -/
theorem bodyPairRejoin_of {m : Msg} {s : State} (hz : zeroAt m (span 0 3) = true) (hs : s.pair.state = .solo) (hr : s.pair.role = .primary)
    (hh : s.peerHeard = true) (hf : rejoinFails (s.facts false) s.pair.peerFacts = none)
    (ht : (s.newTask TaskType.command .liveCopy).isSome = true) :
    ∃ x : State, x.pair.state = .syncing ∧ x.pair.role = .primary ∧ x.pair.journal = [] ∧
      bodyPairRejoin m s = ok x (le 4 (s.pair.rejoinSeq + 1).toNat) := by
  obtain ⟨s0, h0, m, rfl⟩ := Tasks.newTasks_of_newTask 7 ht
  refine ⟨_, ?_, ?_, ?_, by
    rw [bodyPairRejoin, needZero_of _ _ _ _ hz]
    simp only [hs, hr, hh, hf, h0, beq_self_eq_true, Bool.and_self, Bool.not_true, Bool.false_eq_true, if_false]; rfl⟩
  · simp
  · simp
  · simp [Pair.freshJournal]

/-- Settles O25. -/
theorem pairCommandsComplete : Obligations.PairCommandsComplete := by
  refine ⟨?_, ?_, ?_, ?_, ?_, ?_, ?_⟩
  · intro m s hp h0 hz hh hf
    obtain ⟨x, role, hrole, hstate, hx, hb⟩ := bodyPairJoin_of h0 hz hh hf
    exact ⟨x, role, hrole, hstate, hx, run_answers cmdPairJoin m s _ hp hb⟩
  · intro m s hp hz hh
    refine run_answers cmdPairLeave m s _ hp ?_
    simp [cmdPairLeave, bodyPairLeave, needZero_of _ _ _ _ hz, hh]
    rfl
  · intro m s hp hz hh
    refine run_answers cmdPairLeave m s _ hp ?_
    simp [cmdPairLeave, bodyPairLeave, needZero_of _ _ _ _ hz, hh]
    rfl
  · intro m s hp hz
    have h0 : m.norm.p 0 = 0 := p_of_zeroAt hz 0 (by decide)
    refine run_answers cmdPairStatus m s _ hp ?_
    simp [cmdPairStatus, bodyPairStatus, needZero_of_subset hz (l' := [1, 2, 3]) (by decide), h0, State.draw]
    rfl
  · intro m s hp hz hs hr hh hf ht
    obtain ⟨x, hstate, hrole, hj, hb⟩ := bodyPairRejoin_of hz hs hr hh hf ht
    exact ⟨x, hstate, hrole, hj, run_answers cmdPairRejoin m s _ hp hb⟩
  · intro m s hp hz
    have h0 : m.norm.p 0 = 0 := p_of_zeroAt hz 0 (by decide)
    refine run_answers cmdPairConfig m s _ hp ?_
    simp [cmdPairConfig, bodyPairConfig, needZero_of_subset hz (l' := span 1 7) (by decide), h0]
  · intro m s hp h0 h1 hlo hhi hz
    refine ⟨_, rfl, run_answers cmdPairConfig m s _ hp ?_⟩
    have hne : m.norm.f 2 2 ≠ 0 := by omega
    simp [cmdPairConfig, bodyPairConfig, needZero_of _ _ _ _ hz, h0, Nat.not_lt.mpr h1, hne, Nat.not_lt.mpr hhi]

end Sys2Proof.PairProtocol

/-! PROOFS. The pair when its peer speaks, falls silent or comes back (spec 17 R487-R497). -/
namespace Sys2Proof.PairTakeover
open Machine Claims PairProtocol

/-! Heartbeats sent (R101, R487). -/

/-- The state after the heartbeats of the lanes that are UP. -/
def beaten (s : State) : State :=
  s.lanesUp.foldl (fun x p => x.sendBeat p (s.heartbeat (p == 25))) { s with pair := { s.pair with beat := s.now } }

/-- An alert sent late of the journal, or nothing, behind the heartbeats: it touches neither the pair nor the bus. -/
theorem execHeartbeatSend_of {s : State} (hb : s.booted = true) (ht : s.pair.beat + 100000 ≤ s.now) :
    ∃ t, execHeartbeatSend s = .next t ∧ t.pair = (beaten s).pair ∧ (beaten s).out <+: t.out := by
  refine ⟨_, by simp only [execHeartbeatSend, hb, decide_eq_false (Nat.not_lt.mpr ht), Bool.not_true, Bool.false_or, Bool.false_eq_true,
    if_false, done_eq]; rfl, ?_, ?_⟩
  · rw [settled_pair]
    split <;> rfl
  · refine List.IsPrefix.trans ?_ (settled_out s _)
    split <;> exact List.prefix_rfl

theorem lanesUp_east {s : State} (h0 : (s.port 24).link = .up) (h1 : (s.port 25).link ≠ .up) : s.lanesUp = [24] := by
  simp [State.lanesUp, h0, h1]

theorem lanesUp_both {s : State} (h0 : (s.port 24).link = .up) (h1 : (s.port 25).link = .up) : s.lanesUp = [24, 25] := by
  simp [State.lanesUp, h0, h1]

theorem sendBeat_through {s : State} {p : Nat} (h : Heartbeat) (hl : (s.port p).loopback = 0) :
    s.sendBeat p h = s.send (.peer p (.heartbeat h)) := by
  simp [State.sendBeat, hl]

theorem sendBeat_both {s : State} (a b : Heartbeat) (h0 : (s.port 24).loopback = 0) (h1 : (s.port 25).loopback = 0) :
    (s.sendBeat 24 a).sendBeat 25 b = (s.send (.peer 24 (.heartbeat a))).send (.peer 25 (.heartbeat b)) := by
  rw [sendBeat_through a h0]
  exact sendBeat_through b h1

theorem sendBeat_looped {s : State} (h : Heartbeat) (hl : (s.port 24).loopback = 1 ∨ (s.port 24).loopback = 2) :
    s.sendBeat 24 h = { s with pair := { s.pair with own0 := some h } } := by
  rcases hl with hl | hl <;> simp [State.sendBeat, hl]

/-! Heartbeats received (R487). -/

theorem execHeartbeatReceive_through {h : Heartbeat} {s : State} (hb : s.booted = true) (hl : (s.port (24 + h.west.toNat)).loopback = 0) :
    execHeartbeatReceive h s = .next (settled s ((s.hear h).judge h)) := by
  simp [execHeartbeatReceive, hb, hl, done_eq]

theorem leavePair_state (s : State) : s.leavePair.pair.state = .none := by simp [State.leavePair]
theorem leavePair_role (s : State) : s.leavePair.pair.role = .none := by simp [State.leavePair]

/-- A member that hears the other leave leaves too (R498). -/
theorem judge_of_leaving {h : Heartbeat} {s : State} (hl : h.leaving = true) (hs : s.pair.state ≠ .none) : s.judge h = s.leavePair := by
  have hne : (s.pair.state != .none) = true := bne_iff_ne.mpr hs
  simp [State.judge, hl, hne]

/-! The end of a rejoin (R497). -/

theorem execRejoinComplete_primary {copy : Option PairCopy} {s : State} (hb : s.booted = true) (hr : s.refreshing = false)
    (hj : s.journals = true) : execRejoinComplete copy s = .next (settled s s.primaryRejoins) := by
  simp [execRejoinComplete, hb, hr, hj, done_eq]

theorem execRejoinComplete_peer {copy : Option PairCopy} {s : State} (hb : s.booted = true) (hr : s.refreshing = false)
    (hj : s.journals = false) (hh : s.pair.holding = true) : execRejoinComplete copy s = .next (settled s (s.peerRejoins copy)) := by
  simp [execRejoinComplete, hb, hr, hj, hh, done_eq]

theorem execRejoinComplete_secondary {copy : Option PairCopy} {s : State} (hb : s.booted = true) (hr : s.refreshing = false)
    (hj : s.journals = false) (hh : s.pair.holding = false) (hs : s.pair.state = .syncing) (hrole : s.pair.role = .secondary) :
    execRejoinComplete copy s = .next (settled s (s.secondaryResyncs copy)) := by
  simp [execRejoinComplete, hb, hr, hj, hh, hs, hrole, done_eq]

theorem resyncDone_pair (s : State) : s.resyncDone.pair.state = s.pair.state ∧ s.resyncDone.pair.role = s.pair.role ∧
    s.resyncDone.pair.rejoins = s.pair.rejoins := by
  simp [State.resyncDone]

theorem startPeer_pair (s : State) : s.startPeer.pair = s.pair := by simp [State.startPeer]

/-- Once the copy is made and the lag has fallen, the primary is JOINED. -/
theorem primaryRejoins_of {s : State} (hc : s.pair.copied = true) (hl : s.journalLag ≤ 10000) :
    s.primaryRejoins.pair.state = .joined ∧ s.primaryRejoins.pair.role = .primary ∧
      s.primaryRejoins.pair.rejoins = satur 32 (s.pair.rejoins + 1) := by
  unfold State.primaryRejoins
  simp only [hc, Bool.not_true, Bool.false_eq_true, if_false, if_neg (Nat.not_lt.mpr hl)]
  split
  · simp [resyncDone_pair, becomeJoined_state, becomeJoined_role, becomeJoined_rejoins]
  · simp [startPeer_pair, becomeJoined_state, becomeJoined_role, becomeJoined_rejoins]

/-- Settles O23. -/
theorem heartbeatsAndJournalComplete : Obligations.HeartbeatsAndJournalComplete := by
  refine ⟨?_, ?_, ?_, ?_, ?_, ?_, ?_, ?_, ?_, ?_, ?_, ?_, ?_, ?_⟩
  · intro s hb ht h0 h1 hl
    obtain ⟨t, he, hpair, hout⟩ := execHeartbeatSend_of hb ht
    have hs : beaten s = State.send { s with pair := { s.pair with beat := s.now } } (.peer 24 (.heartbeat (s.heartbeat false))) := by
      rw [beaten, lanesUp_east h0 h1]
      exact sendBeat_through _ hl
    rw [hs] at hpair hout
    exact ⟨t, he, by rw [hpair]; rfl, hout⟩
  · intro s hb ht h0 h1 hl0 hl1
    obtain ⟨t, he, hpair, hout⟩ := execHeartbeatSend_of hb ht
    have hs : beaten s = ((State.send { s with pair := { s.pair with beat := s.now } } (.peer 24 (.heartbeat (s.heartbeat false)))).send
        (.peer 25 (.heartbeat (s.heartbeat true)))) := by
      rw [beaten, lanesUp_both h0 h1]
      exact sendBeat_both _ _ hl0 hl1
    rw [hs] at hpair hout
    refine ⟨t, he, by rw [hpair]; rfl, ?_⟩
    simpa using hout
  · intro s hb ht h0 h1 hl
    obtain ⟨t, he, hpair, -⟩ := execHeartbeatSend_of hb ht
    have hs : beaten s = { s with pair := { s.pair with beat := s.now, own0 := some (s.heartbeat false) } } := by
      rw [beaten, lanesUp_east h0 h1]
      exact sendBeat_looped _ hl
    rw [hs] at hpair
    exact ⟨t, he, by rw [hpair], by rw [hpair]⟩
  · exact fun h s hb hl => execHeartbeatReceive_through hb hl
  · intro h w s hb hw hl ho
    show execHeartbeatReceive h s = _
    rcases hl with hl | hl <;> simp [execHeartbeatReceive, hb, hw, hl, ho, done_eq]
  · intro h s hb hl hv hs
    refine ⟨_, execHeartbeatReceive_through hb hl, ?_⟩
    rw [settled_pair, judge_of_leaving (s := s.hear h) hv hs, leavePair_state, leavePair_role]
    exact ⟨rfl, rfl⟩
  · intro s hb ht hp
    show execPeerLost s = _
    simp [execPeerLost, hb, Nat.not_lt.mpr ht, hp, done_eq]
  · intro kind tile payload s x ht hx
    subst hx
    refine ⟨fun h => ?_, fun ha hs => ?_⟩
    · show execJournalApply kind tile payload s = _
      rcases h with h | h
      · simp [execJournalApply, ht, h, done_eq]
      · simp [execJournalApply, ht, show s.serves TaskType.journal = false from h, done_eq]
    · show execJournalApply kind tile payload s = _
      simp [execJournalApply, ht, ha, show s.serves TaskType.journal = true from hs, done_eq]
  · intro copy s hb hr hj hc ha
    have he : s.primaryRejoins = s.sendLive := by simp [State.primaryRejoins, hc, ha]
    rw [← he]
    exact execRejoinComplete_primary hb hr hj
  · intro copy s hb hr hj hc hl
    refine ⟨_, execRejoinComplete_primary hb hr hj, ?_⟩
    rw [settled_pair]
    exact primaryRejoins_of hc hl
  · intro copy s hb hr hj hh hc
    have he : s.peerRejoins (some copy) = ((s.takeConfig copy).takeLive copy).copyTaken := by simp [State.peerRejoins, hc]
    rw [← he]
    exact execRejoinComplete_peer hb hr hj hh
  · intro copy s hb hr hj hh hs hrole hc
    have he : s.secondaryResyncs (some copy) = (s.takeLive copy).copyTaken := by simp [State.secondaryResyncs, hc]
    rw [← he]
    exact execRejoinComplete_secondary hb hr hj hh hs hrole
  · intro copy s hb hr hj hh hc
    refine ⟨_, execRejoinComplete_peer hb hr hj hh, ?_⟩
    simp [State.peerRejoins, hc, becomeJoined_state, becomeJoined_role]
  · intro copy s hb hr hj hh hs hrole hc
    refine ⟨_, execRejoinComplete_secondary hb hr hj hh hs hrole, ?_⟩
    simp [State.secondaryResyncs, hc, becomeJoined_state, becomeJoined_role]

end Sys2Proof.PairTakeover

/-! PROOFS. The DMA engine: bursts, completions, confirmations, the halt and the commands (spec 15 R417-R448). -/
namespace Sys2Proof.DmaEngine
open Machine Claims Answers CommitTerms FunctionRegisters

/-! What a transition leaves of the engine: of the host's side it touches the registers of the functions alone. -/

def FnsOnly (s t : State) : Prop := ∃ a b, t.host = { s.host with pf0 := a, pf1 := b }

theorem FnsOnly.rfl' (s : State) : FnsOnly s s := ⟨_, _, rfl⟩

theorem FnsOnly.trans {s t u : State} (h : FnsOnly s t) (g : FnsOnly t u) : FnsOnly s u := by
  obtain ⟨a, b, h⟩ := h
  obtain ⟨c, d, g⟩ := g
  exact ⟨c, d, by rw [g, h]⟩

theorem FnsOnly.ite {s t u : State} {q : Bool} (h : FnsOnly s t) (g : FnsOnly s u) : FnsOnly s (if q = true then t else u) := by
  cases q
  · exact g
  · exact h

theorem FnsOnly.of_logOnly {s t : State} (h : LogOnly s t) : FnsOnly s t := by
  obtain ⟨e, a, b, rfl⟩ := h
  exact ⟨a, b, rfl⟩

theorem FnsOnly.of_host {s t : State} (h : t.host = s.host) : FnsOnly s t := ⟨_, _, h⟩

theorem alert_fns (s : State) (b : Nat) : FnsOnly s (s.alert b) := .of_logOnly (s.alert_frame b)

theorem retrainFront_fns (s : State) : FnsOnly s s.retrainFront := by
  obtain ⟨_, _, _, h⟩ := State.retrainAll_frame (List.range 24) s
  exact .of_host (by rw [State.retrainFront, h])

theorem noteLinks_fns (old s : State) : FnsOnly s (State.noteLinks old s) := by
  obtain ⟨_, _, h⟩ := State.noteLinks_frame old s
  exact .of_host (by rw [h])

theorem canaryStop_fns (s : State) (r : Nat) : FnsOnly s (s.canaryStop r) := by
  obtain ⟨_, a, b, h⟩ := s.canaryStop_frame r
  exact ⟨a, b, by rw [h]⟩

theorem logError_fns (s : State) (k i : Nat) (d : Bytes) (c : Bool) : FnsOnly s (s.logError k i d c) := .of_logOnly (s.logError_frame k i d c)

theorem enter_fns (s : State) (d : DevState) : FnsOnly s (s.enter d) := by
  unfold State.enter
  extract_lets _ was s1 s2 s3 s4 s5 s6
  have c2 : FnsOnly s s2 := .ite (.of_host rfl) (.trans (.of_host rfl) (alert_fns _ _))
  have c3 : FnsOnly s s3 := .ite c2 (c2.trans (.of_host rfl))
  have c4 : FnsOnly s s4 := .ite c3 (c3.trans (retrainFront_fns _))
  have c5 : FnsOnly s s5 := .trans (.ite (c4.trans (canaryStop_fns _ _)) c4) (noteLinks_fns _ _)
  have c6 : FnsOnly s s6 := c5.trans (logError_fns _ _ _ _ _)
  exact .ite (.ite (c6.trans (.of_host rfl)) c6) c5

theorem raiseCause_fns (s : State) (bit : Nat) : FnsOnly s (s.raiseCause bit) := by
  unfold State.raiseCause
  extract_lets _ s1
  split
  · exact .trans (.of_host rfl) (enter_fns s1 _)
  · exact .of_host rfl

/-! The halt (R440). -/

theorem setHostRing_host (s : State) (r : Nat) (x : HostRing) : (s.setHostRing r x).host = s.host := by
  unfold State.setHostRing
  split
  · rfl
  · split <;> rfl

theorem haltRings_host (s : State) (c : Nat) (stop : Bool) : (s.haltRings c stop).host = s.host :=
  foldl_keeps State.host (fun s r => setHostRing_host s r _) _ s

/-- One channel halts, with its descriptor as it stands. -/
def haltChannel (s : State) (k : Nat) : State :=
  ((s.haltRings k true).setDma k { s.dma k with state := .halted }).setIrq k false true

theorem haltChannel_channels (s : State) (k : Nat) :
    (haltChannel s k).host.channels = s.host.channels.set k { s.dma k with state := .halted } := by
  show ((s.haltRings k true).host.channels.set k _) = _
  rw [haltRings_host]

theorem haltChannel_dma_self {s : State} {k : Nat} (h : k < s.host.channels.length) :
    (haltChannel s k).dma k = { s.dma k with state := .halted } := by
  rw [State.dma, haltChannel_channels, List.getD_eq_getElem?_getD, List.getElem?_set_self h]
  rfl

theorem haltChannel_dma_of_ne {s : State} {k a : Nat} (h : k ≠ a) : (haltChannel s a).dma k = s.dma k := by
  rw [State.dma, haltChannel_channels, List.getD_eq_getElem?_getD, List.getElem?_set_ne (Ne.symm h), ← List.getD_eq_getElem?_getD]
  rfl

/-- The channels of a list are halted; the others stay as they are. -/
theorem foldl_haltChannel_dma {k : Nat} (l : List Nat) (s : State) (hk : k < s.host.channels.length) :
    (l.foldl haltChannel s).dma k = if k ∈ l then { s.dma k with state := .halted } else s.dma k := by
  induction l generalizing s with
  | nil => rfl
  | cons a l ih =>
    have hlen : k < (haltChannel s a).host.channels.length := by rwa [haltChannel_channels, List.length_set]
    rw [List.foldl_cons, ih _ hlen]
    by_cases ha : k = a
    · subst ha
      rw [if_pos List.mem_cons_self, haltChannel_dma_self hk, ite_self]
    · simp only [List.mem_cons, ha, false_or, haltChannel_dma_of_ne ha]

/-- The channels that run. -/
def runningChannels (s : State) : List Nat := (List.range 16).filter fun k => s.channelState k == .running

/-- The engine as a bus error leaves it. -/
def halted (s : State) (cause c : Nat) (address : W64) : State :=
  let s1 := (runningChannels s).foldl haltChannel s
  { s1 with host := { s1.host with
      halted := !(runningChannels s).isEmpty, cause := cause, haltReq := s.requestKind c, haltAddr := address,
      haltCount := satur 32 (s.host.haltCount + 1) } }

/-- The same, with the alert and the entry in the log. -/
def reported (s : State) (cause c : Nat) (address : W64) : State :=
  ((halted s cause c address).alert AlertBit.dmaHalted).logError ErrCode.dmaHalted (s.requestKind c * 16 + cause) (le 8 address.toNat)

/-- The same, with RECOVER where the engine was lost in service. -/
def recovered (s : State) (cause c : Nat) (address : W64) : State :=
  if (reported s cause c address).life.lostInService then (reported s cause c address).raiseCause 0 else reported s cause c address

theorem execDmaBusError_eq (cause c : Nat) (address : W64) (s : State) : execDmaBusError cause c address s =
    if s.host.halted || !s.booted || 15 < c || cause = 0 || 4 < cause || (cause = 4 && !s.timedOut c) then .next s
    else done s (recovered s cause c address) := rfl

theorem recovered_fns (s : State) (cause c : Nat) (address : W64) : FnsOnly (halted s cause c address) (recovered s cause c address) := by
  have hlog : FnsOnly (halted s cause c address) (reported s cause c address) := (alert_fns _ _).trans (logError_fns _ _ _ _ _)
  exact .ite (hlog.trans (raiseCause_fns _ 0)) hlog

theorem execDmaBusError_of {cause c : Nat} {address : W64} {s : State} (hh : s.host.halted = false) (hb : s.booted = true) (hc : c < 16)
    (hlo : 1 ≤ cause) (hhi : cause ≤ 4) (ht : cause = 4 → s.timedOut c = true) :
    ∃ t, execDmaBusError cause c address s = .next (settled s t) ∧ FnsOnly (halted s cause c address) t := by
  have hguard : (s.host.halted || !s.booted || decide (15 < c) || decide (cause = 0) || decide (4 < cause) ||
      (decide (cause = 4) && !s.timedOut c)) = false := by
    have hlate : (decide (cause = 4) && !s.timedOut c) = false := by
      by_cases h4 : cause = 4
      · simp [h4, ht h4]
      · simp [h4]
    have hc' : ¬ 15 < c := by omega
    have h0 : cause ≠ 0 := by omega
    simp [hh, hb, hc', h0, Nat.not_lt.mpr hhi, hlate]
  exact ⟨_, by rw [execDmaBusError_eq, hguard, if_neg Bool.false_ne_true, done_eq], recovered_fns s cause c address⟩

theorem busError_host {s t : State} {cause c : Nat} {address : W64} (h : FnsOnly (halted s cause c address) t) :
    t.host.cause = cause ∧ t.host.haltAddr = address ∧ t.host.haltReq = s.requestKind c ∧
      t.host.haltCount = satur 32 (s.host.haltCount + 1) := by
  obtain ⟨a, b, h⟩ := h
  rw [h]
  exact ⟨rfl, rfl, rfl, rfl⟩

theorem busError_dma {s t : State} {cause c k : Nat} {address : W64} (h : FnsOnly (halted s cause c address) t) (hk : k < 16)
    (hlen : k < s.host.channels.length) (hrun : s.channelState k = .running) :
    t.host.halted = true ∧ t.dma k = { s.dma k with state := .halted } := by
  have hmem : k ∈ runningChannels s := by simp [runningChannels, hk, hrun]
  obtain ⟨a, b, h⟩ := h
  refine ⟨?_, ?_⟩
  · rw [h]
    show (!(runningChannels s).isEmpty) = true
    cases hr : runningChannels s with
    | nil => rw [hr] at hmem; cases hmem
    | cons => rfl
  · have hdma := foldl_haltChannel_dma (runningChannels s) s hlen
    rw [if_pos hmem] at hdma
    rw [State.dma, h]
    exact hdma

/-! Completions and confirmations (R417, R429, R433). -/

theorem serve_of_noBurst {s : State} {c : Nat} (hurt : Upsets) (hn : s.nextServed = some c) (hd : s.burstDue c = false) :
    ∃ x, x = s.serveRequester c hurt ∧ execDmaBurst hurt s = .next (settled s { x with host := { x.host with served := c } }) := by
  refine ⟨_, rfl, ?_⟩
  unfold execDmaBurst
  rw [hn]
  cases ht : (s.dma c).transfer with
  | none => simp [ht, done_eq]
  | some t => simp [ht, hd, done_eq]

theorem execDmaReadCompletion_late {c : Nat} {pattern : Bool} {data : Bytes} {s : State} (h : s.inTime c = false) :
    execDmaReadCompletion c pattern data s = .next s := by
  unfold execDmaReadCompletion
  split
  · rfl
  · simp [h]

/-- The flush read of the oldest boundary returns. -/
theorem execDmaUnitConfirm_flush {c units : Nat} {s : State} {t : Transfer} {m : Mark} {ms : List Mark} (ht : s.transferOf c = some t)
    (hop : t.op = 0x11) (hi : s.inTime c = true) (hm : t.marks = m :: ms) :
    execDmaUnitConfirm c units s = .next (settled s (State.timeReads
      (s.setDma c ((s.dma c).confirm { t with crc := m.crc, faults := m.faults, marks := ms } (m.units - t.confirmed))) c)) := by
  have hn : min (s.inTime c).toNat t.marks.length = 1 := by simp [hi, hm]
  unfold execDmaUnitConfirm
  simp only [ht, hop, hn, if_true, if_neg (show ¬(0x11 : Nat) = 0x01 by decide)]
  simp [hm, done_eq]

/-- Settles O19. -/
theorem dmaDataMovesAndBusErrors : Obligations.DmaDataMovesAndBusErrors := by
  refine ⟨?_, ?_, ?_, ?_, ?_, ?_, ?_, ?_, ?_, ?_⟩
  · intro hurt s c t hn ht hd
    refine ⟨_, rfl, ?_⟩
    show execDmaBurst hurt s = _
    simp [execDmaBurst, hn, ht, hd, done_eq]
  · exact fun hurt s c hn hd => serve_of_noBurst hurt hn hd
  · intro c data s t ht hi ha hp
    show execDmaReadCompletion c true data s = _
    simp [execDmaReadCompletion, ht, hi, ha, hp, done_eq]
  · intro c data s t ht hi hop hlen ha hw
    have hn : min (data.length / 64) (t.issued - t.arrived) ≠ 0 := by
      have := Nat.div_pos hlen (by decide)
      omega
    refine ⟨_, _, _, _, rfl, rfl, ?_⟩
    show execDmaReadCompletion c false data s = _
    simp [execDmaReadCompletion, ht, hi, hop, hn, hw, done_eq]
  · exact fun c pattern data s h => execDmaReadCompletion_late h
  · intro c units s t ht hop hu hc
    have hn : min units (t.arrived - t.confirmed) ≠ 0 := by omega
    show execDmaUnitConfirm c units s = _
    simp only [execDmaUnitConfirm, ht, hop, if_true, if_neg hn, done_eq]
  · exact fun c units s t m ms ht hop hi hm => execDmaUnitConfirm_flush ht hop hi hm
  · intro desc s h
    show execSnapshotHoldExpire desc s = _
    rw [execSnapshotHoldExpire, if_pos h, done_eq]
  · intro cause c address s hh hb hc hlo hhi ht
    obtain ⟨t, he, hf⟩ := execDmaBusError_of (address := address) hh hb hc hlo hhi ht
    obtain ⟨hcause, haddr, hreq, hcount⟩ := busError_host hf
    refine ⟨_, he, ?_, ?_, ?_, ?_, fun k hk hlen hrun => ?_⟩
    · rw [settled_host_cause, hcause]
    · rw [settled_host_haltAddr, haddr]
    · rw [settled_host_haltReq, hreq]
    · rw [settled_host_haltCount, hcount]
    · obtain ⟨hhalt, hdma⟩ := busError_dma hf hk hlen hrun
      have hsame : (settled s t).dma k = t.dma k := by rw [State.dma, settled_host_channels, State.dma]
      rw [settled_host_halted, hsame, hdma]
      exact ⟨hhalt, rfl, rfl⟩
  · intro cause c address s hh
    show execDmaBusError cause c address s = _
    simp [execDmaBusError, hh]

/-! DMA_RESUME, DMA_ABANDON and DMA_STATUS (R445-R448). -/

/-- Settles O20. -/
theorem dmaCommandsComplete : Obligations.DmaCommandsComplete := by
  refine ⟨?_, ?_, ?_, ?_, ?_⟩
  · intro m s hp hs ha hz
    refine ⟨_, rfl, run_answers cmdDmaResume m s _ hp ?_⟩
    simp [cmdDmaResume, bodyDmaResume, hs, ha, needZero_of _ _ _ _ hz]
  · intro m s hp hs ha
    refine run_answers cmdDmaResume m s _ hp ?_
    simp [cmdDmaResume, bodyDmaResume, hs, ha]
    rfl
  · intro m s hp hs ha hz
    refine run_answers cmdDmaAbandon m s _ hp ?_
    simp [cmdDmaAbandon, bodyDmaAbandon, hs, ha, needZero_of _ _ _ _ hz]
  · intro m s hp hs ha
    refine run_answers cmdDmaAbandon m s _ hp ?_
    simp [cmdDmaAbandon, bodyDmaAbandon, hs, ha]
    rfl
  · intro m s hp hz
    refine run_answers cmdDmaStatus m s _ hp ?_
    simp [cmdDmaStatus, bodyDmaStatus, needZero_of _ _ _ _ hz]

end Sys2Proof.DmaEngine

/-! PROOFS. Ports, lanes, ring roles and the canary: their commands and events (spec 03). -/
namespace Sys2Proof.PortsAndLanes
open Machine Claims Answers CommitTerms PowerAndHeat

/-! PORT_CONFIG and PORT_ENABLE (R95, R96). -/

theorem recPortConfig_reads {m : Msg} {s : State} {b : Bytes} {base : Nat} (h0 : byteAt b 0 ≤ 23) (h5 : byteAt b 5 = 1)
    (hz : (firstNonZeroAt b [1, 2, 3, 4, 6, 7]).isNone = true) :
    recPortConfig m s b base = .ok s (portRecord (byteAt b 0) ((s.view m).port.cfg (byteAt b 0))) := by
  simp [recPortConfig, Nat.not_lt.mpr h0, h5, recZero_of _ _ _ _ hz]

/-- The flags byte of a record: no AN, and bit 1 for cut-through. -/
theorem portFlags {f : Nat} (h : f = 0 ∨ f = 2) : ¬4 ≤ f ∧ f % 2 = 0 ∧ Nat.testBit f 0 = false ∧ Nat.testBit f 1 = (f == 2) := by
  rcases h with h | h <;> subst h <;> decide

theorem recPortConfig_sets {m : Msg} {s : State} {b : Bytes} {base : Nat} (hm : m.stage = true) (h0 : byteAt b 0 ≤ 23) (h5 : byteAt b 5 = 0)
    (hlo : 1 ≤ byteAt b 1) (hhi : byteAt b 1 ≤ 5) (hl : byteAt b 0 % modeLanes (byteAt b 1) = 0)
    (hc : s.shadow.port.clash (byteAt b 0) (byteAt b 1) = false) (h2 : byteAt b 2 ≤ 2) (h3 : byteAt b 3 ≤ 2)
    (hf : fecOk (byteAt b 1) (byteAt b 2) (byteAt b 3) = true) (h4 : byteAt b 4 = 0 ∨ byteAt b 4 = 2) (h64 : 64 ≤ Machine.fieldLe b 6 2)
    (h9600 : Machine.fieldLe b 6 2 ≤ 9600) :
    recPortConfig m s b base = .ok (s.stagePorts fun t => t.setPort (byteAt b 0) fun c =>
      { c with mode := byteAt b 1, fec := byteAt b 2, medium := byteAt b 3, an := false, cutThrough := byteAt b 4 == 2,
               maxFrame := Machine.fieldLe b 6 2 }) [] := by
  obtain ⟨hflags, heven, hbit0, hbit1⟩ := portFlags h4
  have hlanes : (decide (modeLanes (byteAt b 1) = 2) && byteAt b 0 % 2 != 0 || decide (modeLanes (byteAt b 1) = 4) && byteAt b 0 % 4 != 0) = false := by
    by_cases e2 : modeLanes (byteAt b 1) = 2
    · rw [e2] at hl; simp [e2, hl]
    · by_cases e4 : modeLanes (byteAt b 1) = 4
      · rw [e4] at hl; simp [e4, hl]
      · simp [e2, e4]
  have hne : byteAt b 1 ≠ 0 := by omega
  have hne5 : ¬byteAt b 5 = 1 := by omega
  unfold recPortConfig
  dsimp only
  rw [hlanes]
  simp [Nat.not_lt.mpr h0, h5, hm, Nat.not_lt.mpr hhi, hc, hne, Nat.not_lt.mpr h2, Nat.not_lt.mpr h3, hf, hflags, heven, hbit0, hbit1,
    Nat.not_lt.mpr h64, Nat.not_lt.mpr h9600]

theorem recPortEnable_reads {m : Msg} {s : State} {b : Bytes} {base : Nat} (h0 : byteAt b 0 ≤ 23) (h1 : byteAt b 1 = 0) (h2 : byteAt b 2 = 1)
    (h3 : byteAt b 3 = 0) : recPortEnable m s b base =
      .ok s (le 1 (byteAt b 0) ++ le 1 ((s.view m).port.cfg (byteAt b 0)).enable.toNat ++ [1, 0]) := by
  simp [recPortEnable, Nat.not_lt.mpr h0, h2, recZero_one h3, recZero_one h1]

theorem recPortEnable_sets {m : Msg} {s : State} {b : Bytes} {base : Nat} (hm : m.stage = true) (h0 : byteAt b 0 ≤ 23) (h1 : byteAt b 1 ≤ 1)
    (h2 : byteAt b 2 = 0) (h3 : byteAt b 3 = 0) (hmode : (s.shadow.port.cfg (byteAt b 0)).mode ≠ 0) : recPortEnable m s b base =
      .ok (s.stagePorts fun t => t.setPort (byteAt b 0) fun c => { c with enable := byteAt b 1 == 1 }) [] := by
  simp [recPortEnable, Nat.not_lt.mpr h0, h2, recZero_one h3, hm, Nat.not_lt.mpr h1, hmode]

/-- Settles O26. -/
theorem portTableCommandsComplete : Obligations.PortTableCommandsComplete := by
  refine ⟨?_, ?_, ?_, ?_⟩
  · intro m s b hp hr h0 h5 hz
    exact run_answers cmdPortConfig m s _ hp (records_one _ _ _ _ _ _ _ hr (recPortConfig_reads h0 h5 hz))
  · intro m s b hp hm hr h0 h5 hlo hhi hl hc h2 h3 hf h4 h64 h9600
    exact run_answers cmdPortConfig m s _ hp
      (records_one _ _ _ _ _ _ _ hr (recPortConfig_sets hm h0 h5 hlo hhi hl hc h2 h3 hf h4 h64 h9600))
  · intro m s b hp hr h0 h1 h2 h3
    exact run_answers cmdPortEnable m s _ hp (records_one _ _ _ _ _ _ _ hr (recPortEnable_reads h0 h1 h2 h3))
  · intro m s b hp hm hr h0 h1 h2 h3 hmode
    exact run_answers cmdPortEnable m s _ hp (records_one _ _ _ _ _ _ _ hr (recPortEnable_sets hm h0 h1 h2 h3 hmode))

/-! Ports and their links (R86, R99, R101). -/

/-- A port but for the instant of its last link-state change. -/
def settledPort (q : Nat) (s : State) : Port := { s.port q with changed := 0 }

theorem port_setPort_self {s : State} {p : Nat} (x : Port) (h : p < s.ports.length) : (s.setPort p x).port p = x := by
  simp [State.port, State.setPort, h]

theorem port_setPort_of_ne {s : State} {p q : Nat} (x : Port) (h : q ≠ p) : (s.setPort p x).port q = s.port q := by
  simp [State.port, State.setPort, List.getD_eq_getElem?_getD, List.getElem?_set_ne (Ne.symm h)]

theorem port_setPort_of_le {s : State} {p q : Nat} (x : Port) (h : s.ports.length ≤ p) : (s.setPort p x).port q = s.port q := by
  simp [State.port, State.setPort, List.set_eq_of_length_le h]

theorem settledPort_noteLink (old : State) (q : Nat) (s : State) (p : Nat) : settledPort q (State.noteLink old s p) = settledPort q s := by
  unfold State.noteLink
  split
  · rfl
  · show settledPort q (s.setPort p { s.port p with changed := s.now }) = _
    by_cases hq : q = p
    · subst hq
      by_cases hl : q < s.ports.length
      · rw [settledPort, port_setPort_self _ hl]; rfl
      · rw [settledPort, port_setPort_of_le _ (Nat.le_of_not_lt hl)]; rfl
    · rw [settledPort, port_setPort_of_ne _ hq]; rfl

theorem settledPort_noteLinks (old : State) (q : Nat) (s : State) : settledPort q (State.noteLinks old s) = settledPort q s :=
  foldl_keeps (settledPort q) (settledPort_noteLink old q) _ s

/-- The port whose link is set. -/
theorem settledPort_setLink {s : State} {p : Nat} (l : Link) (cdr sd : BitVec 4) (h : p < s.ports.length) :
    ∃ n, settledPort p (s.setLink p l cdr sd) = { settledPort p s with link := l, cdr := cdr, sd := sd, ups := n } := by
  refine ⟨if l == .up && !((s.port p).link == .up) then satur 16 ((s.port p).ups + 1) else (s.port p).ups, ?_⟩
  unfold State.setLink
  dsimp only
  exact (settledPort_noteLink s p _ p).trans (by rw [settledPort, port_setPort_self _ h]; rfl)

theorem loopback_of_settledPort {s t : State} {p : Nat} (h : settledPort p t = settledPort p s) :
    (t.port p).loopback = (s.port p).loopback := by
  have e : (settledPort p t).loopback = (settledPort p s).loopback := by rw [h]
  exact e

theorem retrain_loopback {s : State} {p : Nat} (h : p < s.ports.length) : ((s.retrain p).port p).loopback = (s.port p).loopback := by
  obtain ⟨n, hn⟩ := settledPort_setLink .down 0 0 h
  have e : (settledPort p (s.retrain p)).loopback = (settledPort p s).loopback := by rw [State.retrain, hn]
  exact e

theorem setLoopback_port {s : State} {p v : Nat} (h : p < s.ports.length) : ((s.setLoopback p v).port p).loopback = v := by
  unfold State.setLoopback
  dsimp only
  rw [loopback_of_settledPort (settledPort_noteLinks _ _ _)]
  have hset : ((s.setPort p { s.port p with loopback := v }).port p).loopback = v := by rw [port_setPort_self _ h]
  split
  · exact (retrain_loopback (by show p < (s.ports.set p _).length; rwa [List.length_set])).trans hset
  · exact hset

/-! LANE_TUNE, PORT_STATUS and RING_CONFIG (R97-R99). -/

theorem recLaneTune_reads {m : Msg} {s : State} {b : Bytes} {base : Nat} (h0 : byteAt b 0 ≤ 25) (h1 : byteAt b 1 = 0)
    (hz : (firstNonZeroAt b (span 2 7)).isNone = true) :
    recLaneTune m s b base = .ok s (tapsRecord (byteAt b 0) ((s.view m).port.taps.getD (byteAt b 0) Taps.reset)) := by
  have h6 : byteAt b 6 = 0 := byteAt_of_zero hz 6 (by decide)
  have h7 : byteAt b 7 = 0 := byteAt_of_zero hz 7 (by decide)
  simp [recLaneTune, Nat.not_lt.mpr h0, h1, h6, recZero_one h7]

theorem recLaneTune_sets {m : Msg} {s : State} {b : Bytes} {base : Nat} {t : Taps} (hm : m.stage = true) (h0 : byteAt b 0 ≤ 25)
    (h1 : byteAt b 1 = 1)
    (ht : t = Taps.mk (signed 8 (byteAt b 2)) (signed 8 (byteAt b 3)) (signed 8 (byteAt b 4)) (signed 8 (byteAt b 5)) (byteAt b 6 == 1))
    (hbad : tapBad t = none) (h6 : byteAt b 6 ≤ 1) (h7 : byteAt b 7 = 0) :
    recLaneTune m s b base = .ok (s.stagePorts fun v => { v with taps := v.taps.set (byteAt b 0) t }) [] := by
  subst ht
  simp [recLaneTune, Nat.not_lt.mpr h0, h1, hm, hbad, Nat.not_lt.mpr h6, recZero_one h7]

theorem recRingConfig_sets {m : Msg} {s : State} {b : Bytes} {base : Nat} (hm : m.stage = true)
    (he : s.shadow.port.roleOk (byteAt b 0) = true) (hw : s.shadow.port.roleOk (byteAt b 1) = true)
    (hne : byteAt b 0 = 0xFF ∨ byteAt b 0 ≠ byteAt b 1) (h2 : byteAt b 2 = 0) (h3 : byteAt b 3 = 0) :
    recRingConfig m s b base = .ok (s.stagePorts fun t => { t with east := roleOf (byteAt b 0), west := roleOf (byteAt b 1) }) [] := by
  have hsame : (byteAt b 0 != 0xFF && byteAt b 0 == byteAt b 1) = false := by
    rcases hne with h | h <;> simp [h]
  have hz : ∀ i ∈ [2, 3], byteAt b i = 0 := by simp [h2, h3]
  simp only [recRingConfig, hm, he, hw, hsame, recZero_of_bytes hz, Bool.not_true, Bool.or_self, Bool.false_eq_true, if_false]

/-! The canary (R90-R92, R103). -/

theorem canaryStop_canary (s : State) (r : Nat) : (s.canaryStop r).canary = if s.canary.armed then { s.canary with
      armed := false, toggling := false, level := .low, reason := r, stopNs := BitVec.ofNat 32 s.time.ns } else s.canary := by
  unfold State.canaryStop
  split <;> rfl

/-- A window in which an armed canary's pipeline did not run disarms it. -/
theorem heartbeatLost_canary (s : State) (pipe : Nat) (armed : Bool) :
    (s.heartbeatLost pipe armed).canary = if armed then (s.canaryStop 3).canary else s.canary := by
  unfold State.heartbeatLost
  extract_lets s1
  have h1 : (if s1.pair.role == .primary && s1.pair.state != .none then { s1 with pair := { s1.pair with relinquish := true } } else s1).canary =
      s1.canary := by split <;> rfl
  rw [h1]
  cases armed
  · rfl
  · exact State.logError_canary _ _ _ _ _

theorem canaryStart_of_unarmed {s : State} (h : s.canary.armed = false) : s.canaryStart = s := by
  simp [State.canaryStart, State.canaryRuns, h]

theorem canaryStart_canary (s : State) : s.canaryStart.canary =
    if s.canaryRuns && !s.canary.toggling then { s.canary with toggling := true, level := .high, halfAt := s.now } else s.canary := by
  unfold State.canaryStart
  split <;> rfl

theorem canaryStart_toggling (s : State) : s.canaryStart.canary.toggling = (s.canary.toggling || s.canaryRuns) := by
  rw [canaryStart_canary]
  cases ht : s.canary.toggling <;> cases hr : s.canaryRuns <;> simp [ht]

/-- Starting the canary sets its level and its instant, nothing of the windows. -/
theorem canaryStart_live (s : State) : s.canaryStart.canary.armed = s.canary.armed ∧ s.canaryStart.canary.armings = s.canary.armings ∧
    s.canaryStart.canary.live0 = s.canary.live0 ∧ s.canaryStart.canary.live1 = s.canary.live1 ∧
    s.canaryStart.canary.alive0 = s.canary.alive0 ∧ s.canaryStart.canary.alive1 = s.canary.alive1 ∧
    s.canaryStart.canary.windowAt = s.canary.windowAt := by
  rw [canaryStart_canary]
  split <;> exact ⟨rfl, rfl, rfl, rfl, rfl, rfl, rfl⟩

/-- The canary at the end of a window in which both pipelines live. -/
def aliveCanary (s : State) : Canary :=
  { s.canary with live0 := true, live1 := true, alive0 := s.now, alive1 := s.now, windowAt := s.canary.windowAt + 100000,
                  verdicts0 := s.verdictCount false, verdicts1 := s.verdictCount true }

theorem execCanaryHeartbeatWindow_alive {s : State} (hb : s.booted = true) (hw : s.canary.windowAt + 100000 ≤ s.now) :
    execCanaryHeartbeatWindow (true, true) (false, false) s =
      .next (settled s (State.canaryStart { s with canary := aliveCanary s })) := by
  simp [execCanaryHeartbeatWindow, heartbeatWindow, hb, hw, done_eq, aliveCanary]

theorem heartbeatLost_armed {s : State} (pipe : Nat) (h : s.canary.armed = true) : (s.heartbeatLost pipe true).canary =
    { s.canary with armed := false, toggling := false, level := .low, reason := 3, stopNs := BitVec.ofNat 32 s.time.ns } := by
  rw [heartbeatLost_canary, canaryStop_canary, h]
  rfl

theorem heartbeatLost_unarmed {s : State} (pipe : Nat) (h : s.canary.armed = false) : (s.heartbeatLost pipe true).canary = s.canary := by
  rw [heartbeatLost_canary, canaryStop_canary, h]
  rfl

/-- The second pipeline fails: whether or not the first did, the canary is stopped. -/
theorem heartbeatLost_stops {s : State} (h : s.canary.armed = true ∨ (s.canary.armed = false ∧ s.canary.level = .low ∧ s.canary.reason = 3)) :
    (s.heartbeatLost 1 true).canary.armed = false ∧ (s.heartbeatLost 1 true).canary.level = .low ∧
      (s.heartbeatLost 1 true).canary.reason = 3 := by
  rcases h with h | ⟨h, hlevel, hreason⟩
  · rw [heartbeatLost_armed 1 h]
    exact ⟨rfl, rfl, rfl⟩
  · rw [heartbeatLost_unarmed 1 h]
    exact ⟨h, hlevel, hreason⟩

theorem execCanaryHeartbeatWindow_lost {s : State} (held : Bool × Bool) (hb : s.booted = true) (hw : s.canary.windowAt + 100000 ≤ s.now)
    (ha : s.canary.armed = true) : ∃ x : State, execCanaryHeartbeatWindow (true, false) held s = .next (settled s x.canaryStart) ∧
      x.canary.armed = false ∧ x.canary.level = .low ∧ x.canary.reason = 3 := by
  refine ⟨_, by
    simp only [execCanaryHeartbeatWindow, heartbeatWindow, hb, hw, done_eq, ha, Bool.false_and, decide_true, Bool.and_self, Bool.not_true,
      Bool.false_eq_true, if_false]
    rfl, heartbeatLost_stops ?_⟩
  split
  · exact .inl rfl
  · rw [heartbeatLost_armed 0 rfl]
    exact .inr ⟨rfl, rfl, rfl⟩

/-- Settles O27. -/
theorem lanesRingAndCanaryComplete : Obligations.LanesRingAndCanaryComplete := by
  refine ⟨?_, ?_, ?_, ?_, ?_, ?_, ?_, ?_, ?_, ?_, ?_, ?_, ?_, ?_, ?_⟩
  · intro m s b hp hr h0 h1 hz
    exact run_answers cmdLaneTune m s _ hp (records_one _ _ _ _ _ _ _ hr (recLaneTune_reads h0 h1 hz))
  · intro m s b t hp hm hr h0 h1 ht hbad h6 h7
    exact run_answers cmdLaneTune m s _ hp (records_one _ _ _ _ _ _ _ hr (recLaneTune_sets hm h0 h1 ht hbad h6 h7))
  · intro m s hp h0 hz
    exact ⟨_, run_answers cmdPortStatus m s _ hp (by
      simp only [cmdPortStatus, bodyPortStatus, if_neg (Nat.not_lt.mpr h0), needZero_of _ _ _ _ hz]; rfl), rfl, rfl, rfl⟩
  · intro m s hp h0 h1 hz
    refine run_answers cmdPortCounters m s _ hp ?_
    simp [cmdPortCounters, bodyPortCounters, Nat.not_lt.mpr h0, h1, needZero_of _ _ _ _ hz]
  · intro m s hp h0 h1 hz
    refine run_answers cmdPortCounters m s _ hp ?_
    simp [cmdPortCounters, bodyPortCounters, Nat.not_lt.mpr h0, h1, needZero_of _ _ _ _ hz]
  · intro m s hp h0 h1 hz hlen
    refine ⟨setLoopback_port (by omega), run_answers cmdPortLoopback m s _ hp ?_⟩
    simp [cmdPortLoopback, bodyPortLoopback, Nat.not_lt.mpr h0, Nat.not_lt.mpr h1, needZero_of _ _ _ _ hz]
  · intro m s hp he
    refine run_answers cmdRingConfig m s _ hp ?_
    simp [cmdRingConfig, bodyRingConfig, he]
    rfl
  · intro m s b hp hm hne hr he hw hew h2 h3
    refine run_answers cmdRingConfig m s _ hp ?_
    simp only [cmdRingConfig, bodyRingConfig, List.isEmpty_eq_false_iff.mpr hne, Bool.false_eq_true, if_false]
    exact records_one _ _ _ _ _ _ _ hr (recRingConfig_sets hm he hw hew h2 h3)
  · intro m s hp
    exact ⟨_, run_answers cmdCanaryStatus m s _ hp rfl, rfl⟩
  · intro m s hp hz he hw ha ht
    refine ⟨_, ?_, ?_, ?_, run_answers cmdSecureCanaryArm m s _ hp (by
      simp only [cmdSecureCanaryArm, bodySecureCanaryArm, needZero_of _ _ _ _ hz, he, hw, ha, beq_self_eq_true, Bool.and_self, Bool.not_true,
        Bool.false_eq_true, if_false]; rfl)⟩
    · rw [(canaryStart_live _).1]
    · rw [(canaryStart_live _).2.1]
    · rw [canaryStart_toggling]
      simp [ht, State.canaryRuns, State.inService]
  · exact fun m s hp => run_answers cmdSecureCanaryDisarm m s _ hp rfl
  · intro s hc ht hh
    have ha : s.canary.armed = true := by simp [State.canaryRuns] at hc; exact hc.1.1.2
    show execCanaryHalfPeriod s = _
    simp [execCanaryHalfPeriod, halfPeriod, hc, ht, hh, ha, done_eq]
  · intro s ha hc ht hh
    show execCanaryHalfPeriod s = _
    simp [execCanaryHalfPeriod, halfPeriod, hc, ht, hh, ha, done_eq]
  · intro s hb hw
    refine ⟨_, execCanaryHeartbeatWindow_alive hb hw, ?_⟩
    obtain ⟨-, -, h0, h1, ha0, ha1, hat⟩ := canaryStart_live { s with canary := aliveCanary s }
    rw [settled_canary, h0, h1, ha0, ha1, hat]
    refine ⟨rfl, rfl, rfl, rfl, rfl, fun harm hs => ?_⟩
    have hruns : State.canaryRuns { s with canary := aliveCanary s } = true := by
      simpa [State.canaryRuns, State.inService, aliveCanary, harm] using hs
    rw [canaryStart_toggling, hruns, Bool.or_true]
  · intro held s hb hw ha
    obtain ⟨x, he, harmed, hlevel, hreason⟩ := execCanaryHeartbeatWindow_lost held hb hw ha
    refine ⟨_, he, ?_⟩
    rw [settled_canary, canaryStart_of_unarmed harmed]
    exact ⟨harmed, hlevel, hreason⟩

/-! Links (R79, R85, R88, R99, R483). -/

theorem setLink_port {s : State} {p : Nat} (l : Link) (cdr sd : BitVec 4) (h : p < s.ports.length) :
    ((s.setLink p l cdr sd).port p).link = l ∧ ((s.setLink p l cdr sd).port p).cdr = cdr ∧ ((s.setLink p l cdr sd).port p).sd = sd := by
  obtain ⟨n, hn⟩ := settledPort_setLink l cdr sd h
  have hlink : (settledPort p (s.setLink p l cdr sd)).link = l := by rw [hn]
  have hcdr : (settledPort p (s.setLink p l cdr sd)).cdr = cdr := by rw [hn]
  have hsd : (settledPort p (s.setLink p l cdr sd)).sd = sd := by rw [hn]
  exact ⟨hlink, hcdr, hsd⟩

/-- Marking the instant at which negotiation found nothing leaves the link. -/
theorem port_alter_anTried (s : State) (p : Nat) (n : Nat) :
    let t : State := { s with ports := alter s.ports p fun x => { x with anTried := n } }
    (t.port p).link = (s.port p).link ∧ (t.port p).cdr = (s.port p).cdr ∧ (t.port p).sd = (s.port p).sd := by
  by_cases h : p < s.ports.length
  · simp [State.port, alter, List.getD_eq_getElem?_getD, h]
  · simp [State.port, alter, List.getD_eq_getElem?_getD, h]

theorem changeLink_front {s : State} {p : Nat} (l : Link) (cdr sd : BitVec 4) (h24 : p < 24) (h : p < s.ports.length) :
    ((s.changeLink p l cdr sd).port p).link = l ∧ ((s.changeLink p l cdr sd).port p).cdr = cdr ∧
      ((s.changeLink p l cdr sd).port p).sd = sd ∧ (s.changeLink p l cdr sd).life = s.life := by
  obtain ⟨hlink, hcdr, hsd⟩ := setLink_port l cdr sd h
  unfold State.changeLink
  simp only [h24, if_true]
  split
  · obtain ⟨elink, ecdr, esd⟩ := port_alter_anTried (s.setLink p l cdr sd) p (s.setLink p l cdr sd).now
    exact ⟨elink.trans hlink, ecdr.trans hcdr, esd.trans hsd, State.setLink_life _ _ _ _ _⟩
  · exact ⟨hlink, hcdr, hsd, State.setLink_life _ _ _ _ _⟩

theorem linkOk_of {s : State} {p : Nat} {l : Link} (h24 : p < 24) (h : (l ≠ .an ∧ l ≠ .anNoCommon) ∨ (s.portCfg p).an = true) :
    s.linkOk p l = true := by
  rcases h with ⟨h1, h2⟩ | h
  · simp [State.linkOk, h1, h2]
  · simp [State.linkOk, State.negotiates, h24, h]

/-- A port in AN_NO_COMMON negotiates again (R79). -/
theorem execAnRetry_of {port : Nat} {common : Bool} {s : State} (hl : (s.port port).link = .anNoCommon)
    (ht : (s.port port).anTried + 1000000000 ≤ s.now) (hr : s.lanesRun port = true) (h24 : port < 24) (ha : (s.portCfg port).an = true) :
    ∃ x, x = s.setPort port { s.port port with anTried := s.now } ∧
      execAnRetry port common s = .next (settled s (if common then x.setLink port .training 0 0 else x)) := by
  refine ⟨_, rfl, ?_⟩
  have hneg : s.negotiates port = true := by simp [State.negotiates, h24, ha]
  simp only [execAnRetry, hl, ht, hr, hneg, done_eq, beq_self_eq_true, decide_true, Bool.and_self, Bool.not_true, Bool.false_eq_true, if_false]

/-- A fault that is cleared does not stand. -/
theorem setFault_off (s : State) (bit : Nat) : (s.setFault bit false).life.faults.getLsbD bit = false := by
  unfold State.setFault
  extract_lets m f _ s1
  have hclear : s1.life.faults.getLsbD bit = false := by
    show (s.life.faults &&& ~~~(1#5 <<< bit)).getLsbD bit = false
    by_cases hb : bit < 5 <;> simp [hb]
  split
  · rw [State.enter_life]
    exact hclear
  · exact hclear

theorem ite_eq_of {s t : State} {p : Pair} (q : Bool) (h : s.pair = p) (g : t.pair = p) : (if q = true then s else t).pair = p := by
  cases q
  · exact g
  · exact h

/-- A transition touches of the pair only whether this member relinquishes. -/
theorem enter_pair (s : State) (d : DevState) : ∃ b, (s.enter d).pair = { s.pair with relinquish := b } := by
  unfold State.enter
  extract_lets _ was s1 s2 s3 s4 s5 s6
  have c2 : s2.pair = s.pair := ite_eq_of _ rfl rfl
  have c3 : s3.pair = s.pair := ite_eq_of _ c2 c2
  have c4 : s4.pair = s.pair := ite_eq_of _ c3 ((State.retrainFront_pair s3).trans c3)
  have c5 : s5.pair = s.pair := (State.noteLinks_pair _ _).trans (ite_eq_of _ ((State.canaryStop_pair _ _).trans c4) c4)
  have c6 : s6.pair = s.pair := (State.logError_pair _ _ _ _ _).trans c5
  split
  · split
    · exact ⟨true, congrArg (fun p : Pair => { p with relinquish := true }) c6⟩
    · exact ⟨s.pair.relinquish, c6⟩
  · exact ⟨s.pair.relinquish, c5⟩

theorem setFault_laneDown1 (s : State) (bit : Nat) (on : Bool) : (s.setFault bit on).pair.laneDown1 = s.pair.laneDown1 := by
  unfold State.setFault
  extract_lets m f _ s1
  split
  · obtain ⟨b, h⟩ := enter_pair s1 s1.serviceState
    rw [h]
  · rfl

/-- Settles O28. -/
theorem linkEventsComplete : Obligations.LinkEventsComplete := by
  refine ⟨?_, ?_, ?_, ?_, ?_, ?_⟩
  · intro port link cdr sd s l hcode h24 hlen hr hl
    refine ⟨_, by
      show execLinkStateChange port link cdr sd s = _
      simp only [execLinkStateChange, hcode, hr, linkOk_of h24 hl, done_eq, Bool.and_self, if_true]; rfl, ?_⟩
    have hport : ∀ x : State, (settled s x).port port = x.port port := fun x => by rw [State.port, settled_ports, State.port]
    rw [hport, settled_life]
    exact changeLink_front l _ _ h24 hlen
  · intro port s hl ht hr h24 ha
    obtain ⟨x, rfl, he⟩ := execAnRetry_of (common := false) hl ht hr h24 ha
    exact he
  · intro port s hl ht hr h24 ha
    obtain ⟨x, rfl, he⟩ := execAnRetry_of (common := true) hl ht hr h24 ha
    exact he
  · intro port rx tx s h26 hl hc
    show execPortCalibrationDone port rx tx s = _
    simp [execPortCalibrationDone, h26, hl, hc, done_eq]
  · intro s hr hl
    show execPeerLaneFail false s = _
    simp [execPeerLaneFail, hr, hl, done_eq]
  · intro s t0 hup hport hd ht h0
    refine ⟨_, by
      show execPeerLaneRestore true s = _
      simp only [execPeerLaneRestore, hup, hport, hd, ht, done_eq, decide_true, Bool.and_self, if_true]; rfl, ?_, ?_⟩
    · rw [settled_pair, setFault_laneDown1, State.logError_pair]
    · rw [settled_life, State.logError_pair]
      simp only [h0, Bool.or_self]
      exact setFault_off _ _

end Sys2Proof.PortsAndLanes

/-! PROOFS. The time base: PPS, the recovered clock, the peer delay engine and the time commands (spec 13). -/
namespace Sys2Proof.TimeBase
open Machine Claims Answers CommitTerms

/-! The end of a meaning and the flags of the time registers. -/

/-- INC_REFUSED of both functions. -/
def incFlags (s : State) : Bool × Bool := (s.host.pf0.incRefused, s.host.pf1.incRefused)

theorem incFlags_raiseVector (s : State) (p : Bool) (v : Nat) : incFlags (s.raiseVector p v) = incFlags s := by
  unfold State.raiseVector
  dsimp only
  repeat' split
  · rfl
  · rfl
  · cases p <;> rfl
  · rfl

theorem incFlags_settleFn (p : Bool) (old : State) (l : List Nat) (s : State) : incFlags (settleFn p old l s) = incFlags s := by
  induction l generalizing s with
  | nil => rfl
  | cons v vs ih =>
    unfold settleFn
    split
    · rw [ih, incFlags_raiseVector]
    · exact ih s

/-- Raising vectors at the end of a meaning leaves INC_REFUSED. -/
theorem incFlags_settled (old s : State) : incFlags (settled old s) = incFlags s := by
  unfold settled settle
  rw [incFlags_settleFn, incFlags_settleFn, countStep_frame, s.wakeAll_eq]
  rfl

/-! PPS, RCLK_OUT and INC (R384-R389). -/

theorem execPpsInCapture_of {rising : Bool} {s : State} (hb : s.booted = true) (he : s.time.ppsInEn = true)
    (hr : rising = !s.time.ppsInFalling) : ∃ x : State, execPpsInCapture rising s = .next (settled s.beforeCapture x) ∧
      x.time = { s.time with ppsNs := s.captureNs % 1000000000, ppsSec := BitVec.ofNat 64 (s.captureNs / 1000000000),
                             ppsCount := s.time.ppsCount + 1 } := by
  have hedge : (rising != s.time.ppsInFalling) = true := by subst hr; cases s.time.ppsInFalling <;> rfl
  unfold execPpsInCapture
  generalize s.captureNs = v
  simp only [hb, he, hedge, done_eq, Bool.and_self, Bool.not_true, Bool.false_eq_true, if_false]
  exact ⟨_, rfl, by simp only [State.onTime, he]⟩

theorem writeInc_refused {v : W32} {s : State} (h : incOk (s.time.incWritten.toNat * 2 ^ 32 + v.toNat) = false) :
    (s.writeInc v).time.inc = BitVec.ofNat 40 s.time.inc.toNat ∧ (s.writeInc v).host.pf0.incRefused = true ∧
      (s.writeInc v).host.pf1.incRefused = true := by
  unfold State.writeInc
  generalize s.time.incWritten.toNat * 2 ^ 32 + v.toNat = inc at h
  simp only [h, Bool.false_eq_true, if_false]
  simp only [State.onTime, Time.setInc, and_self]

/-! The peer delay engine (R381). -/

theorem ptp_setPtp_self {s : State} {p : Nat} (x : PtpLive) (h : p < s.time.ports.length) : (s.setPtp p x).ptp p = x := by
  simp [State.ptp, State.setPtp, State.onTime, h]

theorem sendFrame_time (s : State) (p : Nat) (bytes : Bytes) : (s.sendFrame p bytes).time = s.time := by
  unfold State.sendFrame State.sentFrame State.emitFrame
  dsimp only
  split <;> rfl

/-- A transmit time-stamp is kept, and nothing of the engine changes. -/
theorem txStamp_ptp {s : State} {p : Nat} (h : p < s.time.ports.length) :
    ∃ a b, (s.txStamp p).2.ptp p = { s.ptp p with txAt := a, txTime := b } ∧
      (s.txStamp p).2.time.ports.length = s.time.ports.length ∧ (s.txStamp p).2.now = s.now := by
  refine ⟨_, _, ptp_setPtp_self (s := s.draw.2) _ h, ?_, rfl⟩
  exact List.length_set

/-- The interval of a port's requests is some time. -/
theorem period_pos (n : Int) : 0 < 1000000000 * 2 ^ (n + 4).toNat / 16 := by
  have h : 1 ≤ 2 ^ (n + 4).toNat := Nat.one_le_two_pow
  omega

/-- The engine of a port after its request: the state it kept of the last exchange. -/
structure Requested (x y : PtpLive) (now : Nat) : Prop where
  waiting : y.waiting = true
  sequence : y.sequence = x.sequence + 1
  later : now < y.nextReq
  losses : y.losses = if x.waiting then x.losses + 1 else x.losses
  invalid : x.waiting = true → 2 ≤ x.losses → y.delayState = .invalid

theorem execPdelayReqSend_of {port : Nat} {s : State} (hr : s.runsPdelay port = true) (hn : (s.ptp port).nextReq ≤ s.now)
    (hp : port < s.time.ports.length) : ∃ t, execPdelayReqSend port s = .next t ∧ Requested (s.ptp port) (t.ptp port) s.now := by
  obtain ⟨a, b, hstamp, hlen, -⟩ := txStamp_ptp hp
  have hperiod := period_pos (s.ptpPort s.cur port).logInt
  unfold execPdelayReqSend
  simp only [hr, Nat.not_lt.mpr hn, Bool.not_true, Bool.false_or, decide_false, Bool.false_eq_true, if_false, done_eq]
  refine ⟨_, rfl, ?_⟩
  have hptp (t u : State) (h : t.time = u.time) : t.ptp port = u.ptp port := by rw [State.ptp, h, State.ptp]
  rw [hptp _ _ (settled_time _ _), hptp _ _ (sendFrame_time _ _ _), ptp_setPtp_self _ (by rw [hlen]; exact hp), hstamp]
  constructor
  · rfl
  · cases (s.ptp port).waiting <;> rfl
  · show s.now < (if _ then _ else _) + _
    split <;> omega
  · cases (s.ptp port).waiting <;> rfl
  · intro hw hl
    simp only [hw, if_true]
    rw [if_pos (by omega)]

/-- Settles O29. -/
theorem timeAndPeerDelayEventsComplete : Obligations.TimeAndPeerDelayEventsComplete := by
  refine ⟨?_, ?_, ?_, ?_, ?_, ?_, ?_, ?_, ?_, ?_⟩
  · intro rising s hb he hr
    obtain ⟨x, hx, htime⟩ := execPpsInCapture_of hb he hr
    refine ⟨_, hx, ?_⟩
    rw [settled_time, htime]
    exact ⟨rfl, rfl, rfl, rfl⟩
  · intro s hb he hc
    show execPpsOutEdge s = _
    simp only [execPpsOutEdge, hb, he, hc, done_eq, State.onTime, Bool.and_self, if_true]
  · intro s ho ht
    show execPpsOutFall s = _
    simp only [execPpsOutFall, ho, ht, done_eq, State.onTime, decide_true, Bool.and_self, if_true]
  · intro s t0 hl ho hr ht
    show execRclkResume s = _
    simp only [execRclkResume, hl, ho, hr, ht, done_eq, State.onTime, decide_true, Bool.not_false, Bool.and_self, if_true]
  · intro pf1 s hl
    show execTimeSnap pf1 s = _
    simp only [execTimeSnap, hl, if_true, done_eq]
    rfl
  · intro v s hl hb hi
    show execTimeIncLoWrite v s = _
    simp only [execTimeIncLoWrite, State.writeInc, hl, hb, hi, State.onTime, Bool.and_self, if_true, done_eq]
  · intro v s hl hb hi
    obtain ⟨hinc, h0, h1⟩ := writeInc_refused hi
    have hflags := incFlags_settled s (s.writeInc v)
    simp only [incFlags, Prod.mk.injEq] at hflags
    exact ⟨_, by show execTimeIncLoWrite v s = _; simp only [execTimeIncLoWrite, hl, hb, Bool.and_self, if_true, done_eq],
      by rw [settled_time, hinc], hflags.1.trans h0, hflags.2.trans h1⟩
  · intro port s hr hn hp hw
    obtain ⟨t, he, hq⟩ := execPdelayReqSend_of hr hn hp
    exact ⟨t, he, hq.waiting, hq.sequence, hq.later, by rw [hq.losses, hw]; rfl⟩
  · intro port s hr hn hp hw
    obtain ⟨t, he, hq⟩ := execPdelayReqSend_of hr hn hp
    exact ⟨t, he, by rw [hq.losses, hw]; rfl, hq.invalid hw⟩
  · intro port frame s k m hr hi
    show execPdelayReceive port frame s = _
    simp [execPdelayReceive, hr, hi, done_eq]

end Sys2Proof.TimeBase

/-! PROOFS. The commands of the time base (spec 13 R373, R374, R391). -/
namespace Sys2Proof.TimeCommands
open Machine Claims Answers

/-! TIME_STEP (R373, R374). -/

/-- The counter that an absolute TIME_STEP asks for, in units of 2^-32 ns. -/
def askedTime (m : Msg) : Nat := (m.f 8 8 * 1000000000 + m.f 4 4) * 2 ^ 32 + m.f 2 2 * 65536

/-- What an absolute step within the counter does: it is refused by the jump limit in service, or it is made. -/
theorem bodyTimeStep_absolute {m : Msg} {s : State} (h0 : m.p 0 = 1) (h1 : m.p 1 = 0) (h4 : m.f 4 4 < 1000000000)
    (hv : askedTime m < 2 ^ 64 * 1000000000 * 2 ^ 32) :
    bodyTimeStep m s =
      if s.inService && decide (s.time.jumpLimit * 2 ^ 32 < ((askedTime m : Int) - (s.time.raw : Int)).natAbs) then
        refuse (s.jumpRefused ((askedTime m : Int) - (s.time.raw : Int))) Status.range 24
      else ok (s.stepTo (askedTime m)) (counterBytes s.time.raw ++ counterBytes (askedTime m)) := by
  have hz : zeroAt m [1] = true := zeroAt_iff.mpr fun i hi => by rwa [List.mem_singleton.mp hi]
  have hafter : (s.time.raw : Int) + ((askedTime m : Int) - (s.time.raw : Int)) = (askedTime m : Int) := by omega
  have hbound : (decide ((askedTime m : Int) < 0) || decide ((2 : Int) ^ 64 * 1000000000 * 2 ^ 32 ≤ (askedTime m : Int))) = false := by
    simp only [Bool.or_eq_false_iff, decide_eq_false_iff_not]
    omega
  unfold bodyTimeStep
  simp only [h0, if_true, if_neg (show ¬(1 : Nat) < 1 by decide), if_neg (show ¬(1 : Nat) = 0 by decide), needZero_of _ _ _ _ hz,
    Nat.not_le.mpr h4, decide_true, decide_false, Bool.and_false, Bool.false_eq_true, if_false]
  rw [← askedTime, hafter, hbound, Int.toNat_natCast]
  rfl

theorem bodyTimeStep_made {m : Msg} {s : State} (h0 : m.p 0 = 1) (h1 : m.p 1 = 0) (h4 : m.f 4 4 < 1000000000)
    (hv : askedTime m < 2 ^ 64 * 1000000000 * 2 ^ 32)
    (hj : s.inService = true → ((askedTime m : Int) - (s.time.raw : Int)).natAbs ≤ s.time.jumpLimit * 2 ^ 32) :
    bodyTimeStep m s = ok (s.stepTo (askedTime m)) (counterBytes s.time.raw ++ counterBytes (askedTime m)) := by
  rw [bodyTimeStep_absolute h0 h1 h4 hv]
  cases hs : s.inService with
  | false => rfl
  | true => rw [decide_eq_false (Nat.not_lt.mpr (hj hs))]; rfl

theorem bodyTimeStep_refused {m : Msg} {s : State} (h0 : m.p 0 = 1) (h1 : m.p 1 = 0) (h4 : m.f 4 4 < 1000000000)
    (hv : askedTime m < 2 ^ 64 * 1000000000 * 2 ^ 32) (hs : s.inService = true)
    (hj : s.time.jumpLimit * 2 ^ 32 < ((askedTime m : Int) - (s.time.raw : Int)).natAbs) :
    bodyTimeStep m s = refuse (s.jumpRefused ((askedTime m : Int) - (s.time.raw : Int))) Status.range 24 := by
  rw [bodyTimeStep_absolute h0 h1 h4 hv, hs, decide_eq_true hj]
  rfl

theorem counterBytes_length (v : Nat) : (counterBytes v).length = 16 := by
  simp [counterBytes, CommandProtocol.le_length, zeros]

/-- INC set to a value in its range (R371). -/
theorem bodyTimeIncSet_sets {m : Msg} {s : State} (h0 : m.p 0 = 1) (hz : zeroAt m [1, 2, 3] = true)
    (hi : incOk (2 ^ 32 + signed 32 (m.f 4 4)).toNat = true) :
    ∃ x p, x = { s with time := s.time.setInc (2 ^ 32 + signed 32 (m.f 4 4)).toNat } ∧ bodyTimeIncSet m s = ok x p := by
  unfold bodyTimeIncSet
  simp only [h0, hi, List.append_nil, needZero_of _ _ _ _ hz, State.onTime,
    if_neg (show ¬(1 : Nat) < 1 by decide), if_neg (show ¬(1 : Nat) = 0 by decide), Bool.not_true, Bool.false_eq_true, if_false]
  exact ⟨_, _, rfl, rfl⟩

/-! The configuration of PPS and RCLK_OUT (R391). -/

theorem bodyTimeRclkConfig_sets {m : Msg} {s : State} (h0 : m.p 0 = 1) (hl : m.p 1 ≤ 25) (hlo : 16 ≤ m.f 2 2) (hhi : m.f 2 2 ≤ 4096)
    (hr : s.laneRate (m.p 1) = 0 ∨ (10000 * m.f 2 2 ≤ s.laneRate (m.p 1) ∧ s.laneRate (m.p 1) ≤ 400000 * m.f 2 2)) (h4 : m.p 4 ≤ 1)
    (hz : zeroAt m [5, 6, 7] = true) : ∃ x : Time, x = { s.time with
      rclkLane := m.p 1, rclkDiv := m.f 2 2, rclkOn := m.p 4 == 1,
      rclkRun := s.time.rclkRun && m.p 4 == 1 && m.p 1 == s.time.rclkLane } ∧
      bodyTimeRclkConfig m s = ok { s with time := x } (rclkRecord 1 x) := by
  refine ⟨_, rfl, ?_⟩
  have hrange : ¬(m.f 2 2 < 16 ∨ 4096 < m.f 2 2 ∨ (s.laneRate (m.p 1) ≠ 0 ∧
      (s.laneRate (m.p 1) < 10000 * m.f 2 2 ∨ 400000 * m.f 2 2 < s.laneRate (m.p 1)))) := by omega
  have hguard : (decide (m.f 2 2 < 16) || decide (4096 < m.f 2 2) || (s.laneRate (m.p 1) != 0 &&
      (decide (s.laneRate (m.p 1) < 10000 * m.f 2 2) || decide (400000 * m.f 2 2 < s.laneRate (m.p 1))))) = false := by
    rw [Bool.eq_false_iff]
    simpa [or_assoc] using hrange
  unfold bodyTimeRclkConfig
  simp only [h0, if_neg (show ¬(1 : Nat) < 1 by decide), if_neg (show ¬(1 : Nat) = 0 by decide), if_neg (Nat.not_lt.mpr hl), hguard,
    Bool.false_eq_true, if_false, if_neg (Nat.not_lt.mpr h4), needZero_of_subset hz (l' := span 5 7) (by decide), State.onTime]

theorem bodyTimePpsConfig_sets {m : Msg} {s : State} (h0 : m.p 0 = 1) (h1 : m.p 1 ≤ 7) (hz : zeroAt m [2, 3] = true)
    (hd : (signed 32 (m.f 4 4)).natAbs ≤ 64000) (hlo : 1 ≤ m.f 12 4) (hhi : m.f 12 4 ≤ 500000) :
    ∃ x : State, x.time.ppsDelay = signed 32 (m.f 4 4) ∧ x.time.ppsOffset = signed 32 (m.f 8 4) ∧ x.time.ppsWidth = m.f 12 4 ∧
      x.time.ppsInEn = Nat.testBit (m.p 1) 0 ∧ x.time.ppsInFalling = Nat.testBit (m.p 1) 1 ∧ x.time.ppsOutEn = Nat.testBit (m.p 1) 2 ∧
      bodyTimePpsConfig m s = ok x (ppsRecord 1 x.time) := by
  have hne : m.f 12 4 ≠ 0 := by omega
  unfold bodyTimePpsConfig
  simp only [h0, if_neg (show ¬(1 : Nat) < 1 by decide), if_neg (show ¬(1 : Nat) = 0 by decide), if_neg (Nat.not_lt.mpr h1),
    needZero_of _ _ _ _ hz, if_neg (Nat.not_lt.mpr hd), hne, Nat.not_lt.mpr hhi, decide_false, Bool.or_self, Bool.false_eq_true, if_false]
  exact ⟨_, rfl, rfl, rfl, rfl, rfl, rfl, rfl⟩

/-- Settles O30. -/
theorem timeCommandsComplete : Obligations.TimeCommandsComplete := by
  refine ⟨?_, ?_, ?_, ?_, ?_, ?_, ?_, ?_, ?_, ?_, ?_⟩
  · intro m s hp
    refine ⟨_, run_answers cmdTimeRead m s _ hp rfl, ?_⟩
    have hlen : (counterBytes s.time.raw ++ le 8 s.time.flow.toNat).length = 24 := by
      rw [List.length_append, counterBytes_length, CommandProtocol.le_length]
    simp only [List.append_assoc]
    rw [← List.append_assoc (counterBytes s.time.raw), List.take_left' hlen]
  · intro m s hp h0 h1 h4 hs
    exact ⟨_, rfl, fun hv => run_answers cmdTimeStep m s _ hp (bodyTimeStep_made h0 h1 h4 hv fun h => by rw [hs] at h; cases h)⟩
  · intro m s hp h0 h1 h4 hs
    exact ⟨_, rfl, fun hv => ⟨fun hj => run_answers cmdTimeStep m s _ hp (bodyTimeStep_made h0 h1 h4 hv fun _ => hj),
      fun hj => run_answers cmdTimeStep m s _ hp (bodyTimeStep_refused h0 h1 h4 hv hs hj)⟩⟩
  · intro m s hp hz
    have h0 : m.norm.p 0 = 0 := p_of_zeroAt hz 0 (by decide)
    refine run_answers cmdTimeJumpLimit m s _ hp ?_
    simp [cmdTimeJumpLimit, bodyTimeJumpLimit, h0, needZero_of_subset hz (l' := [1, 2, 3, 4, 5, 6, 7]) (by decide)]
    rfl
  · intro m s hp h0 hl hlo hhi hr h4 hz
    obtain ⟨x, hx, hb⟩ := bodyTimeRclkConfig_sets (s := s) h0 hl hlo hhi hr h4 hz
    exact ⟨x, hx, run_answers cmdTimeRclkConfig m s _ hp hb⟩
  · intro m s hp hz
    have h0 : m.norm.p 0 = 0 := p_of_zeroAt hz 0 (by decide)
    refine run_answers cmdTimeIncSet m s _ hp ?_
    simp [cmdTimeIncSet, bodyTimeIncSet, h0, needZero_of_subset hz (l' := [1, 2, 3, 4, 5, 6, 7]) (by decide)]
  · intro m s v hp h0 hz hv hi
    subst hv
    obtain ⟨x, p, hx, hb⟩ := bodyTimeIncSet_sets (s := s) h0 hz hi
    exact ⟨x, p, hx, run_answers cmdTimeIncSet m s _ hp hb⟩
  · intro m s hp h0 hz hlo hhi
    have hne : m.norm.f 4 4 ≠ 0 := by omega
    refine run_answers cmdTimeJumpLimit m s _ hp ?_
    simp [cmdTimeJumpLimit, bodyTimeJumpLimit, h0, needZero_of _ _ _ _ hz, hne, Nat.not_lt.mpr hhi, State.onTime]
  · intro m s hp hz
    have h0 : m.norm.p 0 = 0 := p_of_zeroAt hz 0 (by decide)
    refine run_answers cmdTimePpsConfig m s _ hp ?_
    simp [cmdTimePpsConfig, bodyTimePpsConfig, h0, needZero_of_subset hz (l' := span 1 15) (by decide)]
  · intro m s hp h0 h1 hz hd hlo hhi
    obtain ⟨x, a, b, c, d, e, f, hb⟩ := bodyTimePpsConfig_sets (s := s) h0 h1 hz hd hlo hhi
    exact ⟨x, a, b, c, d, e, f, run_answers cmdTimePpsConfig m s _ hp hb⟩
  · intro m s hp hz
    have h0 : m.norm.p 0 = 0 := p_of_zeroAt hz 0 (by decide)
    refine run_answers cmdTimeRclkConfig m s _ hp ?_
    simp [cmdTimeRclkConfig, bodyTimeRclkConfig, h0, needZero_of_subset hz (l' := span 1 7) (by decide)]

/-! A step that is refused (R374). -/

/-- Only the log and the functions' registers change, and both functions show JUMP_REFUSED and the alert. -/
theorem jumpRefused_eq (s : State) (step : Int) : ∃ (e : ErrLog) (h : HostIf), s.jumpRefused step = { s with err := e, host := h } ∧
    h.pf0.jumpRefused = true ∧ h.pf1.jumpRefused = true ∧ h.pf0.alert.getLsbD 8 = true ∧ h.pf1.alert.getLsbD 8 = true ∧
    { h with pf0 := s.host.pf0, pf1 := s.host.pf1 } = s.host := by
  obtain ⟨e, a, b, h⟩ := s.logError_frame ErrCode.timeJump 0 (le 8 (unsigned 64 (step.tdiv (2 ^ 32)))) false
  refine ⟨e, { s.host with
      pf0 := { a with alert := a.alert ||| (1#9 <<< AlertBit.timeJump), jumpRefused := true },
      pf1 := { b with alert := b.alert ||| (1#9 <<< AlertBit.timeJump), jumpRefused := true } }, ?_, rfl, rfl, ?_, ?_, rfl⟩
  · unfold State.jumpRefused
    rw [h]
    rfl
  · simp [AlertBit.timeJump]
  · simp [AlertBit.timeJump]

/-- A time asked for is below the counter's end where the counter after the step is. -/
theorem lt_of_after {v : Nat} (now : Nat) (h : (now : Int) + ((v : Int) - (now : Int)) < (2 : Int) ^ 64 * 1000000000 * 2 ^ 32) :
    v < 2 ^ 64 * 1000000000 * 2 ^ 32 := by omega

/-! TIME_PTP_CONFIG and TIME_CAL (R391). -/

theorem recPtpDevice_sets {m : Msg} {s : State} {b : Bytes} {base : Nat} (hm : m.stage = true) (h0 : byteAt b 0 = 1) (h1 : byteAt b 1 = 1)
    (hz : (firstNonZeroAt b ([3, 18, 19] ++ span 40 47)).isNone = true) :
    recTimePtpConfig m s b base = .ok (s.stagePtp fun c => PtpCfg.mk
        (PtpDevice.mk (byteAt b 2) (slice b 4 8) (slice b 12 6) (slice b 20 4) (slice b 24 16)) c.ports) [] := by
  simp only [recTimePtpConfig, recPtpDevice, h0, h1, hm, if_true, Bool.not_true, Bool.false_eq_true, if_false, recZero_of _ _ _ _ hz]

theorem recPtpDevice_reads {m : Msg} {s : State} {b : Bytes} {base : Nat} (h0 : byteAt b 0 = 1) (h1 : byteAt b 1 = 0)
    (hz : (firstNonZeroAt b (span 2 47)).isNone = true) :
    recTimePtpConfig m s b base = .ok s (ptpDeviceRecord 0 (s.view m).ptp.device) := by
  simp only [recTimePtpConfig, recPtpDevice, h0, h1, if_true, recZero_of _ _ _ _ hz]

theorem recPtpPort_reads {m : Msg} {s : State} {b : Bytes} {base : Nat} (h0 : byteAt b 0 = 2) (h1 : byteAt b 1 = 0) (h2 : byteAt b 2 ≤ 25)
    (hz : (firstNonZeroAt b (span 3 47)).isNone = true) :
    recTimePtpConfig m s b base = .ok s (ptpPortRecord 0 (byteAt b 2) (s.ptpPort (s.view m) (byteAt b 2))) := by
  simp [recTimePtpConfig, recPtpPort, h0, h1, Nat.not_lt.mpr h2, recZero_of _ _ _ _ hz]

theorem recPtpPort_sets {m : Msg} {s : State} {b : Bytes} {base : Nat} (hm : m.stage = true) (h0 : byteAt b 0 = 2) (h1 : byteAt b 1 = 1)
    (h2 : byteAt b 2 ≤ 25) (h3 : byteAt b 3 ≤ 2) (h4 : byteAt b 4 ≤ 1) (h5 : byteAt b 5 ≤ 2) (hlo : -4 ≤ signed 8 (byteAt b 6))
    (hhi : signed 8 (byteAt b 6) ≤ 4) (hz : (firstNonZeroAt b (span 7 47)).isNone = true) :
    recTimePtpConfig m s b base = .ok (s.stagePtp fun c => PtpCfg.mk c.device
        (c.ports.set (byteAt b 2) (PtpPort.mk (byteAt b 3) (byteAt b 4 == 1) (byteAt b 5) (signed 8 (byteAt b 6))))) [] := by
  simp [recTimePtpConfig, recPtpPort, h0, h1, hm, Nat.not_lt.mpr h2, Nat.not_lt.mpr h3, Nat.not_lt.mpr h4, Nat.not_lt.mpr h5,
    Int.not_lt.mpr hlo, Int.not_lt.mpr hhi, recZero_of _ _ _ _ hz]

theorem recTimeCal_reads {s : State} {b : Bytes} {base : Nat} (h0 : byteAt b 0 ≤ 25) (h1 : byteAt b 1 = 0)
    (hz : (firstNonZeroAt b (span 2 15)).isNone = true) : recTimeCal s b base = .ok s (calRecord s (byteAt b 0)) := by
  simp [recTimeCal, Nat.not_lt.mpr h0, h1, recZero_of _ _ _ _ hz]

theorem recTimeCal_sets {s : State} {b : Bytes} {base : Nat} (h0 : byteAt b 0 ≤ 25) (h1 : byteAt b 1 = 1) (h2 : byteAt b 2 = 0)
    (h3 : byteAt b 3 = 0) (hrx : (signed 32 (Machine.fieldLe b 4 4)).natAbs ≤ 64000)
    (htx : (signed 32 (Machine.fieldLe b 8 4)).natAbs ≤ 64000) (hz : (firstNonZeroAt b (span 12 15)).isNone = true) :
    recTimeCal s b base = .ok (s.setPtp (byteAt b 0) { s.ptp (byteAt b 0) with
      rxBoard := signed 32 (Machine.fieldLe b 4 4), txBoard := signed 32 (Machine.fieldLe b 8 4) }) [] := by
  have hz2 : ∀ i ∈ [2, 3], byteAt b i = 0 := by simp [h2, h3]
  simp [recTimeCal, Nat.not_lt.mpr h0, h1, recZero_of_bytes hz2, Nat.not_lt.mpr hrx, Nat.not_lt.mpr htx, recZero_of _ _ _ _ hz]

/-- Settles O31. -/
theorem ptpCommandsComplete : Obligations.PtpCommandsComplete := by
  refine ⟨?_, jumpRefused_eq, ?_, ?_, ?_, ?_, ?_, ?_⟩
  · intro m s hp h0 h1 h4 hs
    refine ⟨_, rfl, fun hj hv => run_answers cmdTimeStep m s _ hp (bodyTimeStep_refused h0 h1 h4 ?_ hs hj)⟩
    exact lt_of_after s.time.raw hv
  · intro m s b hp hm hr h0 h1 hz
    exact run_answers cmdTimePtpConfig m s _ hp (records_one _ _ _ _ _ _ _ hr (recPtpDevice_sets hm h0 h1 hz))
  · intro m s b hp hr h0 h1 h2 hz
    exact run_answers cmdTimePtpConfig m s _ hp (records_one _ _ _ _ _ _ _ hr (recPtpPort_reads h0 h1 h2 hz))
  · intro m s b hp hr h0 h1 hz
    exact run_answers cmdTimePtpConfig m s _ hp (records_one _ _ _ _ _ _ _ hr (recPtpDevice_reads h0 h1 hz))
  · intro m s b hp hm hr h0 h1 h2 h3 h4 h5 hlo hhi hz
    exact run_answers cmdTimePtpConfig m s _ hp (records_one _ _ _ _ _ _ _ hr (recPtpPort_sets hm h0 h1 h2 h3 h4 h5 hlo hhi hz))
  · intro m s b hp hr h0 h1 hz
    exact run_answers cmdTimeCal m s _ hp (records_one _ _ _ _ _ _ _ hr (recTimeCal_reads h0 h1 hz))
  · intro m s b hp hr h0 h1 h2 h3 hrx htx hz
    exact run_answers cmdTimeCal m s _ hp (records_one _ _ _ _ _ _ _ hr (recTimeCal_sets h0 h1 h2 h3 hrx htx hz))

end Sys2Proof.TimeCommands

/-! PROOFS. The commands of the parser (spec 04 R126-R131). -/
namespace Sys2Proof.ParseCommands
open Machine Claims Answers

theorem recParseNodeWrite_sets {m : Msg} {s : State} {b : Bytes} {base : Nat} (hm : m.stage = true) (hf : nodeFault b = none) :
    recParseNodeWrite m s b base = .ok (s.stageParse fun g => g.put b) [] := by
  simp [recParseNodeWrite, hm, hf]

theorem recParseNodeRead_reads {m : Msg} {s : State} {b : Bytes} {base : Nat} (hz : (firstNonZeroAt b [1, 2, 3]).isNone = true) :
    recParseNodeRead m s b base = .ok s ((tget? (s.view m).parse.nodes (byteAt b 0)).getD (le 1 (byteAt b 0) ++ zeros 223)) := by
  simp only [recParseNodeRead, recZero_of _ _ _ _ hz]

/-- Settles O32. -/
theorem parseCommandsComplete : Obligations.ParseCommandsComplete := by
  refine ⟨?_, ?_, ?_, ?_, ?_, ?_, ?_, ?_⟩
  · intro m s b hp hm hr hf
    exact run_answers cmdParseNodeWrite m s _ hp (records_one _ _ _ _ _ _ _ hr (recParseNodeWrite_sets hm hf))
  · intro m s b hp hr hz
    exact run_answers cmdParseNodeRead m s _ hp (records_one _ _ _ _ _ _ _ hr (recParseNodeRead_reads hz))
  · intro m s hp h0 hz
    refine ⟨_, run_answers cmdParseLimits m s _ hp (by
      simp only [cmdParseLimits, bodyParseLimits, h0, if_neg (show ¬(1 : Nat) < 0 by decide), if_true, needZero_of _ _ _ _ hz]
      rfl), rfl⟩
  · intro m s hp hm h0 h1 h32 h64 h512 h4 hz
    have hne : m.norm.p 1 ≠ 0 := by omega
    have hm' : m.norm.stage = true := hm
    refine run_answers cmdParseLimits m s _ hp ?_
    simp [cmdParseLimits, bodyParseLimits, h0, hm', hne, Nat.not_lt.mpr h32, Nat.not_lt.mpr h64, Nat.not_lt.mpr h512, Nat.not_lt.mpr h4,
      needZero_of_subset hz (l' := 5 :: 6 :: 7 :: span 36 39) (by decide)]
  · intro m s hp h0 hz hf
    refine run_answers cmdParseGraphLoad m s _ hp ?_
    simp [cmdParseGraphLoad, bodyParseGraphLoad, h0, needZero_of _ _ _ _ hz, hf]
    rfl
  · intro m s hp hm h0 hz hf
    have hm' : m.norm.stage = true := hm
    refine run_answers cmdParseGraphLoad m s _ hp ?_
    simp [cmdParseGraphLoad, bodyParseGraphLoad, h0, needZero_of _ _ _ _ hz, hf, hm']
  · intro m s hp hz
    have h0 : m.norm.p 0 = 0 := p_of_zeroAt hz 0 (by decide)
    have h1 : m.norm.p 1 = 0 := p_of_zeroAt hz 1 (by decide)
    have h2 : m.norm.p 2 = 0 := p_of_zeroAt hz 2 (by decide)
    refine run_answers cmdParseCounters m s _ hp ?_
    simp [cmdParseCounters, bodyParseCounters, h0, h1, h2, needZero_of_subset hz (l' := [3]) (by decide)]
  · intro m s hp h0 h1 h2 h3
    have hz : zeroAt m.norm [3] = true := zeroAt_iff.mpr fun i hi => by rwa [List.mem_singleton.mp hi]
    refine run_answers cmdParseCounters m s _ hp ?_
    simp [cmdParseCounters, bodyParseCounters, h0, h1, h2, needZero_of _ _ _ _ hz]

end Sys2Proof.ParseCommands

/-!
PROOFS. What one access to device memory leaves: a read with assay, whatever it finds, and a write through the queue, with the record that
a pair's primary makes of it (spec 07 R17-R22, R220-R226, 12 R352-R356, 17 R492).
-/
namespace Sys2Proof.MemoryAccess
open Machine Claims

/-- What an access leaves: the versions, the epoch, the tasks, the directory and free space, and the place of every pass. -/
structure Access (s t : State) : Prop where
  now : t.now = s.now
  cur : t.cur = s.cur
  shadow : t.shadow = s.shadow
  drain : t.drain = s.drain
  epoch : t.epoch = s.epoch
  parse : t.parse = s.parse
  fwd : t.fwd = s.fwd
  miners : t.miners = s.miners
  telem : t.telem = s.telem
  pending : t.pending = s.pending
  pins : t.pins = s.pins
  power : t.power = s.power
  builds : t.rule.builds = s.rule.builds
  sequence : t.rule.sequence = s.rule.sequence
  ruleCounters : t.rule.counters = s.rule.counters
  dir : t.dram.dir = s.dram.dir
  free : t.dram.free = s.dram.free
  regions : t.dram.regions = s.dram.regions
  growth : t.dram.growth = s.dram.growth
  clearing : t.dram.clearing = s.dram.clearing
  jobs : t.dram.jobs = s.dram.jobs
  lastJob : t.dram.lastJob = s.dram.lastJob
  lost : t.dram.channels = s.dram.channels
  blocks : t.nat.blocks = s.nat.blocks
  deferred : t.nat.deferred = s.nat.deferred
  bindings : t.nat.live = s.nat.live
  repairs : t.nat.repairs = s.nat.repairs
  sweepNext : t.flow.sweepNext = s.flow.sweepNext
  scrubNext : t.flow.scrubNext = s.flow.scrubNext
  scrubPos : t.flow.scrubPos = s.flow.scrubPos
  exporter : t.flow.exporter = s.flow.exporter
  cache : t.flow.cache = s.flow.cache
  queues : t.buf.queues = s.buf.queues
  channels : t.host.channels = s.host.channels
  owner : t.host.owner = s.host.owner

theorem Access.rfl' (s : State) : Access s s := by constructor <;> rfl

theorem Access.trans {s t u : State} (h : Access s t) (g : Access t u) : Access s u where
  now := g.now.trans h.now
  cur := g.cur.trans h.cur
  shadow := g.shadow.trans h.shadow
  drain := g.drain.trans h.drain
  epoch := g.epoch.trans h.epoch
  parse := g.parse.trans h.parse
  fwd := g.fwd.trans h.fwd
  miners := g.miners.trans h.miners
  telem := g.telem.trans h.telem
  pending := g.pending.trans h.pending
  pins := g.pins.trans h.pins
  power := g.power.trans h.power
  builds := g.builds.trans h.builds
  sequence := g.sequence.trans h.sequence
  ruleCounters := g.ruleCounters.trans h.ruleCounters
  dir := g.dir.trans h.dir
  free := g.free.trans h.free
  regions := g.regions.trans h.regions
  growth := g.growth.trans h.growth
  clearing := g.clearing.trans h.clearing
  jobs := g.jobs.trans h.jobs
  lastJob := g.lastJob.trans h.lastJob
  lost := g.lost.trans h.lost
  blocks := g.blocks.trans h.blocks
  deferred := g.deferred.trans h.deferred
  bindings := g.bindings.trans h.bindings
  repairs := g.repairs.trans h.repairs
  sweepNext := g.sweepNext.trans h.sweepNext
  scrubNext := g.scrubNext.trans h.scrubNext
  scrubPos := g.scrubPos.trans h.scrubPos
  exporter := g.exporter.trans h.exporter
  cache := g.cache.trans h.cache
  queues := g.queues.trans h.queues
  channels := g.channels.trans h.channels
  owner := g.owner.trans h.owner

theorem Access.foldl {α : Type} {f : State → α → State} (hf : ∀ s a, Access s (f s a)) (l : List α) (s : State) : Access s (l.foldl f s) := by
  induction l generalizing s with
  | nil => exact .rfl' s
  | cons a l ih => exact (hf s a).trans (ih _)

theorem Access.of_calm {s t : State} {l : Life} (h : Calm { s with life := l } t) : Access s t where
  now := h.now
  cur := h.cur
  shadow := h.shadow
  drain := h.drain
  epoch := h.epoch
  parse := h.parse
  fwd := h.fwd
  miners := h.miners
  telem := h.telem
  pending := h.pending
  pins := h.pins
  power := h.power
  builds := congrArg RuleLive.builds h.rule
  sequence := congrArg RuleLive.sequence h.rule
  ruleCounters := congrArg RuleLive.counters h.rule
  dir := congrArg Stacks.dir h.dram
  free := congrArg Stacks.free h.dram
  regions := congrArg Stacks.regions h.dram
  growth := congrArg Stacks.growth h.dram
  clearing := congrArg Stacks.clearing h.dram
  jobs := congrArg Stacks.jobs h.dram
  lastJob := congrArg Stacks.lastJob h.dram
  lost := congrArg Stacks.channels h.dram
  blocks := congrArg NatLive.blocks h.nat
  deferred := congrArg NatLive.deferred h.nat
  bindings := congrArg NatLive.live h.nat
  repairs := congrArg NatLive.repairs h.nat
  sweepNext := congrArg FlowLive.sweepNext h.flow
  scrubNext := congrArg FlowLive.scrubNext h.flow
  scrubPos := congrArg FlowLive.scrubPos h.flow
  exporter := congrArg FlowLive.exporter h.flow
  cache := congrArg FlowLive.cache h.flow
  queues := h.buf_queues
  channels := h.host_channels
  owner := h.host_owner

theorem Access.of_sent {s t : State} (h : SentOnly s t) : Access s t := by
  obtain ⟨_, _, rfl⟩ := h
  constructor <;> rfl

theorem Access.of_logOnly {s t : State} (h : LogOnly s t) : Access s t := by
  obtain ⟨_, _, _, rfl⟩ := h
  constructor <;> rfl

theorem access_logError (s : State) (cls inst : Nat) (d : Bytes) (c : Bool) : Access s (s.logError cls inst d c) :=
  .of_logOnly (s.logError_frame cls inst d c)

theorem access_pairEvent (s : State) (cls inst : Nat) (d : Bytes) (c : Bool) : Access s (s.pairEvent cls inst d c) :=
  (access_logError s cls inst d c).trans (by constructor <;> rfl)

theorem access_setPair (s : State) (st : PairState) (r : Role) : Access s (s.setPair st r) := by
  obtain ⟨x, l, h⟩ := State.noteLinks_frame s { s with pair := { s.pair with state := st, role := r } }
  unfold State.setPair
  rw [h]
  obtain ⟨life, hcalm⟩ := State.setFault_frame { s with
    pair := { s.pair with state := st, role := r }, ports := x, buf := { s.buf with arriving := l } } FaultBit.pairSolo
    (st == .solo || st == .syncing || (st == .diverged && s.life.faults.getLsbD FaultBit.pairSolo))
  have hset : Access s { s with pair := { s.pair with state := st, role := r }, ports := x, buf := { s.buf with arriving := l } } := by
    constructor <;> rfl
  exact hset.trans (.of_calm hcalm)

/-! Writes (R353-R355, R492). -/

theorem access_journalLive (s : State) (i : Nat) (p : Bytes) (k : Nat) : Access s (s.journalLive i p k) := by
  unfold State.journalLive State.journalAdd
  split
  · have hpush : Access s (s.pushRecord k i p) := by constructor <;> rfl
    exact hpush.trans (.of_sent (State.onPeer_frame _ _))
  · extract_lets _ s1 s2
    have h1 : Access s s1 := by constructor <;> rfl
    have h2 : Access s s2 := (h1.trans (access_pairEvent _ _ _ _ _)).trans (access_setPair _ _ _)
    split
    · have h3 : Access s2 { s2 with pair := { s2.pair with resync := true, copied := false, tilesCopied := 0 } } := by constructor <;> rfl
      exact ((h2.trans h3).trans (access_setPair _ _ _)).trans (access_pairEvent _ _ _ _ _)
    · exact h2

theorem access_judgeDrain (s : State) : Access s s.judgeDrain := by constructor <;> rfl

theorem access_queueWrite (s : State) (i : Nat) (p : Bytes) : Access s (s.queueWrite i p) := by
  unfold State.queueWrite
  extract_lets had wq n c0 c1 c2 _ _ s1 s2
  have h1 : Access s s1 := by constructor <;> rfl
  have h2 : Access s s2 := h1.trans (access_judgeDrain s1)
  split
  · exact h2.trans (access_journalLive _ _ _ _)
  · exact h2

theorem access_issueRead (s : State) (c : Nat) : Access s (s.issueRead c) := by
  unfold State.issueRead
  split
  · constructor <;> rfl
  · exact .rfl' s

theorem access_issueBatch (s : State) (c : Nat) : Access s (s.issueBatch c) :=
  (Access.foldl (f := State.issueWrite) (fun _ _ => by constructor <;> rfl) _ s).trans (access_judgeDrain _)

theorem access_waitRoom (i n : Nat) (s : State) : Access s (State.waitRoom i n s) := by
  induction n generalizing s with
  | zero => exact .rfl' s
  | succ n ih =>
    unfold State.waitRoom
    split
    · exact .rfl' s
    · split
      · exact ((access_issueBatch s _).trans (access_issueRead _ _)).trans (ih _)
      · exact .rfl' s

theorem access_taskWrite (s : State) (i : Nat) (p : Bytes) : Access s (s.taskWrite i p) :=
  (access_waitRoom i 17 s).trans (access_queueWrite _ i p)

theorem access_putTile (s : State) (i : Nat) (p : Bytes) : Access s (s.putTile i p) := access_taskWrite s i p

/-! Faults (R220-R226). -/

theorem access_lifeCount (s : State) (i n : Nat) : Access s (s.lifeCount i n) := by constructor <;> rfl
theorem access_memCount (s : State) (i n : Nat) : Access s (s.memCount i n) := by constructor <;> rfl

theorem access_withRetired {s : State} (rows : List Retired) {x : RuleLive} {f : FlowLive}
    (hx : ∃ a b, x = { s.rule with storeRetired := a, storeFree := b })
    (hf : ∃ a b, f = { s.flow with hotRetired := a, cacheRetired := b }) :
    Access s { s with dram := { s.dram with retired := rows }, rule := x, flow := f } := by
  obtain ⟨_, _, rfl⟩ := hx
  obtain ⟨_, _, rfl⟩ := hf
  constructor <;> rfl

theorem access_retireIndex (s : State) (space i : Nat) : Access s (s.retireIndex space i) := by
  have hx : ∃ a b, (if space = 1 then s.rule.retire i else s.rule) = { s.rule with storeRetired := a, storeFree := b } := by
    split
    · exact ⟨_, _, rfl⟩
    · exact ⟨_, _, rfl⟩
  have hf : ∃ a b, (if space = 2 then { s.flow with hotRetired := s.flow.hotRetired ++ [i] }
      else if space = 3 then { s.flow with cacheRetired := s.flow.cacheRetired ++ [i] } else s.flow) =
      { s.flow with hotRetired := a, cacheRetired := b } := by
    split
    · exact ⟨_, _, rfl⟩
    · split
      · exact ⟨_, _, rfl⟩
      · exact ⟨_, _, rfl⟩
  have h1 := access_withRetired (s.dram.retired ++
    [{ kind := 1, source := 2, space := space, stack := if space = 0 then i / 16 % 2 else 0, index := i, clock := s.time.flow }]) hx hf
  exact (h1.trans (access_lifeCount _ _ _)).trans (access_logError _ _ _ _ _)

theorem access_countFault (s : State) (space i : Nat) : Access s (s.countFault space i) := by
  unfold State.countFault
  extract_lets now live
  split
  · have hold (b : Bool) (x y : List Fault24) : Access s (if b then ({ s with flow := { s.flow with history := x } }).retireIndex space i
        else { s with flow := { s.flow with history := y } }) := by
      cases b
      · constructor <;> rfl
      · exact .trans (by constructor <;> rfl) (access_retireIndex _ _ _)
    exact hold _ _ _
  · split
    · constructor <;> rfl
    · constructor <;> rfl

theorem access_logAssay (s : State) (space i : Nat) (who : Consumer) (kind : Nat) : Access s (s.logAssay space i who kind) :=
  (access_countFault s space i).trans (access_logError _ _ _ _ _)

theorem access_quarantineTile (s : State) (i : Nat) : Access s (s.quarantineTile i) := by
  unfold State.quarantineTile
  extract_lets s0 _ s1
  have h1 : Access s s1 := by
    show Access s (if _ then _ else _)
    split
    · constructor <;> rfl
    · exact access_lifeCount s 9 1
  split
  · exact h1.trans (access_queueWrite _ _ _)
  · exact h1.trans (by constructor <;> rfl)

theorem access_emitTailing (s : State) (f : Bytes) (reason flags home : Nat) (d : Bytes) :
    Access s (s.emitTailing f reason flags home d) := by
  unfold State.emitTailing
  split
  · exact (access_lifeCount _ _ _).trans (access_logError _ _ _ _ _)
  · have hput (x : Tailing) : Access s (s.putTailing x) :=
      .trans (t := { s with flow := { s.flow with tailings := s.flow.tailings ++ [x] } }) (by constructor <;> rfl)
        ((access_taskWrite _ _ _).trans (access_taskWrite _ _ _))
    exact (hput _).trans (access_lifeCount _ _ _)

theorem access_faultTile (s : State) (i : Nat) (who : Consumer) : Access s (s.faultTile i who) := by
  unfold State.faultTile
  extract_lets asRead s1
  have h1 : Access s s1 := (access_logAssay s 0 i who 0).trans (access_quarantineTile _ i)
  split
  · split
    · exact h1.trans (by constructor <;> rfl)
    · split
      · exact h1
      · exact h1.trans (access_emitTailing _ _ _ _ _ _)
  · exact h1

/-! Reads (R17, R18, R352). -/

theorem access_realTimeFirst (c n : Nat) (s : State) : Access s (State.realTimeFirst c n s) := by
  induction n generalizing s with
  | zero => exact .rfl' s
  | succ n ih =>
    unfold State.realTimeFirst
    split
    · exact (access_issueRead s c).trans (ih _)
    · exact .rfl' s

theorem access_readSlot (s : State) (i : Nat) : Access s (s.readSlot i) :=
  (access_realTimeFirst _ 127 s).trans (by constructor <;> rfl)

theorem access_readTileIn (s : State) (v : Staged) (i : Nat) (who : Consumer) : Access s (s.readTileIn v i who).2 := by
  unfold State.readTileIn
  split
  · exact access_memCount _ _ _
  · extract_lets s1 s2
    have h1 : Access s s1 := access_memCount _ _ _
    have h2 : Access s s2 := by
      show Access s (if _ then _ else _)
      split
      · exact h1.trans (access_memCount _ _ _)
      · split
        · exact h1
        · exact h1.trans (access_readSlot _ _)
    split
    · exact h2
    · exact h2.trans (access_faultTile _ _ _)

theorem access_readTile (s : State) (i : Nat) (who : Consumer) : Access s (s.readTile i who).2 := access_readTileIn s s.cur i who

theorem access_readTiles (who : Consumer) (is : List Nat) (s : State) : Access s (readTiles who is s).2 := by
  induction is generalizing s with
  | nil => exact .rfl' s
  | cons i is ih => exact (access_readTile s i who).trans (ih _)

theorem access_storeFault (s : State) (i : Nat) (who : Consumer) : Access s (s.storeFault i who) := by
  unfold State.storeFault
  exact ((access_logAssay s 1 i who 1).trans (access_lifeCount _ _ _)).trans (by constructor <;> rfl)

theorem access_readCells (v : Staged) (hurt : Upsets) (who : Consumer) (cs : List (Bool × Nat)) (s : State) :
    Access s (readCells v hurt who cs s).2 := by
  induction cs generalizing s with
  | nil => exact .rfl' s
  | cons c cs ih =>
    have hcell : Access s (s.readCell v hurt c who).2 := by
      unfold State.readCell
      split
      · split
        · exact access_storeFault _ _ _
        · exact .rfl' s
      · exact access_readTileIn _ _ _ _
    exact hcell.trans (ih _)

theorem access_upset (s : State) (u : Upsets) : Access s (s.upset u) := by constructor <;> rfl

end Sys2Proof.MemoryAccess

/-! PROOFS. The commands of the rule tables, builds and repair (spec 05 R144-R167). -/
namespace Sys2Proof.RuleTables
open Machine Claims Answers CommitTerms MemoryAccess

/-! What an edit of the shadow leaves: the current version, the builds and their sequence. -/

/-- The versions, the builds and the build sequence. -/
def staged (s : State) : Staged × Staged × List Build × Nat := (s.cur, s.shadow, s.rule.builds, s.rule.sequence)

theorem staged_of_access {s t : State} (h : Access s t) : staged t = staged s := by
  rw [staged, h.cur, h.shadow, h.builds, h.sequence, staged]

theorem cur_of_staged {s t : State} (h : staged t = staged s) : t.cur = s.cur := congrArg (·.1) h
theorem shadow_of_staged {s t : State} (h : staged t = staged s) : t.shadow = s.shadow := congrArg (·.2.1) h
theorem builds_of_staged {s t : State} (h : staged t = staged s) : t.rule.builds = s.rule.builds := congrArg (·.2.2.1) h

theorem staged_settleRules (s : State) : staged s.settleRules = staged s := by
  refine foldl_keeps staged (fun s e => ?_) _ s
  exact foldl_keeps staged (f := State.releaseRun) (fun _ _ => rfl) _ _

theorem staged_newSource (s : State) (ts : List Nat) : staged (s.newSource ts).2 = staged s := by
  unfold State.newSource
  split <;> rfl

theorem staged_putRule (s : State) (a b : Nat) (r : Bytes) : staged (s.putRule a b r) = staged s :=
  staged_of_access ((access_putTile _ _ _).trans (access_putTile _ _ _))

theorem staged_putRules (ts : List Nat) (rs : List Bytes) (s : State) : staged (putRules ts rs s) = staged s := by
  induction rs generalizing ts s with
  | nil => cases ts with
    | nil => rfl
    | cons a ts => cases ts <;> rfl
  | cons r rs ih => match ts with
    | [] => rfl
    | [_] => rfl
    | a :: b :: ts => exact (ih ts _).trans (staged_putRule s a b r)

/-- A table whose structure has other places. -/
def Moved (t t' : RuleTable) : Prop := ∃ store root, t' = { t with store := store, root := root }

theorem Moved.trans {a b c : RuleTable} (h : Moved a b) (g : Moved b c) : Moved a c := by
  obtain ⟨_, _, rfl⟩ := h
  obtain ⟨x, y, rfl⟩ := g
  exact ⟨x, y, rfl⟩

theorem cowPlace_keeps (x : RuleTable × State) (p : Nat) : Moved x.1 (State.cowPlace x p).1 ∧ staged (State.cowPlace x p).2 = staged x.2 := by
  obtain ⟨t, s⟩ := x
  unfold State.cowPlace
  dsimp only
  split
  · split
    · exact ⟨⟨_, _, rfl⟩, rfl⟩
    · exact ⟨⟨_, _, rfl⟩, rfl⟩
  · exact ⟨⟨_, _, rfl⟩, rfl⟩

theorem cowRoot_keeps (s : State) (t : RuleTable) : Moved t (s.cowRoot t).1 ∧ staged (s.cowRoot t).2 = staged s := by
  unfold State.cowRoot
  split
  · exact ⟨⟨_, _, rfl⟩, rfl⟩
  · split
    · exact ⟨⟨_, _, rfl⟩, rfl⟩
    · exact ⟨⟨_, _, rfl⟩, rfl⟩

theorem editStore_keeps (s : State) (t : RuleTable) (i : Nat) (r : Bytes) (rules : List Bytes) :
    Moved t (s.editStore t i r rules).1 ∧ staged (s.editStore t i r rules).2 = staged s := by
  obtain ⟨hm1, hs1⟩ := cowPlace_keeps (t, s) (16 + t.maxMasks + i)
  obtain ⟨hm2, hs2⟩ := cowPlace_keeps (State.cowPlace (t, s) (16 + t.maxMasks + i))
    (16 + ((rules.map ruleMask).eraseDups.findIdx? (· == ruleMask r)).getD 0)
  obtain ⟨hm3, hs3⟩ := cowRoot_keeps (State.cowPlace (State.cowPlace (t, s) (16 + t.maxMasks + i))
    (16 + ((rules.map ruleMask).eraseDups.findIdx? (· == ruleMask r)).getD 0)).2 (State.cowPlace (State.cowPlace (t, s) (16 + t.maxMasks + i))
    (16 + ((rules.map ruleMask).eraseDups.findIdx? (· == ruleMask r)).getD 0)).1
  exact ⟨(hm1.trans hm2).trans hm3, (hs3.trans hs2).trans hs1⟩

/-- A table put into the shadow is there after what no version holds is released. -/
theorem stageRule_settled (s : State) (t : Nat) (x : RuleTable) :
    tget? (s.stageRule t x).settleRules.shadow.rule.tables t = some x ∧ (s.stageRule t x).settleRules.cur = s.cur := by
  have h := staged_settleRules (s.stageRule t x)
  refine ⟨?_, (cur_of_staged h).trans rfl⟩
  rw [shadow_of_staged h]
  exact tget?_tset_self _ _ _

/-! RULE_LOAD (R161). -/

/-- The two tiles of a new rule are written, its source seam made and its counters held. -/
def withRule (s s1 : State) (t : Nat) (x : RuleTable) (r : Bytes) (two : List Nat) : Option Nat × State :=
  let ts := s.sourceTiles x
  let p := (s1.putRule (two.getD 0 0) (two.getD 1 0) r).newSource
    (ts.take (2 * x.rules.length) ++ two ++ ts.drop (2 * x.rules.length + 2))
  (p.1, { p.2 with rule := { p.2.rule with counters := p.2.withCounters t [r] } })

theorem staged_withRule (s s1 : State) (t : Nat) (x : RuleTable) (r : Bytes) (two : List Nat) :
    staged (withRule s s1 t x r two).2 = staged s1 :=
  (staged_newSource _ _).trans (staged_putRule _ _ _ _)

theorem insertRule_eq {s s1 : State} {t : Nat} {x : RuleTable} {r : Bytes} {two : List Nat}
    (hid : x.rules.findIdx? (fun q => ruleId q == ruleId r) = none) (ht : s.takeTiles 2 = some (two, s1))
    (hd : s.editDescs x ≤ s1.dram.dir.freeCount) : s.insertRule t x r =
      .ok (((withRule s s1 t x r two).2.editStore x x.rules.length r (x.rules ++ [r])).2.stageRule t
        { ((withRule s s1 t x r two).2.editStore x x.rules.length r (x.rules ++ [r])).1 with
          rules := x.rules ++ [r], source := (withRule s s1 t x r two).1 }).settleRules [] := by
  unfold State.insertRule
  simp only [hid, Bool.false_eq_true, if_false, ht, if_neg (Nat.not_lt.mpr hd), Option.getD_none]
  rfl

/-- A new rule is put behind the others of its table. -/
theorem insertRule_new {s : State} {t : Nat} {x : RuleTable} {r : Bytes} (hid : x.rules.findIdx? (fun q => ruleId q == ruleId r) = none)
    (ha : (allocRuns s.dram.free 2).isSome = true) (hd : s.editDescs x ≤ s.dram.dir.freeCount) :
    ∃ y z, tget? y.shadow.rule.tables t = some z ∧ z.rules = x.rules ++ [r] ∧ z.maxRules = x.maxRules ∧ y.cur = s.cur ∧
      s.insertRule t x r = .ok y [] := by
  obtain ⟨a, ha⟩ := Option.isSome_iff_exists.mp ha
  have ht : s.takeTiles 2 = some (tilesOfRuns a.1, { s with dram := { s.dram with free := a.2 } }) := by
    rw [State.takeTiles, if_neg (by decide), ha]
    rfl
  have hbase := staged_withRule s { s with dram := { s.dram with free := a.2 } } t x r (tilesOfRuns a.1)
  have heq := insertRule_eq (t := t) hid ht hd
  generalize withRule s { s with dram := { s.dram with free := a.2 } } t x r (tilesOfRuns a.1) = p at hbase heq
  obtain ⟨⟨store, root, hmoved⟩, hedit⟩ := editStore_keeps p.2 x x.rules.length r (x.rules ++ [r])
  obtain ⟨hget, hcur⟩ := stageRule_settled (p.2.editStore x x.rules.length r (x.rules ++ [r])).2 t
    { (p.2.editStore x x.rules.length r (x.rules ++ [r])).1 with rules := x.rules ++ [r], source := p.1 }
  refine ⟨_, _, hget, rfl, by rw [hmoved], ?_, heq⟩
  rw [hcur, cur_of_staged hedit, cur_of_staged hbase]

/-- The shadow's structure once a rule's record is deleted. -/
def withoutRule (s : State) (x : RuleTable) (i : Nat) : RuleTable × State :=
  let e := s.editStore x i (x.rules.getD i []) x.rules
  let tile := tileAt e.1.store (16 + x.maxMasks + i)
  e.2.cowRoot { e.1 with store := dropIndex e.1.store tile ++ [(tile, 1)] }

theorem staged_withoutRule (s : State) (x : RuleTable) (i : Nat) : staged (withoutRule s x i).2 = staged s :=
  (cowRoot_keeps _ _).2.trans (editStore_keeps _ _ _ _ _).2

theorem deleteRule_eq {s : State} (t : Nat) {x : RuleTable} (i : Nat) (hd : s.editDescs x ≤ s.dram.dir.freeCount) :
    ∃ p : Option Nat × State, staged p.2 = staged s ∧ s.deleteRule t x i =
      .ok ((withoutRule p.2 x i).2.stageRule t { (withoutRule p.2 x i).1 with rules := x.rules.eraseIdx i, source := p.1 }).settleRules [] := by
  refine ⟨s.newSource ((s.sourceTiles x).take (2 * i) ++ (s.sourceTiles x).drop (2 * i + 2)), staged_newSource _ _, ?_⟩
  unfold State.deleteRule
  simp only [if_neg (Nat.not_lt.mpr hd)]
  rfl

theorem deleteRule_of {s : State} (t : Nat) {x : RuleTable} (i : Nat) (hd : s.editDescs x ≤ s.dram.dir.freeCount) :
    ∃ y z, tget? y.shadow.rule.tables t = some z ∧ z.rules = x.rules.eraseIdx i ∧ y.cur = s.cur ∧ s.deleteRule t x i = .ok y [] := by
  obtain ⟨p, hp, heq⟩ := deleteRule_eq t i hd
  obtain ⟨hget, hcur⟩ := stageRule_settled (withoutRule p.2 x i).2 t
    { (withoutRule p.2 x i).1 with rules := x.rules.eraseIdx i, source := p.1 }
  refine ⟨_, _, hget, rfl, ?_, heq⟩
  rw [hcur, cur_of_staged (staged_withoutRule p.2 x i), cur_of_staged hp]

theorem recRuleLoad_inserts {m : Msg} {s : State} {b r : Bytes} {base t : Nat} {x : RuleTable} (hm : m.stage = true) (hr : r = slice b 8 120)
    (ht : t = byteAt b 0) (h1 : byteAt b 1 = 1) (hz : (firstNonZeroAt b (span 2 7)).isNone = true) (hb : s.building t = false)
    (hx : tget? s.shadow.rule.tables t = some x) (hf : ruleFault r (segmentsWidth x.segments) (isEgress t) = none)
    (he : s.entryBeyond (slice r 88 24) = false) (hmax : (x.rules.filter fun q => ruleId q != ruleId r).length < x.maxRules)
    (hmask : masksOf ((x.rules.filter fun q => ruleId q != ruleId r) ++ [r]) ≤ x.maxMasks)
    (hc : (s.withCounters t [r]).length ≤ 163840) : recRuleLoad m s b base = s.insertRule t x r := by
  subst hr ht
  unfold recRuleLoad
  simp only [hm, hx, hb, h1, hf, he, recZero_of _ _ _ _ hz, if_neg (Nat.not_le.mpr hmax), if_neg (Nat.not_lt.mpr hmask),
    if_neg (Nat.not_lt.mpr hc), Bool.not_true, Bool.false_eq_true, if_false, if_neg (show ¬(1 : Nat) = 2 by decide)]
  rfl

theorem recRuleLoad_deletes {m : Msg} {s : State} {b : Bytes} {base t i : Nat} {x : RuleTable} (hm : m.stage = true)
    (ht : t = byteAt b 0) (h1 : byteAt b 1 = 2) (hz : (firstNonZeroAt b (span 2 7)).isNone = true)
    (hz2 : (firstNonZeroAt b (span 12 127)).isNone = true) (hb : s.building t = false) (hx : tget? s.shadow.rule.tables t = some x)
    (hi : x.rules.findIdx? (fun q => ruleId q == ruleId (slice b 8 120)) = some i) : recRuleLoad m s b base = s.deleteRule t x i := by
  subst ht
  unfold recRuleLoad
  simp only [hm, hx, hb, h1, hi, recZero_of _ _ _ _ hz, recZero_of _ _ _ _ hz2, Bool.not_true, Bool.false_eq_true, if_false,
    if_true, decide_true, Bool.or_true]

/-! RULE_BUILD (R145-R151, R162). -/

theorem building_setBuild_running {s : State} {t : Nat} {b : Build} (ht : t < s.rule.builds.length) (hb : b.state = .running) :
    (s.setBuild t b).building t = true := by
  simp [State.building, State.setBuild, ht, hb]

/-- A build with no list is accepted: its number is the next, and its table is building. -/
theorem startBuild_of {m : Msg} {s : State} (hn : m.f 16 4 = 0) (ht : m.p 0 < s.rule.builds.length)
    (ha : (allocRuns s.rule.storeFree (m.f 4 4 + m.f 8 2 + 16)).isSome = true) (hd : 1 ≤ s.dram.dir.freeCount)
    (hw : (s.newTask TaskType.seamBuild (.ruleBuild (m.p 0))).isSome = true) :
    ∃ x : State, x.rule.sequence = s.rule.sequence + 1 ∧ x.building (m.p 0) = true ∧ x.shadow = s.shadow ∧
      s.startBuild m none = ok x (le 4 (s.rule.sequence + 1)) := by
  obtain ⟨⟨rs, rest⟩, ha⟩ := Option.isSome_iff_exists.mp ha
  obtain ⟨s1, h1, miners, rfl⟩ : ∃ s1, State.newTasks TaskType.seamBuild (.ruleBuild (m.p 0))
      (min 8 (s.typeCfg TaskType.seamBuild).maxMiners) s = some s1 ∧ MinersOnly s s1 := by
    cases min 8 (s.typeCfg TaskType.seamBuild).maxMiners with
    | zero => exact ⟨s, rfl, .rfl' s⟩
    | succ n => exact Tasks.newTasks_of_newTask n hw
  refine ⟨_, ?_, ?_, ?_, by
    simp only [State.startBuild, hn, if_true, ha, if_neg (Nat.not_lt.mpr hd), h1]; rfl⟩
  · rfl
  · exact building_setBuild_running (s := { s with miners := miners }) ht rfl
  · rfl

theorem bodyRuleBuild_starts {m : Msg} {s : State} (hm : m.stage = true) (h0 : m.p 0 ≤ 19) (hb : s.building (m.p 0) = false)
    (hz : (m.params.drop 1).all (· == 0) = false) (hf : s.profileFault m = none) (he : s.entryBeyond (slice m.params 40 24) = false)
    (h12 : m.f 12 4 = 0xFFFFFFFF) (h16 : m.f 16 4 = 0) (hr : (s.rule.builds.filter fun b => b.state == .running).length < 4) :
    bodyRuleBuild m s = s.startBuild m none := by
  unfold bodyRuleBuild
  have hlist : (match s.dram.dir.find (0xFFFFFFFF : Nat) with | some i => if (0xFFFFFFFF : Nat) = 0xFFFFFFFF then 0 else s.seamLength i | none => 0) = 0 := by
    split <;> rfl
  simp only [hm, hb, hz, hf, he, h12, h16, decide_eq_false (Nat.not_lt.mpr h0), if_neg (Nat.not_le.mpr hr), Nat.not_lt_zero, bne_self_eq_false,
    Bool.or_false, Bool.false_and, Bool.not_true, Bool.false_eq_true, if_false, if_true]
  rw [if_neg]
  rw [Bool.not_eq_true]
  refine bne_eq_false_iff_eq.mpr ?_
  split <;> rfl

theorem bodyRuleBuild_withdraws {m : Msg} {s : State} (hm : m.stage = true) (h0 : m.p 0 ≤ 19) (hb : s.building (m.p 0) = false)
    (hz : (m.params.drop 1).all (· == 0) = true) : bodyRuleBuild m s =
      ok ((s.stageWith fun v => { v with rule := { v.rule with tables := tdel v.rule.tables (m.p 0) } }).settleRules) (zeros 4) := by
  unfold bodyRuleBuild
  simp only [hm, hb, hz, decide_eq_false (Nat.not_lt.mpr h0), Bool.or_false, Bool.not_true, Bool.false_eq_true, if_false, if_true]

/-! The end of a build (R149-R151). -/

theorem endBuild_builds (s : State) (t : Nat) {b : Build} (hb : b.state ≠ .abandoned) :
    (s.endBuild t b).rule.builds = s.rule.builds.set t { b with profile := none, list := none } := by
  unfold State.endBuild
  simp only [beq_eq_false_iff_ne.mpr hb, Bool.false_eq_true, if_false]
  rfl

theorem failBuild_builds (s : State) (t : Nat) (b : Build) (reason : Nat) (ordinal : Option Nat) (checked : Nat) :
    ∃ b' : Build, b'.state = .failed ∧ (s.failBuild t b reason ordinal checked).rule.builds = s.rule.builds.set t b' :=
  ⟨_, rfl, (builds_of_staged (staged_settleRules _)).trans (endBuild_builds s t (b := _) (by exact nofun))⟩

theorem takeTiles_builds {s : State} {n : Nat} {ts : List Nat} {s1 : State} (h : s.takeTiles n = some (ts, s1)) :
    s1.rule.builds = s.rule.builds := by
  unfold State.takeTiles at h
  split at h
  · cases h; rfl
  · obtain ⟨a, ha, hx⟩ := Option.map_eq_some_iff.mp h
    cases hx
    rfl

/-- The record that a build leaves of itself when its version is staged or it fails. -/
theorem stageBuild_builds (s : State) (t : Nat) (b : Build) (p : RuleTable) (rules : List Bytes) :
    ∃ b' : Build, (b'.state = .staged ∨ b'.state = .failed) ∧ (s.stageBuild t b p rules).rule.builds = s.rule.builds.set t b' := by
  obtain ⟨bf, hbf, hfail⟩ := failBuild_builds s t b 8 none rules.length
  unfold State.stageBuild
  split
  · exact ⟨bf, .inr hbf, hfail⟩
  · next ts s1 htake =>
    by_cases hc : 163840 < (s1.withCounters t rules).length
    · exact ⟨bf, .inr hbf, by simpa only [if_pos hc] using hfail⟩
    · simp only [if_neg hc]
      refine ⟨{ b with state := .staged, reason := 0, processed := rules.length, ordinal := none,
                       tookMs := (s.now - b.start) / 1000000, profile := none, list := none }, .inl rfl, (builds_of_staged (staged_settleRules _)).trans ?_⟩
      refine (builds_of_staged (staged_newSource _ _)).trans ((builds_of_staged (staged_putRules _ _ _)).trans ?_)
      exact (endBuild_builds s1 t (b := _) (by exact nofun)).trans (by rw [takeTiles_builds htake])

/-- The state in which a build's record says how it ended. -/
theorem ended_of_builds {s u : State} {l : List Build} {t : Nat} {b' : Build} (hu : u.rule.builds = l.set t b') (ht : t < l.length)
    (hb : b'.state = .staged ∨ b'.state = .failed) : ((settled s u).rule.builds.getD t Build.reset).state = .staged ∨
      ((settled s u).rule.builds.getD t Build.reset).state = .failed := by
  have h : (settled s u).rule.builds.getD t Build.reset = b' := by
    rw [settled_rule, hu]
    simp [ht]
  rwa [h]

/-- The cells of a build's list, read with assay. -/
def listRead (hurt : Upsets) (s : State) (b : Build) : List (Option Bytes) × State :=
  readCells s.cur hurt .miner (match b.list with | some i => s.seamCells i | none => []) (s.upset hurt)

theorem listRead_builds (hurt : Upsets) (s : State) (b : Build) : (listRead hurt s b).2.rule.builds = s.rule.builds :=
  ((access_upset s hurt).trans (access_readCells _ _ _ _ _)).builds

section
variable {t : Nat} {hurt : Upsets} {s : State} {b : Build} {p : RuleTable}

/-- A build that a miner is at, in the terms of its list. -/
theorem execRuleBuildComplete_eq (hr : s.refreshing = false) (hb : s.rule.builds.getD t Build.reset = b) (hp : b.profile = some p)
    (hs : b.state = .running) (hsl : s.sealed = false) (hw : s.atWork (.ruleBuild t) = true) : execRuleBuildComplete t hurt s =
      match (listRead hurt s b).1.findIdx? (·.isNone) with
      | some k => .next (settled s ((listRead hurt s b).2.failBuild t b 1 (some k) 0))
      | none => match checkList p (isEgress t) (listRead hurt s b).2.entryBeyond (listRead hurt s b).1 0 [] with
        | .error (reason, ordinal, checked) => .next (settled s ((listRead hurt s b).2.failBuild t b reason (some ordinal) checked))
        | .ok rules => .next (settled s ((listRead hurt s b).2.stageBuild t b p rules)) := by
  unfold execRuleBuildComplete
  simp only [hb, hp, hr, hs, hsl, hw, bne_self_eq_false, Bool.not_true, Bool.or_false, Bool.false_eq_true, if_false, done_eq]
  rfl

theorem ruleBuild_ends (hr : s.refreshing = false) (hb : s.rule.builds.getD t Build.reset = b) (hp : b.profile = some p)
    (hs : b.state = .running) (hsl : s.sealed = false) (hw : s.atWork (.ruleBuild t) = true) (ht : t < s.rule.builds.length) :
    ∃ u, exec (.ruleBuildComplete t hurt) s = .next u ∧
      ((u.rule.builds.getD t Build.reset).state = .staged ∨ (u.rule.builds.getD t Build.reset).state = .failed) := by
  have hlen : t < (listRead hurt s b).2.rule.builds.length := by rwa [listRead_builds]
  have hfails (reason : Nat) (ordinal : Option Nat) (checked : Nat) :=
    failBuild_builds (listRead hurt s b).2 t b reason ordinal checked
  show ∃ u, execRuleBuildComplete t hurt s = .next u ∧ _
  rw [execRuleBuildComplete_eq hr hb hp hs hsl hw]
  split
  · obtain ⟨b', hb', hset⟩ := hfails 1 (some _) 0
    exact ⟨_, rfl, ended_of_builds hset hlen (.inr hb')⟩
  · split
    · obtain ⟨b', hb', hset⟩ := hfails _ (some _) _
      exact ⟨_, rfl, ended_of_builds hset hlen (.inr hb')⟩
    · obtain ⟨b', hb', hset⟩ := stageBuild_builds (listRead hurt s b).2 t b p _
      exact ⟨_, rfl, ended_of_builds hset hlen hb'⟩
end

/-! The reads and settings of the rule tables. -/

theorem bodyRuleRead_of {m : Msg} {s : State} {t : RuleTable} (h0 : m.p 0 ≤ 19) (h1 : m.p 1 = 0) (h2 : 1 ≤ m.p 2) (h3 : m.p 2 ≤ 33)
    (hz : zeroAt m (3 :: span 8 11) = true) (ht : tget? (s.view m).rule.tables (m.p 0) = some t) (hi : m.f 4 4 < t.ordered.length) :
    ∃ next, bodyRuleRead m s = ok s (le 4 t.ordered.length ++ le 4 next ++ ((t.ordered.drop (m.f 4 4)).take (m.p 2)).flatten) := by
  have h2' : ¬(m.p 2 = 0 ∨ 33 < m.p 2) := by omega
  refine ⟨if m.f 4 4 + m.p 2 < t.ordered.length then m.f 4 4 + m.p 2 else 0xFFFFFFFF, ?_⟩
  simp only [bodyRuleRead, if_neg (Nat.not_lt.mpr h0), h1, needZero_of _ _ _ _ hz, ht]
  simp [h2', hi]

theorem bodyRuleBuildStatus_of {m : Msg} {s : State} (h0 : m.p 0 ≤ 19) (hz : zeroAt m [1, 2, 3] = true) :
    ∃ p, bodyRuleBuildStatus m s = ok { s with free := s.free + 20 } p ∧
      p.take 8 = le 4 (runsLength s.rule.storeFree) ++ le 4 s.rule.storeRetired.length ∧ p.drop 16 = s.buildEntry (m.p 0) := by
  have hff : m.p 0 ≠ 255 := by omega
  refine ⟨le 4 (runsLength s.rule.storeFree) ++ le 4 s.rule.storeRetired.length ++
    le 1 (s.rule.builds.filter fun b => b.state == .running).length ++ zeros 7 ++ s.buildEntry (m.p 0), ?_, ?_, ?_⟩
  · simp [bodyRuleBuildStatus, Nat.not_lt.mpr h0, needZero_of _ _ _ _ hz, hff]
  · simp [List.take_append, List.take_of_length_le, CommandProtocol.le_length]
  · simp [List.drop_append, List.drop_of_length_le, CommandProtocol.le_length, zeros]

theorem bodyRuleDefault_of {m : Msg} {s : State} {x : RuleTable} (hm : m.stage = true) (h0 : m.p 0 ≤ 19) (hz : zeroAt m [1, 2, 3] = true)
    (hb : s.building (m.p 0) = false) (hx : tget? s.shadow.rule.tables (m.p 0) = some x)
    (ha : actionFault (slice m.params 4 24) (isEgress (m.p 0)) = none) (he : s.entryBeyond (slice m.params 4 24) = false) :
    bodyRuleDefault m s = ok (s.stageRule (m.p 0) { x with miss := slice m.params 4 24 }) := by
  simp [bodyRuleDefault, hm, Nat.not_lt.mpr h0, needZero_of _ _ _ _ hz, hb, hx, ha, he]

theorem bodyRuleCounters_table {m : Msg} {s : State} (h0 : m.p 0 ≤ 19) (h1 : m.p 1 = 1) (h2 : m.p 2 ≤ 1) (hz : zeroAt m (span 3 7) = true) :
    bodyRuleCounters m s = ok (if m.p 2 = 1 then { s with rule := { s.rule with tables := alter s.rule.tables (m.p 0) zeroBank } } else s)
      (bankBytes (s.rule.tables.getD (m.p 0) [])) := by
  simp [bodyRuleCounters, h1, Nat.not_lt.mpr h0, Nat.not_lt.mpr h2, needZero_of _ _ _ _ hz]

theorem bodyRecircConfig_reads {m : Msg} {s : State} (h0 : m.p 0 = 0) (hz : zeroAt m (span 1 7) = true) :
    ∃ p, bodyRecircConfig m s = ok s p ∧ p.take 2 = [0] ++ le 1 (s.view m).rule.recirc.maxPasses := by
  refine ⟨_, by simp [bodyRecircConfig, h0, needZero_of _ _ _ _ hz]; rfl, ?_⟩
  simp [le]

theorem bodyRecircConfig_sets {m : Msg} {s : State} (hm : m.stage = true) (h0 : m.p 0 = 1) (h1 : 1 ≤ m.p 1) (h1' : m.p 1 ≤ 4) (h2 : m.p 2 ≤ 1)
    (h3 : m.p 3 ≤ 7) (h4 : 1 ≤ m.f 4 2) (h4' : m.f 4 2 ≤ 400) (h6 : 1 ≤ m.f 6 2) (h6' : m.f 6 2 ≤ 400) : bodyRecircConfig m s =
      ok (s.stageWith fun v => { v with rule := { v.rule with
        recirc := Recirc.mk (m.p 1) (m.p 2 == 1) (m.p 3) (m.f 4 2) (m.f 6 2) } }) := by
  simp [bodyRecircConfig, hm, h0, Nat.not_lt.mpr h1', Nat.not_lt.mpr h2, Nat.not_lt.mpr h3, Nat.not_lt.mpr h4', Nat.not_lt.mpr h6',
    Nat.ne_of_gt h1, Nat.ne_of_gt h4, Nat.ne_of_gt h6]

/-- Settles O33. -/
theorem ruleCommandsComplete : Obligations.RuleCommandsComplete := by
  refine ⟨?_, ?_, ?_, ?_, ?_, ?_, ?_, ?_, ?_, ?_, ?_, ?_, ?_, ?_, ?_, ?_, ?_⟩
  · intro m s b r t x hp hm hrec hr ht h19 h1 hz hb hx hf he hid hmax hmask hc ha hd
    obtain ⟨y, z, hget, hrules, hmaxRules, hcur, hins⟩ := insertRule_new (t := t) hid ha hd
    refine ⟨y, z, hget, hrules, hmaxRules, hcur, run_answers cmdRuleLoad m s _ hp ?_⟩
    refine records_one _ _ _ _ _ _ _ hrec ?_
    exact (recRuleLoad_inserts hm hr ht h1 hz hb hx hf he hmax hmask hc).trans hins
  · intro m s b t x i hp hm hrec ht h19 h1 hz hz2 hb hx hi hd
    obtain ⟨y, z, hget, hrules, hcur, hdel⟩ := deleteRule_of t i hd
    refine ⟨y, z, hget, hrules, hcur, run_answers cmdRuleLoad m s _ hp ?_⟩
    refine records_one _ _ _ _ _ _ _ hrec ?_
    exact (recRuleLoad_deletes hm ht h1 hz hz2 hb hx hi).trans hdel
  · intro m s hp hm h0 hb hz
    exact run_answers cmdRuleBuild m s _ hp (bodyRuleBuild_withdraws (m := m.norm) hm h0 hb hz)
  · intro m s hp hm h0 hb hz hf he h12 h16 hr hlen ha hd hw
    obtain ⟨x, hseq, hbuild, hshadow, hstart⟩ := startBuild_of (m := m.norm) h16 (hlen ▸ Nat.lt_succ_of_le h0) ha hd hw
    exact ⟨x, hseq, hbuild, hshadow, run_answers cmdRuleBuild m s _ hp ((bodyRuleBuild_starts (m := m.norm) hm h0 hb hz hf he h12 h16 hr).trans hstart)⟩
  · intro t hurt s b p hr hb hp hs hsl hw ht
    exact ruleBuild_ends hr hb hp hs hsl hw ht
  · intro t hurt s b p hr hb hp hs hsl hw hl
    refine (execRuleBuildComplete_eq hr hb hp hs hsl hw).trans ?_
    simp only [listRead, hl]
    rfl
  · intro t hurt s b p i ps s1 rules hr hb hp hs hsl hw hl hread hnone hcheck
    refine (execRuleBuildComplete_eq hr hb hp hs hsl hw).trans ?_
    simp only [listRead, hl, hread, hnone, hcheck]
  · intro t hurt s b p i ps s1 k hr hb hp hs hsl hw hl hread hsome
    refine (execRuleBuildComplete_eq hr hb hp hs hsl hw).trans ?_
    simp only [listRead, hl, hread, hsome]
  · intro tile s t hr hfind hbad hsrc
    show execRuleStoreRepair tile s = _
    have htiles : s.sourceTiles t = [] := by simp [State.sourceTiles, hsrc]
    simp only [execRuleStoreRepair, hfind, hr, hbad, htiles, readTiles, done_eq]
    rfl
  · intro tile s t ps s1 hr hfind hbad hread hany
    show execRuleStoreRepair tile s = _
    simp only [execRuleStoreRepair, hfind, hr, hbad, hread, hany, done_eq]
    rfl
  · intro m s hp h0 hz
    obtain ⟨p, hbody, htake, hdrop⟩ := bodyRuleBuildStatus_of (s := s) h0 hz
    exact ⟨p, run_answers cmdRuleBuildStatus m s _ hp hbody, htake, hdrop⟩
  · intro m s t hp h0 h1 h2 h2' hz ht hi
    obtain ⟨next, hbody⟩ := bodyRuleRead_of h0 h1 h2 h2' hz ht hi
    exact ⟨next, run_answers cmdRuleRead m s _ hp hbody⟩
  · intro m s x hp hm h0 hz hb hx ha he
    exact run_answers cmdRuleDefault m s _ hp (bodyRuleDefault_of (m := m.norm) hm h0 hz hb hx ha he)
  · intro m s hp h0 h1 h2 hz
    refine run_answers cmdRuleCounters m s _ hp ((bodyRuleCounters_table h0 h1 (by omega) hz).trans ?_)
    rw [h2, if_neg (by decide)]
  · intro m s hp h0 h1 h2 hz
    refine run_answers cmdRuleCounters m s _ hp ((bodyRuleCounters_table h0 h1 (by omega) hz).trans ?_)
    rw [h2, if_pos rfl]
  · intro m s hp h0 hz
    obtain ⟨p, hbody, htake⟩ := bodyRecircConfig_reads h0 hz
    exact ⟨p, run_answers cmdRecircConfig m s _ hp hbody, htake⟩
  · intro m s hp hm h0 h1 h1' h2 h3 h4 h4' h6 h6'
    exact run_answers cmdRecircConfig m s _ hp (bodyRecircConfig_sets (m := m.norm) hm h0 h1 h1' h2 h3 h4 h4' h6 h6')

end Sys2Proof.RuleTables

/-! PROOFS. The admission sources of the pipelines and the DRAM tier behind them (spec 01, 06, 07). -/
namespace Sys2Proof.PipelineSources
open Machine Claims

/-! Admissions (R11, R12, R156, R341). -/

section
variable {pipe : Bool} {hurt : Upsets} {s : State} {p : Pkt} {i : Nat}

/-- A frame that is admitted for the first time, as it takes its pass. -/
def stampedFrame (pipe : Bool) (s : State) (p : Pkt) : Pkt := { p with stamp := s.epoch.current, admitted := s.now, pass := 1, pipe := pipe }

/-- The state in which it takes its pass: it has left the queue, and has the slot. -/
def frameGranted (pipe : Bool) (hurt : Upsets) (s : State) (i : Nat) : State :=
  ((s.setLaneQ pipe ((s.laneQ pipe).eraseIdx i)).grant pipe 0).struckPass pipe hurt

theorem execLaneFrameAdmit_first {s1 : State} (hi : (s.laneQ pipe).findIdx? Pkt.walks = some i) (hp : (s.laneQ pipe)[i]? = some p)
    (hw : p.waited = none) (hpass : (frameGranted pipe hurt s i).pass (stampedFrame pipe s p) p.inPort = some s1) :
    execLaneFrameAdmit pipe hurt s = .next (settled s s1) := by
  simp only [frameGranted, stampedFrame, hw] at hpass
  simp only [execLaneFrameAdmit, hi, hp, hw, Option.isNone_none, if_true, hpass, done_eq]

theorem execLaneFrameAdmit_waits (hi : (s.laneQ pipe).findIdx? Pkt.walks = some i) (hp : (s.laneQ pipe)[i]? = some p)
    (hw : p.waited = none) (hpass : (frameGranted pipe hurt s i).pass (stampedFrame pipe s p) p.inPort = none) :
    execLaneFrameAdmit pipe hurt s = .next (settled s ((frameGranted pipe hurt s i).setLaneQ pipe
      ((s.laneQ pipe).set i { stampedFrame pipe s p with waited := some p.bytes.length }))) := by
  simp only [frameGranted, stampedFrame, hw] at hpass
  simp only [execLaneFrameAdmit, hi, hp, hw, Option.isNone_none, if_true, hpass, done_eq, frameGranted, stampedFrame]

theorem execLaneFrameAdmit_again {n : Nat} {s1 : State} (hi : (s.laneQ pipe).findIdx? Pkt.walks = some i) (hp : (s.laneQ pipe)[i]? = some p)
    (hw : p.waited = some n)
    (hpass : ((s.setLaneQ pipe ((s.laneQ pipe).eraseIdx i)).struckPass pipe hurt).pass p p.inPort = some s1) :
    execLaneFrameAdmit pipe hurt s = .next (settled s s1) := by
  simp [execLaneFrameAdmit, hi, hp, hw, hpass, done_eq]

theorem execMissResume_of {x : Parked} (hl : s.laneAsks pipe = false) (hx : s.readyHeld pipe = some (x, i)) :
    execMissResume pipe hurt s =
      let s1 := (s.setHeld pipe ((s.held pipe).eraseIdx i)).struckPass pipe hurt
      .next (settled s (((if s1.expired x.pkt then s1.dropOld x.pkt else (s1.grant pipe 1).resume x i).unhold x.key).panicLevel)) := by
  unfold execMissResume
  rw [if_neg (by rw [hl]; decide), hx]
  exact done_eq _ _

theorem execRecircAdmit_pass {q : List Pkt} {s1 : State} (hl : s.laneAsks pipe = false) (hh : s.readyHeld pipe = none)
    (hq : s.recircQ pipe = p :: q) (he : (s.setRecircQ pipe q).expired p = false)
    (hpass : (((s.setRecircQ pipe q).grant pipe 2).struckPass pipe hurt).pass { p with pass := p.pass + 1, pipe := pipe } (recircPort pipe) =
      some s1) : execRecircAdmit pipe hurt s = .next (settled s s1) := by
  unfold execRecircAdmit
  rw [if_neg (by rw [hl, hh]; decide), hq]
  dsimp only
  rw [if_neg (by rw [he]; decide), hpass]
  exact done_eq _ _

theorem execRecircAdmit_old {q : List Pkt} (hl : s.laneAsks pipe = false) (hh : s.readyHeld pipe = none) (hq : s.recircQ pipe = p :: q)
    (he : (s.setRecircQ pipe q).expired p = true) :
    execRecircAdmit pipe hurt s = .next (settled s ((s.setRecircQ pipe q).dropOld p)) := by
  unfold execRecircAdmit
  rw [if_neg (by rw [hl, hh]; decide), hq]
  dsimp only
  rw [if_pos he]
  exact done_eq _ _

theorem execReinjectAdmit_of {key : Bytes} {q : List (Pkt × Bytes)} (hl : s.laneAsks pipe = false) (hh : s.readyHeld pipe = none)
    (hr : s.recircQ pipe = []) (hq : s.reinjectQ pipe = (p, key) :: q) (hk : s.mayResume key = true) :
    execReinjectAdmit pipe hurt s =
      let s1 := (s.setReinjectQ pipe q).struckPass pipe hurt
      .next (settled s ((if s1.expired p then s1.dropOld p
        else (s1.grant pipe 3).flowStage (s1.version p.stamp) p { own := some key }).releaseBehind p key)) := by
  simp only [execReinjectAdmit, hl, hh, hr, hq, hk, Option.isSome_none, List.isEmpty_nil, Bool.not_true, Bool.or_false, Bool.false_eq_true, if_false, done_eq]
end

/-- Settles O34. -/
theorem pipelineAdmissionsComplete : Obligations.PipelineAdmissionsComplete := by
  refine ⟨?_, ?_, ?_, ?_, ?_, ?_, ?_, ?_⟩
  · rintro pipe hurt s p i x y s1 hi hp hw rfl rfl
    exact ⟨fun hpass => execLaneFrameAdmit_first hi hp hw hpass, fun hpass => execLaneFrameAdmit_waits hi hp hw hpass⟩
  · intro pipe hurt s p i n s1 hi hp hw hpass
    exact execLaneFrameAdmit_again hi hp hw hpass
  · rintro pipe hurt s x i s1 hl hx rfl he
    exact (execMissResume_of hl hx).trans (by simp only [he]; rfl)
  · rintro pipe hurt s x i s1 hl hx rfl he
    exact (execMissResume_of hl hx).trans (by simp only [he, if_true])
  · intro pipe hurt s p q s1 hl hh hq he hpass
    exact execRecircAdmit_pass hl hh hq he hpass
  · intro pipe hurt s p q hl hh hq he
    exact execRecircAdmit_old hl hh hq he
  · rintro pipe hurt s p key q s1 hl hh hr hq hk rfl he
    exact (execReinjectAdmit_of hl hh hr hq hk).trans (by simp only [he]; rfl)
  · rintro pipe hurt s p key q s1 hl hh hr hq hk rfl he
    exact (execReinjectAdmit_of hl hh hr hq hk).trans (by simp only [he, if_true])

/-! The DRAM tier (R185, R186, R191, R245). -/

theorem execBucketReadReturn_of {key : Bytes} {hurt : Upsets} {s : State} {r : Request} (hr : s.requestOf key = some r)
    (hst : r.stage = .b0 ∨ r.stage = .b1 ∨ r.stage = .place) (hret : s.readReturns r = true) : execBucketReadReturn key hurt s =
      .next (settled s (((((s.issued r).struckOn hurt .pipeline).bucketBack r).unhold r.key).panicLevel)) := by
  have hc : [Stage.b0, .b1, .place].contains r.stage = true := by
    rcases hst with h | h | h <;> rw [h] <;> rfl
  simp only [execBucketReadReturn, hr, hc, hret, Bool.and_true, if_true, done_eq]

section
variable {slot : Nat} {hurt : Upsets} {s : State} {t : Task} {p : Pkt} {key : Bytes} {m : Nat}

/-- A setup task on a miner, in the terms of its request. -/
theorem execFlowSetup_of (hf : s.refreshing = false) (ht : s.task slot = some t) (hw : t.work = .setup p key) (hm : t.state = .running m) :
    execFlowSetup slot hurt s = match s.requestOf key with
      | none => .next (settled s (s.finishWork fun w => w == .setup p key))
      | some r =>
        let v := s.version p.stamp
        let cls := (p.rule.binding.map (·.1)).getD 0
        let idx := (p.rule.binding.map (·.2.2.1)).getD 0xFFFFFF
        match (s.struckOn hurt .miner).setupSlot v r p cls with
        | (none, s1) => .next (settled s s1)
        | (some t, s1) => .next (settled s
            (if s1.setupRoom v p idx t then s1.setupAt v { r with claim := some t } p cls idx t else s1)) := by
  obtain ⟨_, _, _, _, _⟩ := t
  cases hw
  cases hm
  simp only [execFlowSetup, hf, ht, done_eq]
  rfl
end

/-- A setup with its slot whose binding is found, and for whose flow a way is had. -/
theorem setupAt_of {s s1 s2 : State} {v : Staged} {r : Request} {p : Pkt} {cls idx t b w : Nat}
    (hb : s.setupEntry v idx r.key = (.ok b, s1)) (hway : s1.wayFor r.key = (some w, s2)) : s.setupAt v r p cls idx t =
      let (m, s3) := (s2.evict t (withDir r.key !(v.fromSub p))).newMember v (s2.entryCached v b) r.key .miner
      let s4 := (((s3.installNew v p r.key cls b m t w).setLive b).cacheLoad b).lifeCount Life.admittedMiner
      let s5 := if s4.parked.any (fun x => x.pkt.id == p.id) then
          (s4.unpark p.id).setReinjectQ p.pipe (s4.reinjectQ p.pipe ++ [(p, r.key)]) else s4.readyParked r.key
      (((s5.endRequest r.key).finishWork fun w => w == .setup p r.key).unhold r.key).panicLevel := by
  simp only [State.setupAt, hb, hway]

/-- Settles O35. -/
theorem flowTierEventsComplete : Obligations.FlowTierEventsComplete := by
  refine ⟨?_, ?_, ?_, ?_, ?_, ?_, ?_, ?_⟩
  · intro key hurt s r hr hst hret
    exact execBucketReadReturn_of hr hst hret
  · rintro key hurt s r v whole s1 hr hret rfl hback
    show execActionEntryReadReturn key hurt s = _
    simp only [execActionEntryReadReturn, hr, hret, hback, done_eq]
    rfl
  · intro slot hurt s t p key m hf ht hw hm hr
    exact (execFlowSetup_of hf ht hw hm).trans (by simp only [hr])
  · rintro slot hurt s t p key m r cls idx s1 hf ht hw hm hr rfl rfl hslot
    exact (execFlowSetup_of hf ht hw hm).trans (by simp only [hr, hslot])
  · rintro slot hurt s t p key m r cls idx tile s1 n s2 hf ht hw hm hr rfl rfl hslot hroom hentry
    exact (execFlowSetup_of hf ht hw hm).trans (by simp only [hr, hslot, hroom, if_true, State.setupAt, hentry])
  · rintro slot hurt s t p key m r cls idx tile s1 b s2 w s3 mem s4 s5 s6 hf ht hw hm hr rfl rfl hslot hroom hentry hway hmem rfl rfl
    refine (execFlowSetup_of hf ht hw hm).trans ?_
    simp only [hr, hslot, hroom, if_true]
    rw [setupAt_of (r := { r with claim := some tile }) hentry hway]
    simp only [hmem]
  · intro way s e hway hp hh
    show execPendingWriteBack way s = _
    simp only [execPendingWriteBack, hway, hp, hh, done_eq]
    rfl
  · intro set s hset hb
    show execHotIdleDemote set s = _
    simp only [execHotIdleDemote, hset, hb, decide_true, Bool.and_true, if_true, done_eq]

end Sys2Proof.PipelineSources

/-! PROOFS. The sweep, the scrub and the lags (spec 07 R217, R221, R223; spec 11 R337). -/
namespace Sys2Proof.SweepAndScrub
open Machine Claims

theorem execSweepBucketVisit_of {hurt : Upsets} {s s1 s2 : State} {on : Bool} {ts : List (Nat × Option Bytes)} (hr : s.refreshing = false)
    (hs : s.serves TaskType.sweep = true) (hb : s.booted = true) (h0 : s.buckets ≠ 0) (hc : s.life.clearing = .none)
    (hd : s.sweepDue s.flow.sweepNext ≤ s.now) (hread : (s.struckOn hurt .miner).readBucket s.flow.sweepNext .miner = (ts, s1))
    (htiles : State.sweepTiles ts s1 = (on, s2)) :
    execSweepBucketVisit hurt s = .next (settled s (if on then s2.sweepOn else s2)) := by
  unfold execSweepBucketVisit
  rw [if_neg (by simp [hr, hs, hb, h0, hc, hd])]
  simp only [hread, htiles]
  cases on <;> exact done_eq _ _

/-- What the scrub's read meets before it: the upsets of the read, and the words corrected. -/
def scrubMet (hurt : Upsets) (s : State) : State :=
  State.lifeCount (hurt.store.foldl (fun x i => x.storeFault i .scrub) (hurt.buffer.foldl State.bufferFault (s.struckOn hurt .scrub)))
    Life.scrubCorrected hurt.corrected

/-- The state once the place of the scrub is read. -/
def scrubbed (hurt : Upsets) (s : State) : State :=
  if s.flow.scrubNext < runsLength s.scrubRuns then
    let x := ((scrubMet hurt s).readTile (tileAt s.scrubRuns s.flow.scrubNext) .scrub).2
    { x with flow := { x.flow with scrubPos := tileAt s.scrubRuns s.flow.scrubNext } }
  else scrubMet hurt s

section
variable {hurt : Upsets} {s : State}

theorem scrubDue_passes (hr : s.refreshing = false) (hs : s.serves TaskType.scrub = true) (hb : s.booted = true)
    (hc : s.life.clearing = .none) (hd : s.scrubDue s.flow.scrubNext ≤ s.now) :
    ¬(s.refreshing || !s.serves TaskType.scrub || !s.booted || s.life.clearing != .none || decide (s.now < s.scrubDue s.flow.scrubNext)) = true := by
  simp [hr, hs, hb, hc, hd]

theorem execScrubRead_on (hdue : ¬(s.refreshing || !s.serves TaskType.scrub || !s.booted || s.life.clearing != .none ||
      decide (s.now < s.scrubDue s.flow.scrubNext)) = true) (hk : s.flow.scrubNext + 1 < s.scrubTotal) : execScrubRead hurt s =
      .next (settled s { scrubbed hurt s with flow := { (scrubbed hurt s).flow with scrubNext := s.flow.scrubNext + 1 } }) := by
  unfold execScrubRead
  rw [if_neg hdue]
  simp only [if_pos hk, done_eq]
  rfl

theorem execScrubRead_over (hdue : ¬(s.refreshing || !s.serves TaskType.scrub || !s.booted || s.life.clearing != .none ||
      decide (s.now < s.scrubDue s.flow.scrubNext)) = true) (hk : s.scrubTotal ≤ s.flow.scrubNext + 1) :
    ∃ t, execScrubRead hurt s = .next t ∧ t.flow.scrubNext = 0 ∧ t.flow.scrubStart = s.now := by
  refine ⟨settled s { (scrubbed hurt s).lifeCount Life.scrubs with flow := { ((scrubbed hurt s).lifeCount Life.scrubs).flow with
      scrubNext := 0, scrubStart := s.now, scrubFrom := s.scrubDue s.scrubTotal, scrubFromPos := 0 } }, ?_, ?_, ?_⟩
  · unfold execScrubRead
    rw [if_neg hdue]
    simp only [if_neg (Nat.not_lt.mpr hk), done_eq]
    rfl
  · rw [settled_flow]
  · rw [settled_flow]
end

/-- Behind a tile of device memory the words of the die are still to be read. -/
theorem scrubTotal_beyond {s : State} {k : Nat} (hk : k < runsLength s.scrubRuns) : k + 1 < s.scrubTotal := by
  unfold State.scrubTotal
  omega

/-- Settles O36. -/
theorem sweepAndScrubComplete : Obligations.SweepAndScrubComplete := by
  refine ⟨?_, ?_, ?_, ?_, ?_⟩
  · intro hurt s ts s1 s2 hr hs hb h0 hc hd hread htiles
    exact (execSweepBucketVisit_of hr hs hb h0 hc hd hread htiles).trans (by simp)
  · intro hurt s ts s1 s2 hr hs hb h0 hc hd hread htiles
    exact (execSweepBucketVisit_of hr hs hb h0 hc hd hread htiles).trans (by simp)
  · rintro hurt s s1 k hr hs hb hc rfl hd rfl
    have hdue := scrubDue_passes hr hs hb hc hd
    refine ⟨?_, ?_, fun hk => execScrubRead_over hdue hk⟩
    · rintro t x hk rfl rfl
      refine (execScrubRead_on hdue (scrubTotal_beyond hk)).trans ?_
      simp only [scrubbed, if_pos hk]
      rfl
    · intro hn hk
      refine (execScrubRead_on hdue hk).trans ?_
      simp only [scrubbed, if_neg (Nat.not_lt.mpr hn)]
      rfl
  · intro s
    exact done_eq _ _
  · intro s hb
    show execTaskPromote s = _
    rw [execTaskPromote, if_pos hb, done_eq]

end Sys2Proof.SweepAndScrub

/-! PROOFS. Faults of a record that are all absent, and bytes of a fixed length (spec 02 R50). -/
namespace Sys2Proof.Answers
open Machine Claims

/-- Of a list of faults none stands: the record has none. -/
theorem firstFault_none {l : List (Bool × Nat)} (h : ∀ e ∈ l, e.1 = false) : firstFault l = none := by
  rw [firstFault, List.find?_eq_none.mpr fun e he => by rw [h e he]; decide]
  rfl

theorem slice_length (b : Bytes) (i n : Nat) : (slice b i n).length = n := by
  rw [slice, List.length_map, List.length_range]

/-- Bytes that are as long as they shall be are left as they are. -/
theorem fit_of_length {n : Nat} {b : Bytes} (h : b.length = n) : fit n b = b := by
  refine List.ext_getElem (by rw [fit, slice_length, h]) fun i hi hi' => ?_
  simp [fit, slice, hi']

theorem take_fit_append (n : Nat) (b r : Bytes) (h : b.length = n) : (fit n b ++ r).take n = b := by
  rw [fit_of_length h, List.take_append_of_le_length (Nat.le_of_eq h.symm), List.take_of_length_le (Nat.le_of_eq h)]

end Sys2Proof.Answers

/-! PROOFS. The flow commands and exporting (spec 06, 07 R197-R201, R228-R233). -/
namespace Sys2Proof.FlowCommands
open Machine Claims Answers

/-! FLOW_READ (R197). -/

section
variable {m : Msg} {s : State} {b : Bytes} {base : Nat}

theorem recFlowRead_byKey (h0 : byteAt b 0 = 0) (h1 : (firstNonZeroAt b [1, 2, 3]).isNone = true)
    (h4 : (firstNonZeroAt b (span 4 7)).isNone = true) :
    recFlowRead m s b base = .ok (s.readByKey (slice b 8 40)).2 (s.readByKey (slice b 8 40)).1 := by
  simp [recFlowRead, h0, recZero_of _ _ _ _ h1, recZero_of _ _ _ _ h4]

theorem recFlowRead_byTile (h0 : byteAt b 0 = 1) (h1 : (firstNonZeroAt b [1, 2, 3]).isNone = true)
    (h8 : (firstNonZeroAt b (span 8 47)).isNone = true) (hr : s.inRegion 0 (Machine.fieldLe b 4 4) = true) :
    recFlowRead m s b base = .ok (s.readByTile (Machine.fieldLe b 4 4)).2 (s.readByTile (Machine.fieldLe b 4 4)).1 := by
  simp [recFlowRead, h0, recZero_of _ _ _ _ h1, recZero_of _ _ _ _ h8, hr]

theorem recFlowRead_settings (hb : m.batch = false) (h0 : byteAt b 0 = 2) (h1 : (firstNonZeroAt b [1, 2, 3]).isNone = true)
    (h4 : (firstNonZeroAt b (span 4 47)).isNone = true) : recFlowRead m s b base = .ok s (flowSettings (s.view m).flow) := by
  simp [recFlowRead, hb, h0, recZero_of _ _ _ _ h1, recZero_of _ _ _ _ h4]

/-! FLOW_WRITE (R198). -/

theorem recFlowWrite_binding {way : Nat} {e : HotEntry} {s1 : State} (h0 : byteAt b 0 = 2) (hf : flowWriteFault b = none)
    (ha : Machine.fieldLe b 4 3 = 0xFFFFFF) (hr : (s.requestOf (slice b 8 40)).isSome = false)
    (hw : s.findFlow (slice b 8 40) .command = (.hot way e, s1)) :
    recFlowWrite s b base = .ok (s1.setHot way { e with action := 0xFFFFFF, member := byteAt b 7, dirty := true }) [] := by
  simp [recFlowWrite, h0, hf, ha, hr, hw, State.applyFlow]

theorem recFlowWrite_new {bad : Bool} {s1 s2 : State} {t : Nat} (h0 : byteAt b 0 = 1) (hf : flowWriteFault b = none)
    (ha : Machine.fieldLe b 4 3 = 0xFFFFFF) (hr : (s.requestOf (slice b 8 40)).isSome = false)
    (hw : s.findFlow (slice b 8 40) .command = (.absent bad, s1)) (hbusy : s1.placeBusy (slice b 8 40) = false)
    (hp : s1.choosePlace s1.cur (slice b 8 40) (byteAt b 2) = (.free t, s2)) :
    ∃ tile, tile.take 40 = slice b 8 40 ∧ recFlowWrite s b base = .ok ((s2.taskWrite t tile).keepBinding 0xFFFFFF) [] := by
  refine ⟨newFlowTile (slice b 8 40) 0xFFFFFF (byteAt b 7)
    (controlByte (byteAt b 2) (bitAt b 3 0) (s1.epoch.current.getLsbD 0) (s1.sampleMark (byteAt b 2) (slice b 8 40)))
    (tcpByte (slice b 8 40) (byteAt b 48)) s1.flowNow, ?_, ?_⟩
  · simp only [newFlowTile, List.append_assoc]
    exact take_fit_append 40 _ _ (slice_length b 8 40)
  · simp [recFlowWrite, h0, hf, ha, hr, hw, State.storeNew, hbusy, hp]

theorem bodyFlowSettings_of (hm : m.stage = true) (hf : settingsFault m = none)
    (hz : zeroAt m ([1, 2, 3] ++ span 8 15 ++ (List.range 26).flatMap fun p => [22 + 8 * p, 23 + 8 * p]) = true) :
    bodyFlowSettings m s = ok (s.stageWith fun v => { v with flow := { v.flow with
      hotIdle := m.f 4 4
      ports := (List.range 26).map fun p => FlowPort.mk (m.p (16 + 8 * p) == 1) (m.p (17 + 8 * p))
          (BitVec.ofNat 16 (m.f (18 + 8 * p) 2)) (BitVec.ofNat 16 (m.f (20 + 8 * p) 2)) } }) := by
  simp only [bodyFlowSettings, hm, hf, needZero_of _ _ _ _ hz]
  rfl

/-! FLOW_DELETE and FLOW_PIN (R228, R229). -/

theorem recFlowDelete_of {w : Newest} {s1 : State} {t : Nat} (hz : (firstNonZeroAt b (span 0 7)).isNone = true) (h45 : byteAt b 45 < 16)
    (hwait : ((s.requestOf (slice b 8 40)).isSome || s.reinjecting (slice b 8 40) ||
      s.parked.any (fun x => x.key.length == 40 && sameKey x.key (slice b 8 40))) = false)
    (hw : s.findFlow (slice b 8 40) .command = (w, s1)) (ht : w.home = some t) (hroom : s1.endRoom = true) :
    recFlowDelete s b base = .ok ((State.waitRoom t 17 s1).endFlow w 2) [] := by
  simp only [recFlowDelete, recZero_of _ _ _ _ hz, if_neg (Nat.not_le.mpr h45), hwait, hw, ht, hroom, Bool.not_true, Bool.false_eq_true,
    if_false]

theorem recFlowPin_hot {way : Nat} {e : HotEntry} {s1 : State} (h0 : byteAt b 0 ≤ 1) (hz : (firstNonZeroAt b (span 1 7)).isNone = true)
    (h45 : byteAt b 45 < 16) (hr : (s.requestOf (slice b 8 40)).isSome = false)
    (hw : s.findFlow (slice b 8 40) .command = (.hot way e, s1)) :
    recFlowPin s b base = .ok (s1.setHot way { e with control := pinBit e.control (byteAt b 0 == 1), dirty := true }) [] := by
  simp only [recFlowPin, if_neg (Nat.not_lt.mpr h0), recZero_of _ _ _ _ hz, if_neg (Nat.not_le.mpr h45), hr, hw, State.applyFlow,
    Bool.false_eq_true, if_false]

/-! The staged flow settings (R230-R232). -/

theorem recFlowClassSet_reads (h0 : byteAt b 0 ≤ 7) (h1 : byteAt b 1 = 0) (hz : (firstNonZeroAt b (span 2 31)).isNone = true) :
    recFlowClassSet m s b base = .ok s (classRecord (byteAt b 0) ((s.view m).flow.classes.getD (byteAt b 0) FlowClass.reset)) := by
  simp [recFlowClassSet, Nat.not_lt.mpr h0, h1, recZero_of _ _ _ _ hz]

theorem recFlowClassSet_sets (hm : m.stage = true) (h0 : byteAt b 0 ≤ 7) (h1 : byteAt b 1 = 1) (h2 : byteAt b 2 ≤ 1) (h3 : byteAt b 3 ≤ 1)
    (ht : ∀ i, i < 8 → 1 ≤ Machine.fieldLe b (4 + 2 * i) 2 ∧ Machine.fieldLe b (4 + 2 * i) 2 ≤ 10800)
    (hz : (firstNonZeroAt b (span 20 31)).isNone = true) : recFlowClassSet m s b base =
      .ok (s.stageFlow fun f => { f with classes := f.classes.set (byteAt b 0) (FlowClass.mk (byteAt b 2 == 1) (byteAt b 3 == 1)
                                           ((List.range 8).map fun i => Machine.fieldLe b (4 + 2 * i) 2)) }) [] := by
  have hf : firstFault ([(decide (1 < byteAt b 2), 2), (decide (1 < byteAt b 3), 3)] ++ (List.range 8).map fun i =>
      (Machine.fieldLe b (4 + 2 * i) 2 == 0 || decide (10800 < Machine.fieldLe b (4 + 2 * i) 2), 4 + 2 * i)) = none := by
    refine firstFault_none fun e he => ?_
    rcases List.mem_append.mp he with he | he
    · simp only [List.mem_cons, List.not_mem_nil, or_false] at he
      rcases he with rfl | rfl <;> exact decide_eq_false (by omega)
    · obtain ⟨i, hi, rfl⟩ := List.mem_map.mp he
      have := ht i (List.mem_range.mp hi)
      simp only [Bool.or_eq_false_iff, beq_eq_false_iff_ne, decide_eq_false_iff_not]
      omega
  simp only [recFlowClassSet, hm, if_neg (Nat.not_lt.mpr h0), h1, hf, recZero_of _ _ _ _ hz]
  rfl

theorem recFlowNewLimit_sets (hm : m.stage = true) (h0 : Machine.fieldLe b 0 2 ≤ 4095) (h2 : byteAt b 2 = 1) (h3 : byteAt b 3 ≤ 1)
    (h4 : Machine.fieldLe b 4 4 ≤ 1000000) (h8 : 1 ≤ Machine.fieldLe b 8 2) (hz : (firstNonZeroAt b [10, 11]).isNone = true) :
    recFlowNewLimit m s b base = .ok (s.stageFlow fun f =>
      { f with limits := tset f.limits (Machine.fieldLe b 0 2)
                 (NewLimit.mk (byteAt b 3 == 1) (Machine.fieldLe b 4 4) (Machine.fieldLe b 8 2)) }) [] := by
  simp [recFlowNewLimit, hm, Nat.not_lt.mpr h0, h2, Nat.not_lt.mpr h3, Nat.not_lt.mpr h4, Nat.ne_of_gt h8, recZero_of _ _ _ _ hz]

theorem recFlowNewLimit_reads (h0 : Machine.fieldLe b 0 2 ≤ 4095) (h2 : byteAt b 2 = 0) (hz : (firstNonZeroAt b (span 3 11)).isNone = true) :
    recFlowNewLimit m s b base =
      let x := (tget? (s.view m).flow.limits (Machine.fieldLe b 0 2)).getD (NewLimit.mk false 0 64)
      .ok s (le 2 (Machine.fieldLe b 0 2) ++ [0] ++ le 1 x.drop.toNat ++ le 4 x.rate ++ le 2 x.depth ++ [0, 0]) := by
  simp [recFlowNewLimit, Nat.not_lt.mpr h0, h2, recZero_of _ _ _ _ hz]

theorem bodyFlowAgeConfig_reads (h0 : m.p 0 = 0) (h1 : m.p 1 = 0) (hz : zeroAt m (span 2 7) = true) : bodyFlowAgeConfig m s =
    ok s ([0, 0] ++ le 2 (s.view m).flow.sweepPeriod ++ le 1 (s.view m).flow.scrubPeriod ++ zeros 3) := by
  simp [bodyFlowAgeConfig, h0, h1, needZero_of _ _ _ _ hz]

theorem bodyFlowAgeConfig_sets (hm : m.stage = true) (h0 : m.p 0 = 1) (h1 : m.p 1 = 0) (hz : zeroAt m [5, 6, 7] = true)
    (h2 : 5 ≤ m.f 2 2) (h2' : m.f 2 2 ≤ 3600) (h4 : 1 ≤ m.p 4) (h4' : m.p 4 ≤ 24) :
    bodyFlowAgeConfig m s = ok (s.stageFlow fun f => { f with sweepPeriod := m.f 2 2, scrubPeriod := m.p 4 }) := by
  simp [bodyFlowAgeConfig, hm, h0, h1, needZero_of _ _ _ _ hz, Nat.not_lt.mpr h2, Nat.not_lt.mpr h2', Nat.ne_of_gt h4, Nat.not_lt.mpr h4']

theorem bodyFlowHashSeed_sets (h0 : m.p 0 = 1) (hz : zeroAt m [1, 2, 3] = true) (hf : s.flowsPresent = 0) (hne : m.f 4 4 ≠ m.f 8 4) :
    bodyFlowHashSeed m s = ok { s with flow := { s.flow with
      seed0 := BitVec.ofNat 32 (m.f 4 4), seed1 := BitVec.ofNat 32 (m.f 8 4) } } := by
  simp [bodyFlowHashSeed, h0, needZero_of _ _ _ _ hz, hf, hne]

/-- The reply of FLOW_STATS (Table 6.19). -/
def flowStatsReply (s : State) : Bytes :=
  le 4 s.flow.hot.length ++ le 4 (s.flow.hot.filter fun e => e.2.dirty).length ++
    le 4 (s.flow.hot.filter fun e => e.2.held || e.2.wbPending).length ++ le 4 s.flow.requests.length ++
    le 2 s.flow.held0.length ++ le 2 s.flow.held1.length ++ le 2 s.flow.peak0 ++ le 2 s.flow.peak1 ++
    bankBytes s.flow.device ++ s.flow.pipes.flatMap bankBytes

/-- The counts of FLOW_STATS, which CLEAR zeroes behind the reply. -/
theorem bodyFlowStats_of (h0 : m.p 0 ≤ 1) (hz : zeroAt m [1, 2, 3] = true) :
    ∃ p, bodyFlowStats m s = ok (if m.p 0 = 1 then { s with flow := { s.flow with
        device := zeroBank s.flow.device, pipes := s.flow.pipes.map zeroBank,
        peak0 := s.flow.held0.length, peak1 := s.flow.held1.length } } else s) p ∧
      p.take 4 = le 4 s.flow.hot.length ∧ p.drop 24 = bankBytes s.flow.device ++ s.flow.pipes.flatMap bankBytes := by
  refine ⟨flowStatsReply s, ?_, ?_, ?_⟩
  · simp only [bodyFlowStats, if_neg (Nat.not_lt.mpr h0), needZero_of _ _ _ _ hz]
    rfl
  · simp [flowStatsReply, CommandProtocol.le_length]
  · simp [flowStatsReply, List.drop_append, List.drop_of_length_le, CommandProtocol.le_length]

/-! FLOW_EXPORT (R200). -/

theorem startExport_of {k d : Nat} (hk : ordinalOf (s.regionRuns 0) (m.f 4 4) 0 = some k) (hin : k + m.f 8 4 ≤ s.regionSize 0)
    (hn : 1 ≤ m.f 8 4) (hd : s.dram.dir.find (m.f 12 4) = some d)
    (hover : ((s.seamRuns d).any fun r => (s.regionRuns 0).any fun q => r.1 < q.1 + q.2 && q.1 < r.1 + r.2) = false)
    (hstore : (s.dram.dir.storeTiles d).isEmpty = true) (hlen : s.seamLength d = m.f 8 4) (hrun : s.flow.exporter.state ≠ .running)
    (ht : (State.newTasks TaskType.command .exporter (s.typeCfg TaskType.command).maxMiners s).isSome = true) :
    ∃ x : State, x.flow.exporter.state = .running ∧ x.flow.exporter.first = m.f 4 4 ∧ x.flow.exporter.count = m.f 8 4 ∧
      x.flow.exporter.dest = d ∧ x.flow.exporter.holds = (if m.snap then some s.epoch.current else none) ∧
      s.startExport m = ok x (le 4 (s.flow.exporter.sequence + 1)) := by
  obtain ⟨s1, h1⟩ := Option.isSome_iff_exists.mp ht
  refine ⟨{ s1 with flow := { s1.flow with exporter :=
    { state := .running, sequence := s.flow.exporter.sequence + 1, first := m.f 4 4, count := m.f 8 4, dest := d,
      holds := if m.snap then some s.epoch.current else none, done := 0, flows := 0, merged := 0, faults := 0,
      start := s.now, tookMs := 0 } } }, rfl, rfl, rfl, rfl, rfl, ?_⟩
  unfold State.startExport
  simp only [hk, decide_eq_true hin, if_neg (Nat.ne_of_gt hn), hd, hover, hstore, hlen, beq_eq_false_iff_ne.mpr hrun, h1, bne_self_eq_false,
    Bool.not_true, Bool.or_false, Bool.false_eq_true, if_false]

theorem bodyFlowExport_starts (h0 : m.p 0 = 0) (hz : zeroAt m ([1, 2, 3] ++ span 16 23) = true) : bodyFlowExport m s = s.startExport m := by
  simp only [bodyFlowExport, h0, needZero_of _ _ _ _ hz]
  rfl

theorem bodyFlowExport_status (h0 : m.p 0 = 1) (hz : zeroAt m ([1, 2, 3] ++ span 16 23) = true) (hz2 : zeroAt m (span 4 15) = true)
    (hrun : s.flow.exporter.state ≠ .running) : bodyFlowExport m s = ok { s with free := s.free + 1 } (exportInfo s.flow.exporter) := by
  simp only [bodyFlowExport, h0, needZero_of _ _ _ _ hz, needZero_of _ _ _ _ hz2, State.exportStatus, bne_iff_ne.mpr hrun]
  rfl

theorem bodyFlowExport_abort (h0 : m.p 0 = 2) (hz : zeroAt m ([1, 2, 3] ++ span 16 23) = true) (hz2 : zeroAt m (span 4 15) = true)
    (hrun : s.flow.exporter.state ≠ .running) : bodyFlowExport m s = ok s (exportInfo s.flow.exporter) := by
  simp only [bodyFlowExport, h0, needZero_of _ _ _ _ hz, needZero_of _ _ _ _ hz2, beq_eq_false_iff_ne.mpr hrun]
  rfl
end

/-- A waiting flow command, other than LOAD_SEAM, goes on. -/
theorem execFlowCommandResume_of {ch op n : Nat} {s : State} {m : Msg} {held : _} (hch : ch < 4) (hr : s.refreshing = false)
    (hw : (s.chan ch).waiting = some (.flow op m n held)) (hop : op ≠ 0x0404) :
    execFlowCommandResume ch s = .next (settled s (s.resumeFlow ch op m n)) := by
  simp [execFlowCommandResume, hw, Nat.not_lt.mpr (Nat.le_of_lt_succ hch), hr, hop, done_eq]

theorem execFlowExportDone_of {hurt : Upsets} {s : State} (hr : s.refreshing = false) (hrun : s.flow.exporter.state = .running)
    (hw : s.atWork .exporter = true) : execFlowExportDone hurt s =
      let s1 := (s.upset hurt).endExport s.flow.exporter.count .done
      .next (settled s (match s.flow.exporter.holds with
        | some e => { s1 with host := { s1.host with
            holds := s1.host.holds ++ [SeamHold.mk s.flow.exporter.dest e (s.now + 100000000)] } }
        | none => s1)) := by
  simp only [execFlowExportDone, hr, hrun, hw, done_eq]
  rfl

/-- Settles O37. -/
theorem flowReadAndWriteComplete : Obligations.FlowReadAndWriteComplete := by
  refine ⟨?_, ?_, ?_, ?_, ?_, ?_, ?_, ?_, ?_, ?_⟩
  · intro m s b hp hrec h0 h1 h4
    exact run_answers cmdFlowRead m s _ hp (records_one _ _ _ _ _ _ _ hrec (recFlowRead_byKey h0 h1 h4))
  · intro m s b hp hrec h0 h1 h8 hr
    exact run_answers cmdFlowRead m s _ hp (records_one _ _ _ _ _ _ _ hrec (recFlowRead_byTile h0 h1 h8 hr))
  · intro m s b hp hb hrec h0 h1 h4
    exact run_answers cmdFlowRead m s _ hp (records_one _ _ _ _ _ _ _ hrec (recFlowRead_settings (m := m.norm) hb h0 h1 h4))
  · intro m s b way e s1 hp h3 hrec h0 hf ha hr hw
    refine run_answers cmdFlowWrite m s _ hp ((if_neg h3).trans ?_)
    exact records_one _ _ _ _ _ _ _ hrec (recFlowWrite_binding h0 hf ha hr hw)
  · intro m s b bad s1 t s2 hp h3 hrec h0 hf ha hr hw hbusy hplace
    obtain ⟨tile, htile, hrecd⟩ := recFlowWrite_new (base := 16) h0 hf ha hr hw hbusy hplace
    exact ⟨tile, htile, run_answers cmdFlowWrite m s _ hp ((if_neg h3).trans (records_one _ _ _ _ _ _ _ hrec hrecd))⟩
  · intro m s hp hm h3 hf hz
    have hbody := bodyFlowSettings_of (m := m.norm) (s := s) hm hf hz
    refine run_answers cmdFlowWrite m s _ hp ?_
    show (if m.norm.p 0 = 3 then _ else _) = _
    rw [if_pos h3, hbody]
  · intro ch s m n held hch hr hw
    refine ⟨_, rfl, (execFlowCommandResume_of hch hr hw (by decide)).trans ?_⟩
    simp [State.resumeFlow]
  · intro ch s m n held hch hr hw
    refine ⟨_, rfl, (execFlowCommandResume_of hch hr hw (by decide)).trans ?_⟩
    simp [State.resumeFlow]
  · intro ch s m n held hch hr hw
    refine ⟨_, rfl, (execFlowCommandResume_of hch hr hw (by decide)).trans ?_⟩
    simp [State.resumeFlow]
  · intro ch s m n held hch hr hw hat
    refine ⟨_, rfl, ?_⟩
    show execFlowCommandResume ch s = _
    simp [execFlowCommandResume, hw, Nat.not_lt.mpr (Nat.le_of_lt_succ hch), hr, hat, done_eq, State.resumeLoad]

/-- Settles O38. -/
theorem flowCommandsComplete : Obligations.FlowCommandsComplete := by
  refine ⟨?_, ?_, ?_, ?_, ?_, ?_, ?_, ?_, ?_, ?_, ?_⟩
  · intro m s b w s1 t hp hrec hz h45 hwait hw ht hroom
    exact run_answers cmdFlowDelete m s _ hp (records_one _ _ _ _ _ _ _ hrec (recFlowDelete_of hz h45 hwait hw ht hroom))
  · intro m s b way e s1 hp hrec h0 hz h45 hr hw
    exact run_answers cmdFlowPin m s _ hp (records_one _ _ _ _ _ _ _ hrec (recFlowPin_hot h0 hz h45 hr hw))
  · intro m s b hp hrec h0 h1 hz
    exact run_answers cmdFlowClassSet m s _ hp (records_one _ _ _ _ _ _ _ hrec (recFlowClassSet_reads (m := m.norm) h0 h1 hz))
  · rintro m s b ⟨random, overflowDrop, timeouts⟩ hp hm hrec h0 h1 h2 h3 ht hz rfl rfl rfl
    exact run_answers cmdFlowClassSet m s _ hp (records_one _ _ _ _ _ _ _ hrec (recFlowClassSet_sets (m := m.norm) hm h0 h1 h2 h3 ht hz))
  · intro m s b hp hm hrec h0 h2 h3 h4 h8 hz
    exact run_answers cmdFlowNewLimit m s _ hp (records_one _ _ _ _ _ _ _ hrec (recFlowNewLimit_sets (m := m.norm) hm h0 h2 h3 h4 h8 hz))
  · rintro m s b x hp hrec h0 h2 hz rfl
    exact run_answers cmdFlowNewLimit m s _ hp (records_one _ _ _ _ _ _ _ hrec (recFlowNewLimit_reads (m := m.norm) h0 h2 hz))
  · intro m s hp h0 h1 hz
    exact run_answers cmdFlowAgeConfig m s _ hp (bodyFlowAgeConfig_reads (m := m.norm) h0 h1 hz)
  · intro m s hp hm h0 h1 hz h2 h2' h4 h4'
    exact run_answers cmdFlowAgeConfig m s _ hp (bodyFlowAgeConfig_sets (m := m.norm) hm h0 h1 hz h2 h2' h4 h4')
  · intro m s hp h0 hz hf hne
    exact run_answers cmdFlowHashSeed m s _ hp (bodyFlowHashSeed_sets h0 hz hf hne)
  · intro m s hp hz
    have h0 : m.norm.p 0 = 0 := p_of_zeroAt hz 0 (by decide)
    obtain ⟨p, hbody, htake, hdrop⟩ := bodyFlowStats_of (s := s) (by rw [h0]; exact Nat.zero_le 1) (zeroAt_of_subset hz [1, 2, 3] (by decide))
    exact ⟨p, run_answers cmdFlowStats m s _ hp (hbody.trans (by rw [h0, if_neg (by decide)])), htake, hdrop⟩
  · intro m s hp h0 hz
    obtain ⟨p, hbody, htake, hdrop⟩ := bodyFlowStats_of (s := s) (Nat.le_of_eq h0) hz
    exact ⟨p, run_answers cmdFlowStats m s _ hp (hbody.trans (by rw [if_pos h0])), htake, hdrop⟩

/-- Settles O39. -/
theorem flowExportCompletes : Obligations.FlowExportCompletes := by
  refine ⟨?_, ?_, ?_, ?_, ?_⟩
  · intro m s k d hp h0 hz hk hin hn hd hover hstore hlen hrun ht
    obtain ⟨x, hstate, hfirst, hcount, hdest, hholds, hstart⟩ := startExport_of hk hin hn hd hover hstore hlen hrun ht
    exact ⟨x, hstate, hfirst, hcount, hdest, hholds, run_answers cmdFlowExport m s _ hp ((bodyFlowExport_starts h0 hz).trans hstart)⟩
  · intro m s hp h0 hz hz2 hrun
    exact run_answers cmdFlowExport m s _ hp (bodyFlowExport_status h0 hz hz2 hrun)
  · intro m s hp h0 hz hz2 hrun
    exact run_answers cmdFlowExport m s _ hp (bodyFlowExport_abort h0 hz hz2 hrun)
  · intro hurt s hr hrun hw hh
    exact (execFlowExportDone_of hr hrun hw).trans (by simp only [hh])
  · intro hurt s e hr hrun hw hh
    exact ⟨_, rfl, (execFlowExportDone_of hr hrun hw).trans (by simp only [hh])⟩

end Sys2Proof.FlowCommands

/-! PROOFS. Arriving frames, the queues' ends and the host rings (spec 03, 10, 15 R436). -/
namespace Sys2Proof.BufferEvents
open Machine Claims

/-! Reception (R80-R82, R101). -/

section
variable {s : State} {port : Nat} {f : FrameIn}

/-- A whole frame is received at an UP port, behind the port's loopback. -/
theorem execLaneFrameReceive_whole {frame : FrameIn} {s1 : State} (hp : port < 26) (hu : s.portUp port = true)
    (hl : s.throughLoop port frame = some (f, s1)) (he : f.ended = true) :
    execLaneFrameReceive port frame s = .next (settled s (s1.receive port f)) := by
  simp only [execLaneFrameReceive, hp, hu, hl, he, decide_true, Bool.and_true, Bool.not_true, Bool.false_eq_true, if_false, if_true, done_eq]

theorem execLaneFrameReceive_begins {frame : FrameIn} {s1 : State} (hp : port < 24) (hu : s.portUp port = true)
    (hl : s.throughLoop port frame = some (f, s1)) (he : f.ended = false) (hc : (s.portCfg port).cutThrough = true) :
    execLaneFrameReceive port frame s = .next (settled s (s1.beginFrame port f)) := by
  have hp' : port < 26 := Nat.lt_of_lt_of_le hp (by decide)
  simp only [execLaneFrameReceive, hp, hp', hu, hl, he, hc, decide_true, Bool.and_true, Bool.not_true, Bool.false_eq_true, if_false, if_true,
    done_eq]

theorem receive_bad {k : Nat} (hk : (s.rxLine port f).rxError port ((s.rxLine port f).maxFrame port) f = some k) :
    s.receive port f = (s.rxLine port f).portCount port k := by
  simp only [State.receive, hk]

theorem receive_pdelay {t : Nat} {m : PtpAt} (hk : (s.rxLine port f).rxError port ((s.rxLine port f).maxFrame port) f = none)
    (hm : (s.rxLine port f).pdelayAt port f.bytes = some (t, m)) : s.receive port f = (s.rxLine port f).consumePdelay port t f.bytes m := by
  simp only [State.receive, hk, hm]

theorem receive_good (hk : (s.rxLine port f).rxError port ((s.rxLine port f).maxFrame port) f = none)
    (hm : (s.rxLine port f).pdelayAt port f.bytes = none) :
    s.receive port f = ((s.rxLine port f).rxGood port f).passOn port f.bytes false := by
  simp only [State.receive, hk, hm]
end

section
variable {s : State} {id : Nat} {frame : FrameIn} {a : Arriving}

/-- The end of a frame that has been cut off, or whose port has gone down. -/
theorem execCutThroughFrameEnd_partial (ha : s.buf.arriving.find? (fun x => x.id == id) = some a) (hc : a.cut = true ∨ s.portUp a.port = false) :
    execCutThroughFrameEnd id frame s = .next (settled s (((State.addOctets
      { s with buf := { s.buf with arriving := s.buf.arriving.filter fun x => x.id != id } } a.counts (frame.bytes.length + 4)).portCount
        a.port 7).loseFrame id)) := by
  have hcut : (a.cut || !s.portUp a.port) = true := by
    rcases hc with h | h <;> rw [h]
    · rfl
    · exact Bool.or_true _
  simp only [execCutThroughFrameEnd, ha, hcut, if_true, done_eq]

theorem execCutThroughFrameEnd_whole (ha : s.buf.arriving.find? (fun x => x.id == id) = some a) (hc : a.cut = false)
    (hu : s.portUp a.port = true) : execCutThroughFrameEnd id frame s =
      let s1 := State.addOctets { s with buf := { s.buf with arriving := s.buf.arriving.filter fun x => x.id != id } } a.counts
        (frame.bytes.length + 4)
      .next (settled s ((if (s.port a.port).loopback = 3 then s1.send (.frame a.port frame.bytes (!frame.fcsOk)) else s1).endFrame a frame)) := by
  simp only [execCutThroughFrameEnd, ha, hc, hu, Bool.not_true, Bool.or_false, Bool.false_eq_true, if_false, done_eq]
end

section
variable {s : State} {a : Arriving} {f : FrameIn}

theorem endFrame_bad {k : Nat} (hk : (s.rxLine a.port f).rxError a.port a.maxFrame f = some k) :
    s.endFrame a f = ((s.rxLine a.port f).portCount a.port k).loseFrame a.id := by
  simp only [State.endFrame, hk]

theorem endFrame_passed {lost : Bool} {s3 : State} (hk : (s.rxLine a.port f).rxError a.port a.maxFrame f = none) (hp : a.passed = true)
    (hl : ((s.rxLine a.port f).rxGood a.port f).lateClaims (portPipe a.port) a.claims f.bytes.length = (lost, s3)) :
    s.endFrame a f = if lost then s3.loseFrame a.id else s3.wholeFrame a.id (f.bytes.drop a.got) := by
  simp only [State.endFrame, hk, hp, hl, if_true]

theorem endFrame_pdelay {t : Nat} {m : PtpAt} (hk : (s.rxLine a.port f).rxError a.port a.maxFrame f = none) (hp : a.passed = false)
    (hm : (s.rxLine a.port f).pdelayAt a.port f.bytes = some (t, m)) :
    s.endFrame a f = (s.rxLine a.port f).consumePdelay a.port t f.bytes m := by
  simp only [State.endFrame, hk, hp, hm, Bool.false_eq_true, if_false]

theorem endFrame_good (hk : (s.rxLine a.port f).rxError a.port a.maxFrame f = none) (hp : a.passed = false)
    (hm : (s.rxLine a.port f).pdelayAt a.port f.bytes = none) :
    s.endFrame a f = ((s.rxLine a.port f).rxGood a.port f).passOn a.port f.bytes false := by
  simp only [State.endFrame, hk, hp, hm, Bool.false_eq_true, if_false]
end

/-! Residence (R308). -/

theorem le_pipeQueue (reinject pipe : Bool) : 525312 ≤ pipeQueue reinject pipe := by
  unfold pipeQueue
  omega

theorem pipeQueue_inj {r p r' p' : Bool} : pipeQueue r p = pipeQueue r' p' ↔ r = r' ∧ p = p' := by
  unfold pipeQueue
  cases r <;> cases p <;> cases r' <;> cases p' <;> decide

/-- The queue of a port or of a ring is none of the pipelines'. -/
theorem ne_pipeQueue {queue : Nat} (h : queue < 525312) (reinject pipe : Bool) : queue ≠ pipeQueue reinject pipe :=
  Nat.ne_of_lt (Nat.lt_of_lt_of_le h (le_pipeQueue reinject pipe))

section
variable {s : State} {index : Nat}

theorem execResidenceExpire_queued {queue : Nat} {e : Queued} (hq : queue < 525312) (he : (s.queue queue).items[index]? = some e)
    (hold : e.pkt.admitted + 50000000 ≤ s.now) (hb : s.recordBusy queue index = false) : execResidenceExpire queue index s =
      .next (settled s ((((s.dropRecord queue index).setQueue queue { s.queue queue with
        items := (s.queue queue).items.eraseIdx index, discarded := (s.queue queue).discarded + 1 }).bufCount
          BufCounter.residence).countDiscard e.pkt)) := by
  unfold execResidenceExpire
  rw [if_neg (by simp only [ne_pipeQueue hq, decide_false]; decide), if_neg (by simp only [ne_pipeQueue hq, decide_false]; decide)]
  simp only [he, hb, decide_eq_false (Nat.not_lt.mpr hold), Bool.or_false, Bool.false_eq_true, if_false, done_eq]

theorem expireRecirc_of {pipe : Bool} {p : Pkt} (hp : (s.recircQ pipe)[index]? = some p) (hold : p.admitted + 50000000 ≤ s.now) :
    s.expireRecirc pipe index = (s.setRecircQ pipe ((s.recircQ pipe).eraseIdx index)).dropOld p := by
  simp only [State.expireRecirc, hp, if_neg (Nat.not_lt.mpr hold)]

theorem expireReinject_of {pipe : Bool} {p : Pkt} {key : Bytes} (hp : (s.reinjectQ pipe)[index]? = some (p, key))
    (hold : p.admitted + 50000000 ≤ s.now) :
    s.expireReinject pipe index = ((s.setReinjectQ pipe ((s.reinjectQ pipe).eraseIdx index)).dropOld p).releaseBehind p key := by
  simp only [State.expireReinject, hp, if_neg (Nat.not_lt.mpr hold)]

theorem execResidenceExpire_recirc (pipe : Bool) :
    execResidenceExpire (pipeQueue false pipe) index s = .next (settled s (s.expireRecirc pipe index)) := by
  unfold execResidenceExpire
  simp only [pipeQueue_inj, done_eq]
  cases pipe <;> rfl

theorem execResidenceExpire_reinject (pipe : Bool) :
    execResidenceExpire (pipeQueue true pipe) index s = .next (settled s (s.expireReinject pipe index)) := by
  unfold execResidenceExpire
  simp only [pipeQueue_inj, done_eq]
  cases pipe <;> rfl
end

/-! Host rings (R314-R318, R436). -/

section
variable {s : State} {n : Nat} {hurt : Upsets}

/-- A ring with a record in progress writes the next burst of it. -/
theorem serveRing_burst {bytes : Bytes} (hs : (s.hostRing n).slot = some bytes) : s.serveRing n hurt = s.ringBurst n := by
  simp only [State.serveRing, hs, Option.isNone_some, Bool.false_eq_true, if_false]

theorem serveRing_makes (hs : (s.hostRing n).slot = none) : s.serveRing n hurt = (s.makeRecord n hurt).ringBurst n := by
  simp only [State.serveRing, hs, Option.isNone_none, if_true]

theorem ringBurst_on {bytes : Bytes} (hs : (s.hostRing n).slot = some bytes) (hoff : 4 + 512 * (s.hostRing n).sent < bytes.length) :
    s.ringBurst n = let x := s.hostRing n
      ((s.setDma x.channel { s.dma x.channel with turn := n }).hostWrites (s.ownedByPf1 x.channel) (x.slotAddr + (4 + 512 * x.sent))
        ((bytes.drop (4 + 512 * x.sent)).take 512)).setHostRing n { x with sent := x.sent + 1 } := by
  simp only [State.ringBurst, hs, if_pos hoff]

theorem ringBurst_last {bytes : Bytes} (hs : (s.hostRing n).slot = some bytes) (hoff : bytes.length ≤ 4 + 512 * (s.hostRing n).sent) :
    s.ringBurst n = let x := s.hostRing n
      ((s.setDma x.channel { s.dma x.channel with turn := n }).send (.hostWrite (s.ownedByPf1 x.channel) x.slotAddr
        (le 1 (byteAt bytes 0 + (if x.phase then 0x80 else 0)) ++ slice bytes 1 3))).slotWritten n := by
  simp only [State.ringBurst, hs, if_neg (Nat.not_lt.mpr hoff)]

/-- The record of a queue's head whose cells are sound and whose data fits. -/
theorem makeRecord_sound {e x : Queued} {rest : List Queued} {data : Bytes} (hq : (s.queue (ringQueue n)).items = e :: rest)
    (hx : s.stampRx e = (false, x)) (hd : s.recordData (s.ring n) x = (data, false)) :
    s.makeRecord n {} = s.takeSlot n (recordHeader x data.length false ++ data) := by
  simp only [State.makeRecord, hq, List.foldl_nil, List.any_nil, List.filter_nil, List.length_nil, hx, hd, State.spoiled, Bool.false_eq_true,
    if_false]

theorem makeRecord_discards {e : Queued} {rest : List Queued} (hq : (s.queue (ringQueue n)).items = e :: rest)
    (hb : hurt.buffer.any (·.1 == 2) = true) : s.makeRecord n hurt =
      let s1 := hurt.buffer.foldl (State.cellFault · e.pkt.pipe.toNat) s
      ((s1.setQueue (ringQueue n) { s1.queue (ringQueue n) with items := rest }).bufCount BufCounter.ecc).countDiscard e.pkt := by
  simp only [State.makeRecord, hq, hb, if_true]

theorem execRingConsumerPoll_of {consumed : W32} (hn : n < 10) (he : (s.hostRing n).enabled = true) (hh : (s.hostRing n).halted = false)
    (hf : (s.hostRing n).full = true) (hr : s.requestReady (s.hostRing n).channel = true)
    (hp : (s.hostRing n).polled.all (· + 2000 ≤ s.now) = true) (ho : s.readsOut < 256) : execRingConsumerPoll n consumed s =
      .next (settled s ((s.send (.hostRead (s.ownedByPf1 (s.hostRing n).channel) 4 (s.hostRing n).consumerAddr 4)).setHostRing n
        { s.hostRing n with consumed := consumed, polled := some s.now })) := by
  simp only [execRingConsumerPoll, decide_eq_true hn, he, hh, hf, hr, hp, decide_eq_true ho, Bool.not_false, Bool.and_true, if_true, done_eq]

theorem execRingHoldoffExpire_of {t : Nat} (hn : n < 10) (ht : (s.hostRing n).holdUntil = some t) (hnow : t ≤ s.now) :
    execRingHoldoffExpire n s = .next (settled s (if (s.hostRing n).again then
      (s.setHostRing n { s.hostRing n with holdUntil := none, again := false }).ringIrq n
        else s.setHostRing n { s.hostRing n with holdUntil := none, again := false })) := by
  simp only [execRingHoldoffExpire, ht, decide_eq_false (Nat.not_le.mpr hn), decide_eq_false (Nat.not_lt.mpr hnow), Bool.or_false,
    Bool.false_eq_true, if_false, done_eq]
end

/-- Settles O40. -/
theorem bufferAndRingEventsComplete : Obligations.BufferAndRingEventsComplete := by
  refine ⟨?_, ?_, ?_, ?_, ?_, ?_, ?_, ?_, ?_, ?_, ?_, ?_, ?_, ?_, ?_, ?_, ?_⟩
  · intro port frame s f s1 k hp hu hl he hk
    exact (execLaneFrameReceive_whole hp hu hl he).trans (by rw [receive_bad hk])
  · intro port frame s f s1 t m hp hu hl he hk hm
    exact (execLaneFrameReceive_whole hp hu hl he).trans (by rw [receive_pdelay hk hm])
  · intro port frame s f s1 hp hu hl he hk hm
    exact (execLaneFrameReceive_whole hp hu hl he).trans (by rw [receive_good hk hm])
  · intro port frame s f s1 hp hu hl he hc
    exact execLaneFrameReceive_begins hp hu hl he hc
  · rintro id frame s a s1 ha rfl hc
    exact execCutThroughFrameEnd_partial ha hc
  · rintro id frame s a s1 s2 ha hc hu rfl rfl
    have heq := execCutThroughFrameEnd_whole (frame := frame) ha hc hu
    refine ⟨fun k hk => ?_, fun hk hp lost s3 hl => ?_, fun hk hp t m hm => ?_, fun hk hp hm => ?_⟩
    · exact heq.trans (congrArg (Host.Outcome.next <| settled s ·) (endFrame_bad hk))
    · exact heq.trans (congrArg (Host.Outcome.next <| settled s ·) (endFrame_passed hk hp hl))
    · exact heq.trans (congrArg (Host.Outcome.next <| settled s ·) (endFrame_pdelay hk hp hm))
    · exact heq.trans (congrArg (Host.Outcome.next <| settled s ·) (endFrame_good hk hp hm))
  · intro port hurt s c e s1 hp hf hs
    show execPacketDequeue port hurt s = _
    simp only [execPacketDequeue, hp, hf, hs, Bool.not_true, Bool.or_false, Bool.false_eq_true, if_false, done_eq]
  · rintro queue index s e s1 hq he hold hb rfl
    exact execResidenceExpire_queued hq he hold hb
  · intro pipe index s p hp hold
    exact (execResidenceExpire_recirc pipe).trans (by rw [expireRecirc_of hp hold])
  · intro pipe index s p key hp hold
    exact (execResidenceExpire_reinject pipe).trans (by rw [expireReinject_of hp hold])
  · rintro ring s c hr rfl hs hn hd
    show execRingRecordWrite ring s = _
    simp only [execRingRecordWrite, decide_eq_false (Nat.not_le.mpr hr), hs, hn, hd, bne_self_eq_false, Bool.or_false, Bool.false_eq_true,
      if_false, done_eq]
  · rintro s ring bytes x hurt rfl hs hoff
    exact (serveRing_burst hs).trans (ringBurst_on hs hoff)
  · rintro s ring bytes x hurt rfl hs hoff
    exact (serveRing_burst hs).trans (ringBurst_last hs hoff)
  · intro s ring e rest x data hs hq hx hd
    rw [serveRing_makes hs, makeRecord_sound hq hx hd]
  · rintro s ring e rest hurt s1 hs hq rfl hb
    rw [serveRing_makes hs, makeRecord_discards hq hb]
  · intro ring consumed s hn he hh hf hr hp ho
    exact execRingConsumerPoll_of hn he hh hf hr hp ho
  · rintro ring s t x hn rfl ht hnow
    exact execRingHoldoffExpire_of hn ht hnow

end Sys2Proof.BufferEvents

/-! PROOFS. The commands on the buffer, its queues, schedulers, shaping nodes, mirror sessions and rings (spec 10). -/
namespace Sys2Proof.BufferCommands
open Machine Claims Answers

/-- A record of a subscriber that is read is one of a subscriber that is defined. -/
theorem subDefined_of_record {s : State} {v : Staged} {n : Nat} (h : (s.subRecord v n).isSome = true) : (v.subDefined n).isNone = false := by
  cases hd : v.subDefined n with
  | some t => rfl
  | none => simp [State.subRecord, hd] at h

section
variable {m : Msg} {s : State} {b : Bytes} {base : Nat}

/-! QUEUE_CONFIG (R295). -/

theorem isBufPort_of_lt {p : Nat} (h : p < 26) : isBufPort p = true := by
  rw [isBufPort, decide_eq_true h]
  rfl

theorem not_ring_of_lt {p : Nat} (h : p < 26) : (decide (0x40 ≤ p) && decide (p < 0x48)) = false := by
  rw [decide_eq_false (by omega : ¬ 0x40 ≤ p), Bool.false_and]

theorem recQueueConfig_reads (h0 : byteAt b 0 < 26) (h1 : byteAt b 1 ≤ 7) (h2 : byteAt b 2 = 0)
    (hz : (firstNonZeroAt b (span 3 7)).isNone = true) : recQueueConfig m s b base =
      let x := (s.view m).queueCfg (classQueue (byteAt b 0) (byteAt b 1))
      .ok s (le 1 (byteAt b 0) ++ le 1 (byteAt b 1) ++ [0] ++ le 1 x.alpha ++ le 2 x.min ++ le 2 x.max) := by
  simp [recQueueConfig, isBufPort_of_lt h0, not_ring_of_lt h0, Nat.not_lt.mpr h1, h2, recZero_of _ _ _ _ hz]

theorem recQueueConfig_sets {f : BufCfg → BufCfg} (hm : m.stage = true) (h0 : byteAt b 0 < 26) (h1 : byteAt b 1 ≤ 7) (h2 : byteAt b 2 = 1)
    (h3 : byteAt b 3 ≤ 7) (h4 : Machine.fieldLe b 4 2 ≤ 8192) (h6 : 38 ≤ Machine.fieldLe b 6 2)
    (hf : f = fun v => { v with queues := tset v.queues (classQueue (byteAt b 0) (byteAt b 1))
                                  { alpha := byteAt b 3, min := Machine.fieldLe b 4 2, max := Machine.fieldLe b 6 2 } })
    (hr : Staged.reserved { s.shadow with buf := f s.shadow.buf } ≤ 180224) : recQueueConfig m s b base = .ok (s.stageBuf f) [] := by
  subst hf
  have hring := not_ring_of_lt h0
  have hport := isBufPort_of_lt h0
  simp only [recQueueConfig, hring, hport, hm, h2, if_neg (Nat.not_lt.mpr h3), if_neg (Nat.not_lt.mpr h4), if_neg (Nat.not_lt.mpr h6),
    Bool.not_true, Bool.false_and, Bool.false_eq_true, if_false, decide_eq_false (Nat.not_lt.mpr h1), if_neg (Nat.not_lt.mpr hr)]
  rfl

/-! SHAPER_NODE_SET and SHAPER_NODE_READ (R305). -/

theorem recShaperNodeSet_sets (hm : m.stage = true) (h0 : Machine.fieldLe b 0 3 ≤ 131071) (h3 : byteAt b 3 = 1)
    (hs : (s.subRecord s.shadow (Machine.fieldLe b 0 3)).isSome = true) (hf : shaperFault b = none) :
    recShaperNodeSet m s b base = .ok (s.stageBuf fun f => { f with nodes := tset f.nodes (Machine.fieldLe b 0 3) b }) [] := by
  simp only [recShaperNodeSet, hm, if_neg (Nat.not_lt.mpr h0), h3, subDefined_of_record hs, hf]
  rfl

theorem recShaperNodeSet_removes (hm : m.stage = true) (h0 : Machine.fieldLe b 0 3 ≤ 131071) (h3 : byteAt b 3 = 2)
    (hz : (firstNonZeroAt b (span 4 19)).isNone = true) (hs : (s.subRecord s.shadow (Machine.fieldLe b 0 3)).isSome = true) :
    recShaperNodeSet m s b base = .ok (s.stageBuf fun f => { f with nodes := tdel f.nodes (Machine.fieldLe b 0 3) }) [] := by
  simp only [recShaperNodeSet, hm, if_neg (Nat.not_lt.mpr h0), h3, subDefined_of_record hs, recZero_of _ _ _ _ hz]
  rfl

theorem bodyShaperNodeRead_of (h0 : m.f 0 3 ≤ 131071) (h3 : m.p 3 ≤ 1) (hz : zeroAt m (span 4 7) = true) : bodyShaperNodeRead m s =
    if m.p 3 = 0 then ok s (((s.view m).node (m.f 0 3)).getD (zeros 20)) else ok s (nodeState s (m.f 0 3)) := by
  simp only [bodyShaperNodeRead, if_neg (Nat.not_lt.mpr h0), if_neg (Nat.not_lt.mpr h3), needZero_of _ _ _ _ hz]

/-! SCHED_CONFIG (R302, R303). -/

theorem recSchedConfig_reads (h0 : byteAt b 0 ≤ 25) (h1 : byteAt b 1 = 0) (hz : (firstNonZeroAt b (span 2 15)).isNone = true) :
    recSchedConfig m s b base = .ok s (schedRecord (byteAt b 0) ((s.view m).buf.sched.getD (byteAt b 0) SchedCfg.reset)) := by
  simp [recSchedConfig, Nat.not_lt.mpr h0, h1, recZero_of _ _ _ _ hz]

theorem recSchedConfig_sets (hm : m.stage = true) (h0 : byteAt b 0 ≤ 25) (h1 : byteAt b 1 = 1) (h3 : byteAt b 3 ≤ 7)
    (hq : ∀ i, 4 ≤ i → i ≤ 11 → byteAt b i ≠ 0) (h12 : Machine.fieldLe b 12 4 ≤ 400000) : recSchedConfig m s b base =
      .ok (s.stageBuf fun f => { f with sched := f.sched.set (byteAt b 0)
                                           (SchedCfg.mk (b.getD 2 0) (byteAt b 3) ((span 4 11).map (byteAt b)) (Machine.fieldLe b 12 4)) }) [] := by
  have hquanta : (span 4 11).find? (fun i => byteAt b i == 0) = none := by
    refine List.find?_eq_none.mpr fun i hi => ?_
    obtain ⟨k, hk, rfl⟩ := List.mem_map.mp hi
    have hk := List.mem_range.mp hk
    exact fun h => hq (k + 4) (by omega) (by omega) (beq_iff_eq.mp h)
  simp only [recSchedConfig, hm, if_neg (Nat.not_lt.mpr h0), h1, if_neg (Nat.not_lt.mpr h3), hquanta, if_neg (Nat.not_lt.mpr h12)]
  rfl

/-! MIRROR_SET (R313). -/

theorem recMirrorSet_reads (h0 : byteAt b 0 ≤ 15) (h1 : byteAt b 1 = 0) (hz : (firstNonZeroAt b (span 2 15)).isNone = true) :
    recMirrorSet m s b base = .ok s (((s.view m).session (byteAt b 0)).getD (le 1 (byteAt b 0) ++ zeros 15)) := by
  simp only [recMirrorSet, if_neg (Nat.not_lt.mpr h0), h1, recZero_of _ _ _ _ hz]

theorem recMirrorSet_sets (hm : m.stage = true) (h0 : byteAt b 0 ≤ 15) (h1 : byteAt b 1 = 1) (hf : sessionFault b = none) :
    recMirrorSet m s b base = .ok (s.stageBuf fun f => { f with mirrors := tset f.mirrors (byteAt b 0) (splice b 1 [0]) }) [] := by
  simp only [recMirrorSet, hm, if_neg (Nat.not_lt.mpr h0), h1, hf]
  rfl

theorem recMirrorSet_removes (hm : m.stage = true) (h0 : byteAt b 0 ≤ 15) (h1 : byteAt b 1 = 2)
    (hz : (firstNonZeroAt b (span 2 15)).isNone = true) (hs : (s.shadow.session (byteAt b 0)).isSome = true) :
    recMirrorSet m s b base = .ok (s.stageBuf fun f => { f with mirrors := tdel f.mirrors (byteAt b 0) }) [] := by
  have hs' : (s.shadow.session (byteAt b 0)).isNone = false := by rw [← Option.not_isSome, hs]; rfl
  simp only [recMirrorSet, hm, if_neg (Nat.not_lt.mpr h0), h1, recZero_of _ _ _ _ hz, hs']
  rfl

/-! HOSTRING_SET (R314, R320). -/

theorem bodyHostringSet_reads (h0 : m.p 0 ≤ 7) (h1 : m.p 1 = 0) (hz : zeroAt m (span 2 39) = true) :
    bodyHostringSet m s = ok s (hostringRecord (m.p 0) 0 (s.ring (m.p 0))) := by
  simp only [bodyHostringSet, if_neg (Nat.not_lt.mpr h0), h1, needZero_of _ _ _ _ hz]

theorem le_of_channelBad {c : Nat} (h : s.channelBad m c = false) : c ≤ 15 := by
  unfold State.channelBad at h
  simp only [Bool.or_eq_false_iff, decide_eq_false_iff_not] at h
  exact Nat.not_lt.mp h.1.1

theorem bodyHostringSet_sets {y : HostRing} (h0 : m.p 0 ≤ 7) (h1 : m.p 1 = 1) (hc : s.channelBad m (m.p 2) = false) (h3 : m.p 3 ≤ 1)
    (hg : geometryFault m = none) (hz : zeroAt m (span 24 39) = true) (he : (s.ring (m.p 0)).enabled = false)
    (hy : y = { s.ring (m.p 0) with channel := m.p 2, irq := m.p 3 == 1, j := m.p 4, k := m.p 5, holdoff := m.f 6 2, base := m.f 8 8,
                                    consumerAddr := m.f 16 8 }) :
    bodyHostringSet m s = ok (s.setRing (m.p 0) y) (hostringRecord (m.p 0) 1 y) := by
  subst hy
  simp only [bodyHostringSet, if_neg (Nat.not_lt.mpr h0), h1, if_neg (Nat.not_lt.mpr (le_of_channelBad hc)), hc, if_neg (Nat.not_lt.mpr h3), hg,
    needZero_of _ _ _ _ hz, he]
  rfl

theorem bodyHostringSet_starts (h0 : m.p 0 ≤ 7) (h1 : m.p 1 = 2) (hz : zeroAt m (span 2 39) = true) :
    bodyHostringSet m s = ok (s.setRing (m.p 0) (s.ring (m.p 0)).start) := by
  simp only [bodyHostringSet, if_neg (Nat.not_lt.mpr h0), h1, needZero_of _ _ _ _ hz]

theorem bodyHostringSet_stops (h0 : m.p 0 ≤ 7) (h1 : m.p 1 = 3) (hz : zeroAt m (span 2 39) = true) :
    bodyHostringSet m s = ok ((s.emptyRing (m.p 0)).setRing (m.p 0) (s.ring (m.p 0)).stop) := by
  simp only [bodyHostringSet, if_neg (Nat.not_lt.mpr h0), h1, needZero_of _ _ _ _ hz]

theorem bodyHostringSet_status (h0 : m.p 0 ≤ 7) (h1 : m.p 1 = 4) (h3 : m.p 3 = 0) (hz : zeroAt m (2 :: span 4 39) = true) :
    bodyHostringSet m s = ok s (hostringStatus s (m.p 0)) := by
  simp only [bodyHostringSet, if_neg (Nat.not_lt.mpr h0), h1, h3, needZero_of _ _ _ _ hz]
  rfl

/-! BUFFER_STATUS and BUFFER_THRESHOLD (R322). -/

theorem zeroAt_three (h : m.p 3 = 0) : zeroAt m [3] = true :=
  zeroAt_iff.mpr fun _ hi => by rwa [List.mem_singleton.mp hi]

theorem bodyBufferStatus_device (h0 : m.p 0 = 0) (h1 : m.p 1 = 0) (h2 : m.p 2 = 1) (h3 : m.p 3 = 0) : bodyBufferStatus m s =
    ok { s with buf := { s.buf with counters := zeroBank s.buf.counters, peakU := s.sharedUse } } (deviceBlock s ++ bankBytes s.buf.counters) := by
  simp only [bodyBufferStatus, h0, h1, h2, needZero_of _ _ _ _ (zeroAt_three h3)]
  rfl

theorem bodyBufferStatus_port (h0 : m.p 0 = 1) (h1 : m.p 1 < 26) (h2 : m.p 2 = 0) (h3 : m.p 3 = 0) :
    bodyBufferStatus m s = ok s (((List.range 8).map (classQueue (m.p 1))).flatMap (classEntry s)) := by
  simp only [bodyBufferStatus, h0, isBufPort_of_lt h1, h2, needZero_of _ _ _ _ (zeroAt_three h3)]
  rfl

theorem bodyBufferThreshold_reads (h0 : m.p 0 = 0) (hz : zeroAt m (span 1 7) = true) : bodyBufferThreshold m s =
    ok s ([0] ++ le 1 (s.view m).buf.subAlpha ++ zeros 2 ++ le 2 (s.view m).buf.res0 ++ le 2 (s.view m).buf.res1) := by
  simp only [bodyBufferThreshold, h0, needZero_of _ _ _ _ hz]
  rfl

theorem bodyBufferThreshold_sets {g : BufCfg → BufCfg} (hm : m.stage = true) (h0 : m.p 0 = 1) (h1 : m.p 1 ≤ 7) (hz : zeroAt m [2, 3] = true)
    (h4 : m.f 4 2 ≤ 32768) (h6 : m.f 6 2 ≤ 32768) (hg : g = fun v => { v with subAlpha := m.p 1, res0 := m.f 4 2, res1 := m.f 6 2 })
    (hr : Staged.reserved { s.shadow with buf := g s.shadow.buf } ≤ 180224) : bodyBufferThreshold m s = ok (s.stageBuf g) := by
  subst hg
  simp only [bodyBufferThreshold, hm, h0, if_neg (Nat.not_lt.mpr h1), needZero_of _ _ _ _ hz, if_neg (Nat.not_lt.mpr h4),
    if_neg (Nat.not_lt.mpr h6), if_neg (Nat.not_lt.mpr hr)]
  rfl
end

/-- Settles O41. -/
theorem bufferCommandsComplete : Obligations.BufferCommandsComplete := by
  refine ⟨?_, ?_, ?_, ?_, ?_, ?_, ?_, ?_, ?_, ?_, ?_, ?_, ?_, ?_, ?_, ?_, ?_, ?_, ?_, ?_⟩
  · rintro m s b x hp hrec h0 h1 h2 hz rfl
    exact run_answers cmdQueueConfig m s _ hp (records_one _ _ _ _ _ _ _ hrec (recQueueConfig_reads (m := m.norm) h0 h1 h2 hz))
  · intro m s b f hp hm hrec h0 h1 h2 h3 h4 h6 hf hr
    exact run_answers cmdQueueConfig m s _ hp
      (records_one _ _ _ _ _ _ _ hrec (recQueueConfig_sets (m := m.norm) hm h0 h1 h2 h3 h4 h6 hf hr))
  · intro m s b hp hm hrec h0 h3 hs hf
    exact run_answers cmdShaperNodeSet m s _ hp (records_one _ _ _ _ _ _ _ hrec (recShaperNodeSet_sets (m := m.norm) hm h0 h3 hs hf))
  · intro m s b hp hm hrec h0 h3 hz hs
    exact run_answers cmdShaperNodeSet m s _ hp (records_one _ _ _ _ _ _ _ hrec (recShaperNodeSet_removes (m := m.norm) hm h0 h3 hz hs))
  · intro m s hp h0 h3 hz
    refine run_answers cmdShaperNodeRead m s _ hp ((bodyShaperNodeRead_of (m := m.norm) h0 (by omega) hz).trans ?_)
    rw [if_pos h3]
    rfl
  · intro m s hp h0 h3 hz
    refine run_answers cmdShaperNodeRead m s _ hp ((bodyShaperNodeRead_of (m := m.norm) h0 (by omega) hz).trans ?_)
    rw [if_neg (by omega)]
  · intro m s b hp hrec h0 h1 hz
    exact run_answers cmdSchedConfig m s _ hp (records_one _ _ _ _ _ _ _ hrec (recSchedConfig_reads (m := m.norm) h0 h1 hz))
  · rintro m s b x hp hm hrec h0 h1 h3 hq h12 rfl
    exact run_answers cmdSchedConfig m s _ hp (records_one _ _ _ _ _ _ _ hrec (recSchedConfig_sets (m := m.norm) hm h0 h1 h3 hq h12))
  · intro m s b hp hrec h0 h1 hz
    exact run_answers cmdMirrorSet m s _ hp (records_one _ _ _ _ _ _ _ hrec (recMirrorSet_reads (m := m.norm) h0 h1 hz))
  · intro m s b hp hm hrec h0 h1 hf
    exact run_answers cmdMirrorSet m s _ hp (records_one _ _ _ _ _ _ _ hrec (recMirrorSet_sets (m := m.norm) hm h0 h1 hf))
  · intro m s b hp hm hrec h0 h1 hz hs
    exact run_answers cmdMirrorSet m s _ hp (records_one _ _ _ _ _ _ _ hrec (recMirrorSet_removes (m := m.norm) hm h0 h1 hz hs))
  · intro m s hp h0 h1 hz
    exact run_answers cmdHostringSet m s _ hp (bodyHostringSet_reads h0 h1 hz)
  · intro m s y hp h0 h1 hc h3 hg hz he hy
    exact run_answers cmdHostringSet m s _ hp (bodyHostringSet_sets h0 h1 hc h3 hg hz he hy)
  · intro m s hp h0 h1 hz
    exact run_answers cmdHostringSet m s _ hp (bodyHostringSet_starts h0 h1 hz)
  · intro m s hp h0 h1 hz
    exact run_answers cmdHostringSet m s _ hp (bodyHostringSet_stops h0 h1 hz)
  · intro m s hp h0 h1 h3 hz
    exact run_answers cmdHostringSet m s _ hp (bodyHostringSet_status h0 h1 h3 hz)
  · intro m s hp h0 h1 h2 h3
    exact run_answers cmdBufferStatus m s _ hp (bodyBufferStatus_device h0 h1 h2 h3)
  · intro m s hp h0 h1 h2 h3
    exact run_answers cmdBufferStatus m s _ hp (bodyBufferStatus_port h0 h1 h2 h3)
  · rintro m s f hp h0 hz rfl
    exact run_answers cmdBufferThreshold m s _ hp (bodyBufferThreshold_reads (m := m.norm) h0 hz)
  · intro m s g hp hm h0 h1 hz h4 h6 hg hr
    exact run_answers cmdBufferThreshold m s _ hp (bodyBufferThreshold_sets (m := m.norm) hm h0 h1 hz h4 h6 hg hr)

end Sys2Proof.BufferCommands

/-! PROOFS. The bridge tables, their learning and repair, and the commands on them (spec 09). -/
namespace Sys2Proof.BridgeTables
open Machine Claims Answers

section
variable {m : Msg} {s : State} {b : Bytes} {base : Nat}

/-! The learn unit (R275). -/

theorem execBridgeAgeVisit_way {pipe : Bool} {w : Nat} (hw : s.agedWay pipe (s.fwd.age pipe) = some w)
    (hd : s.fwd.ageStart pipe + w * (s.cur.fwd.bridgeAge * 1000000000) / 262144 ≤ s.flowNow) : execBridgeAgeVisit pipe s =
      .next (settled s { s.ageWay pipe w with fwd := (s.ageWay pipe w).fwd.setAge pipe (w + 1) (s.fwd.ageStart pipe) }) := by
  simp only [execBridgeAgeVisit, hw, if_neg (Nat.not_lt.mpr hd), done_eq]

theorem execBridgeAgeVisit_round {pipe : Bool} (hw : s.agedWay pipe (s.fwd.age pipe) = none)
    (hd : s.fwd.ageStart pipe + s.cur.fwd.bridgeAge * 1000000000 ≤ s.flowNow) : execBridgeAgeVisit pipe s =
      .next { s with fwd := s.fwd.setAge pipe 0 (s.fwd.ageStart pipe + s.cur.fwd.bridgeAge * 1000000000) } := by
  simp only [execBridgeAgeVisit, hw, if_neg (Nat.not_lt.mpr hd)]

/-- The next broken entry that a miner's task repairs, behind whether its copy passed assay. -/
theorem execForwardingRepair_of {x : FwdItem} {t : Nat} {p : Option Bytes} {s1 : State} (hr : s.refreshing = false)
    (hb : s.fwd.broken.find? (fun b => s.atWork (if b.isRoute then .routeRepair else .fwdRepair) && s.fwd.copies.any (·.1 == b)) = some x)
    (hc : s.fwd.copies.find? (fun c => c.1 == x) = some (x, t)) (ht : s.readTile t .miner = (p, s1)) : execForwardingRepair s =
      .next (settled s { s1 with fwd := { s1.fwd with broken := if p.isSome then s1.fwd.broken.filter (· != x)
                                                        else s1.fwd.broken.filter (· != x) ++ [x] } }) := by
  simp only [execForwardingRepair, hr, Bool.false_eq_true, if_false, hb, hc, ht, done_eq]

/-! Entries (R284-R286). -/

theorem recBridgeEntrySet_of {x : Domain} (hm : m.stage = true) (hx : tget? s.shadow.fwd.domains (Machine.fieldLe b 0 2) = some x)
    (h2 : bitAt b 2 0 = false) (h8 : byteAt b 8 ≤ 25 ∨ byteAt b 8 = 0xFF) (h9 : byteAt b 9 ≤ 3) (hsync : x.sync = true → byteAt b 9 = 3)
    (hz : (firstNonZeroAt b (span 10 15)).isNone = true)
    (hp : ∀ p ∈ (maskPipes (byteAt b 9)).map fun p => (p, s.claimWay p (Machine.fieldLe b 0 2) (ofBe (slice b 2 6))), p.2.isSome = true) :
    recBridgeEntrySet m s b base = .ok (s.stageFwd fun f =>
      ((maskPipes (byteAt b 9)).map fun p => (p, s.claimWay p (Machine.fieldLe b 0 2) (ofBe (slice b 2 6)))).foldl
        (fun f p => s.stageHost p.1 (bridgeKey (Machine.fieldLe b 0 2) (ofBe (slice b 2 6))) (byteAt b 8) (p.2.getD 0) f) f) [] := by
  have hport : (decide (25 < byteAt b 8) && byteAt b 8 != 0xFF) = false := by
    rcases h8 with h | h
    · rw [decide_eq_false (Nat.not_lt.mpr h), Bool.false_and]
    · rw [h]
      rfl
  have hmask : (decide (3 < byteAt b 9) || (x.sync && byteAt b 9 != 3)) = false := by
    rw [decide_eq_false (Nat.not_lt.mpr h9), Bool.false_or]
    cases hs : x.sync with
    | false => rfl
    | true => rw [hsync hs]; rfl
  have hplaces : (((maskPipes (byteAt b 9)).map fun p => (p, s.claimWay p (Machine.fieldLe b 0 2) (ofBe (slice b 2 6)))).any
      fun p => p.2.isNone) = false := by
    refine List.any_eq_false.mpr fun p hmem => ?_
    rw [← Option.not_isSome, hp p hmem]
    decide
  simp only [recBridgeEntrySet, hm, hx, h2, hport, hmask, recZero_of _ _ _ _ hz, hplaces]
  rfl

theorem recBridgeEntryDelete_learned (hm : m.stage = false) (h0 : byteAt b 0 = 0) (h1 : byteAt b 1 ≤ 3) (h2 : Machine.fieldLe b 2 2 ≤ 4095)
    (hz : (firstNonZeroAt b [10, 11]).isNone = true) : recBridgeEntryDelete m s b base =
      .ok ((maskPipes (byteAt b 1)).foldl (State.unlearn · (Machine.fieldLe b 2 2) (ofBe (slice b 4 6))) s) [] := by
  simp only [recBridgeEntryDelete, hm, h0, if_neg (Nat.not_lt.mpr h1), decide_eq_false (Nat.not_lt.mpr h2), recZero_of _ _ _ _ hz]
  rfl

theorem recBridgeEntryDelete_domain (h0 : byteAt b 0 = 2) (h1 : byteAt b 1 ≤ 3) (h2 : Machine.fieldLe b 2 2 ≤ 4095)
    (hz : (firstNonZeroAt b (span 4 11)).isNone = true) : recBridgeEntryDelete m s b base =
      .ok { s with fwd := { s.fwd with bulk := s.fwd.bulk ++ [BulkRemoval.mk false (byteAt b 1) (Machine.fieldLe b 2 2)] } } [] := by
  simp only [recBridgeEntryDelete, h0, if_neg (Nat.not_lt.mpr h1), decide_eq_false (Nat.not_lt.mpr h2), recZero_of _ _ _ _ hz]
  rfl

theorem bodyBridgeRead_key (h0 : m.p 0 = 0) (h1 : m.p 1 ≤ 1) (hz : zeroAt m [2, 3] = true) (h4 : m.f 4 2 ≤ 4095) : bodyBridgeRead m s =
    ok s (le 4 (s.entryCount (s.view m) (m.p 1 == 1)) ++ le 4 s.fwd.seed.toNat ++
      s.keyView (s.view m) (m.p 1 == 1) (m.f 4 2) (ofBe (slice m.params 6 6))) := by
  simp only [bodyBridgeRead, h0, if_neg (Nat.not_lt.mpr h1), needZero_of _ _ _ _ hz, if_neg (Nat.not_lt.mpr h4)]
  rfl

/-! Domains, limits and the configuration (R287-R289). -/

theorem recDomain_reads (h1 : byteAt b 1 = 0) (h2 : Machine.fieldLe b 2 2 ≤ 4095) (hz : (firstNonZeroAt b (span 4 15)).isNone = true) :
    recDomain m s b base = .ok s (domainRecord (s.view m).fwd (Machine.fieldLe b 2 2)) := by
  simp only [recDomain, h1, if_neg (Nat.not_lt.mpr h2), recZero_of _ _ _ _ hz]
  rfl

theorem recDomain_sets {x : Domain} (hm : m.stage = true) (h1 : byteAt b 1 = 1) (h2 : Machine.fieldLe b 2 2 ≤ 4095)
    (h4 : Machine.fieldLe b 4 4 < 2 ^ 26) (h8 : byteAt b 8 ≤ 15) (hz : (firstNonZeroAt b (span 9 15)).isNone = true)
    (hx : x = Domain.mk (BitVec.ofNat 26 (Machine.fieldLe b 4 4)) (bitAt b 8 0) (bitAt b 8 1) (bitAt b 8 2) (bitAt b 8 3))
    (hsync : x.sync = true → ((tdel s.shadow.fwd.domains (Machine.fieldLe b 2 2)).filter fun e => e.2.sync).length < 64) :
    recDomain m s b base = .ok (s.stageFwd fun f => { f with domains := tset f.domains (Machine.fieldLe b 2 2) x }) [] := by
  subst hx
  have hroom : (bitAt b 8 1 && decide (64 ≤ ((tdel s.shadow.fwd.domains (Machine.fieldLe b 2 2)).filter fun e => e.2.sync).length)) = false := by
    cases hs : bitAt b 8 1 with
    | false => rfl
    | true => rw [decide_eq_false (Nat.not_le.mpr (hsync hs))]; rfl
  simp only [recDomain, hm, h1, if_neg (Nat.not_lt.mpr h2), if_neg (Nat.not_le.mpr h4), if_neg (Nat.not_lt.mpr h8), recZero_of _ _ _ _ hz, hroom]
  rfl

theorem recBridgeDomainSet_domain (h0 : byteAt b 0 = 1) : recBridgeDomainSet m s b base = recDomain m s b base := if_pos h0

theorem recLearnLimitSet_reads (h0 : byteAt b 0 ≤ 25) (h1 : byteAt b 1 = 0) (hz : (firstNonZeroAt b (span 2 7)).isNone = true) :
    recLearnLimitSet m s b base =
      let x := (s.view m).learnLimit (byteAt b 0)
      .ok s (le 1 (byteAt b 0) ++ [0] ++ le 1 x.flood.toNat ++ [0] ++ le 2 x.limit ++
        le 2 (satur 16 (s.learnedCount (s.view m) (byteAt b 0)))) := by
  simp only [recLearnLimitSet, if_neg (Nat.not_lt.mpr h0), h1, recZero_of _ _ _ _ hz]
  rfl

theorem recLearnLimitSet_sets (hm : m.stage = true) (h0 : byteAt b 0 ≤ 25) (h1 : byteAt b 1 = 1) (h2 : byteAt b 2 ≤ 1)
    (hz : (firstNonZeroAt b [3, 6, 7]).isNone = true) : recLearnLimitSet m s b base =
      .ok (s.stageFwd fun f => { f with limits := f.limits.set (byteAt b 0) (LearnLimit.mk (byteAt b 2 == 1) (Machine.fieldLe b 4 2)) }) [] := by
  simp only [recLearnLimitSet, hm, if_neg (Nat.not_lt.mpr h0), h1, if_neg (Nat.not_lt.mpr h2), recZero_of _ _ _ _ hz]
  rfl

theorem bodyLearnConfig_reads (h0 : m.p 0 = 0) (h1 : m.p 1 = 0) (hz : zeroAt m (span 2 31) = true) :
    bodyLearnConfig m s = ok s (learnConfigRecord (s.view m).fwd) := by
  simp only [bodyLearnConfig, h0, h1, needZero_of _ _ _ _ hz]
  rfl

theorem bodyLearnConfig_sets (hm : m.stage = true) (h0 : m.p 0 = 1) (h1 : m.p 1 = 0) (hz : zeroAt m [2, 3, 10, 11] = true)
    (h12 : m.f 12 4 ≤ 10000) (h16 : 10 ≤ m.f 16 4) (h16' : m.f 16 4 ≤ 1000000) (h20 : m.p 20 ≤ 7) (h21 : m.p 21 ≤ 1) (h22 : m.p 22 ≤ 7)
    (hz2 : zeroAt m (span 23 31) = true) : bodyLearnConfig m s = ok (s.stageFwd fun f =>
      { f with routerMac := slice m.params 4 6, moveGuard := m.f 12 4, bridgeAge := m.f 16 4, learnRing := m.p 20,
               ttlToHost := m.p 21 == 1, ttlRing := m.p 22 }) := by
  have hage : ¬(m.f 16 4 < 10 ∨ 1000000 < m.f 16 4) := by omega
  simp [bodyLearnConfig, hm, h0, h1, needZero_of _ _ _ _ hz, Nat.not_lt.mpr h12, hage, Nat.not_lt.mpr h20, Nat.not_lt.mpr h21,
    Nat.not_lt.mpr h22, needZero_of _ _ _ _ hz2]
end

/-- Settles O42. -/
theorem bridgeTablesComplete : Obligations.BridgeTablesComplete := by
  refine ⟨?_, ?_, ?_, ?_, ?_, ?_, ?_, ?_, ?_, ?_, ?_, ?_, ?_, ?_, ?_, ?_⟩
  · intro pipe s e q hq
    show execLearnEventApply pipe s = _
    simp only [execLearnEventApply, hq, done_eq]
  · rintro pipe s w s1 hw hd rfl
    exact execBridgeAgeVisit_way hw hd
  · intro pipe s hw hd
    exact execBridgeAgeVisit_round hw hd
  · rintro s r rest s1 hb hs rfl
    show execBulkLearnedRemoval s = _
    simp only [execBulkLearnedRemoval, hb, hs, done_eq]
    rfl
  · intro s b t x s1 hr hb hc ht
    refine (execForwardingRepair_of hr hb hc ht).trans ?_
    simp
  · intro s b t s1 hr hb hc ht
    refine (execForwardingRepair_of hr hb hc ht).trans ?_
    simp
  · rintro m s b x d mac places hp hm hrec rfl rfl hx h2 h8 h9 hsync hz rfl hplaces
    exact run_answers cmdBridgeEntrySet m s _ hp
      (records_one _ _ _ _ _ _ _ hrec (recBridgeEntrySet_of (m := m.norm) hm hx h2 h8 h9 hsync hz hplaces))
  · intro m s b hp hm hrec h0 h1 h2 hz
    exact run_answers cmdBridgeEntryDelete m s _ hp
      (records_one _ _ _ _ _ _ _ hrec (recBridgeEntryDelete_learned (m := m.norm) hm h0 h1 h2 hz))
  · intro m s b hp hrec h0 h1 h2 hz
    exact run_answers cmdBridgeEntryDelete m s _ hp (records_one _ _ _ _ _ _ _ hrec (recBridgeEntryDelete_domain h0 h1 h2 hz))
  · intro m s hp h0 h1 hz h4
    exact run_answers cmdBridgeRead m s _ hp (bodyBridgeRead_key (m := m.norm) h0 h1 hz h4)
  · intro m s b hp hrec h0 h1 h2 hz
    exact run_answers cmdBridgeDomainSet m s _ hp
      (records_one _ _ _ _ _ _ _ hrec ((recBridgeDomainSet_domain h0).trans (recDomain_reads (m := m.norm) h1 h2 hz)))
  · intro m s b x hp hm hrec h0 h1 h2 h4 h8 hz hx hsync
    exact run_answers cmdBridgeDomainSet m s _ hp (records_one _ _ _ _ _ _ _ hrec
      ((recBridgeDomainSet_domain h0).trans (recDomain_sets (m := m.norm) hm h1 h2 h4 h8 hz hx hsync)))
  · rintro m s b x hp hrec h0 h1 hz rfl
    exact run_answers cmdLearnLimitSet m s _ hp (records_one _ _ _ _ _ _ _ hrec (recLearnLimitSet_reads (m := m.norm) h0 h1 hz))
  · rintro m s b ⟨flood, limit⟩ hp hm hrec h0 h1 h2 hz rfl rfl
    exact run_answers cmdLearnLimitSet m s _ hp (records_one _ _ _ _ _ _ _ hrec (recLearnLimitSet_sets (m := m.norm) hm h0 h1 h2 hz))
  · intro m s hp h0 h1 hz
    exact run_answers cmdLearnConfig m s _ hp (bodyLearnConfig_reads (m := m.norm) h0 h1 hz)
  · intro m s hp hm h0 h1 hz h12 h16 h16' h20 h21 h22 hz2
    exact run_answers cmdLearnConfig m s _ hp (bodyLearnConfig_sets (m := m.norm) hm h0 h1 hz h12 h16 h16' h20 h21 h22 hz2)

end Sys2Proof.BridgeTables

/-! PROOFS. Routes, their builds, and next hops (spec 09 R278-R280, R290-R292). -/
namespace Sys2Proof.Routes
open Machine Claims Answers MemoryAccess

section
variable {m : Msg} {s : State} {b : Bytes} {base : Nat}

/-! ROUTE_LOAD (R290). -/

theorem recRoute_inserts (h0 : byteAt b 0 = 1) (hr : s.fwd.build.state ≠ .running) (hf : routeFault b true = none)
    (hroom : (tget? s.shadow.fwd.routes (recordKey b)).isSome = true ∨
      familyCount s.shadow.fwd.routes (byteAt b 1 == 6) < familyLimit (byteAt b 1 == 6))
    (hd : s.drain.isSome = true → (s.stageFwd fun f => { f with routes := tset f.routes (recordKey b) (Machine.fieldLe b 24 4) }).placesHeld
      (byteAt b 1 == 6) ≤ 2 * familyLimit (byteAt b 1 == 6)) : recRoute s b base =
      .ok (s.stageFwd fun f => { f with routes := tset f.routes (recordKey b) (Machine.fieldLe b 24 4) }) [] := by
  have hfull : ((tget? s.shadow.fwd.routes (recordKey b)).isNone &&
      decide (familyLimit (byteAt b 1 == 6) ≤ familyCount s.shadow.fwd.routes (byteAt b 1 == 6))) = false := by
    rcases hroom with h | h
    · rw [← Option.not_isSome, h]
      rfl
    · rw [decide_eq_false (Nat.not_le.mpr h), Bool.and_false]
  have hplaces : (s.drain.isSome && decide (2 * familyLimit (byteAt b 1 == 6) < (s.stageFwd fun f =>
      { f with routes := tset f.routes (recordKey b) (Machine.fieldLe b 24 4) }).placesHeld (byteAt b 1 == 6))) = false := by
    cases hs : s.drain.isSome with
    | false => rfl
    | true => rw [decide_eq_false (Nat.not_lt.mpr (hd hs)), Bool.and_false]
  simp only [recRoute, h0, beq_eq_false_iff_ne.mpr hr, hf, hfull, hplaces, beq_self_eq_true, decide_true, Bool.true_or, Bool.not_true, Bool.or_false,
    Bool.false_eq_true, if_false, if_neg (by decide : ¬(1 : Nat) = 2)]

theorem recRoute_deletes (h0 : byteAt b 0 = 2) (hr : s.fwd.build.state ≠ .running) (hf : routeFault b false = none)
    (hroute : (tget? s.shadow.fwd.routes (recordKey b)).isSome = true) :
    recRoute s b base = .ok (s.stageFwd fun f => { f with routes := tdel f.routes (recordKey b) }) [] := by
  have hroute' : (tget? s.shadow.fwd.routes (recordKey b)).isNone = false := by rw [← Option.not_isSome, hroute]; rfl
  have hop : ((2 : Nat) == 1) = false := rfl
  simp only [recRoute, h0, hop, beq_eq_false_iff_ne.mpr hr, hf, hroute', decide_true, Bool.or_true, Bool.not_true, Bool.or_false,
    Bool.false_eq_true, if_false, if_true]

theorem bodyRouteLoad_records (hm : m.stage = true) (hb : m.batch = true ∨ m.p 0 ≠ 3) : bodyRouteLoad m s = records m 28 recRoute s := by
  have hbuild : (!m.batch && decide (m.p 0 = 3)) = false := by
    rcases hb with h | h
    · rw [h]
      rfl
    · rw [decide_eq_false h, Bool.and_false]
  simp only [bodyRouteLoad, hm, hbuild, Bool.not_true, Bool.false_eq_true, if_false]

theorem bodyRouteLoad_build (hm : m.stage = true) (hb : m.batch = false) (h0 : m.p 0 = 3) : bodyRouteLoad m s = bodyRouteBuild m s := by
  simp only [bodyRouteLoad, hm, hb, h0]
  rfl

theorem bodyRouteBuild_of {i : Nat} {s1 : State} (hr : s.fwd.build.state ≠ .running) (hz : zeroAt m ([1, 2, 3] ++ span 12 15) = true)
    (hi : s.dram.dir.find (m.f 4 4) = some i) (hlen : s.seamLength i = (m.f 8 4 + 1) / 2) (hp : (s.listRoutes i (m.f 8 4)).all s.placesFor = true)
    (ht : State.newTasks TaskType.seamBuild .routeBuild (min 8 (s.typeCfg TaskType.seamBuild).maxMiners) s = some s1) : bodyRouteBuild m s =
      ok { s1 with fwd := { s1.fwd with sequence := s.fwd.sequence + 1,
                                        build := Build.mk .running 0 0 none s.now 0 none (some i) (m.f 8 4) } } (le 4 (s.fwd.sequence + 1)) := by
  simp only [bodyRouteBuild, beq_eq_false_iff_ne.mpr hr, needZero_of _ _ _ _ hz, hi, hlen, hp, ht, bne_self_eq_false, Bool.not_true,
    Bool.false_eq_true, if_false]

/-! ROUTE_READ (R291). -/

theorem bodyRouteRead_v4 (h0 : m.p 0 = 0) (h1 : m.p 1 = 4) (hz : zeroAt m ([2, 3, 6, 7] ++ span 12 23) = true) : bodyRouteRead m s =
    ok s (((longestRoute (s.view m).fwd.routes (m.f 4 2) false (ofBe (slice m.params 8 4) * 2 ^ 96) 32).map fun x => routeRecord x.1 x.2).getD
      (zeros 28)) := by
  have h6 : ((4 : Nat) == 6) = false := rfl
  simp only [bodyRouteRead, h0, h1, h6, decide_true, Bool.true_or, Bool.not_true, Bool.false_eq_true, if_false, needZero_of _ _ _ _ hz]
  cases longestRoute (s.view m).fwd.routes (m.f 4 2) false (ofBe (slice m.params 8 4) * 2 ^ 96) 32 with
  | none => rfl
  | some x => rfl

theorem bodyRouteRead_v6 (h0 : m.p 0 = 0) (h1 : m.p 1 = 6) (hz : zeroAt m [2, 3, 6, 7] = true) : bodyRouteRead m s =
    ok s (((longestRoute (s.view m).fwd.routes (m.f 4 2) true (ofBe (slice m.params 8 16)) 128).map fun x => routeRecord x.1 x.2).getD
      (zeros 28)) := by
  have h6 : ((6 : Nat) == 6) = true := rfl
  simp only [bodyRouteRead, h0, h1, h6, Bool.or_true, Bool.not_true, Bool.false_eq_true, if_false, if_true, List.append_nil,
    needZero_of _ _ _ _ hz]
  cases longestRoute (s.view m).fwd.routes (m.f 4 2) true (ofBe (slice m.params 8 16)) 128 with
  | none => rfl
  | some x => rfl

theorem bodyRouteRead_list (h0 : m.p 0 = 1) (hz : zeroAt m [1] = true) (h2 : 1 ≤ m.p 2) (h2' : m.p 2 ≤ 145)
    (hz2 : zeroAt m (span 3 7 ++ span 12 23) = true) (h8 : m.f 8 4 ≤ (s.view m).fwd.routes.length) : bodyRouteRead m s =
    ok s (le 4 (s.view m).fwd.routes.length ++
      le 4 (if m.f 8 4 + m.p 2 < (s.view m).fwd.routes.length then m.f 8 4 + m.p 2 else 0xFFFFFFFF) ++
      (((s.view m).fwd.routes.drop (m.f 8 4)).take (m.p 2)).flatMap fun e => routeRecord e.1 e.2) := by
  have hcount : (decide (m.p 2 = 0) || decide (145 < m.p 2)) = false := by
    rw [decide_eq_false (Nat.ne_of_gt h2), decide_eq_false (Nat.not_lt.mpr h2')]
    rfl
  simp only [bodyRouteRead, h0, needZero_of _ _ _ _ hz, hcount, needZero_of _ _ _ _ hz2, if_neg (Nat.not_lt.mpr h8), Bool.false_eq_true, if_false]

theorem bodyRouteRead_status (h0 : m.p 0 = 2) (hz : zeroAt m (span 1 23) = true) : bodyRouteRead m s = ok s (routeStatus s) := by
  simp only [bodyRouteRead, h0, needZero_of _ _ _ _ hz]

/-! Next hops (R292). -/

theorem recNexthopSet_of (hm : m.stage = true) (h0 : Machine.fieldLe b 0 4 ≤ 65535) (h4 : byteAt b 4 = 1 ∨ byteAt b 4 = 2)
    (hf : hopFault b = none) : recNexthopSet m s b base = .ok (s.stageFwd fun f =>
      { f with nexthops := if byteAt b 4 = 1 then tset f.nexthops (Machine.fieldLe b 0 4) b
                           else tdel f.nexthops (Machine.fieldLe b 0 4) }) [] := by
  simp only [recNexthopSet, hm, if_neg (Nat.not_lt.mpr h0), hf]
  rcases h4 with h | h <;> simp only [h] <;> rfl

theorem bodyNexthopRead_of (h0 : m.f 0 4 + m.p 4 ≤ 65536) (h4 : 1 ≤ m.p 4) (h4' : m.p 4 ≤ 127) (hz : zeroAt m [5, 6, 7] = true) :
    bodyNexthopRead m s = ok s ((List.range (m.p 4)).flatMap fun i =>
      (tget? (s.view m).fwd.nexthops (m.f 0 4 + i)).getD (le 4 (m.f 0 4 + i) ++ zeros 28)) := by
  have hcount : (decide (m.p 4 = 0) || decide (127 < m.p 4)) = false := by
    rw [decide_eq_false (Nat.ne_of_gt h4), decide_eq_false (Nat.not_lt.mpr h4')]
    rfl
  have hfirst : ¬ 65535 < m.f 0 4 := by omega
  simp only [bodyNexthopRead, if_neg hfirst, hcount, if_neg (Nat.not_lt.mpr h0), needZero_of _ _ _ _ hz, Bool.false_eq_true, if_false]
end

/-! The route build (R279). -/

/-- The cells of the build's list, read with assay. -/
def listRead (hurt : Upsets) (s : State) : List (Option Bytes) × State :=
  readCells s.cur hurt .miner (s.fwd.build.list.elim [] s.seamCells) (s.upset hurt)

theorem listRead_some {hurt : Upsets} {s : State} {i : Nat} (hl : s.fwd.build.list = some i) :
    listRead hurt s = readCells s.cur hurt .miner (s.seamCells i) (s.upset hurt) := by
  simp only [listRead, hl, Option.elim]

theorem endRouteBuild_build (s : State) {b : Build} (hb : b.state ≠ .abandoned) : (s.endRouteBuild b).fwd.build.state = b.state := by
  simp only [State.endRouteBuild, beq_eq_false_iff_ne.mpr hb, Bool.false_eq_true, if_false]
  rfl

section
variable {hurt : Upsets} {s : State}

/-- The build may end: a miner is at it, no refresh stalls it, and the shadow is open. -/
structure BuildRuns (s : State) : Prop where
  refreshing : s.refreshing = false
  running : s.fwd.build.state = .running
  shadowOpen : s.sealed = false
  atWork : s.atWork .routeBuild = true

theorem BuildRuns.goes (h : BuildRuns s) :
    ¬(s.refreshing || s.fwd.build.state != .running || s.sealed || !s.atWork .routeBuild) = true := by
  rw [h.refreshing, h.running, h.shadowOpen, h.atWork]
  decide

/-- How the build ends, behind what its list's read gave. -/
def buildEnd (s : State) (ps : List (Option Bytes)) (s1 : State) : Host.Outcome State Fault Refusal :=
  match ps.findIdx? (·.isNone) with
  | some k => .next (settled s (s1.endRouteBuild { s.fwd.build with state := .failed, reason := 1, ordinal := some k }))
  | none => match checkRouteTiles (ps.map fun p => p.getD []) 0 s.fwd.build.count [] with
    | .error (reason, k) => .next (settled s (s1.endRouteBuild { s.fwd.build with state := .failed, reason := reason, ordinal := some k }))
    | .ok t => if !s1.placesFor t then .next s else .next (settled s ((s1.stageFwd fun f => { f with routes := t }).endRouteBuild
        { s.fwd.build with state := .staged, processed := s.fwd.build.count }))

theorem execRouteBuildComplete_eq (h : BuildRuns s) :
    execRouteBuildComplete hurt s = buildEnd s (listRead hurt s).1 (listRead hurt s).2 := by
  unfold execRouteBuildComplete listRead
  rw [if_neg h.goes]
  cases s.fwd.build.list <;> rfl

theorem routeBuild_tileFails (h : BuildRuns s) {k : Nat} (hk : (listRead hurt s).1.findIdx? (·.isNone) = some k) :
    execRouteBuildComplete hurt s =
      .next (settled s ((listRead hurt s).2.endRouteBuild { s.fwd.build with state := .failed, reason := 1, ordinal := some k })) := by
  rw [execRouteBuildComplete_eq h]
  simp only [buildEnd, hk]

theorem routeBuild_recordFails (h : BuildRuns s) {reason k : Nat} (hk : (listRead hurt s).1.findIdx? (·.isNone) = none)
    (hc : checkRouteTiles ((listRead hurt s).1.map fun p => p.getD []) 0 s.fwd.build.count [] = .error (reason, k)) :
    execRouteBuildComplete hurt s =
      .next (settled s ((listRead hurt s).2.endRouteBuild { s.fwd.build with state := .failed, reason := reason, ordinal := some k })) := by
  rw [execRouteBuildComplete_eq h]
  simp only [buildEnd, hk, hc]

theorem routeBuild_stages (h : BuildRuns s) {t : Table Nat} (hk : (listRead hurt s).1.findIdx? (·.isNone) = none)
    (hc : checkRouteTiles ((listRead hurt s).1.map fun p => p.getD []) 0 s.fwd.build.count [] = .ok t)
    (hp : (listRead hurt s).2.placesFor t = true) : execRouteBuildComplete hurt s =
      .next (settled s (((listRead hurt s).2.stageFwd fun f => { f with routes := t }).endRouteBuild
        { s.fwd.build with state := .staged, processed := s.fwd.build.count })) := by
  rw [execRouteBuildComplete_eq h]
  simp only [buildEnd, hk, hc, hp, Bool.not_true, Bool.false_eq_true, if_false]

/-- While no version drains, the store has the places of any shadow. -/
theorem listRead_places (hd : s.drain = none) (t : Table Nat) : (listRead hurt s).2.placesFor t = true := by
  have haccess : (listRead hurt s).2.drain = none :=
    (((access_upset s hurt).trans (access_readCells _ _ _ _ _)).drain).trans hd
  simp only [State.placesFor, haccess, Option.isNone_none, Bool.true_or]

theorem routeBuild_ends (h : BuildRuns s) (hd : s.drain = none) :
    ∃ u, execRouteBuildComplete hurt s = .next u ∧ (u.fwd.build.state = .staged ∨ u.fwd.build.state = .failed) := by
  cases hk : (listRead hurt s).1.findIdx? (·.isNone) with
  | some k =>
    refine ⟨_, routeBuild_tileFails h hk, .inr ?_⟩
    rw [settled_fwd, endRouteBuild_build _ (by exact nofun)]
  | none =>
    cases hc : checkRouteTiles ((listRead hurt s).1.map fun p => p.getD []) 0 s.fwd.build.count [] with
    | error e =>
      refine ⟨_, routeBuild_recordFails h hk hc, .inr ?_⟩
      rw [settled_fwd, endRouteBuild_build _ (by exact nofun)]
    | ok t =>
      refine ⟨_, routeBuild_stages h hk hc (listRead_places hd t), .inl ?_⟩
      rw [settled_fwd, endRouteBuild_build _ (by exact nofun)]
end

/-- Settles O43. -/
theorem routesComplete : Obligations.RoutesComplete := by
  refine ⟨?_, ?_, ?_, ?_, ?_, ?_, ?_, ?_, ?_, ?_, ?_, ?_, ?_, ?_⟩
  · intro m s b hp hm hb hrec h0 hr hf hroom hd
    exact run_answers cmdRouteLoad m s _ hp ((bodyRouteLoad_records (m := m.norm) hm hb).trans
      (records_one _ _ _ _ _ _ _ hrec (recRoute_inserts h0 hr hf hroom hd)))
  · intro m s b hp hm hb hrec h0 hr hf hroute
    exact run_answers cmdRouteLoad m s _ hp ((bodyRouteLoad_records (m := m.norm) hm hb).trans
      (records_one _ _ _ _ _ _ _ hrec (recRoute_deletes h0 hr hf hroute)))
  · intro m s i s1 hp hm hb h0 hr hz hi hlen hplaces ht
    exact run_answers cmdRouteLoad m s _ hp ((bodyRouteLoad_build (m := m.norm) hm hb h0).trans (bodyRouteBuild_of hr hz hi hlen hplaces ht))
  · intro hurt s hr hb hsl hw hd
    exact routeBuild_ends ⟨hr, hb, hsl, hw⟩ hd
  · rintro hurt s b i ps s1 t hr rfl hb hsl hw hl hread hk hc hp
    have hlist := (listRead_some hl).trans hread
    refine (routeBuild_stages ⟨hr, hb, hsl, hw⟩ (by rwa [hlist]) (by rwa [hlist]) (by rwa [hlist])).trans ?_
    rw [hlist]
  · rintro hurt s b i ps s1 k hr rfl hb hsl hw hl hread hk
    have hlist := (listRead_some hl).trans hread
    refine (routeBuild_tileFails ⟨hr, hb, hsl, hw⟩ (by rwa [hlist])).trans ?_
    rw [hlist]
  · rintro hurt s b i ps s1 reason k hr rfl hb hsl hw hl hread hk hc
    have hlist := (listRead_some hl).trans hread
    refine (routeBuild_recordFails ⟨hr, hb, hsl, hw⟩ (by rwa [hlist]) (by rwa [hlist])).trans ?_
    rw [hlist]
  · intro m s hp h0 h1 hz
    refine run_answers cmdRouteRead m s _ hp ((bodyRouteRead_v4 (m := m.norm) h0 h1 hz).trans ?_)
    show _ = ok s (match longestRoute (s.view m.norm).fwd.routes _ _ _ _ with | some (k, n) => _ | none => _)
    cases longestRoute (s.view m.norm).fwd.routes (m.norm.f 4 2) false (ofBe (slice m.norm.params 8 4) * 2 ^ 96) 32 <;> rfl
  · intro m s hp h0 h1 hz
    refine run_answers cmdRouteRead m s _ hp ((bodyRouteRead_v6 (m := m.norm) h0 h1 hz).trans ?_)
    show _ = ok s (match longestRoute (s.view m.norm).fwd.routes _ _ _ _ with | some (k, n) => _ | none => _)
    cases longestRoute (s.view m.norm).fwd.routes (m.norm.f 4 2) true (ofBe (slice m.norm.params 8 16)) 128 <;> rfl
  · rintro m s t hp h0 hz h2 h2' hz2 rfl h8
    exact run_answers cmdRouteRead m s _ hp (bodyRouteRead_list (m := m.norm) h0 hz h2 h2' hz2 h8)
  · intro m s hp h0 hz
    exact run_answers cmdRouteRead m s _ hp (bodyRouteRead_status h0 hz)
  · intro m s b hp hm hrec h0 h4 hf
    refine run_answers cmdNexthopSet m s _ hp (records_one _ _ _ _ _ _ _ hrec ((recNexthopSet_of (m := m.norm) hm h0 (.inl h4) hf).trans ?_))
    simp only [h4, if_true]
  · intro m s b hp hm hrec h0 h4 hf
    refine run_answers cmdNexthopSet m s _ hp (records_one _ _ _ _ _ _ _ hrec ((recNexthopSet_of (m := m.norm) hm h0 (.inr h4) hf).trans ?_))
    simp only [h4, if_neg (by decide : ¬(2 : Nat) = 1)]
  · intro m s hp h0 h4 h4' hz
    exact run_answers cmdNexthopRead m s _ hp (bodyNexthopRead_of (m := m.norm) h0 h4 h4' hz)

end Sys2Proof.Routes

/-! PROOFS. Pools, blocks and bindings (spec 08 R243, R247, R254-R256, R260). -/
namespace Sys2Proof.Translation
open Machine Claims Answers

section
variable {m : Msg} {s : State} {b : Bytes} {base : Nat}

/-! NAT_POOL_SET and NAT_POOL_READ (R243, R260). -/

theorem recPoolSet_of (hf : s.poolFault b = none) (hz : (firstNonZeroAt b (span 28 31)).isNone = true) (hh : s.poolHeld (byteAt b 1) b = none) :
    recPoolSet s b base = .ok (s.stageNat fun c =>
      { c with pools := tset c.pools (byteAt b 1) b,
               addrs := c.addrs.filter fun a => a.1 / 4096 != byteAt b 1 || decide (a.1 % 4096 < poolA b) }) [] := by
  simp only [recPoolSet, hf, recZero_of _ _ _ _ hz, hh]

theorem recPoolRemove_of (hz : (firstNonZeroAt b (span 3 31)).isNone = true) (hp : (s.shadow.pool (byteAt b 1)).isSome = true)
    (hu : s.poolInUse (byteAt b 1) = false) (hn : s.shadow.nat.namesPool (byteAt b 1) = false) : recPoolRemove s b base =
      .ok (s.stageNat fun c => { c with pools := tdel c.pools (byteAt b 1), addrs := c.addrs.filter fun a => a.1 / 4096 != byteAt b 1 }) [] := by
  have hp' : (s.shadow.pool (byteAt b 1)).isNone = false := by rw [← Option.not_isSome, hp]; rfl
  simp only [recPoolRemove, recZero_of _ _ _ _ hz, hp', hu, hn, Bool.or_false, Bool.false_eq_true, if_false]

theorem recPoolAddress_of {r : Bytes} (hr : s.shadow.pool (byteAt b 1) = some r) (h2 : byteAt b 2 ≤ 1) (h3 : byteAt b 3 = 0)
    (h4 : Machine.fieldLe b 4 2 < poolA r) (hz : (firstNonZeroAt b (span 6 11 ++ span 16 31)).isNone = true)
    (hone : ∀ a ∈ s.shadow.nat.addrs, a.1 ≠ byteAt b 1 * 4096 + Machine.fieldLe b 4 2 → slice a.2 12 4 ≠ slice b 12 4) :
    recPoolAddress s b base =
      .ok (s.stageNat fun c => { c with addrs := tset c.addrs (byteAt b 1 * 4096 + Machine.fieldLe b 4 2) b }) [] := by
  have htwice : (s.shadow.nat.addrs.any fun a => a.1 != byteAt b 1 * 4096 + Machine.fieldLe b 4 2 && slice a.2 12 4 == slice b 12 4 &&
      (match s.shadow.pool (a.1 / 4096) with | some q => poolCtx q == poolCtx r | none => false)) = false := by
    refine List.any_eq_false.mpr fun a ha h => ?_
    obtain ⟨h, -⟩ := Bool.and_eq_true_iff.mp h
    obtain ⟨hne, heq⟩ := Bool.and_eq_true_iff.mp h
    exact hone a ha (bne_iff_ne.mp hne) (beq_iff_eq.mp heq)
  simp only [recPoolAddress, hr, if_neg (Nat.not_lt.mpr h2), h3, bne_self_eq_false, if_neg (Nat.not_le.mpr h4), recZero_of _ _ _ _ hz,
    Bool.false_eq_true, if_false]
  rw [if_neg (by rw [Bool.not_eq_true]; exact htwice)]

theorem bodyNatPoolRead_of {r : Bytes} {bs : List Bytes} {s1 : State} (h0 : m.p 0 = 1) (hr : (s.view m).pool (m.p 1) = some r)
    (hz : zeroAt m (span 2 7) = true)
    (hb : State.readBindings .command ((s.poolBlocks r).flatMap fun b => s.blockRun b.1) s = (bs, s1)) : bodyNatPoolRead m s =
      ok s1 (fit 32 r ++ le 4 (s.poolBlocks r).length ++ le 4 (poolRuns r - (s.poolBlocks r).length) ++ le 4 (bindingsIn bs 1) ++
        le 4 (bindingsIn bs 2)) := by
  simp only [bodyNatPoolRead, h0, hr, needZero_of _ _ _ _ hz, hb]
  rfl

/-! NAT_BLOCK_CONFIG, NAT_BINDING_READ and NAT_BINDING_RELEASE (R260). -/

theorem bodyNatBlockConfig_reads (h0 : m.p 0 = 0) (h1 : m.p 1 = 0) (hz : zeroAt m (span 2 7) = true) : bodyNatBlockConfig m s =
    ok s ([0, 0] ++ le 2 (s.view m).nat.bindingHold ++ le 2 (s.view m).nat.blockHold ++ [0, 0]) := by
  simp [bodyNatBlockConfig, h0, h1, needZero_of _ _ _ _ hz]

theorem bodyNatBlockConfig_sets (hm : m.stage = true) (h0 : m.p 0 = 1) (h1 : m.p 1 = 0) (hz : zeroAt m [6, 7] = true) (h2 : 120 ≤ m.f 2 2)
    (h2' : m.f 2 2 ≤ 3600) (h4 : m.f 4 2 ≤ 3600) :
    bodyNatBlockConfig m s = ok (s.stageNat fun c => { c with bindingHold := m.f 2 2, blockHold := m.f 4 2 }) := by
  have hhold : ¬(m.f 2 2 < 120 ∨ 3600 < m.f 2 2) := by omega
  simp [bodyNatBlockConfig, hm, h0, h1, needZero_of _ _ _ _ hz, hhold, Nat.not_lt.mpr h4]

theorem bodyNatBindingRead_index {out : Bytes} {s1 : State} (h0 : m.p 0 = 0) (h1 : 1 ≤ m.p 1) (h1' : m.p 1 ≤ 60)
    (hz : zeroAt m ([2, 3] ++ span 8 11) = true) (h4 : m.f 4 4 + m.p 1 ≤ s.regionSize 1)
    (hv : State.bindingViews ((List.range (m.p 1)).map (m.f 4 4 + ·)) s = (out, s1)) : bodyNatBindingRead m s = ok s1 out := by
  have hcount : (decide (m.p 1 = 0) || decide (60 < m.p 1)) = false := by
    rw [decide_eq_false (Nat.ne_of_gt h1), decide_eq_false (Nat.not_lt.mpr h1')]
    rfl
  simp only [bodyNatBindingRead, h0, hcount, needZero_of _ _ _ _ hz, if_neg (Nat.not_lt.mpr h4), hv, Bool.false_eq_true, if_false]

theorem recBindingRelease_binding {e : Bytes} {s1 : State} (h0 : byteAt b 0 = 0) (hz : (firstNonZeroAt b [1, 2, 3]).isNone = true)
    (h4 : Machine.fieldLe b 4 4 < s.regionSize 1) (hr : s.readBinding (Machine.fieldLe b 4 4) .command = (some e, s1)) :
    recBindingRelease s b base = .ok (s1.freeBinding (Machine.fieldLe b 4 4)) [] := by
  simp only [recBindingRelease, h0, recZero_of _ _ _ _ hz, if_neg (Nat.not_le.mpr h4), hr]
  rfl

theorem recBindingRelease_block (h0 : byteAt b 0 = 1) (hz : (firstNonZeroAt b [1, 2, 3]).isNone = true)
    (hb : (s.block (Machine.fieldLe b 4 4)).isSome = true) : recBindingRelease s b base = .ok (s.dropBlock (Machine.fieldLe b 4 4) 2) [] := by
  have hb' : (s.block (Machine.fieldLe b 4 4)).isNone = false := by rw [← Option.not_isSome, hb]; rfl
  simp only [recBindingRelease, h0, recZero_of _ _ _ _ hz, hb']
  rfl

theorem recNatPoolSet_pool (hm : m.stage = true) (h0 : byteAt b 0 = 1) (h2 : byteAt b 2 = 0) :
    recNatPoolSet m s b base = recPoolSet s b base := by
  simp only [recNatPoolSet, hm, h0, h2]
  rfl

theorem recNatPoolSet_remove (hm : m.stage = true) (h0 : byteAt b 0 = 1) (h2 : byteAt b 2 = 1) :
    recNatPoolSet m s b base = recPoolRemove s b base := by
  simp only [recNatPoolSet, hm, h0, h2]
  rfl

theorem recNatPoolSet_address (hm : m.stage = true) (h0 : byteAt b 0 = 2) : recNatPoolSet m s b base = recPoolAddress s b base := by
  simp only [recNatPoolSet, hm, h0]
  rfl
end

/-! The visits and repairs (R247, R254-R256). -/

section
variable {s : State}

theorem execBindingVisit_of (hr : s.refreshing = false) (hw : s.writeRoom 1 = true) (hs : s.serves TaskType.sweep = true)
    (hv : s.nat.visitDue = true) : execBindingVisit s =
      let s1 := (s.nat.blocks.map (·.1)).foldl State.visitBlock (((s.nat.blocks.map (·.1)).flatMap s.blockRun).foldl State.visitBinding s)
      .next (settled s { s1 with nat := { s1.nat with live := [], visitDue := false } }) := by
  simp only [execBindingVisit, hr, hw, hs, hv, Bool.and_true, Bool.not_true, Bool.or_false, Bool.false_eq_true, if_false, done_eq]

/-- The oldest deferred release, when the sweep's miner may make it: what is no longer to be released leaves the list. -/
theorem execDeferredBlockRelease_of {x : Nat} {rest : List Nat} (hr : s.refreshing = false) (hw : s.writeRoom 1 = true)
    (hd : s.nat.deferred = x :: rest) (hs : s.serves TaskType.sweep = true) (hroom : s.stagingRoom 258 = true) :
    execDeferredBlockRelease s = .next (settled s
      (if (s.block (x % 2 ^ 20)).isNone || (decide (x / 2 ^ 20 = 1) && (s.blockRun (x % 2 ^ 20)).any fun i => (s.bindingAt i).isSome) then
        { s with nat := { s.nat with deferred := rest } }
      else s.dropBlock (x % 2 ^ 20) (x / 2 ^ 20))) := by
  simp only [execDeferredBlockRelease, hd, hr, hs, hroom, hw, Bool.and_true, Bool.not_true, Bool.or_false, Bool.false_eq_true, if_false, done_eq]
  split <;> rfl

theorem execBindingRepair_of {hurt : Upsets} {idx : Nat} {key : Bytes} {stamp : W16} (hr : s.refreshing = false) (hw : s.writeRoom 1 = true)
    (hf : s.nat.repairs.find? (fun r => s.atWork (.repair r.1 r.2.1 r.2.2)) = some (idx, key, stamp)) : execBindingRepair hurt s =
      let s1 := (s.upset hurt).repairBinding idx key stamp
      .next (settled s (({ s1 with nat := { s1.nat with repairs := s1.nat.repairs.erase (idx, key, stamp) } }).finishWork
        fun w => w == Work.repair idx key stamp)) := by
  simp only [execBindingRepair, hr, hw, Bool.not_true, Bool.or_false, Bool.false_eq_true, if_false, hf, done_eq]
end

/-- Settles O44. -/
theorem natCommandsComplete : Obligations.NatCommandsComplete := by
  refine ⟨?_, ?_, ?_, ?_, ?_, ?_, ?_, ?_, ?_, ?_, ?_, ?_, ?_, ?_⟩
  · intro m s b hp hm hrec h0 h2 hf hz hh
    exact run_answers cmdNatPoolSet m s _ hp
      (records_one _ _ _ _ _ _ _ hrec ((recNatPoolSet_pool (m := m.norm) hm h0 h2).trans (recPoolSet_of hf hz hh)))
  · intro m s b hp hm hrec h0 h2 hz hpool hu hn
    exact run_answers cmdNatPoolSet m s _ hp
      (records_one _ _ _ _ _ _ _ hrec ((recNatPoolSet_remove (m := m.norm) hm h0 h2).trans (recPoolRemove_of hz hpool hu hn)))
  · intro m s b r hp hm hrec h0 hr h2 h3 h4 hz hone
    exact run_answers cmdNatPoolSet m s _ hp
      (records_one _ _ _ _ _ _ _ hrec ((recNatPoolSet_address (m := m.norm) hm h0).trans (recPoolAddress_of hr h2 h3 h4 hz hone)))
  · intro m s r bs s1 hp h0 hr hz hb
    exact run_answers cmdNatPoolRead m s _ hp (bodyNatPoolRead_of (m := m.norm) h0 hr hz hb)
  · intro m s hp h0 h1 hz
    exact run_answers cmdNatBlockConfig m s _ hp (bodyNatBlockConfig_reads (m := m.norm) h0 h1 hz)
  · intro m s hp hm h0 h1 hz h2 h2' h4
    exact run_answers cmdNatBlockConfig m s _ hp (bodyNatBlockConfig_sets (m := m.norm) hm h0 h1 hz h2 h2' h4)
  · intro m s b s1 hp h0 h1 h1' hz h4 hv
    exact run_answers cmdNatBindingRead m s _ hp (bodyNatBindingRead_index h0 h1 h1' hz h4 hv)
  · intro m s b e s1 hp hrec h0 hz h4 hr
    exact run_answers cmdNatBindingRelease m s _ hp (records_one _ _ _ _ _ _ _ hrec (recBindingRelease_binding h0 hz h4 hr))
  · intro m s b hp hrec h0 hz hb
    exact run_answers cmdNatBindingRelease m s _ hp (records_one _ _ _ _ _ _ _ hrec (recBindingRelease_block h0 hz hb))
  · rintro s slots s1 hr hw hs hv rfl rfl
    exact execBindingVisit_of hr hw hs hv
  · intro s x rest hr hw hd hs hroom hb hfree
    have hheld : ((s.block (x % 2 ^ 20)).isNone || (decide (x / 2 ^ 20 = 1) &&
        (s.blockRun (x % 2 ^ 20)).any fun i => (s.bindingAt i).isSome)) = false := by
      rw [← Option.not_isSome, hb, Bool.not_true, Bool.false_or]
      rcases hfree with h | h
      · rw [decide_eq_false h, Bool.false_and]
      · rw [List.any_eq_false.mpr fun i hi => by rw [h i hi]; decide, Bool.and_false]
    refine (execDeferredBlockRelease_of hr hw hd hs hroom).trans ?_
    rw [hheld, if_neg (by decide)]
  · intro s x rest hr hw hd hs hroom hb
    refine (execDeferredBlockRelease_of hr hw hd hs hroom).trans ?_
    rw [hb, if_pos (by rfl)]
  · intro s x rest i hr hw hd hs hroom hx hi hsome
    refine (execDeferredBlockRelease_of hr hw hd hs hroom).trans ?_
    rw [hx, List.any_eq_true.mpr ⟨i, hi, hsome⟩, if_pos (by simp)]
  · rintro hurt s idx key stamp s1 hr hw hf rfl
    exact execBindingRepair_of hr hw hf

end Sys2Proof.Translation

/-! PROOFS. Balancing groups, subscribers and action entries (spec 08 R235, R240-R242, R257, R258, R260). -/
namespace Sys2Proof.Subscribers
open Machine Claims Answers

section
variable {m : Msg} {s : State} {b : Bytes} {base : Nat}

/-! Balancing (R257, R258). -/

theorem recBalGroupSet_creates {runs rest : List (Nat × Nat)} {d : Nat} {s1 : State} (hm : m.stage = true)
    (h0 : Machine.fieldLe b 0 2 ≤ 4095) (h2 : byteAt b 2 = 0) (hz : (firstNonZeroAt b (span 3 7)).isNone = true)
    (hg : s.shadow.group (Machine.fieldLe b 0 2) = none) (ha : allocRuns s.dram.free 69 = some (runs, rest))
    (hd : descsFor runs ≤ s.dram.dir.freeCount) (hn : State.newRuns { s with dram := { s.dram with free := rest } } runs false = (d, s1)) :
    recBalGroupSet m s b base = .ok (s1.stageNat fun c =>
      { c with groups := tset c.groups (Machine.fieldLe b 0 2) (Machine.Group.mk [] (List.replicate 4096 0xFF) (some d)) }) [] := by
  simp only [recBalGroupSet, hm, if_neg (Nat.not_lt.mpr h0), h2, recZero_of _ _ _ _ hz, hg, ha, if_neg (Nat.not_lt.mpr hd), hn]
  rfl

theorem recBalMemberSet_sets (hm : m.stage = true) (hg : (s.shadow.group (Machine.fieldLe b 0 2)).isSome = true) (h3 : byteAt b 3 = 1)
    (h4 : Machine.fieldLe b 4 4 ≤ 65535) (h8 : byteAt b 8 ≠ 0) (hz : (firstNonZeroAt b [9, 10, 11]).isNone = true) :
    recBalMemberSet m s b base = .ok (s.stageGroup (Machine.fieldLe b 0 2) fun x =>
      { x with members := tset x.members (byteAt b 2) (Machine.fieldLe b 4 4, byteAt b 8, false) }) [] := by
  have hg' : (s.shadow.group (Machine.fieldLe b 0 2)).isNone = false := by rw [← Option.not_isSome, hg]; rfl
  simp only [recBalMemberSet, hm, hg', h3, if_neg (Nat.not_lt.mpr h4), if_neg h8, recZero_of _ _ _ _ hz]
  rfl

theorem recBalMemberDrain_of {x : Machine.Group} (hm : m.stage = true) (hg : s.shadow.group (Machine.fieldLe b 0 2) = some x)
    (hk : (tget? x.members (byteAt b 2)).isSome = true) (hz : (firstNonZeroAt b [3]).isNone = true) : recBalMemberDrain m s b base =
      .ok (s.stageGroup (Machine.fieldLe b 0 2) fun x =>
        { x with members := tmap x.members fun n y => if n = byteAt b 2 then (y.1, y.2.1, true) else y }) [] := by
  have hk' : (tget? x.members (byteAt b 2)).isNone = false := by rw [← Option.not_isSome, hk]; rfl
  simp only [recBalMemberDrain, hm, hg, hk', recZero_of _ _ _ _ hz]
  rfl

theorem bodyBalGroupRead_slots {x : Machine.Group} (hg : (s.view m).group (m.f 0 2) = some x) (h2 : m.p 2 = 1) (hz : zeroAt m [3] = true) :
    bodyBalGroupRead m s = ok s ((x.slots.take 2048).map (BitVec.ofNat 8)) := by
  simp only [bodyBalGroupRead, hg, h2, needZero_of _ _ _ _ hz]
  rfl

/-! Subscribers (R240-R242). -/

theorem recSubWrite_sets (hm : m.stage = true) (h0 : byteAt b 0 = 1) (hn : Machine.fieldLe b 1 3 < s.subscribers)
    (hf : s.subFault (Machine.fieldLe b 1 3) (slice b 4 60) = none) : recSubWrite m s b base =
      .ok ((s.stageNat fun c => { c with subs := tset c.subs (Machine.fieldLe b 1 3) (slice b 4 60) }).mend
        (s.subTile (Machine.fieldLe b 1 3) 0)) [] := by
  simp only [recSubWrite, hm, h0, if_neg (Nat.not_le.mpr hn), hf]
  rfl

theorem recSubWrite_removes (hm : m.stage = true) (h0 : byteAt b 0 = 2) (hz : (firstNonZeroAt b (span 4 63)).isNone = true)
    (hs : (tget? s.shadow.nat.subs (Machine.fieldLe b 1 3)).isSome = true) (hb : s.holdsBlocks (Machine.fieldLe b 1 3) = false) :
    recSubWrite m s b base = .ok (s.stageNat fun c => { c with subs := tdel c.subs (Machine.fieldLe b 1 3) }) [] := by
  have hs' : (tget? s.shadow.nat.subs (Machine.fieldLe b 1 3)).isNone = false := by rw [← Option.not_isSome, hs]; rfl
  simp only [recSubWrite, hm, h0, recZero_of _ _ _ _ hz, hs', hb]
  rfl

/-- The read of a record that is there meets no fault. -/
theorem meetSub_of_record {v : Staged} {sub : Nat} {t : Bytes} {who : Consumer} (h : s.subRecord v sub = some t) : s.meetSub v sub who = s := by
  have hwhole : (s.newestIn v (s.subTile sub 0)).isNone = false := by
    unfold State.subRecord at h
    split at h
    · split at h
      · cases h
      · next hbad => exact (Bool.or_eq_false_iff.mp (Bool.eq_false_iff.mpr hbad)).2
    · cases h
  simp only [State.meetSub, State.subFaulty, hwhole, Bool.and_false, Bool.false_eq_true, if_false]

theorem bodySubRead_record {t : Bytes} (h0 : m.p 0 = 0) (h1 : m.p 1 = 0) (hz : zeroAt m [2, 3] = true)
    (ht : s.subRecord s.cur (m.f 4 4) = some t) : bodySubRead m s = ok s (le 4 (m.f 4 4) ++ fit 60 t) := by
  simp only [bodySubRead, h0, h1, meetSub_of_record ht, ht, if_neg (by decide : ¬(0 : Nat) = 3), if_neg (by decide : ¬(0 : Nat) = 2),
    needZero_of _ _ _ _ hz]
  rfl

theorem bodySubRead_counts {t u d : Bytes} {s1 : State} (h0 : m.p 0 = 2) (h1 : m.p 1 = 0) (hz : zeroAt m [2, 3] = true)
    (ht : s.subRecord s.cur (m.f 4 4) = some t) (hc : s.mergedCounts (m.f 4 4) .command = (u, d, s1)) :
    bodySubRead m s = ok s1 (countsReply u ++ countsReply d) := by
  simp only [bodySubRead, h0, h1, meetSub_of_record ht, ht, if_neg (by decide : ¬(2 : Nat) = 3), needZero_of _ _ _ _ hz, hc]
  rfl

theorem recSubPolicySet_reads (h0 : Machine.fieldLe b 0 2 ≤ 4095) (h2 : byteAt b 2 = 0) (hz : (firstNonZeroAt b (span 3 15)).isNone = true) :
    recSubPolicySet m s b base = .ok s ((s.view m).policy (Machine.fieldLe b 0 2)) := by
  simp only [recSubPolicySet, if_neg (Nat.not_lt.mpr h0), h2, recZero_of _ _ _ _ hz]
  rfl

theorem recSubPolicySet_sets (hm : m.stage = true) (h0 : Machine.fieldLe b 0 2 ≤ 4095) (h2 : byteAt b 2 = 1) (h3 : byteAt b 3 < 4)
    (h4 : 1 ≤ byteAt b 4) (h4' : byteAt b 4 ≤ 8) (hz : (firstNonZeroAt b (5 :: span 8 15)).isNone = true) : recSubPolicySet m s b base =
      .ok (s.stageNat fun x => { x with policies := tset x.policies (Machine.fieldLe b 0 2) (splice b 2 [0]) }) [] := by
  have hcount : (decide (byteAt b 4 = 0) || decide (8 < byteAt b 4)) = false := by
    rw [decide_eq_false (Nat.ne_of_gt h4), decide_eq_false (Nat.not_lt.mpr h4')]
    rfl
  simp only [recSubPolicySet, hm, if_neg (Nat.not_lt.mpr h0), h2, if_neg (Nat.not_le.mpr h3), hcount, recZero_of _ _ _ _ hz]
  rfl

/-! Action entries (R235). -/

theorem recActionWrite_sets (hm : m.stage = true) (h0 : Machine.fieldLe b 0 3 < s.regionSize 1)
    (ha : s.shadow.inBindingArea (Machine.fieldLe b 0 3) = false) (h3 : byteAt b 3 = 1)
    (hf : s.shadow.entryFault s.subscribers (slice b 4 60) = none) : recActionWrite m s b base =
      .ok ((s.stageNat fun c => { c with actions := tset c.actions (Machine.fieldLe b 0 3) (slice b 4 60) }).mend
        (s.entryTile (Machine.fieldLe b 0 3))) [] := by
  simp only [recActionWrite, hm, if_neg (Nat.not_le.mpr h0), ha, h3, hf]
  rfl

theorem bodyActionRead_of {out : Bytes} {s1 : State} (h3 : 1 ≤ m.p 3) (h3' : m.p 3 ≤ 63) (hz : zeroAt m (span 4 7) = true)
    (h0 : m.f 0 3 + m.p 3 ≤ s.regionSize 1) (hr : readEntries (s.view m) ((List.range (m.p 3)).map (m.f 0 3 + ·)) s = (out, s1)) :
    bodyActionRead m s = ok s1 out := by
  have hcount : (decide (m.p 3 = 0) || decide (63 < m.p 3)) = false := by
    rw [decide_eq_false (Nat.ne_of_gt h3), decide_eq_false (Nat.not_lt.mpr h3')]
    rfl
  simp only [bodyActionRead, hcount, needZero_of _ _ _ _ hz, if_neg (Nat.not_lt.mpr h0), hr, Bool.false_eq_true, if_false]
end

theorem execSubCounterFlush_of {hurt : Upsets} {s : State} (hr : s.refreshing = false) (hw : s.writeRoom 1 = true) (hc : s.nat.counts ≠ []) :
    execSubCounterFlush hurt s = .next (settled s ((s.nat.counts.map (·.1)).foldl State.flushSub (s.upset hurt))) := by
  have hc' : s.nat.counts.isEmpty = false := List.isEmpty_eq_false_iff.mpr hc
  simp only [execSubCounterFlush, hr, hc', hw, Bool.not_true, Bool.or_false, Bool.false_eq_true, if_false, done_eq]

/-- Settles O45. -/
theorem subscribersAndActionsComplete : Obligations.SubscribersAndActionsComplete := by
  refine ⟨?_, ?_, ?_, ?_, ?_, ?_, ?_, ?_, ?_, ?_, ?_, ?_, ?_⟩
  · intro m s b runs rest d s1 hp hm hrec h0 h2 hz hg ha hd hn
    exact run_answers cmdBalGroupSet m s _ hp
      (records_one _ _ _ _ _ _ _ hrec (recBalGroupSet_creates (m := m.norm) hm h0 h2 hz hg ha hd hn))
  · intro m s b hp hm hrec hg h3 h4 h8 hz
    exact run_answers cmdBalMemberSet m s _ hp
      (records_one _ _ _ _ _ _ _ hrec (recBalMemberSet_sets (m := m.norm) hm hg h3 h4 h8 hz))
  · intro m s b x hp hm hrec hg hk hz
    exact run_answers cmdBalMemberDrain m s _ hp (records_one _ _ _ _ _ _ _ hrec (recBalMemberDrain_of (m := m.norm) hm hg hk hz))
  · intro m s x hp hg h2 hz
    exact run_answers cmdBalGroupRead m s _ hp (bodyBalGroupRead_slots (m := m.norm) hg h2 hz)
  · rintro m s b n t hp hm hrec rfl rfl h0 hn hf
    exact run_answers cmdSubWrite m s _ hp (records_one _ _ _ _ _ _ _ hrec (recSubWrite_sets (m := m.norm) hm h0 hn hf))
  · intro m s b hp hm hrec h0 hz hs hb
    exact run_answers cmdSubWrite m s _ hp (records_one _ _ _ _ _ _ _ hrec (recSubWrite_removes (m := m.norm) hm h0 hz hs hb))
  · intro m s t hp h0 h1 hz ht
    exact run_answers cmdSubRead m s _ hp (bodySubRead_record h0 h1 hz ht)
  · intro m s t u d s1 hp h0 h1 hz ht hc
    exact run_answers cmdSubRead m s _ hp (bodySubRead_counts h0 h1 hz ht hc)
  · intro m s b hp hrec h0 h2 hz
    exact run_answers cmdSubPolicySet m s _ hp (records_one _ _ _ _ _ _ _ hrec (recSubPolicySet_reads (m := m.norm) h0 h2 hz))
  · intro m s b hp hm hrec h0 h2 h3 h4 h4' hz
    exact run_answers cmdSubPolicySet m s _ hp
      (records_one _ _ _ _ _ _ _ hrec (recSubPolicySet_sets (m := m.norm) hm h0 h2 h3 h4 h4' hz))
  · intro m s b hp hm hrec h0 ha h3 hf
    exact run_answers cmdActionWrite m s _ hp (records_one _ _ _ _ _ _ _ hrec (recActionWrite_sets (m := m.norm) hm h0 ha h3 hf))
  · intro m s b s1 hp h3 h3' hz h0 hr
    exact run_answers cmdActionRead m s _ hp (bodyActionRead_of (m := m.norm) h3 h3' hz h0 hr)
  · intro hurt s hr hw hc
    exact execSubCounterFlush_of hr hw hc

end Sys2Proof.Subscribers

/-! PROOFS. Dispatch, preemption and faults of the miners, and their commands (spec 11). -/
namespace Sys2Proof.MinerEvents
open Machine Claims Answers

/-! What the scheduler's moves leave unchanged: everything but the miners and their tasks. -/

theorem minerCount_frame (s : State) (i n : Nat) : MinersOnly s (s.minerCount i n) := ⟨_, rfl⟩
theorem unready_frame (s : State) (k : Nat) : MinersOnly s (s.unready k) := ⟨_, rfl⟩
theorem release_frame (s : State) (m : Nat) (t : Task) : MinersOnly s (s.release m t) := ⟨_, rfl⟩

theorem enlist_frame (s : State) (k : Nat) (front : Bool) : MinersOnly s (s.enlist k front) := by
  unfold State.enlist
  split
  · exact .rfl' s
  · exact ⟨_, rfl⟩

theorem trace_frame (s : State) (reason miner slot : Nat) (t : Task) (address wait : Nat) :
    MinersOnly s (s.trace reason miner slot t address wait) := by
  simp only [State.trace]
  split
  · exact .rfl' s
  · split
    · exact ⟨_, rfl⟩
    · split <;> exact ⟨_, rfl⟩

theorem requests_frame (s : State) : MinersOnly s s.requests := by
  unfold State.requests
  split
  · exact .rfl' s
  · exact .foldl _ State.request_frame _ _

theorem dispatchTo_frame (s : State) (m k : Nat) : MinersOnly s (s.dispatchTo m k) := by
  unfold State.dispatchTo
  split
  · exact .rfl' s
  · exact .trans ⟨_, rfl⟩ ((trace_frame _ _ _ _ _ _ _).trans (requests_frame _))

theorem preempt_frame (s : State) (miner slot : Nat) (t : Task) (address wait : Nat) (stack : List Nat) :
    MinersOnly s (s.preempt miner slot t address wait stack) := by
  unfold State.preempt
  extract_lets counted s1 miners s2 s3
  have h2 : MinersOnly s (s2.setTask slot { t with address := address, wait := wait, stack := stack }) := ⟨_, rfl⟩
  have h3 : MinersOnly s s3 := (h2.trans (enlist_frame _ slot true)).trans (trace_frame _ 2 miner slot t address wait)
  split
  · exact h3.trans (dispatchTo_frame _ _ _)
  · exact h3

/-! The events (R327, R329, R333-R336). -/

section
variable {s : State} {miner k wait rom a : Nat} {t : Task} {st : List Nat} {trail : List MicroOp}

/-- An asked miner at a preemption point withdraws its task's request, parks the task or gives it up. -/
theorem execTaskPreempt_at {x : Nat} (hy : (s.miner miner).yield = some x) (hm : s.onMiner miner = some (k, t))
    (hp : preemptionPoint wait = true) (hr : runTrail trail t.address t.stack = .at a st) : execTaskPreempt miner trail wait rom s =
      let s0 := s.minerCount 1 rom
      .next (settled s (if s0.withdraws miner t then
          ((s0.setMiner miner { s0.miner miner with yield := none, answered := false }).minerCount 3).trace 7 miner k t a wait
        else if wait = 9 && s0.workless t then s0.parkTask miner k t a st
        else (s0.preempt miner k t a wait st).servedNow)) := by
  simp only [execTaskPreempt, hy, hm, hp, hr, Bool.not_true, Bool.false_eq_true, if_false, done_eq]
  split
  · rfl
  · split <;> rfl

theorem execTaskPreempt_fault {x c : Nat} (hy : (s.miner miner).yield = some x) (hm : s.onMiner miner = some (k, t))
    (hp : preemptionPoint wait = true) (hr : runTrail trail t.address t.stack = .fault c a) : execTaskPreempt miner trail wait rom s =
      .next (settled s ((s.minerCount 1 rom).failMiner miner k t c a wait)) := by
  simp only [execTaskPreempt, hy, hm, hp, hr, Bool.not_true, Bool.false_eq_true, if_false, done_eq]

theorem execTaskComplete_at (hm : s.onMiner miner = some (k, t)) (hw : s.workOver t.work = true)
    (hr : runTrail trail t.address t.stack = .at a st) : execTaskComplete miner trail wait rom s =
      let s1 := (s.minerCount 1 rom).release miner t
      .next (settled s (State.trace { s1 with miners := { s1.miners with
          tasks := tdel s1.miners.tasks k,
          types := alter s1.miners.types (t.type - 1) fun y => { y with completed := y.completed + 1 } } } 3 miner k t a wait)) := by
  simp only [execTaskComplete, hm, hw, hr, if_true, done_eq]

theorem execTaskComplete_fault {c : Nat} (hm : s.onMiner miner = some (k, t)) (hw : s.workOver t.work = true)
    (hr : runTrail trail t.address t.stack = .fault c a) : execTaskComplete miner trail wait rom s =
      .next (settled s ((s.minerCount 1 rom).failMiner miner k t c a wait)) := by
  simp only [execTaskComplete, hm, hw, hr, if_true, done_eq]

theorem execTaskPark_at (hm : s.onMiner miner = some (k, t)) (hw : s.workless t = true) (hr : runTrail trail t.address t.stack = .at a st) :
    execTaskPark miner trail rom s = .next (settled s ((s.minerCount 1 rom).parkTask miner k t a st)) := by
  simp only [execTaskPark, hm, hw, hr, if_true, done_eq]

theorem execTaskPark_fault {c : Nat} (hm : s.onMiner miner = some (k, t)) (hw : s.workless t = true)
    (hr : runTrail trail t.address t.stack = .fault c a) :
    execTaskPark miner trail rom s = .next (settled s ((s.minerCount 1 rom).failMiner miner k t c a 9)) := by
  simp only [execTaskPark, hm, hw, hr, if_true, done_eq]

theorem execMinerFault_at (hm : s.onMiner miner = some (k, t)) (hr : runTrail trail t.address t.stack = .at a st) :
    execMinerFault miner rom trail wait s = .next (settled s ((s.minerCount 1 rom).failMiner miner k t 1 a wait)) := by
  simp only [execMinerFault, hm, hr, done_eq]

theorem execMinerFault_fault {c : Nat} (hm : s.onMiner miner = some (k, t)) (hr : runTrail trail t.address t.stack = .fault c a) :
    execMinerFault miner rom trail wait s = .next (settled s ((s.minerCount 1 rom).failMiner miner k t c a wait)) := by
  simp only [execMinerFault, hm, hr, done_eq]
end

/-! The commands (R346-R349). -/

section
variable {m : Msg} {s : State} {b : Bytes} {base : Nat}

theorem bodyMinerStatus_of (h0 : m.p 0 ≤ 1) (hz : zeroAt m [1, 2, 3] = true) : bodyMinerStatus m s =
    ok (if m.p 0 = 1 then State.clearMinerFigures { s with free := s.free + 16 } else { s with free := s.free + 16 })
      ((s.miners.ready.flatMap fun l => le 2 l.length) ++ ((List.range 16).flatMap s.minerEntry) ++
        ((List.range 11).flatMap fun i => s.typeEntry (i + 1)) ++ bankBytes s.miners.counters) := by
  simp only [bodyMinerStatus, if_neg (Nat.not_le.mpr (Nat.lt_succ_of_le h0)), needZero_of _ _ _ _ hz]

theorem recMinerTaskLevel_reads (h0 : 1 ≤ byteAt b 0) (h0' : byteAt b 0 ≤ 11) (h1 : byteAt b 1 = 0)
    (hz : (firstNonZeroAt b (span 2 7)).isNone = true) :
    recMinerTaskLevel m s b base = .ok s (taskLevelRecord (s.view m).task (byteAt b 0)) := by
  simp only [recMinerTaskLevel, decide_eq_true h0, decide_eq_true h0', h1, recZero_of _ _ _ _ hz]
  rfl

theorem recMinerTaskLevel_sets (hm : m.stage = true) (h0 : 2 ≤ byteAt b 0) (h0' : byteAt b 0 ≤ 11) (h1 : byteAt b 1 = 1)
    (h2 : byteAt b 2 ≤ 7) (h3 : 1 ≤ byteAt b 3) (h3' : byteAt b 3 ≤ maxMinersOf (byteAt b 0)) (h4 : Machine.fieldLe b 4 2 = 0)
    (hz : (firstNonZeroAt b [6, 7]).isNone = true) : recMinerTaskLevel m s b base = .ok (s.stageWith fun v =>
      { v with task := TaskCfg.mk (v.task.types.set (byteAt b 0 - 1) ⟨byteAt b 2, byteAt b 3⟩) v.task.flowSlots }) [] := by
  have hcount : (decide (byteAt b 3 = 0) || decide (maxMinersOf (byteAt b 0) < byteAt b 3)) = false := by
    rw [decide_eq_false (Nat.ne_of_gt h3), decide_eq_false (Nat.not_lt.mpr h3')]
    rfl
  have htype : byteAt b 0 ≠ 1 := by omega
  have htype' : 1 ≤ byteAt b 0 := by omega
  simp only [recMinerTaskLevel, hm, decide_eq_true htype', decide_eq_true h0', h1, if_neg (Nat.not_lt.mpr h2), hcount, if_neg htype, h4,
    recZero_of _ _ _ _ hz]
  rfl

/-- The reply of MINER_TRACE_READ: the entries held, the first entry's number, those lost, and the entries (Table 11.12). -/
def traceReply (x : MinerLive) (n : Nat) : Bytes :=
  le 2 x.trace.length ++ le 2 (match x.trace.take n with | e :: _ => Machine.fieldLe e 14 2 | [] => x.traceSeq.toNat) ++ le 4 x.traceLost ++
    (x.trace.take n).flatten

/-- Entries taken from the trace leave it. -/
theorem bodyMinerTraceRead_takes (h0 : m.p 0 = 1) (h1 : m.p 1 = 0) (h2 : 1 ≤ m.f 2 2) (h2' : m.f 2 2 ≤ 254)
    (hz : zeroAt m (span 4 7) = true) : ∃ p x, bodyMinerTraceRead m s = ok { s with miners := x } p ∧
      p.drop 8 = (s.miners.trace.take (m.f 2 2)).flatten ∧ x.trace = s.miners.trace.drop (m.f 2 2) ∧ x.traceLost = 0 := by
  have hcount : (decide (m.f 2 2 = 0) || decide (254 < m.f 2 2)) = false := by
    rw [decide_eq_false (Nat.ne_of_gt h2), decide_eq_false (Nat.not_lt.mpr h2')]
    rfl
  have hone : zeroAt m [1] = true := zeroAt_iff.mpr fun _ hi => by rwa [List.mem_singleton.mp hi]
  refine ⟨traceReply s.miners (m.f 2 2),
    { s.miners with trace := s.miners.trace.drop (s.miners.trace.take (m.f 2 2)).length, traceLost := 0 }, ?_, ?_, ?_, rfl⟩
  · simp only [bodyMinerTraceRead, h0, needZero_of _ _ _ _ hone, hcount, needZero_of _ _ _ _ hz]
    cases h : s.miners.trace.take (m.f 2 2) <;> simp only [traceReply, h] <;> rfl
  · simp [traceReply, List.drop_append, List.drop_of_length_le, CommandProtocol.le_length]
  · show s.miners.trace.drop (s.miners.trace.take (m.f 2 2)).length = _
    rw [List.length_take]
    exact (List.drop_eq_drop_iff.mpr (by omega))

theorem bodyMinerTraceConfig_sets (h0 : m.p 0 = 1) (h1 : m.p 1 < 4) (h2 : m.p 2 % 2 = 0) (h3 : m.p 3 < 16) (h4 : m.p 4 % 2 = 0)
    (h5 : m.p 5 = 0) : bodyMinerTraceConfig m s = ok { s with miners := { s.miners with
        traceOn := bitAt m.params 1 0, traceStop := bitAt m.params 1 1, traceTypes := BitVec.ofNat 16 (m.f 2 2),
        traceReasons := BitVec.ofNat 8 (m.p 4), traceMiners := BitVec.ofNat 16 (m.f 6 2), trace := [], traceLost := 0 } } := by
  have hfive : zeroAt m [5] = true := zeroAt_iff.mpr fun _ hi => by rwa [List.mem_singleton.mp hi]
  simp only [bodyMinerTraceConfig, h0, if_neg (Nat.not_le.mpr h1), h2, if_neg (Nat.not_le.mpr h3), h4, needZero_of _ _ _ _ hfive]
  rfl
end

/-- Settles O46. -/
theorem minersComplete : Obligations.MinersComplete := by
  refine ⟨?_, ?_, ?_, ?_, ?_, ?_, ?_, ?_, ?_, ?_, ?_, ?_, ?_, ?_, ?_, ?_, ?_⟩
  · intro s k n hi hn
    show execTaskDispatch s = _
    simp only [execTaskDispatch, hi, hn, done_eq]
  · rintro miner trail wait rom s x k t a st s0 hy hm hp hr rfl hw
    exact (execTaskPreempt_at hy hm hp hr).trans (by simp only [hw, if_true])
  · rintro miner trail wait rom s x k t a st s0 hy hm hp hr rfl hw hpark
    have hidle : (decide (wait = 9) && (s.minerCount 1 rom).workless t) = false := by
      by_cases h : wait = 9
      · rw [hpark h, Bool.and_false]
      · rw [decide_eq_false h, Bool.false_and]
    obtain ⟨x, hx⟩ := (minerCount_frame s 1 rom).trans (preempt_frame _ miner k t a wait st)
    refine ⟨(execTaskPreempt_at hy hm hp hr).trans (by simp only [hw, hidle, Bool.false_eq_true, if_false]), ?_, ?_, ?_⟩ <;> rw [hx]
  · rintro miner trail rom s x k t a st s0 hy hm hr rfl hw hidle
    refine (execTaskPreempt_at hy hm (by decide) hr).trans ?_
    simp only [hw, hidle, Bool.false_eq_true, if_false, decide_true, Bool.and_true, if_true]
  · intro miner trail wait rom s x k t c a hy hm hp hr
    exact execTaskPreempt_fault hy hm hp hr
  · rintro miner trail wait rom s k t a st s1 hm hw hr rfl
    exact execTaskComplete_at hm hw hr
  · intro miner trail wait rom s k t c a hm hw hr
    exact execTaskComplete_fault hm hw hr
  · intro miner trail rom s k t a st hm hw hr
    exact execTaskPark_at hm hw hr
  · intro miner trail rom s k t c a hm hw hr
    exact execTaskPark_fault hm hw hr
  · rintro miner rom trail wait s k t a st s0 s1 s2 hm hr rfl rfl rfl
    exact execMinerFault_at hm hr
  · intro miner rom trail wait s k t c a hm hr
    exact execMinerFault_fault hm hr
  · intro m s hp hz
    have h0 : m.norm.p 0 = 0 := p_of_zeroAt hz 0 (by decide)
    refine run_answers cmdMinerStatus m s _ hp
      ((bodyMinerStatus_of (by rw [h0]; exact Nat.zero_le 1) (zeroAt_of_subset hz [1, 2, 3] (by decide))).trans ?_)
    rw [h0, if_neg (by decide)]
  · intro m s hp h0 hz
    refine run_answers cmdMinerStatus m s _ hp ((bodyMinerStatus_of (Nat.le_of_eq h0) hz).trans ?_)
    rw [if_pos h0]
  · intro m s b hp hrec h0 h0' h1 hz
    exact run_answers cmdMinerTaskLevel m s _ hp (records_one _ _ _ _ _ _ _ hrec (recMinerTaskLevel_reads (m := m.norm) h0 h0' h1 hz))
  · intro m s b hp hm hrec h0 h0' h1 h2 h3 h3' h4 hz
    exact run_answers cmdMinerTaskLevel m s _ hp
      (records_one _ _ _ _ _ _ _ hrec (recMinerTaskLevel_sets (m := m.norm) hm h0 h0' h1 h2 h3 h3' h4 hz))
  · intro m s hp h0 h1 h2 h2' hz
    obtain ⟨p, x, hbody, hdrop, htrace, hlost⟩ := bodyMinerTraceRead_takes (s := s) h0 h1 h2 h2' hz
    exact ⟨p, x, run_answers cmdMinerTraceRead m s _ hp hbody, hdrop, htrace, hlost⟩
  · intro m s hp h0 h1 h2 h3 h4 h5
    exact ⟨_, run_answers cmdMinerTraceConfig m s _ hp (bodyMinerTraceConfig_sets h0 h1 h2 h3 h4 h5), rfl, rfl, rfl, rfl, rfl, rfl⟩

end Sys2Proof.MinerEvents

/-! PROOFS. The memory controller's events and the memory plan (spec 12). -/
namespace Sys2Proof.MemoryPlan
open Machine Claims Answers CommitTerms

/-! Writes, refresh, free tiles and lost channels (R354-R365, R462). -/

section
variable {s : State}

theorem execWriteBatchIssue_of {channel : Nat} (hq : (s.dram.wq.any fun e => tileChannel e.1 == channel) = true)
    (hm : s.mayIssue channel = true) : execWriteBatchIssue channel s =
      let s1 := s.issueBatch channel
      .next (settled s
        (State.retryQuarantine { s1 with dram := { s1.dram with owes := s1.dram.owes.set channel (s.readWaits channel) } })) := by
  simp only [execWriteBatchIssue, hq, hm, Bool.and_true, Bool.not_true, Bool.false_eq_true, if_false, done_eq]

/-- The state behind a refresh instant, but for a change of its mode. -/
def refreshed (s : State) : State :=
  { s.memCount 9 with dram := { (s.memCount 9).dram with lastRefresh := s.dram.lastRefresh + s.refreshInterval } }

theorem refresh_due (ht : s.trained = true) (hd : s.dram.lastRefresh + s.refreshInterval ≤ s.now) :
    ¬(!(s.trained && decide (s.dram.lastRefresh + s.refreshInterval ≤ s.now))) = true := by
  rw [ht, decide_eq_true hd]
  decide

theorem execRefreshBanks_same (ht : s.trained = true) (hd : s.dram.lastRefresh + s.refreshInterval ≤ s.now)
    (hh : s.dram.hot.isSome = s.dram.hotNext) : execRefreshBanks s = .next (settled s (refreshed s)) := by
  unfold execRefreshBanks
  rw [if_neg (refresh_due ht hd)]
  simp only [hh, beq_self_eq_true, if_true, done_eq, refreshed]

/-- A refresh instant at which the mode changes: the time spent in HOT is counted. -/
theorem execRefreshBanks_changes (ht : s.trained = true) (hd : s.dram.lastRefresh + s.refreshInterval ≤ s.now)
    (hh : s.dram.hot.isSome = !s.dram.hotNext) : execRefreshBanks s =
      let s2 := ((refreshed s).memCount 10).memCount 11 (s.dram.hot.elim 0 fun t => s.now - t)
      .next (settled s { s2 with dram := { s2.dram with hot := if s.dram.hotNext then some s.now else none } }) := by
  have hne : (s.dram.hot.isSome == s.dram.hotNext) = false := by
    rw [hh]
    cases s.dram.hotNext <;> rfl
  unfold execRefreshBanks
  rw [if_neg (refresh_due ht hd)]
  simp only [hne, Bool.false_eq_true, if_false, done_eq, refreshed]
  cases s.dram.hot <;> rfl

theorem execFreeTileClear_of {r : Nat × Nat} {rest : List (Nat × Nat)} (hr : s.refreshing = false) (hc : s.dram.clearing = r :: rest)
    (hw : s.atWork .clearTiles = true) : execFreeTileClear s =
      .next (settled s ((State.clearRun { s with dram := { s.dram with clearing := rest } } r.1 r.2).addFree r)) := by
  simp only [execFreeTileClear, hc, hr, hw, Bool.not_true, Bool.or_false, Bool.false_eq_true, if_false, done_eq]

/-- The state in which a channel is lost in service, but for the cause that the last channel raises. -/
def channelGone (channel : Nat) (s : State) : State :=
  let s1 := s.loseChannel channel 2 3
  (State.lifeCount { s1 with life := { s1.life with lostInService := true } } 10 (s.channelTiles - s.retiredIn channel)).setFault
    FaultBit.channelLost true

theorem execChannelLost_of {channel : Nat} {x : StackChannel} (hx : s.dram.channels[channel]? = some x) (hl : x.lost = false) (hb : s.booted = true) :
    execChannelLost channel s = .next (settled s (if (channelGone channel s).dram.channels.all (·.lost) then
      (channelGone channel s).raiseCause 1 else channelGone channel s)) := by
  simp only [execChannelLost, hx, hl, hb, Bool.not_true, Bool.or_false, Bool.false_eq_true, if_false, done_eq, channelGone]
  rfl
end

/-! The commands (R363, R364, R369). -/

section
variable {m : Msg} {s : State}

/-- An entry of MEM_PLAN_READ for each region. -/
def planRegion (m : Msg) (s : State) (c : Nat) : Bytes :=
  le 1 c ++ zeros 3 ++ le 4 (s.regionBase c) ++ le 4 (s.regionSize c + (if m.stage then s.stagedGrowth c else 0)) ++
    le 4 (s.handleOf (s.regionDesc c))

theorem planRegion_length (c : Nat) : (planRegion m s c).length = 16 := by
  simp [planRegion, CommandProtocol.le_length, zeros]

theorem planRegions_length : ((List.range 6).flatMap (planRegion m s)).length = 96 := by
  rw [List.length_flatMap]
  simp only [planRegion_length]
  rfl

theorem bodyMemPlanRead_of : ∃ p, bodyMemPlanRead m s = ok s p ∧
    p.drop 96 = le 4 (runsLength s.dram.free) ++ le 4 (s.dram.free.foldl (fun n r => max n r.2) 0) ++ le 4 s.dram.dir.freeCount ++
      le 4 s.retiredTiles := by
  refine ⟨(List.range 6).flatMap (planRegion m s) ++ le 4 (runsLength s.dram.free) ++ le 4 (s.dram.free.foldl (fun n r => max n r.2) 0) ++
    le 4 s.dram.dir.freeCount ++ le 4 s.retiredTiles, rfl, ?_⟩
  simp only [List.append_assoc]
  exact List.drop_left' planRegions_length

/-- The state in which a region's growth by some runs is staged, and what it takes reserved. -/
def grown (s : State) (c : Nat) (rs rest : List (Nat × Nat)) : State :=
  let descs := rs.length + (if s.regionSingle c then 1 else 0)
  let s1 := s.stageWith id
  { s1 with dram := { s1.dram with
    free := rest, growth := s.dram.growth ++ [{ region := c, runs := rs, descs := descs }],
    dir := { s.dram.dir with reserved := s.dram.dir.reserved + descs } } }

theorem bodyMemRegionGrow_of {rs rest : List (Nat × Nat)} (hm : m.stage = true) (h0 : 1 ≤ m.p 0) (h0' : m.p 0 ≤ 5)
    (hz : zeroAt m [1, 2, 3] = true) (hn : m.f 4 4 ≠ 0) (hn' : m.f 4 4 % 1024 = 0)
    (hmax : s.regionSize (m.p 0) + s.stagedGrowth (m.p 0) + m.f 4 4 ≤ regionMax (m.p 0))
    (ha : allocRuns s.dram.free (m.f 4 4) = some (rs, rest)) (hd : rs.length + 1 ≤ s.dram.dir.freeCount) :
    ∃ x : State, bodyMemRegionGrow m s = ok x ∧ x.dram.free = rest ∧
      (x.dram.growth.map fun g => (g.region, g.runs)) = (s.dram.growth.map fun g => (g.region, g.runs)) ++ [(m.p 0, rs)] := by
  have hsize : (m.f 4 4 % 1024 != 0 || decide (regionMax (m.p 0) < s.regionSize (m.p 0) + s.stagedGrowth (m.p 0) + m.f 4 4)) = false := by
    rw [hn', decide_eq_false (Nat.not_lt.mpr hmax)]
    rfl
  have hdescs : ¬ s.dram.dir.freeCount < rs.length + (if s.regionSingle (m.p 0) then 1 else 0) := by
    split <;> omega
  refine ⟨grown s (m.p 0) rs rest, ?_, rfl, List.map_append⟩
  simp only [bodyMemRegionGrow, hm, if_neg (Nat.ne_of_gt h0), if_neg (Nat.not_lt.mpr h0'), needZero_of _ _ _ _ hz, hsize, if_neg hn, ha,
    if_neg hdescs, Bool.not_true, Bool.false_eq_true, if_false, grown]

theorem bodyMemStatus_reads (h0 : m.p 0 = 1) (h1 : m.p 1 = 0) (hz : zeroAt m [2, 3] = true) (hz2 : zeroAt m (span 4 15) = true) :
    bodyMemStatus m s = ok s ([1, 0, 0, 0] ++ le 2 s.dram.high ++ le 2 s.dram.low ++ le 2 s.dram.panicLevel ++ zeros 6) := by
  simp only [bodyMemStatus, h0, h1, needZero_of _ _ _ _ hz, needZero_of _ _ _ _ hz2]
  rfl

/-- The thresholds, the write queue and the memory, which a judgement of the levels leaves. -/
def levels (s : State) := (s.dram.high, s.dram.low, s.dram.panicLevel, s.dram.wq, s.dram.mem)

theorem levels_judgeDrain (s : State) : levels s.judgeDrain = levels s := rfl

theorem levels_panicLevel (s : State) : levels s.panicLevel = levels s := by
  unfold State.panicLevel
  dsimp only
  split
  · split <;> rfl
  · split <;> rfl

theorem bodyMemStatus_sets (h0 : m.p 0 = 2) (h1 : m.p 1 = 0) (hz : zeroAt m [2, 3] = true) (hz2 : zeroAt m (span 10 15) = true)
    (h4 : 64 ≤ m.f 4 2) (h4' : m.f 4 2 ≤ 1000) (h6 : m.f 6 2 + 64 ≤ m.f 4 2) (h8 : 1024 ≤ m.f 8 2) (h8' : m.f 8 2 ≤ 8192) :
    bodyMemStatus m s = ok (State.panicLevel { s with dram := { s.dram with high := m.f 4 2, low := m.f 6 2,
                                                                            panicLevel := m.f 8 2 } }).judgeDrain := by
  have hhigh : (decide (m.f 4 2 < 64) || decide (1000 < m.f 4 2)) = false := by
    rw [decide_eq_false (Nat.not_lt.mpr h4), decide_eq_false (Nat.not_lt.mpr h4')]
    rfl
  have hpanic : (decide (m.f 8 2 < 1024) || decide (8192 < m.f 8 2)) = false := by
    rw [decide_eq_false (Nat.not_lt.mpr h8), decide_eq_false (Nat.not_lt.mpr h8')]
    rfl
  simp only [bodyMemStatus, h0, h1, needZero_of _ _ _ _ hz, hhigh, if_neg (Nat.not_lt.mpr h6), hpanic, needZero_of _ _ _ _ hz2]
  rfl

theorem bodyMemRetiredRead_of (h4 : 1 ≤ m.f 4 2) (h4' : m.f 4 2 ≤ 254) (hz : zeroAt m [6, 7] = true) :
    ∃ next, bodyMemRetiredRead m s = ok s (le 4 s.dram.retired.length ++ le 4 next ++
      ((s.dram.retired.drop (m.f 0 4)).take (m.f 4 2)).flatMap retiredEntry) := by
  have hcount : (decide (m.f 4 2 = 0) || decide (254 < m.f 4 2)) = false := by
    rw [decide_eq_false (Nat.ne_of_gt h4), decide_eq_false (Nat.not_lt.mpr h4')]
    rfl
  refine ⟨if m.f 0 4 + m.f 4 2 < s.dram.retired.length then m.f 0 4 + m.f 4 2 else 0xFFFFFFFF, ?_⟩
  simp only [bodyMemRetiredRead, hcount, needZero_of _ _ _ _ hz, Bool.false_eq_true, if_false]

/-! SECURE_MEM_PLAN (R363). -/

/-- What SECURE_MEM_PLAN makes of the device: the plan set, the live contents gone, and a clearing begun. -/
def planned (s : State) (plan : List (Nat × Nat)) : State :=
  let s1 := (s.setPlan plan).clearLive [(0, s.tiles)]
  { s1 with cur := s1.cur.dropRegionTables, shadow := s1.shadow.dropRegionTables,
            drain := s1.drain.map fun d => { d with tables := d.tables.dropRegionTables },
            fwd := { s1.fwd with copies := [] }, life := { s1.life with clearing := .plan } }

theorem bodySecureMemPlan_given (h0 : m.p 0 = 1) (hz : zeroAt m (span 1 7) = true)
    (hp : planBad s.hb ((List.range 6).map fun c => (m.f (8 + c * 8) 4, m.f (12 + c * 8) 4)) 0 [] = none) (ho : s.otherSeams = false) :
    bodySecureMemPlan m s = ok (planned s ((List.range 6).map fun c => (m.f (8 + c * 8) 4, m.f (12 + c * 8) 4))) := by
  have hnil : zeroAt m [] = true := rfl
  simp only [bodySecureMemPlan, h0, needZero_of _ _ _ _ hz, if_neg (by decide : ¬(1 : Nat) = 2), needZero_of _ _ _ _ hnil, hp, ho]
  rfl

theorem planBad_default (hb : Bool) : planBad hb (defaultPlan hb) 0 [] = none := by
  cases hb <;> decide

theorem bodySecureMemPlan_default (h0 : m.p 0 = 2) (hz : zeroAt m (span 1 7) = true) (hz2 : zeroAt m (span 8 55) = true)
    (ho : s.otherSeams = false) : bodySecureMemPlan m s = ok (planned s (defaultPlan s.hb)) := by
  simp only [bodySecureMemPlan, h0, needZero_of _ _ _ _ hz, if_true, needZero_of _ _ _ _ hz2, planBad_default, ho]
  rfl

theorem planned_regions (s : State) (plan : List (Nat × Nat)) : (planned s plan).dram.regions = s.dram.regions :=
  foldl_keeps (fun s => s.dram.regions) (f := fun s (r : Nat × Nat) => s.clearRun r.1 r.2) (fun _ _ => rfl) _ (s.setPlan plan)
end

/-- Settles O47. -/
theorem memoryCommandsComplete : Obligations.MemoryCommandsComplete := by
  refine ⟨?_, ?_, ?_, ?_, ?_, ?_, ?_, ?_, ?_, ?_, ?_, ?_, ?_⟩
  · rintro channel s s1 hq hm rfl
    exact execWriteBatchIssue_of hq hm
  · intro s ht hd hh
    exact execRefreshBanks_same ht hd hh
  · rintro s s1 ht hd hh hn rfl
    refine (execRefreshBanks_changes ht hd (by rw [hh, hn]; rfl)).trans ?_
    rw [hh, hn]
    rfl
  · rintro s s1 t ht hd hh hn rfl
    refine (execRefreshBanks_changes ht hd (by rw [hh, hn]; rfl)).trans ?_
    rw [hh, hn]
    rfl
  · rintro s r rest s1 hr hc hw rfl
    exact execFreeTileClear_of hr hc hw
  · rintro channel s x s1 s2 s3 hx hl hb rfl rfl rfl
    exact execChannelLost_of hx hl hb
  · intro m s hp
    obtain ⟨p, hbody, hdrop⟩ := bodyMemPlanRead_of (m := m.norm) (s := s)
    exact ⟨p, run_answers cmdMemPlanRead m s _ hp hbody, hdrop⟩
  · rintro m s n rs rest hp hm h0 h0' hz rfl hn hn' hmax ha hd
    obtain ⟨x, hbody, hfree, hgrowth⟩ := bodyMemRegionGrow_of (m := m.norm) hm h0 h0' hz hn hn' hmax ha hd
    exact ⟨x, run_answers cmdMemRegionGrow m s _ hp hbody, hfree, hgrowth⟩
  · intro m s hp h0 h1 hz hz2
    exact run_answers cmdMemStatus m s _ hp (bodyMemStatus_reads h0 h1 hz hz2)
  · intro m s hp h0 h1 hz hz2 h4 h4' h6 h8 h8'
    have hlevels := (levels_judgeDrain _).trans (levels_panicLevel
      { s with dram := { s.dram with high := m.norm.f 4 2, low := m.norm.f 6 2, panicLevel := m.norm.f 8 2 } })
    simp only [levels, Prod.mk.injEq] at hlevels
    obtain ⟨hhigh, hlow, hpanic, hwq, hmem⟩ := hlevels
    exact ⟨_, run_answers cmdMemStatus m s _ hp (bodyMemStatus_sets h0 h1 hz hz2 h4 h4' h6 h8 h8'), hhigh, hlow, hpanic, hwq, hmem⟩
  · intro m s hp h4 h4' hz
    obtain ⟨next, hbody⟩ := bodyMemRetiredRead_of (s := s) h4 h4' hz
    exact ⟨next, run_answers cmdMemRetiredRead m s _ hp hbody⟩
  · intro m s hp h0 hz hz2 ho
    exact ⟨_, run_answers cmdSecureMemPlan m s _ hp (bodySecureMemPlan_default h0 hz hz2 ho), rfl, rfl, rfl, rfl, rfl, rfl, planned_regions _ _⟩
  · rintro m s plan s1 hp h0 hz rfl hbad ho rfl
    exact run_answers cmdSecureMemPlan m s _ hp (bodySecureMemPlan_given h0 hz hbad ho)

end Sys2Proof.MemoryPlan

/-! PROOFS. The seam commands and the jobs over seams (spec 12). -/
namespace Sys2Proof.Seams
open Machine Claims Answers

/-! Making and grouping seams (R366, R369). -/

/-- A count of tiles that a seam may have passes the test for its range. -/
theorem tileCount_fits {n : Nat} (h1 : 1 ≤ n) (h2 : n ≤ 2 ^ 28) : (decide (n = 0) || decide (2 ^ 28 < n)) = false := by
  rw [decide_eq_false (Nat.one_le_iff_ne_zero.mp h1), decide_eq_false (Nat.not_lt.mpr h2)]
  rfl

section
variable {m : Msg} {s s1 : State} {i : Nat}

theorem bodySeamCreate_free {rs rest : List (Nat × Nat)} (h0 : m.p 0 = 0) (hz : zeroAt m [1, 2, 3] = true)
    (hz4 : zeroAt m (span 4 7) = true) (h1 : 1 ≤ m.f 8 4) (h2 : m.f 8 4 ≤ 2 ^ 28)
    (ha : allocRuns s.dram.free (m.f 8 4) = some (rs, rest)) (hd : descsFor rs ≤ s.dram.dir.freeCount)
    (hn : State.newRuns { s with dram := { s.dram with free := rest } } rs true = (i, s1)) :
    bodySeamCreate m s = ok s1 (le 4 (s1.handleOf i)) := by
  simp only [bodySeamCreate, h0, needZero_of _ _ _ _ hz, needZero_of _ _ _ _ hz4, if_neg (by decide : ¬1 < 0), if_true,
    tileCount_fits h1 h2, ha, if_neg (Nat.not_lt.mpr hd), hn, Bool.false_eq_true, if_false]

theorem bodySeamCreate_window (h0 : m.p 0 = 1) (hz : zeroAt m [1, 2, 3] = true) (hr : s.inRegion 5 (m.f 4 4) = true)
    (h1 : 1 ≤ m.f 8 4) (h2 : m.f 8 4 ≤ 2 ^ 28) (hc : cutRun (m.f 4 4, m.f 8 4) (s.regionRuns 5) = [])
    (hd : 1 ≤ s.dram.dir.freeCount)
    (hn : s.newSeam { body := .run (m.f 4 4) (m.f 8 4), host := true, owns := false } = (i, s1)) :
    bodySeamCreate m s = ok s1 (le 4 (s1.handleOf i)) := by
  simp only [bodySeamCreate, h0, needZero_of _ _ _ _ hz, if_neg (by decide : ¬1 < 1), if_neg (by decide : ¬1 = 0), hr,
    tileCount_fits h1 h2, hc, List.isEmpty_nil, if_neg (Nat.not_lt.mpr hd), hn, Bool.not_true, Bool.or_false,
    Bool.false_eq_true, if_false]

theorem bodySeamGroup_of {ms : List Nat} (hg : groupMembers s (m.recs 4) 16 [] = .ok ms) (hp : groupPasses s ms 0 0 = none)
    (hd : 1 ≤ s.dram.dir.freeCount) (hn : s.newSeam { body := .group ms, host := true, owns := false } = (i, s1)) :
    bodySeamGroup m s = ok s1 (le 4 (s1.handleOf i)) := by
  simp only [bodySeamGroup, hg, hp, if_neg (Nat.not_lt.mpr hd), hn]

/-- SEAM_READ of at least one cell and of none beyond the seam's end. -/
theorem bodySeamRead_of {ps : List (Option Bytes)} (hi : s.dram.dir.find (m.f 0 4) = some i) (h1 : 1 ≤ m.p 8) (h2 : m.p 8 ≤ 63)
    (hl : m.f 4 4 + m.p 8 ≤ s.seamLength i) (hz : zeroAt m (span 9 11) = true)
    (hr : readCells (s.view m) {} .command (((s.seamCells i).drop (m.f 4 4)).take (m.p 8)) s = (ps, s1)) :
    bodySeamRead m s =
      let cells := ((s.seamCells i).drop (m.f 4 4)).take (m.p 8)
      ok s1 (le 4 cells.length ++ le 4 (ps.filter (·.isNone)).length ++ ((cells.zip ps).flatMap fun x => delivered x.1 x.2)) := by
  have hcount : (decide (m.p 8 = 0) || decide (63 < m.p 8)) = false := by
    rw [decide_eq_false (Nat.one_le_iff_ne_zero.mp h1), decide_eq_false (Nat.not_lt.mpr h2)]
    rfl
  have hstart : ¬s.seamLength i ≤ m.f 4 4 := by omega
  simp only [bodySeamRead, hi, if_neg hstart, hcount, if_neg (Nat.not_lt.mpr hl), needZero_of _ _ _ _ hz, hr,
    Bool.false_eq_true, if_false]

/-! Retiring, exchanging and describing seams. -/

theorem bodySeamRetire_of (hi : s.dram.dir.find (m.f 0 4) = some i) (hh : s.dram.dir.isHost i = true)
    (hp : s.parentOf i = none) (hb : s.seamBusy i = false) : bodySeamRetire m s = ok (s.retireSeam i) := by
  simp only [bodySeamRetire, hi, hh, hp, hb, Option.isSome_none, Bool.not_true, Bool.or_false, Bool.false_eq_true, if_false]

theorem bodySeamSwapRoot_of {a b : Nat} (ha : s.dram.dir.find (m.f 0 4) = some a) (hb : s.dram.dir.find (m.f 4 4) = some b)
    (hne : a ≠ b) (hha : s.dram.dir.isHost a = true) (hhb : s.dram.dir.isHost b = true) (hba : s.seamBusy a = false)
    (hbb : s.seamBusy b = false) (hl : s.seamLength a = s.seamLength b) :
    bodySeamSwapRoot m s = ok { s with dram := { s.dram with dir := s.dram.dir.swap a b } } := by
  simp only [bodySeamSwapRoot, ha, hb, hha, hhb, hba, hbb, hl, bne_self_eq_false, if_neg hne, Bool.not_true, Bool.or_false,
    Bool.false_eq_true, if_false]

theorem bodySeamInfo_seam (h0 : m.p 0 = 0) (hz : zeroAt m [1, 2, 3] = true) (hi : s.dram.dir.find (m.f 4 4) = some i) :
    bodySeamInfo m s = ok s (s.seamInfo i) := by
  simp only [bodySeamInfo, h0, needZero_of _ _ _ _ hz, if_neg (by decide : ¬1 < 0), if_true, hi]

theorem bodySeamInfo_job (h0 : m.p 0 = 1) (hz : zeroAt m [1, 2, 3] = true) (hj : m.f 4 4 ≤ 7)
    (hs : (s.job (m.f 4 4)).state ≠ .running) : bodySeamInfo m s = ok s (jobInfo (s.job (m.f 4 4))) := by
  simp only [bodySeamInfo, h0, needZero_of _ _ _ _ hz, if_neg (by decide : ¬1 < 1), if_neg (by decide : ¬1 = 0),
    if_neg (Nat.not_lt.mpr hj), beq_eq_false_iff_ne.mpr hs, Bool.false_eq_true, if_false]

/-! Jobs (R367). -/

/-- The state in which job `j` has just started. -/
def jobStarted (s : State) (op : JobOp) (a : Nat) (b : Option Nat) (pattern : Bytes) (j : Nat) : State :=
  { s with dram := { s.dram with
    lastJob := j, jobs := s.dram.jobs.set j ⟨.running, op, a, b, pattern, 0, 0, none, s.now, 0⟩ } }

/-- Where a number and a task slot are free, a job starts: it is the last started, running, at its number. -/
theorem startJob_of {op : JobOp} {a j : Nat} {b : Option Nat} {pattern : Bytes} (hj : s.nextJob = some j)
    (ht : (s.newTask TaskType.seamAssist (.seamJob j)).isSome = true) :
    ∃ x : State, s.startJob op a b pattern = ok x (le 4 j) ∧ x.dram.lastJob = j ∧
      x.dram.jobs = s.dram.jobs.set j ⟨.running, op, a, b, pattern, 0, 0, none, s.now, 0⟩ := by
  obtain ⟨⟨k, s1⟩, h1⟩ := Option.isSome_iff_exists.mp ht
  obtain ⟨miners, rfl⟩ := Tasks.newTask_frame h1
  have hs : s.startJob op a b pattern = ok (jobStarted { s with miners := miners } op a b pattern j) (le 4 j) := by
    simp only [State.startJob, hj, h1]
    rfl
  exact ⟨_, hs, rfl, rfl⟩

theorem bodySeamFill_of (hi : s.dram.dir.find (m.f 0 4) = some i) (hh : s.dram.dir.isHost i = true)
    (hb : s.seamBusy i = false) : bodySeamFill m s = s.startJob .fill i none (slice m.params 4 60) := by
  simp only [bodySeamFill, hi, hh, hb, Bool.not_true, Bool.or_false, Bool.false_eq_true, if_false]

theorem bodySeamCompare_seams {a b : Nat} (ha : s.dram.dir.find (m.f 0 4) = some a) (hf : m.f 4 4 ≠ 0xFFFFFFFF)
    (hb : s.dram.dir.find (m.f 4 4) = some b) (hz : zeroAt m (span 8 67) = true) (hl : s.seamLength a = s.seamLength b) :
    bodySeamCompare m s = s.startJob .compare a (some b) [] := by
  simp only [bodySeamCompare, ha, if_neg hf, hb, needZero_of _ _ _ _ hz, hl, bne_self_eq_false, Bool.false_eq_true, if_false]

theorem bodySeamCheck_of (hi : s.dram.dir.find (m.f 0 4) = some i) : bodySeamCheck m s = s.startJob .check i none [] := by
  simp only [bodySeamCheck, hi]

/-- A command whose body starts a job answers with its number. -/
theorem run_startsJob (c : Cmd) {op : JobOp} {a j : Nat} {b : Option Nat} {pattern : Bytes} (hp : passes c m s = true)
    (hbody : c.body m.norm s = s.startJob op a b pattern) (hj : s.nextJob = some j)
    (ht : (s.newTask TaskType.seamAssist (.seamJob j)).isSome = true) :
    ∃ x : State, runCommand c m s = .next (ran c m s (ok x (le 4 j))) ∧ x.dram.lastJob = j ∧
      x.dram.jobs = s.dram.jobs.set j ⟨.running, op, a, b, pattern, 0, 0, none, s.now, 0⟩ := by
  obtain ⟨x, hx, hlast, hjobs⟩ := startJob_of (op := op) (a := a) (b := b) (pattern := pattern) hj ht
  exact ⟨x, run_answers c m s _ hp (hbody.trans hx), hlast, hjobs⟩

theorem execSeamJobComplete_of {job : Nat} {hurt : Upsets} {t : JobTally} (hr : s.refreshing = false) (hj : job ≤ 7)
    (hs : (s.job job).state = .running) (hw : s.atWork (.seamJob job) = true)
    (hrun : (s.upset hurt).runJob (s.job job) hurt = (t, s1)) :
    execSeamJobComplete job hurt s =
      let x := s.job job
      let y := { x with state := .done, done := t.done, bad := t.bad, first := t.first, elapsedMs := (s.now - x.start) / 1000000 }
      .next (settled s ((s1.setJob job y).finishWork (· == .seamJob job))) := by
  simp only [execSeamJobComplete, hr, hs, bne_self_eq_false, decide_eq_false (Nat.not_lt.mpr hj), hw, hrun, Bool.not_true,
    Bool.or_false, Bool.false_eq_true, if_false, done_eq]

end

/-- Settles O48. -/
theorem seamsComplete : Obligations.SeamsComplete := by
  unfold Obligations.SeamsComplete
  refine ⟨?_, ?_, ?_, ?_, ?_, ?_, ?_, ?_, ?_, ?_, ?_, ?_⟩
  · intro m s rs rest i s1 hp h0 hz hz4 h1 h2 ha hd hn
    exact run_answers cmdSeamCreate m s _ hp (bodySeamCreate_free h0 hz hz4 h1 h2 ha hd hn)
  · intro m s i s1 hp h0 hz hr h1 h2 hc hd hn
    exact run_answers cmdSeamCreate m s _ hp (bodySeamCreate_window h0 hz hr h1 h2 hc hd hn)
  · intro m s ms i s1 hp hg hpass hd hn
    exact run_answers cmdSeamGroup m s _ hp (bodySeamGroup_of hg hpass hd hn)
  · rintro m s i cells ps s1 hp hi h1 h2 hl hz rfl hr
    exact run_answers cmdSeamRead m s _ hp (bodySeamRead_of (m := m.norm) hi h1 h2 hl hz hr)
  · intro m s i j hp hi hh hb hj ht
    exact run_startsJob cmdSeamFill hp (bodySeamFill_of hi hh hb) hj ht
  · intro m s a b j hp ha hf hb hz hl hj ht
    exact run_startsJob cmdSeamCompare hp (bodySeamCompare_seams ha hf hb hz hl) hj ht
  · intro m s a j hp ha hj ht
    exact run_startsJob cmdSeamCheck hp (bodySeamCheck_of ha) hj ht
  · rintro job hurt s x t s1 y hr hj rfl hs hw hrun rfl
    exact execSeamJobComplete_of hr hj hs hw hrun
  · intro m s i hp hi hh hpar hb
    exact run_answers cmdSeamRetire m s _ hp (bodySeamRetire_of hi hh hpar hb)
  · intro m s a b hp ha hb hne hha hhb hba hbb hl
    exact run_answers cmdSeamSwapRoot m s _ hp (bodySeamSwapRoot_of ha hb hne hha hhb hba hbb hl)
  · intro m s i hp h0 hz hi
    exact run_answers cmdSeamInfo m s _ hp (bodySeamInfo_seam h0 hz hi)
  · intro m s hp h0 hz hj hs
    exact run_answers cmdSeamInfo m s _ hp (bodySeamInfo_job h0 hz hj hs)

end Sys2Proof.Seams

/-! PROOFS. The events of telemetry (spec 14). -/
namespace Sys2Proof.TelemetryEvents
open Machine Claims Answers

section
variable {s s1 s2 : State}

/-! Assembly, tailings and intervals (R397, R402). -/

theorem execTelemetryAssemble_stages {a : Assembly} {rest : List Assembly} {t : Nat} {b : Bytes} (hr : s.refreshing = false)
    (hs : s.serves TaskType.telemetry = true) (hc : s.life.clearing = .none) (ha : s.telem.assembly = a :: rest)
    (hb : State.assemble { s with telem := { s.telem with assembly := rest } } a = (some (t, b), s2)) (hd : s2.hasDest t = true)
    (hroom : t = 256 ∨ s2.lossyFull = false) :
    execTelemetryAssemble s = .next (settled s (s2.stageRecord t b).sendAll) := by
  have hkept : (t != 256 && s2.lossyFull) = false := by
    rcases hroom with rfl | hl
    · rfl
    · rw [hl, Bool.and_false]
  simp only [execTelemetryAssemble, hr, hs, hc, ha, hb, hd, hkept, beq_self_eq_true, Bool.and_true, Bool.not_true, Bool.or_false,
    Bool.false_eq_true, if_false, done_eq]

/-- The TAILINGS task may take a record where one is queued and, if it is exported, finds room in staging. -/
theorem tailings_may (hr : s.refreshing = false) (hs : s.serves TaskType.tailings = true) (ht : s.flow.tailings ≠ [])
    (hroom : s.hasDest 256 = true → s.stagingRoom 256 = true) :
    (s.refreshing || !s.serves TaskType.tailings || s.flow.tailings.isEmpty || (s.hasDest 256 && !s.stagingRoom 256)) = false := by
  have hwait : (s.hasDest 256 && !s.stagingRoom 256) = false := by
    cases hd : s.hasDest 256 with
    | false => rfl
    | true => rw [hroom hd]; rfl
  rw [hr, hs, hwait, List.isEmpty_eq_false_iff.mpr ht]
  rfl

theorem execTailingsDrain_none (hr : s.refreshing = false) (hs : s.serves TaskType.tailings = true) (ht : s.flow.tailings ≠ [])
    (hroom : s.hasDest 256 = true → s.stagingRoom 256 = true) (hx : s.takeTailing = (none, s1)) :
    execTailingsDrain s = .next (settled s s1) := by
  simp only [execTailingsDrain, tailings_may hr hs ht hroom, hx, Bool.false_eq_true, if_false, done_eq]

theorem execTailingsDrain_stages {x : Tailing} {b : Bytes} (hr : s.refreshing = false) (hs : s.serves TaskType.tailings = true)
    (ht : s.flow.tailings ≠ []) (hd : s.hasDest 256 = true) (hroom : s.stagingRoom 256 = true) (hx : s.takeTailing = (some x, s1))
    (hb : s1.flowEndRecord (tileKey x.flow) (tileAction x.flow) (tilePackets x.flow) (tileOctets x.flow)
      (tileLast x.flow (Machine.fieldLe x.info 8 8)) (tileFirst x.flow (Machine.fieldLe x.info 8 8)) (tileTcp x.flow)
      (tileControl x.flow) (tileW x.flow) (Machine.fieldLe x.info 4 4) (byteAt x.info 0)
      (byteAt x.info 1 % 4 + 8 + if tileSaturated x.flow then 4 else 0) (BitVec.ofNat 16 (Machine.fieldLe x.info 16 2)) = (b, s2)) :
    execTailingsDrain s = .next (settled s (s2.stageRecord 256 b).sendAll) := by
  rw [execTailingsDrain, tailings_may hr hs ht fun _ => hroom, if_neg Bool.false_ne_true]
  simp only [hx, hd, hb, Bool.not_true, Bool.false_eq_true, if_false, done_eq]

theorem execSubIntervalRecord_asks {n t start : Nat} (hn : s.nextInterval = some (n, t, start)) (hi : s.telem.interval ≠ 0)
    (ht : t ≤ s.now) (hs : s1 = { s with telem := { s.telem with nextSub := n + 1, intervalStart := start } })
    (hd : s1.hasDest 259 = true) (hl : s1.lossyFull = false) :
    execSubIntervalRecord s =
      .next (settled s { s1 with telem := { s1.telem with assembly := s1.telem.assembly ++ [.interval n] } }) := by
  subst hs
  have hdue : (decide (s.telem.interval = 0) || decide (s.now < t)) = false := by
    rw [decide_eq_false hi, decide_eq_false (Nat.not_lt.mpr ht)]
    rfl
  simp only [execSubIntervalRecord, hn, hdue, hd, hl, Bool.not_true, Bool.false_eq_true, if_false, done_eq]

/-! The two paths (R403-R405). -/

theorem execTelemFlushExpire_of {ring : Bool} (hw : (s.dueTemplate ring).isSome = true ∨ (s.path ring).withdraw ≠ [])
    (hf : ring = true ∨ s.telem.collectorPath.held = false) :
    execTelemFlushExpire ring s = .next (settled s (State.sendDue ring s.sendFuel s)) := by
  have hwork : ((s.dueTemplate ring).isSome || !(s.path ring).withdraw.isEmpty) = true := by
    rcases hw with hd | hp
    · rw [hd, Bool.true_or]
    · rw [List.isEmpty_eq_false_iff.mpr hp, Bool.not_false, Bool.or_true]
  have hfree : (ring || !s.telem.collectorPath.held) = true := by
    rcases hf with rfl | hh
    · rfl
    · rw [hh, Bool.not_false, Bool.or_true]
  simp only [execTelemFlushExpire, hwork, hfree, Bool.and_true, if_true, done_eq]

/-- What a path carries is a matter of the templates' destinations, not of the path. -/
theorem carries_setPath (x : Path) (ring : Bool) : (s.setPath false x).carries ring = s.carries ring := rfl

theorem setPath_setPath (x y : Path) : (s.setPath false x).setPath false y = s.setPath false y := rfl

/-- The template interval has passed, and the collector path takes the template sets. -/
theorem execTemplateIntervalExpire_sends {x : Path} (hx : s.telem.collectorPath = x) (hb : s.booted = true) (hc : s.collectorOn = true)
    (hh : x.held = false) (ht : x.lastTemplates + Machine.fieldLe s.telem.collector 52 2 * 1000000000 ≤ s.now)
    (hs : ([256, 257, 258, 259].filter ((s.setPath false { x with lastTemplates := s.now }).carries false)).foldl
      (fun (a : Option State) t => a.bind fun s => s.sendTemplate false t)
      (some (s.setPath false { x with lastTemplates := s.now, sentTemplates := [] })) = some s2) :
    execTemplateIntervalExpire s = .next (settled s s2) := by
  subst hx
  have hdue : ¬(!(s.booted && s.collectorOn &&
      decide (s.telem.collectorPath.lastTemplates + Machine.fieldLe s.telem.collector 52 2 * 1000000000 ≤ s.now))) = true := by
    rw [hb, hc, decide_eq_true ht]
    decide
  rw [carries_setPath] at hs
  simp only [execTemplateIntervalExpire, if_neg hdue, if_neg (ne_true_of_eq_false hh), setPath_setPath, hs, done_eq]

theorem execCollectorRetry_of (hh : s.telem.collectorPath.held = true) (ht : s.telem.collectorPath.lastTry + 1000 ≤ s.now) :
    execCollectorRetry s = .next (settled s (State.sendDue false s.sendFuel s)) := by
  simp only [execCollectorRetry, hh, decide_eq_true ht, Bool.and_self, if_true, done_eq]

/-! Counter dumps (R412). -/

/-- A dump is due. -/
theorem dump_due (he : s.telem.dumpRing.enabled = true) (hp : s.telem.dumpPeriod ≠ 0) (hn : s.telem.dumpNext ≤ s.flowNow) :
    (!(s.telem.dumpRing.enabled && s.telem.dumpPeriod != 0 && decide (s.telem.dumpNext ≤ s.flowNow))) = false := by
  rw [he, bne_iff_ne.mpr hp, decide_eq_true hn]
  rfl

theorem execCounterDump_latches (he : s.telem.dumpRing.enabled = true) (hp : s.telem.dumpPeriod ≠ 0)
    (hn : s.telem.dumpNext ≤ s.flowNow) (hf : s.telem.dumpRing.full = false) (hs : s.telem.dumpRing.slot = none) :
    execCounterDump s =
      let x := s.takeSlot 9 s.dumpSlot
      .next (settled s { x with telem := { x.telem with
        dumpSeq := s.telem.dumpSeq + 1, dumpNext := s.telem.dumpNext + s.telem.dumpPeriod * 1000000 } }) := by
  simp only [execCounterDump, dump_due he hp hn, hf, hs, Option.isSome_none, Bool.or_false, Bool.false_eq_true, if_false, done_eq]
  rfl

theorem execCounterDump_skips (he : s.telem.dumpRing.enabled = true) (hp : s.telem.dumpPeriod ≠ 0)
    (hn : s.telem.dumpNext ≤ s.flowNow) (hb : s.telem.dumpRing.full = true ∨ s.telem.dumpRing.slot ≠ none) :
    execCounterDump s = .next (settled s { s with telem := { s.telem with
      dumpSkipped := s.telem.dumpSkipped + 1, dumpSeq := s.telem.dumpSeq + 1,
      dumpNext := s.telem.dumpNext + s.telem.dumpPeriod * 1000000 } }) := by
  have hbusy : (s.telem.dumpRing.full || s.telem.dumpRing.slot.isSome) = true := by
    rcases hb with hf | hs
    · rw [hf, Bool.true_or]
    · rw [Option.isSome_iff_ne_none.mpr hs, Bool.or_true]
  simp only [execCounterDump, dump_due he hp hn, hbusy, Bool.false_eq_true, if_false, if_true, done_eq]

/-! Bandwidth windows (R411). -/

/-- A window that is over, and the one behind it not: its totals are the last, and count in the peaks. -/
theorem roll_one {w : BwWindow} {flow : Nat} {began : Option Nat} (h1 : w.endedAt + windowNs w.k ≤ flow)
    (h2 : flow < w.endedAt + 2 * windowNs w.k) :
    w.roll flow began =
      { w with
        rxNow := 0, rxLast := w.rxNow, rxPeak := max w.rxPeak w.rxNow, txNow := 0, txLast := w.txNow,
        txPeak := max w.txPeak w.txNow, endedAt := flow / windowNs w.k * windowNs w.k,
        openTx := if began.any (w.endedAt ≤ ·) then some (w.endedAt, w.txNow) else w.openTx } := by
  simp only [BwWindow.roll, if_neg (Nat.not_lt.mpr h1), decide_eq_true h2, if_true]

theorem window_eq {port : Nat} (h : port < s.telem.windows.length) : s.window port = s.telem.windows[port] := by
  rw [State.window, List.getD_eq_getElem?_getD, List.getElem?_eq_getElem h, Option.getD_some]

/-- A change of a window that is there is the new window in its place. -/
theorem onWindow_id {port : Nat} (h : port < s.telem.windows.length) :
    s.onWindow port id = s.setWindow port (s.windowNow port (s.window port)) := by
  have hm : alter s.telem.windows port (fun w => id (s.windowNow port w)) =
      s.telem.windows.set port (s.windowNow port s.telem.windows[port]) := by
    have : Inhabited BwWindow := ⟨s.telem.windows[port]⟩
    rw [alter, List.modify_eq_set, List.getElem?_eq_getElem h, Option.getD_some, id]
  rw [window_eq h]
  unfold State.onWindow State.setWindow
  rw [hm]

theorem execBwwinEnd_of {port : Nat} (hp : port < 26) (hb : s.booted = true)
    (h1 : (s.window port).endedAt + windowNs (s.window port).k ≤ s.flowNow) (h : port < s.telem.windows.length) :
    execBwwinEnd port s = .next (settled s (s.setWindow port (s.windowNow port (s.window port)))) := by
  have hdue : (decide (26 ≤ port) || decide (s.flowNow < (s.window port).endedAt + windowNs (s.window port).k)) = false := by
    rw [decide_eq_false (Nat.not_le.mpr hp), decide_eq_false (Nat.not_lt.mpr h1)]
    rfl
  simp only [execBwwinEnd, hdue, hb, Bool.not_true, Bool.or_false, Bool.false_eq_true, if_false, done_eq, onWindow_id h]

end

/-- Settles O49. -/
theorem telemetryEventsComplete : Obligations.TelemetryEventsComplete := by
  unfold Obligations.TelemetryEventsComplete
  refine ⟨?_, ?_, ?_, ?_, ?_, ?_, ?_, ?_, ?_, ?_⟩
  · rintro s a rest s1 t b s2 hr hs hc ha rfl hb hd hroom
    exact execTelemetryAssemble_stages hr hs hc ha hb hd hroom
  · intro s s1 hr hs ht hroom hx
    exact execTailingsDrain_none hr hs ht hroom hx
  · rintro s x s1 p now b s2 hr hs ht hd hroom hx - rfl rfl hb
    exact execTailingsDrain_stages hr hs ht hd hroom hx hb
  · intro s n t start s1 hn hi ht hs hd hl
    exact execSubIntervalRecord_asks hn hi ht hs hd hl
  · intro ring s hw hf
    exact execTelemFlushExpire_of hw hf
  · rintro s x s1 s2 hx hb hc hh ht rfl hs
    exact execTemplateIntervalExpire_sends hx hb hc hh ht hs
  · intro s hh ht
    exact execCollectorRetry_of hh ht
  · rintro s x he hp hn hf hs rfl
    exact execCounterDump_latches he hp hn hf hs
  · intro s he hp hn hb
    exact execCounterDump_skips he hp hn hb
  · rintro port s w x hp hb rfl h1 h2 h rfl
    refine ⟨execBwwinEnd_of hp hb h1 h, ?_⟩
    have hw : s.windowNow port (s.window port) = _ := roll_one h1 h2
    rw [hw]
    exact ⟨rfl, rfl, rfl, rfl, rfl, rfl, rfl, rfl⟩

end Sys2Proof.TelemetryEvents

/-! PROOFS. The telemetry commands (spec 14). -/
namespace Sys2Proof.TelemetryCommands
open Machine Claims Answers

/-! The collector and the status (R414). -/

section
variable {m : Msg} {s : State}

theorem bodyTelemCollectorSet_reads (h0 : m.p 0 = 0) (hz : zeroAt m (span 1 63) = true) :
    bodyTelemCollectorSet m s = ok s (splice s.telem.collector 0 [0]) := by
  simp only [bodyTelemCollectorSet, h0, if_neg (by decide : ¬1 < 0), if_true, needZero_of _ _ _ _ hz]

theorem bodyTelemCollectorSet_sets (h0 : m.p 0 = 1) (hf : collectorFault m s = none) :
    bodyTelemCollectorSet m s =
      let s1 := { s with telem := { s.telem with collector := splice (fit 64 m.params) 0 [0] } }
      ok s1 (splice s1.telem.collector 0 [1]) := by
  simp only [bodyTelemCollectorSet, h0, if_neg (by decide : ¬1 < 1), if_neg (by decide : ¬1 = 0), hf]

theorem bodyTelemStatus_reads (h0 : m.p 0 = 0) (hz : zeroAt m [1, 2, 3] = true) : bodyTelemStatus m s = ok s (telemStatus s) := by
  simp only [bodyTelemStatus, h0, if_neg (by decide : ¬1 < 0), if_neg (by decide : ¬0 = 1), needZero_of _ _ _ _ hz]

theorem bodyTelemStatus_clears (h0 : m.p 0 = 1) (hz : zeroAt m [1, 2, 3] = true) :
    bodyTelemStatus m s =
      ok { s with telem := { s.telem with counters := zeroBank s.telem.counters, peak := s.stagedTiles } } (telemStatus s) := by
  simp only [bodyTelemStatus, h0, if_neg (by decide : ¬1 < 1), if_true, needZero_of _ _ _ _ hz]

end

/-! TELEM_ENABLE: a template's destinations, sampling, the interval and the ring (R414). -/

section
variable {m : Msg} {s : State} {b : Bytes} {base : Nat}

/-- A template that has records is one of 256 to 259. -/
theorem template_inRange {t : Nat} (h1 : 256 ≤ t) (h2 : t ≤ 259) : (decide (t < 256) || decide (259 < t)) = false := by
  rw [decide_eq_false (Nat.not_lt.mpr h1), decide_eq_false (Nat.not_lt.mpr h2)]
  rfl

theorem recTelemTemplate_sets (h1 : byteAt b 1 = 1) (hlo : 256 ≤ Machine.fieldLe b 2 2) (hhi : Machine.fieldLe b 2 2 ≤ 259)
    (h4 : byteAt b 4 ≤ 3) (hz : (firstNonZeroAt b (span 5 39)).isNone = true) :
    recTelemTemplate s b base = .ok (s.setDest (Machine.fieldLe b 2 2) (bitAt b 4 1) (bitAt b 4 0)) [] := by
  simp only [recTelemTemplate, h1, if_neg (by decide : ¬1 < 1), template_inRange hlo hhi, if_neg (Nat.not_lt.mpr h4),
    recZero_of _ _ _ _ hz, Bool.false_eq_true, if_false]

theorem recTelemTemplate_reads (h1 : byteAt b 1 = 0) (hlo : 256 ≤ Machine.fieldLe b 2 2) (hhi : Machine.fieldLe b 2 2 ≤ 259)
    (hz : (firstNonZeroAt b (span 4 39)).isNone = true) :
    recTelemTemplate s b base = .ok s ([1, 0] ++ le 2 (Machine.fieldLe b 2 2) ++
      le 1 (flagByte [(s.destOf (Machine.fieldLe b 2 2)).2, (s.destOf (Machine.fieldLe b 2 2)).1]) ++ zeros 35) := by
  simp only [recTelemTemplate, h1, if_neg (by decide : ¬1 < 0), template_inRange hlo hhi, recZero_of _ _ _ _ hz,
    Bool.false_eq_true, if_false]

theorem recTelemSampling_sets (h1 : byteAt b 1 = 1) (h2 : byteAt b 2 ≤ 7) (hlo : 1 ≤ byteAt b 3) (hhi : byteAt b 3 ≤ 127)
    (h4 : Machine.fieldLe b 4 4 ≤ 65536) (hz : (firstNonZeroAt b (span 8 39)).isNone = true) :
    recTelemSampling s b base = .ok { s with telem := { s.telem with
      sampling := s.telem.sampling.set (byteAt b 2) (Machine.fieldLe b 4 4, byteAt b 3) } } [] := by
  have hperiod : (decide (byteAt b 3 = 0) || decide (127 < byteAt b 3)) = false := by
    rw [decide_eq_false (Nat.one_le_iff_ne_zero.mp hlo), decide_eq_false (Nat.not_lt.mpr hhi)]
    rfl
  simp only [recTelemSampling, h1, if_neg (by decide : ¬1 < 1), if_neg (Nat.not_lt.mpr h2), hperiod, if_neg (Nat.not_lt.mpr h4),
    recZero_of _ _ _ _ hz, Bool.false_eq_true, if_false]

theorem recTelemSampling_reads (h1 : byteAt b 1 = 0) (h2 : byteAt b 2 ≤ 7) (hz : (firstNonZeroAt b (span 3 39)).isNone = true) :
    recTelemSampling s b base =
      let x := s.telem.sampling.getD (byteAt b 2) (0, 56)
      .ok s ([2, 0] ++ le 1 (byteAt b 2) ++ le 1 x.2 ++ le 4 x.1 ++ zeros 32) := by
  simp only [recTelemSampling, h1, if_neg (by decide : ¬1 < 0), if_neg (Nat.not_lt.mpr h2), recZero_of _ _ _ _ hz]

theorem recTelemInterval_sets (h1 : byteAt b 1 = 1) (hz2 : (firstNonZeroAt b [2, 3]).isNone = true)
    (hn : Machine.fieldLe b 4 4 = 0 ∨ (10 ≤ Machine.fieldLe b 4 4 ∧ Machine.fieldLe b 4 4 ≤ 3600))
    (hz : (firstNonZeroAt b (span 8 39)).isNone = true) :
    recTelemInterval s b base = .ok (s.setInterval (Machine.fieldLe b 4 4)) [] := by
  have hrange : (Machine.fieldLe b 4 4 != 0 && (decide (Machine.fieldLe b 4 4 < 10) || decide (3600 < Machine.fieldLe b 4 4))) = false := by
    rcases hn with h0 | ⟨hlo, hhi⟩
    · rw [h0]; rfl
    · rw [decide_eq_false (Nat.not_lt.mpr hlo), decide_eq_false (Nat.not_lt.mpr hhi), Bool.or_false, Bool.and_false]
  simp only [recTelemInterval, h1, recZero_of _ _ _ _ hz2, recZero_of _ _ _ _ hz, hrange, Bool.false_eq_true, if_false]

theorem recTelemInterval_reads (h1 : byteAt b 1 = 0) (hz : (firstNonZeroAt b (span 2 39)).isNone = true) :
    recTelemInterval s b base = .ok s ([3, 0, 0, 0] ++ le 4 s.telem.interval ++ zeros 32) := by
  simp only [recTelemInterval, h1, recZero_of _ _ _ _ hz]

theorem recTelemRing_reads (h1 : byteAt b 1 = 0) (hz : (firstNonZeroAt b (span 2 39)).isNone = true) :
    recTelemRing m s b base = .ok s (telemRingRecord 0 s.telem.ring) := by
  simp only [recTelemRing, h1, recZero_of _ _ _ _ hz]

theorem recTelemRing_enables (h1 : byteAt b 1 = 2) (hz : (firstNonZeroAt b (span 2 39)).isNone = true)
    (hs : s.maxMsg + 32 ≤ s.telem.ring.slotBytes) :
    recTelemRing m s b base = .ok { s with telem := { s.telem with ring := s.telem.ring.start } } [] := by
  simp only [recTelemRing, h1, recZero_of _ _ _ _ hz, if_neg (Nat.not_lt.mpr hs)]

theorem recTelemRing_disables (h1 : byteAt b 1 = 3) (hz : (firstNonZeroAt b (span 2 39)).isNone = true) :
    recTelemRing m s b base = .ok { s with telem := { s.telem with ring := s.telem.ring.stop } } [] := by
  simp only [recTelemRing, h1, recZero_of _ _ _ _ hz]

/-- The fields of a SET of the telemetry ring, each with whether it is out of its range (Table 14.8). -/
def telemRingFaults (s : State) (b : Bytes) : List (Bool × Nat) :=
  [(decide (byteAt b 4 < 8 || 14 < byteAt b 4) || decide (2 ^ byteAt b 4 < s.maxMsg + 32), 4),
    (decide (byteAt b 5 < 6 || 16 < byteAt b 5), 5), (decide (1000 < Machine.fieldLe b 6 2), 6),
    (decide (Machine.fieldLe b 8 8 % 4096 != 0), 8), (decide (Machine.fieldLe b 16 8 % 4 != 0), 16)]

/-- Slots from 2^8 to 2^14 bytes that hold a whole message, 2^6 to 2^16 of them, and addresses that are aligned have no fault. -/
theorem telemRing_noFault (hj1 : 8 ≤ byteAt b 4) (hj2 : byteAt b 4 ≤ 14) (hmax : s.maxMsg + 32 ≤ 2 ^ byteAt b 4) (hk1 : 6 ≤ byteAt b 5)
    (hk2 : byteAt b 5 ≤ 16) (ht : Machine.fieldLe b 6 2 ≤ 1000) (hb : Machine.fieldLe b 8 8 % 4096 = 0)
    (hc : Machine.fieldLe b 16 8 % 4 = 0) :
    firstFault (telemRingFaults s b) = none := by
  rw [telemRingFaults, hb, hc, decide_eq_false (Nat.not_lt.mpr hj1), decide_eq_false (Nat.not_lt.mpr hj2), decide_eq_false (Nat.not_lt.mpr hmax),
    decide_eq_false (Nat.not_lt.mpr hk1), decide_eq_false (Nat.not_lt.mpr hk2), decide_eq_false (Nat.not_lt.mpr ht)]
  rfl

theorem recTelemRing_sets (h1 : byteAt b 1 = 1) (hch : s.channelBad m (byteAt b 2) = false) (h3 : byteAt b 3 ≤ 1)
    (hf : firstFault (telemRingFaults s b) = none)
    (hz : (firstNonZeroAt b (span 24 39)).isNone = true) (he : s.telem.ring.enabled = false) :
    recTelemRing m s b base = .ok { s with telem := { s.telem with ring := { s.telem.ring with
      channel := byteAt b 2, irq := byteAt b 3 == 1, j := byteAt b 4, k := byteAt b 5, holdoff := Machine.fieldLe b 6 2,
      base := Machine.fieldLe b 8 8, consumerAddr := Machine.fieldLe b 16 8 } } } [] := by
  unfold telemRingFaults at hf
  simp only [recTelemRing, h1, hch, if_neg (Nat.not_lt.mpr h3), hf, recZero_of _ _ _ _ hz, he, Bool.false_eq_true, if_false]

theorem recTelemEnable_template (h0 : byteAt b 0 = 1) : recTelemEnable m s b base = recTelemTemplate s b base := by
  simp only [recTelemEnable, h0]

theorem recTelemEnable_sampling (h0 : byteAt b 0 = 2) : recTelemEnable m s b base = recTelemSampling s b base := by
  simp only [recTelemEnable, h0]

theorem recTelemEnable_interval (h0 : byteAt b 0 = 3) : recTelemEnable m s b base = recTelemInterval s b base := by
  simp only [recTelemEnable, h0]

theorem recTelemEnable_ring (h0 : byteAt b 0 = 4) : recTelemEnable m s b base = recTelemRing m s b base := by
  simp only [recTelemEnable, h0]

/-- TELEM_ENABLE of one record answers as the record does. -/
theorem run_telemEnable {m : Msg} {t : State} {reply : Bytes} (hp : passes cmdTelemEnable m s = true) (hrec : m.norm.recs 40 = [b])
    (h : recTelemEnable m.norm s b 16 = .ok t reply) : exec (.telemEnable m) s = .next (ran cmdTelemEnable m s (ok t reply)) :=
  run_answers cmdTelemEnable m s _ hp (records_one _ _ _ _ _ _ _ hrec h)

end

/-! Counters, dumps and windows (R409-R412). -/

section
variable {m : Msg} {s : State} {b : Bytes} {base : Nat}

theorem recCounterProgram_zeroes (h1 : byteAt b 1 = 2) (hz : (firstNonZeroAt b (span 2 11)).isNone = true) :
    recCounterProgram s b base = .ok (s.setPerf (byteAt b 0) { s.perf (byteAt b 0) with value := 0 }) [] := by
  simp only [recCounterProgram, h1, recZero_of _ _ _ _ hz]

theorem recCounterProgram_programs (h1 : byteAt b 1 = 1) (he : isEvent (Machine.fieldLe b 2 2) = true)
    (h4 : byteAt b 4 = 0 ∨ (byteAt b 4 = 1 ∧ isOccupancy (Machine.fieldLe b 2 2) = true))
    (hz : (firstNonZeroAt b [5, 6, 7]).isNone = true) :
    recCounterProgram s b base = .ok (s.setPerf (byteAt b 0) { s.perf (byteAt b 0) with
      event := Machine.fieldLe b 2 2, threshold := byteAt b 4 == 1, n := Machine.fieldLe b 8 4, value := 0 }) [] := by
  have hmode : (decide (1 < byteAt b 4) || (decide (byteAt b 4 = 1) && !isOccupancy (Machine.fieldLe b 2 2))) = false := by
    rcases h4 with h0 | ⟨h1, ho⟩
    · rw [h0]; rfl
    · rw [h1, ho]; rfl
  simp only [recCounterProgram, h1, he, hmode, recZero_of _ _ _ _ hz, Bool.not_true, Bool.false_eq_true, if_false]

/-- COUNTER_PROGRAM of one record repeats no counter. -/
theorem bodyCounterProgram_one {t : State} (hrec : m.recs 12 = [b]) (h : recCounterProgram s b 16 = .ok t []) :
    bodyCounterProgram m s = ok t := by
  have hr : repeated ((m.recs 12).map (byteAt · 0)) = none := by rw [hrec]; rfl
  simp only [bodyCounterProgram, hr]
  exact records_one _ _ _ _ _ _ _ hrec h

theorem bodyCounterRead_of (hn1 : 1 ≤ m.p 1) (hn2 : m.p 1 ≤ 254) (hl : m.p 0 + m.p 1 ≤ 256) (h2 : m.p 2 = 0)
    (hz : zeroAt m [3] = true) :
    bodyCounterRead m s =
      ok s (le 8 s.flowNow ++ (span (m.p 0) (m.p 0 + m.p 1 - 1)).flatMap fun i => counterEntry (s.perf i)) := by
  have hcount : (decide (m.p 1 = 0) || decide (254 < m.p 1) || decide (256 < m.p 0 + m.p 1)) = false := by
    rw [decide_eq_false (Nat.one_le_iff_ne_zero.mp hn1), decide_eq_false (Nat.not_lt.mpr hn2), decide_eq_false (Nat.not_lt.mpr hl)]
    rfl
  simp only [bodyCounterRead, hcount, h2, if_neg (by decide : ¬1 < 0), if_neg (by decide : ¬0 = 1), needZero_of _ _ _ _ hz,
    Bool.false_eq_true, if_false]

theorem bodyCounterDumpConfig_reads (h0 : m.p 0 = 0) (hz : zeroAt m (span 1 39) = true) :
    bodyCounterDumpConfig m s = ok s (dumpConfigBytes 0 s.telem) := by
  simp only [bodyCounterDumpConfig, h0, needZero_of _ _ _ _ hz]

theorem bodyCounterDumpConfig_enables (h0 : m.p 0 = 2) (hz : zeroAt m (span 1 39) = true) :
    bodyCounterDumpConfig m s = ok { s with telem := { s.telem with
      dumpRing := s.telem.dumpRing.start, dumpNext := s.flowNow + s.telem.dumpPeriod * 1000000 } } := by
  simp only [bodyCounterDumpConfig, h0, needZero_of _ _ _ _ hz]

theorem recBwwinConfig_sets (h0 : byteAt b 0 ≤ 25) (h1 : byteAt b 1 = 1) (h2 : byteAt b 2 ≤ 20)
    (hz : (firstNonZeroAt b [3]).isNone = true) :
    recBwwinConfig s b base =
      let len := windowNs (byteAt b 2)
      .ok (s.setWindow (byteAt b 0) { BwWindow.reset with k := byteAt b 2, endedAt := (s.flowNow + len - 1) / len * len }) [] := by
  simp only [recBwwinConfig, if_neg (Nat.not_lt.mpr h0), h1, if_neg (by decide : ¬1 < 1), if_neg (by decide : ¬1 = 0),
    if_neg (Nat.not_lt.mpr h2), recZero_of _ _ _ _ hz]

theorem bodyBwwinRead_of (h0 : m.p 0 ≤ 25) (hn : 1 ≤ m.p 1) (hl : m.p 0 + m.p 1 ≤ 26) (h2 : m.p 2 = 0) (hz : zeroAt m [3] = true) :
    bodyBwwinRead m s = ok s ((span (m.p 0) (m.p 0 + m.p 1 - 1)).flatMap (windowEntry s)) := by
  have hcount : (decide (m.p 1 = 0) || decide (26 < m.p 0 + m.p 1)) = false := by
    rw [decide_eq_false (Nat.one_le_iff_ne_zero.mp hn), decide_eq_false (Nat.not_lt.mpr hl)]
    rfl
  simp only [bodyBwwinRead, if_neg (Nat.not_lt.mpr h0), hcount, h2, if_neg (by decide : ¬1 < 0), if_neg (by decide : ¬0 = 1),
    needZero_of _ _ _ _ hz, Bool.false_eq_true, if_false]

end

/-- Settles O50. -/
theorem telemetryCommandsComplete : Obligations.TelemetryCommandsComplete := by
  unfold Obligations.TelemetryCommandsComplete
  refine ⟨?_, ?_, ?_, ?_, ?_, ?_, ?_, ?_, ?_, ?_, ?_, ?_, ?_, ?_, ?_, ?_, ?_, ?_, ?_, ?_, ?_⟩
  · intro m s hp h0 hz
    exact run_answers cmdTelemCollectorSet m s _ hp (bodyTelemCollectorSet_reads h0 hz)
  · rintro m s s1 hp h0 hf rfl
    exact run_answers cmdTelemCollectorSet m s _ hp (bodyTelemCollectorSet_sets h0 hf)
  · intro m s b hp hrec h0 h1 hlo hhi h4 hz
    exact run_telemEnable hp hrec ((recTelemEnable_template h0).trans (recTelemTemplate_sets h1 hlo hhi h4 hz))
  · rintro m s b x hp hrec h0 h1 h2 hlo hhi h4 hz rfl
    exact run_telemEnable hp hrec ((recTelemEnable_sampling h0).trans (recTelemSampling_sets h1 h2 hlo hhi h4 hz))
  · intro m s b hp hrec h0 h1 hz2 hn hz
    exact run_telemEnable hp hrec ((recTelemEnable_interval h0).trans (recTelemInterval_sets h1 hz2 hn hz))
  · intro m s b hp hrec h0 h1 hlo hhi hz
    exact run_telemEnable hp hrec ((recTelemEnable_template h0).trans (recTelemTemplate_reads h1 hlo hhi hz))
  · rintro m s b x hp hrec h0 h1 h2 hz rfl
    exact run_telemEnable hp hrec ((recTelemEnable_sampling h0).trans (recTelemSampling_reads h1 h2 hz))
  · intro m s b hp hrec h0 h1 hz
    exact run_telemEnable hp hrec ((recTelemEnable_interval h0).trans (recTelemInterval_reads h1 hz))
  · intro m s b hp hrec h0 h1 hz
    exact run_telemEnable hp hrec ((recTelemEnable_ring h0).trans (recTelemRing_reads h1 hz))
  · rintro m s b x hp hrec h0 h1 hch h3 hj1 hj2 hmax hk1 hk2 ht hb hc hz he rfl
    exact run_telemEnable hp hrec ((recTelemEnable_ring h0).trans
      (recTelemRing_sets h1 hch h3 (telemRing_noFault hj1 hj2 hmax hk1 hk2 ht hb hc) hz he))
  · intro m s b hp hrec h0 h1 hz hs
    exact run_telemEnable hp hrec ((recTelemEnable_ring h0).trans (recTelemRing_enables h1 hz hs))
  · intro m s b hp hrec h0 h1 hz
    exact run_telemEnable hp hrec ((recTelemEnable_ring h0).trans (recTelemRing_disables h1 hz))
  · intro m s hp h0 hz
    exact run_answers cmdTelemStatus m s _ hp (bodyTelemStatus_reads h0 hz)
  · intro m s hp h0 hz
    exact run_answers cmdTelemStatus m s _ hp (bodyTelemStatus_clears h0 hz)
  · intro m s b hp hrec h1 hz
    exact run_answers cmdCounterProgram m s _ hp (bodyCounterProgram_one hrec (recCounterProgram_zeroes h1 hz))
  · intro m s b hp hrec h1 he h4 hz
    exact run_answers cmdCounterProgram m s _ hp (bodyCounterProgram_one hrec (recCounterProgram_programs h1 he h4 hz))
  · intro m s hp hn1 hn2 hl h2 hz
    exact run_answers cmdCounterRead m s _ hp (bodyCounterRead_of hn1 hn2 hl h2 hz)
  · intro m s hp h0 hz
    exact run_answers cmdCounterDumpConfig m s _ hp (bodyCounterDumpConfig_reads h0 hz)
  · rintro m s x hp h0 hz rfl
    exact run_answers cmdCounterDumpConfig m s _ hp (bodyCounterDumpConfig_enables h0 hz)
  · rintro m s b len hp hrec h0 h1 h2 hz rfl
    exact run_answers cmdBwwinConfig m s _ hp (records_one _ _ _ _ _ _ _ hrec (recBwwinConfig_sets h0 h1 h2 hz))
  · intro m s hp h0 hn hl h2 hz
    exact run_answers cmdBwwinRead m s _ hp (bodyBwwinRead_of h0 hn hl h2 hz)

end Sys2Proof.TelemetryCommands
